-- ==== Sys2Proof/Word.lean ====
section
/-! DEFINITION. The word types of the model: bytes, 32-bit register words (R89) and 64-bit keystone values (R7). -/

namespace Sys2Proof

/-- One byte. -/
abbrev Byte := BitVec 8

/-- One register word (R89). -/
abbrev Word := BitVec 32

/-- One keystone value: an unsigned 64-bit tick count (R7). -/
abbrev Tick := BitVec 64

end Sys2Proof
end

