-- ==== Sys2Proof/Syntax.lean ====
section
/-! DEFINITION. The commands of the block: one constructor of `Instr` per row of spec/opcode_table.json. A request
row carries the request of R71 to R73 (its carrier, tag, flags, length and parameter bytes); an event row carries what
the outside, or the self-timed part, delivers with the event. -/

namespace Sys2Proof

/-- The carrier a request came over, with what R73 puts into its origin. -/
inductive Carrier
  /-- the host port -/
  | host
  /-- the two-wire mailbox: the address received, and whether it was the group address or a masked match -/
  | twoWire (addr : BitVec 7) (group : Bool)
  /-- the fabric: the node where the command entered, and the origin kind it had there -/
  | fabric (node : BitVec 8) (kind : BitVec 4)
  /-- a COMMAND sink of a pin engine: the engine 0–15 and its CMD_PIN -/
  | pin (engine : BitVec 4) (pin : BitVec 5)
  deriving DecidableEq, Repr

/-- A request as its carrier delivers it (R71): FLAGS, PLEN and the parameter bytes; ORIGIN is the carrier's (R73). -/
structure Req where
  carrier : Carrier
  tag : Byte
  flags : Byte
  plen : BitVec 16
  params : List Byte
  deriving DecidableEq, Repr

/-- The pin levels latched at RST_N release and at RESTART (R57, R86), and TEST_EN (R42). -/
structure Pins where
  prf : BitVec 3
  root : Bool
  addrIn : Bool
  testEn : Bool
  deriving DecidableEq, Repr, Inhabited

/-- How a two-wire controller transaction runs on the bus (R104 to R107). -/
inductive BusResult
  /-- completed; the bytes read -/
  | done (data : List Byte)
  /-- the address was not acknowledged -/
  | addrNak
  /-- a data byte was not acknowledged, after `n` bytes transferred -/
  | dataNak (n : Nat)
  /-- arbitration was lost; the transaction waits for the bus -/
  | arbLost
  /-- arbitration was lost at a STOP or repeated start, after `n` bytes, with the bytes read so far -/
  | arbStop (n : Nat) (data : List Byte)
  deriving DecidableEq, Repr, Inhabited

/-- What the bus looks like when a controller transaction is to start (R109). -/
inductive BusStart
  /-- SDA is high -/
  | free
  /-- SDA was low and rose within nine clocks -/
  | cleared
  /-- SDA stayed low after nine clocks, or SCL was held low for more than 25 ms -/
  | stuck
  deriving DecidableEq, Repr, Inhabited


/-- A part found open on a magazine when it is read back (R514): its take table entry and the entry's newer valid slot,
the INDEX entries (32 bytes each) of the ashlars of its take found with a right header CRC and chain, the chain value of
the last of them, the frames found in the take's other parts, and the first block after the last whole extent that the walk
found. -/
structure FoundPart where
  entry : BitVec 12
  image : List Byte
  index : List (List Byte)
  chainAfter : List Byte
  others : List (BitVec 32)
  endBlock : BitVec 64
  deriving DecidableEq, Repr, Inhabited

/-- What a course dispatcher posts (R231). -/
inductive DispKind
  | start
  | swappt
  | cal
  deriving DecidableEq, Repr

/-- What a unit converter measures of one pixel (R169, R173): the sag of the reset sample in 5 mV steps, the HCG code
and the LCG code. -/
structure Sample where
  sag : Byte
  h : BitVec 14
  l : BitVec 14
  deriving DecidableEq, Repr

/-- The commands of the block, in the order of the table. -/
inductive Instr
  /-- PING (R81): Returns the keystone stamp taken when the command executes. -/
  | ping (q : Req)
  /-- GET_IDENTITY (R83): Returns the part code, serial number, firmware versions and identity-key hash. -/
  | getIdentity (q : Req)
  /-- GET_STATUS (R84): Returns the 32-byte status block. -/
  | getStatus (q : Req)
  /-- READ_REG (R82): Reads up to 1,021 consecutive register words from one block. -/
  | readReg (q : Req)
  /-- WRITE_REG (R82): Writes consecutive register words, applying shadowing, access checks and cairns. -/
  | writeReg (q : Req)
  /-- MODIFY_REG (R81): Performs an indivisible masked read-modify-write of one register and returns the old value. -/
  | modifyReg (q : Req)
  /-- GET_KEYSTONE (R81): Returns all 64 keystone bits sampled in one tick. -/
  | getKeystone (q : Req)
  /-- STANDBY (R66): Stops capture, takes the links down, switches the domains off in order and drives SUP_MAIN_EN low. -/
  | standby (q : Req)
  /-- RESTART (R86): Resets as a long RST_N pulse would, then runs start-up from step 3 with the chosen firmware image. -/
  | restart (q : Req) (pins : Pins)
  /-- SET_CAPTURE (R85): Starts the frame schedule of the loaded profile, or stops it after the frame in flight. -/
  | setCapture (q : Req)
  /-- SET_EVENT_ROUTE (R87): Sets the route byte for a range of events and logs EVT_ROUTE cairns. -/
  | setEventRoute (q : Req)
  /-- GET_EVENT_ROUTE (R87): Returns the route bytes for a range of events. -/
  | getEventRoute (q : Req)
  /-- UNKNOWN_OPCODE (R10): A request with an undefined opcode returns UNKNOWN_OPCODE and has no other effect. -/
  | unknownOpcode (q : Req) (op : BitVec 16)
  /-- REQUEST_REFUSED_BUSY (R76): A request that arrives while its carrier's queue is full is answered BUSY without being decoded. -/
  | requestRefusedBusy (q : Req) (op : BitVec 16)
  /-- GET_PROFILE_INFO (R139): Returns the validity and the 64-byte header of one profile slot. -/
  | getProfileInfo (q : Req)
  /-- SELECT_PROFILE (R119): Selects a profile, which applies at the next FCP or at once if no schedule runs. -/
  | selectProfile (q : Req)
  /-- READ_PROFILE (R139): Reads bytes from a profile slot. -/
  | readProfile (q : Req)
  /-- STAGE_PROFILE (R122): Writes bytes into the profile staging buffer, which it claims for the origin. -/
  | stageProfile (q : Req)
  /-- COMMIT_PROFILE (R122): Checks the staged image and writes it to an NVM profile slot in header-last order. -/
  | commitProfile (q : Req)
  /-- GET_CHALLENGE (R125): Returns a 16-byte nonce for the MAINTAIN challenge. -/
  | getChallenge (q : Req)
  /-- ANSWER_CHALLENGE (R125): Checks the HMAC answer and grants MAINTAIN to the origin, or denies it. -/
  | answerChallenge (q : Req)
  /-- LEAVE_MAINTAIN (R126): Ends the origin's MAINTAIN class. -/
  | leaveMaintain (q : Req)
  /-- SET_MAINT_KEY (R125): Replaces the maintenance key in the identity area. -/
  | setMaintKey (q : Req)
  /-- READ_LOG (R132): Returns up to 127 cairns in sequence order. -/
  | readLog (q : Req)
  /-- GET_LOG_STATE (R139): Returns the log head, the oldest entry held and LOG_STAT. -/
  | getLogState (q : Req)
  /-- FW_BEGIN (R137): Begins an update of the image that is not running and marks that image invalid. -/
  | fwBegin (q : Req)
  /-- FW_WRITE (R137): Writes one chunk of a firmware image. -/
  | fwWrite (q : Req)
  /-- FW_FINISH (R137): Verifies the written image and marks it valid, or reports FAULT. -/
  | fwFinish (q : Req)
  /-- FW_SET_BOOT (R137): Sets the preferred image and raises the rollback counter. -/
  | fwSetBoot (q : Req)
  /-- FT_GET_SCHEDULE (R291): Returns the sub-exposure table and plan values in force or pending. -/
  | ftGetSchedule (q : Req)
  /-- FT_SET_TIMING (R276): Writes period, exposure and terrace settings after checking the combined schedule. -/
  | ftSetTiming (q : Req)
  /-- FT_SET_SHAPE (R263): Writes a shaped sub-exposure table and sets EXPO to SHAPED. -/
  | ftSetShape (q : Req)
  /-- FT_TRIGGER (R269): Acts as a trigger stamped with its own execution tick. -/
  | ftTrigger (q : Req)
  /-- FT_CHECK (R276): Checks a schedule without writing it and returns P_MIN and SPAN. -/
  | ftCheck (q : Req)
  /-- FT_GET_FRAME (R291): Returns the timing stamps of one of the last 256 frames. -/
  | ftGetFrame (q : Req)
  /-- CAL_GET_STATE (R203): Returns CNV_STAT and the calibration table header. -/
  | calGetState (q : Req)
  /-- CAL_FULL (R196): Runs a full dark calibration and writes the table, the defect list and a new epoch. -/
  | calFull (q : Req)
  /-- CAL_READ_ENTRY (R203): Reads unit calibration entries from the working copy. -/
  | calReadEntry (q : Req)
  /-- CAL_WRITE_ENTRY (R203): Writes one calibration entry to the working copy and to NVM. -/
  | calWriteEntry (q : Req)
  /-- DEFECT_READ (R203): Reads defect-list entries from the working copy. -/
  | defectRead (q : Req)
  /-- DEFECT_ADD (R203): Adds a defect entry that applies from the next FCP. -/
  | defectAdd (q : Req)
  /-- DEFECT_REMOVE (R203): Removes a defect entry from the next FCP. -/
  | defectRemove (q : Req)
  /-- CAL_READ_EPOCH (R203): Reads RATIO values of the ratio epoch in force. -/
  | calReadEpoch (q : Req)
  /-- ENG_GET_STATE (R254): Returns an engine's status, errors and program-bank CRCs. -/
  | engGetState (q : Req)
  /-- ENG_LOAD (R237): Loads words into an engine's staging bank and may request a swap. -/
  | engLoad (q : Req)
  /-- ENG_SWAP (R238): Requests a swap at the swap point, or forces an immediate swap. -/
  | engSwap (q : Req)
  /-- ENG_CHAN (R254): Stops a channel at its next boundary, or starts it at ENTRY. -/
  | engChan (q : Req)
  /-- ENG_QUEUE_POST (R227): Posts words into a channel's in-queue, dropping those that do not fit. -/
  | engQueuePost (q : Req)
  /-- ENG_QUEUE_READ (R254): Pops words from a CORE-sink out-queue. -/
  | engQueueRead (q : Req)
  /-- ENG_READ_PROG (R254): Reads words from an engine's active or staging bank. -/
  | engReadProg (q : Req)
  /-- ENG_RESTORE (R243): Self-tests a faulted mason and requests the hand-back of its channels. -/
  | engRestore (q : Req)
  /-- KS_GET_STATE (R318): Returns the keystone, trim, slew, status and armed and late summaries. -/
  | ksGetState (q : Req)
  /-- KS_ARM (R304): Writes a compare channel's settings and arms it in one tick. -/
  | ksArm (q : Req)
  /-- KS_DISARM (R318): Disarms a compare channel and returns MATCH and MISSED. -/
  | ksDisarm (q : Req)
  /-- KS_SET_TRIM (R299): Writes KS_TRIM under FREE discipline. -/
  | ksSetTrim (q : Req)
  /-- KS_SLEW (R300): Adds ticks to the slew remainder under FREE discipline. -/
  | ksSlew (q : Req)
  /-- KS_ALIGN (R302): Steps the keystone counter to a new value in one tick. -/
  | ksAlign (q : Req)
  /-- KS_SET_DISC (R299): Changes the keystone discipline source. -/
  | ksSetDisc (q : Req)
  /-- MC_GET_STATE (R354): Returns the frame-memory status and the status of every channel. -/
  | mcGetState (q : Req)
  /-- MC_SET_REGULATOR (R330): Sets a port's guarantee, ceiling and burst. -/
  | mcSetRegulator (q : Req)
  /-- MC_GET_ERRORS (R354): Returns records from the uncorrectable-error ring. -/
  | mcGetErrors (q : Req)
  /-- MC_SET_MAP (R324): Writes the five bank masks, discards the slots and reloads calibration. -/
  | mcSetMap (q : Req)
  /-- MC_RETIRE (R345): Retires a DRAM channel by command. -/
  | mcRetire (q : Req)
  /-- REC_GET_STATE (R389): Returns the record-path registers. -/
  | recGetState (q : Req)
  /-- REC_SET_FORMAT (R389): Writes format, gain mode and binning in one tick. -/
  | recSetFormat (q : Req)
  /-- REC_READ_HEADER (R389): Reads header bytes of a frame whose slot or stub is still held. -/
  | recReadHeader (q : Req)
  /-- REC_GET_FLAGS (R389): Returns the flags and counts of one of the last 256 frames. -/
  | recGetFlags (q : Req)
  /-- MON_GET_STATE (R423): Returns the monitor state and the state of each context. -/
  | monGetState (q : Req)
  /-- MON_SET_CONTEXT (R423): Writes the 24 words of a monitor context in one tick. -/
  | monSetContext (q : Req)
  /-- MON_SET_TONE (R423): Writes the idle tone bank and flips TONE_BANK in one tick. -/
  | monSetTone (q : Req)
  /-- MON_READ_OUTPUT (R423): Reads bytes of a context's last whole output frame. -/
  | monReadOutput (q : Req)
  /-- STAT_GET (R449): Reads the statistics area of a kept frame. -/
  | statGet (q : Req)
  /-- STAT_READ_SAT (R449): Reads the per-unit saturation map of a kept frame. -/
  | statReadSat (q : Req)
  /-- LOOP_SET (R449): Writes the AE and AWB configuration in one tick. -/
  | loopSet (q : Req)
  /-- POL_GET_STATE (R449): Returns the policy, statistics and loop status. -/
  | polGetState (q : Req)
  /-- LK_GET_PORT (R488): Returns a port's registers and its lane status. -/
  | lkGetPort (q : Req)
  /-- LK_RETRAIN (R488): Sends DOWN and forces the port into RECOVER. -/
  | lkRetrain (q : Req)
  /-- LK_SET_LANES (R488): Writes a port's allowed lanes, which may re-stripe it. -/
  | lkSetLanes (q : Req)
  /-- LK_SLIP (R458): Slips a lane's block boundary by a given count. -/
  | lkSlip (q : Req)
  /-- LK_PRBS (R462): Starts or stops the PRBS generator and checker of a lane. -/
  | lkPrbs (q : Req)
  /-- LK_PRBS_READ (R488): Reads, and may clear, a lane's PRBS counters. -/
  | lkPrbsRead (q : Req)
  /-- TAKE_OPEN (R507): Opens a take from the next FCP and writes its opening extents and entries. -/
  | takeOpen (q : Req)
  /-- TAKE_CLOSE (R510): Accepts a take close and drains, indexes, seals and protects the take. -/
  | takeClose (q : Req)
  /-- TAKE_GET_STATE (R518): Returns the take and magazine status. -/
  | takeGetState (q : Req)
  /-- MAG_IDENTIFY (R518): Returns a magazine's IDENTIFY result, capacity and superblock. -/
  | magIdentify (q : Req)
  /-- MAG_FORMAT (R518): Trims a magazine and writes both superblocks and an empty take table. -/
  | magFormat (q : Req)
  /-- MAG_READ (R518): Reads bytes from one magazine block. -/
  | magRead (q : Req)
  /-- TAKE_RECOVER (R514): Recovers the OPEN and STANDBY parts on a magazine. -/
  | takeRecover (q : Req) (found : List FoundPart)
  /-- FB_GET_STATE (R552): Returns the fabric registers. -/
  | fbGetState (q : Req)
  /-- FB_GET_NODES (R552): Returns node-list entries. -/
  | fbGetNodes (q : Req)
  /-- FB_REDISCOVER (R552): Starts fabric rediscovery. -/
  | fbRediscover (q : Req)
  /-- FB_REMOTE (R540): Sends a whole request to another node for execution. -/
  | fbRemote (q : Req)
  /-- FB_ARRAY_TAKE_OPEN (R533): Coordinates a two-phase array take open at a common tick K. -/
  | fbArrayTakeOpen (q : Req)
  /-- FB_ARRAY_TAKE_CLOSE (R535): Sends a common close tick to every member. -/
  | fbArrayTakeClose (q : Req)
  /-- FB_SHARED_ARM (R536): Arms the same compare channel on each listed member. -/
  | fbSharedArm (q : Req)
  /-- TH_GET_STATE (R585): Returns the thermal state. -/
  | thGetState (q : Req)
  /-- TH_SET_COOLING (R585): Writes TH_TEC and TH_SHED in one tick. -/
  | thSetCooling (q : Req)
  /-- AG_GET_PLAN (R585): Returns a profile's plan values for each band. -/
  | agGetPlan (q : Req)
  /-- AG_READ_HISTORY (R585): Reads ageing history records. -/
  | agReadHistory (q : Req)
  /-- AG_RECOMPUTE (R575): Starts a margin-plan computation. -/
  | agRecompute (q : Req)
  /-- RSV_GET_STATE (R605): Returns the reserve registers. -/
  | rsvGetState (q : Req)
  /-- RSV_SET_CONFIG (R605): Writes RSV_CFG and RSV_VIN_CFG in one tick. -/
  | rsvSetConfig (q : Req)
  /-- RSV_TEST (R599): Runs the 20 ms boost and cell test. -/
  | rsvTest (q : Req) (pgFell : Bool) (cellLow : Bool)
  /-- RSV_SHIP (R605): Enters ship mode as a 16 s button press would. -/
  | rsvShip (q : Req)
  /-- EVT_GET (R629): Returns the status, live, mask, route, count and stamp of a range of events. -/
  | evtGet (q : Req)
  /-- EVT_CLEAR (R629): Clears the status bits of a range of events in one tick. -/
  | evtClear (q : Req)
  /-- EVT_SET_MASK (R629): Masks or unmasks a range of events in one tick. -/
  | evtSetMask (q : Req)
  /-- FLT_GET_STATE (R629): Returns the fault, watchdog, pending-event and self-test registers. -/
  | fltGetState (q : Req)
  /-- WDG_SET (R629): Writes the watchdog period. -/
  | wdgSet (q : Req)
  /-- ST_RUN (R624): Runs the selected self-test items in LIGHT or FULL scope. -/
  | stRun (q : Req)
  /-- ST_GET_RESULT (R630): Returns ST_STAT and the stamp at which the last run ended. -/
  | stGetResult (q : Req)
  /-- TW_XFER (R104): Runs one two-wire controller transaction. -/
  | twXfer (q : Req) (start : BusStart) (result : BusResult)
  /-- REGISTER_WRITE (R82): A write to a register that has no behaviour of its own, with shadowing and cairns. -/
  | registerWrite (c : Carrier) (addr : BitVec 32) (w : Word)
  /-- ENG_SWAP_REQ (R237): Writing 1 to SWAP_REQ requests a swap at the swap point. -/
  | engSwapReq (c : Carrier) (e : BitVec 8)
  /-- CH_CFG_EN_START (R251): A 0-to-1 write of CH_CFG.EN starts the channel at ENTRY. -/
  | chCfgEnStart (c : Carrier) (e : BitVec 8) (k : BitVec 6)
  /-- ENG_IN_POST (R227): A write to ENG_IN_POST_k posts a word into channel k's in-queue. -/
  | engInPost (c : Carrier) (e : BitVec 8) (k : BitVec 6) (w : Word)
  /-- ENG_BCAST_WRITE (R251): A write to the broadcast window goes into the staging bank of every eligible mason. -/
  | engBcastWrite (c : Carrier) (k : BitVec 10) (w : Word)
  /-- LN_SLIP_WRITE (R486): Writing LN_CTL.SLIP slips the lane by one bit. -/
  | lnSlipWrite (c : Carrier) (l : BitVec 6)
  /-- KS_PERIOD_WRITE (R306): Writing the period of an armed repeat channel moves its next point and may fire it late. -/
  | ksPeriodWrite (c : Carrier) (k : BitVec 6) (p : Word)
  /-- LN_PRBS_ERR_LATCH (R487): A read of LN_PRBS_ERR_LO latches the other PRBS counter words. -/
  | lnPrbsErrLatch (l : BitVec 6)
  /-- SYS_DOMAIN_REQ_WRITE (R50): A write to SYS_DOMAIN_REQ switches power domains, subject to the refusals of R50. -/
  | sysDomainReqWrite (c : Carrier) (w : Word)
  /-- TW_WINDOW_WRITE (R96): A two-wire window write commits a register word when its fourth byte is acknowledged. -/
  | twWindowWrite (addr : BitVec 7) (group : Bool) (ptr : BitVec 16) (data : List Byte)
  /-- TW_WINDOW_READ (R96): A two-wire window read snapshots a word and stretches SCL until the word arrives. -/
  | twWindowRead (addr : BitVec 7) (ptr : Option (BitVec 16)) (n : Nat)
  /-- TW_WINDOW_READ_TIMEOUT (R96): After 1 ms without the word, the window read returns 0xFF and sets WINDOW_TIMEOUT. -/
  | twWindowReadTimeout 
  /-- MBX_SUBMIT (R97): Writing 0x01 to MBX_DOORBELL submits the mailbox request for execution. -/
  | mbxSubmit (addr : BitVec 7) (group : Bool)
  /-- MBX_RELEASE (R97): Writing 0x02 to MBX_DOORBELL returns the mailbox to IDLE. -/
  | mbxRelease (addr : BitVec 7) (group : Bool)
  /-- MBX_OVERRUN (R97): Mailbox bytes written while BUSY are not acknowledged and set MBX_OVERRUN. -/
  | mbxOverrun 
  /-- ADDR_ASSIGN (R101): At the STOP of a write at 0x3A, the unit takes its new address and raises ADDR_OUT. -/
  | addrAssign (data : List Byte)
  /-- PARTIAL_BYTE (R108): A START or STOP within a byte discards the byte and restarts address reception. -/
  | partialByte 
  /-- TW_TARGET_SCL_STUCK (R109): SCL held low for 25 ms in a transaction makes the target release SDA and wait for START. -/
  | twTargetSclStuck 
  /-- WAKE_MATCH (R102): A two-wire address match in standby stretches SCL and starts the wake. -/
  | wakeMatch (addr : BitVec 7)
  /-- SUP_MAIN_EN_RISE (R53): SUP_MAIN_EN rises 2 ms after VDD_AON and VDD_IO are both valid, unless a latch is set. -/
  | supMainEnRise 
  /-- RAIL_FAULT (R56): A rail outside its window for 2 µs stops strobes and closes or leaves the take, by rail. -/
  | railFault (rail : BitVec 4)
  /-- RST_N_RELEASE (R57): Latches PRF, ROOT and ADDR_IN, starts the keystone at zero and begins boot. -/
  | rstNRelease (pins : Pins)
  /-- RST_N_LOW (R58): A low level of 1 µs or more resets every domain except the AON status registers. -/
  | rstNLow 
  /-- TREFCLK_LOST (R47): Loss of TREFCLK stops strobes, marks the frame in flight and closes the take. -/
  | trefclkLost 
  /-- TREFCLK_RESTORED (R47): TREFCLK stable for 100 µs allows capture to be re-enabled. -/
  | trefclkRestored 
  /-- LREFCLK_LOST (R48): Loss of LREFCLK drops every port into RECOVER while exposure continues. -/
  | lrefclkLost 
  /-- DOMAIN_POWERED (R49): A switched domain reaches its powered state within 200 µs of its switch closing. -/
  | domainPowered (d : BitVec 5)
  /-- BOOT_FIRMWARE (R60): The boot ROM verifies and starts a firmware image, with fallback. -/
  | bootFirmware (ok0 : Bool) (ok1 : Bool) (chainOk : Bool)
  /-- PROFILE_LOAD (R118): The latched profile, or a fallback, loads into the registers. -/
  | profileLoad 
  /-- DRAM_TRAIN (R61): All channels train at both rates, with one retry and retirement on failure. -/
  | dramTrain (fail1 : BitVec 8) (fail2 : BitVec 8)
  /-- CAL_LOAD (R187): The calibration table is copied to frame memory and its blocks are checked. -/
  | calLoad (bad : List (BitVec 13))
  /-- RESERVE_CHECK (R599): The boost carries the part for 20 ms to test the reserve cell. -/
  | reserveCheck (pgFell : Bool) (cellLow : Bool)
  /-- LANES_STAGE (R60): The ports that the profile enables sweep their eyes and bring their links up. -/
  | lanesStage (margins : List Byte)
  /-- DISCOVERY_STAGE (R524): Fabric discovery runs until a table is applied or the unit becomes root alone. -/
  | discoveryStage 
  /-- READY (R60): Start-up ends and READY is raised. -/
  | ready 
  /-- CAPTURE_AUTO_START (R60): With CAPTURE_AUTO, bias settles, a calibration pass runs and the first GRST is scheduled 110 ms after READY. -/
  | captureAutoStart 
  /-- MAG_RECOVERY_SCAN (R514): After start-up, OPEN and STANDBY parts on READY magazines are recovered. -/
  | magRecoveryScan (m : Bool) (found : List FoundPart)
  /-- SHIP_EXIT (R69): VIN returning clears the ship latch and runs start-up from step 1. -/
  | shipExit 
  /-- COMPARE_FIRE (R305): An armed compare channel fires when the keystone equals its point and carries out its targets. -/
  | compareFire (k : BitVec 6)
  /-- COMPARE_LATE_FIRE (R306): A channel whose point is past fires once at t + 1, sets LATE and counts missed points. -/
  | compareLateFire (k : BitVec 6)
  /-- CHAIN_ARM (R307): A chain target arms its channel at the tick after the source fired. -/
  | chainArm (k : BitVec 6)
  /-- KEYSTONE_WRAP (R294): The counter wraps to 0, setting WRAPPED and writing a cairn. -/
  | keystoneWrap 
  /-- SLEW_END (R300): The slew remainder reaches 0 and SLEWING clears. -/
  | slewEnd 
  /-- TX_PULSE_LEAD (R151): The strobe generator starts the transfer pulse tTX ticks before a GTX tick. -/
  | txPulseLead (nodeB : Bool)
  /-- COMPLETE_TIMEOUT (R79): A deferred change not in effect 2 s after acceptance is answered TIMEOUT. -/
  | completeTimeout 
  /-- GENLOCK_EDGE (R301): A genlock reference edge adjusts trim and slew and updates lock. -/
  | genlockEdge (t : Tick)
  /-- GENLOCK_REF_LOST (R268): Two reference edges missing in a row put the schedule in holdover. -/
  | genlockRefLost 
  /-- TRIGGER_STAMP (R269): A trigger edge stamp reaching the timing block schedules a burst. -/
  | triggerStamp (t : Tick)
  /-- HALT (R210): The channel halts. -/
  | halt (e : BitVec 8) (ch : BitVec 7)
  /-- SET (R211): Writes an immediate value to lines, pin directions or flags. -/
  | setImm (e : BitVec 8) (ch : BitVec 7)
  /-- OUT (R212): Takes bits from SO to a destination, refilling from the queue if asked. -/
  | outBits (e : BitVec 8) (ch : BitVec 7)
  /-- IN (R213): Places source bits into SI, spilling to the out-queue if asked. -/
  | inBits (e : BitVec 8) (ch : BitVec 7)
  /-- PULL (R214): Loads SO from the in-queue. -/
  | pull (e : BitVec 8) (ch : BitVec 7)
  /-- PUSH (R214): Places SI on the out-queue. -/
  | push (e : BitVec 8) (ch : BitVec 7)
  /-- MOV (R215): Copies a source to a destination with an optional operation. -/
  | mov (e : BitVec 8) (ch : BitVec 7)
  /-- ADD (R216): Adds modulo 2³² and sets C. -/
  | add (e : BitVec 8) (ch : BitVec 7)
  /-- JMP (R217): Jumps to TARGET if its condition holds. -/
  | jmp (e : BitVec 8) (ch : BitVec 7)
  /-- DELAY (R218): Starts a delay of n ticks. -/
  | delay (e : BitVec 8) (ch : BitVec 7)
  /-- WAIT (R219): Blocks the channel until a compare, strobe, barrier, line or queue condition holds. -/
  | wait (e : BitVec 8) (ch : BitVec 7)
  /-- STROBE (R220): Starts a convert, calibration visit or flush on the channel's course pair. -/
  | strobe (e : BitVec 8) (ch : BitVec 7)
  /-- SYNC (R221): Waits at a barrier, optionally as a swap point. -/
  | sync (e : BitVec 8) (ch : BitVec 7)
  /-- YIELD (R210): Gives up the engine. -/
  | yield (e : BitVec 8) (ch : BitVec 7)
  /-- DELAY_EXPIRE (R218): A channel's delay expires and the channel becomes ready. -/
  | delayExpire (e : BitVec 8) (ch : BitVec 7)
  /-- WAIT_SATISFIED (R223): A channel's wait condition occurs and the channel becomes ready, with its stamp. -/
  | waitSatisfied (e : BitVec 8) (ch : BitVec 7)
  /-- QUEUE_STALL_RESUME (R214): A channel stalled on a queue or handshake resumes when room or data arrives. -/
  | queueStallResume (e : BitVec 8) (ch : BitVec 7)
  /-- BARRIER_RELEASE (R221): A barrier releases all its waiting channels at one tick. -/
  | barrierRelease (e : BitVec 8) (b : BitVec 4)
  /-- QUANTUM_EXPIRE (R208): After QUANTUM instructions, the scheduler moves to the next ready channel. -/
  | quantumExpire (e : BitVec 8)
  /-- TIMED_OUTPUT_APPLY (R225): A timed output is applied at E + 64 ticks after its delay ends. -/
  | timedOutputApply (e : BitVec 8)
  /-- PIN_EDGE (R224): A pin level change is registered and stamped. -/
  | pinEdge (pin : BitVec 5) (level : Bool)
  /-- ENGINE_FAULT (R241): A hardware engine fault stops a pin engine or faults a mason. -/
  | engineFault (e : BitVec 8) (cause : BitVec 3)
  /-- ENGINE_SWAP (R237): The program banks exchange once every enabled channel stands at a swap point. -/
  | engineSwap (e : BitVec 8)
  /-- ENG_RESTORE_HANDOVER (R243): The adopted channels are handed back at the first tick with no START of the cluster in progress. -/
  | engRestoreHandover (c : BitVec 7)
  /-- ENG_RESTORE_TIMEOUT (R243): A hand-over still pending after 2 s is answered TIMEOUT. -/
  | engRestoreTimeout (c : BitVec 7)
  /-- DISPATCHER_POST (R231): The course dispatcher posts a START, SWAPPT or CAL word when its condition is met. -/
  | dispatcherPost (c : BitVec 7) (kind : DispKind) (pair : BitVec 7) (nodeB : Bool)
  /-- NODE_CONVERSION_DONE (R173): A node conversion ends and the unit's pixel words wait in its buffer. -/
  | nodeConversionDone (u : BitVec 22) (nodeB : Bool) (ns : BitVec 18) (px : List Sample)
  /-- UNIT_TIMEOUT (R176): A unit not done after 200 µs is stopped, marked and retired. -/
  | unitTimeout (u : BitVec 22) (nodeB : Bool) (px : List Sample)
  /-- CAL_VISIT_DONE (R193): A background calibration visit ends and updates the working copy. -/
  | calVisitDone (c : BitVec 7) (pair : BitVec 7) (meas : List (BitVec 22 × BitVec 64))
  /-- BGCAL_PASS_LATE (R193): A region without a completed pass within 4 × INTERVAL sets PASS_LATE. -/
  | bgcalPassLate (r : BitVec 3)
  /-- CAL_WRITEBACK (R190): Each hour, changed calibration blocks are written back to NVM. -/
  | calWriteback 
  /-- COURSE_SEGMENT_RX (R363): An ingest slice checks a course segment, then accepts or discards it. -/
  | courseSegmentRx (r : BitVec 3) (hdr : BitVec 64) (beats : List (BitVec 64)) (full : Bool)
  /-- FRAME_START_RX (R364): A frame-start beat opens a frame and closes an earlier open frame as short. -/
  | frameStartRx (r : BitVec 3) (hdr : BitVec 64)
  /-- FRAME_END_RX (R364): A frame-end beat closes the region's frame and fills missing courses. -/
  | frameEndRx (r : BitVec 3) (hdr : BitVec 64)
  /-- CAL_PACKET_RX (R361): A calibration packet is taken between frames, or discarded during one. -/
  | calPacketRx (r : BitVec 3) (hdr : BitVec 64) (c : BitVec 7) (pair : BitVec 7) (meas : List (BitVec 22 × BitVec 64))
  /-- FRAME_DEADLINE (R364): Frame end not delivered by D(N) fills the missing courses as BUS_STALL or COURSE_LATE. -/
  | frameDeadline (n : BitVec 32)
  /-- STATS_PUBLISH (R432): The statistics of a whole frame are published once every mason word has arrived. -/
  | statsPublish (n : BitVec 32)
  /-- STATS_MAP_TIMEOUT (R432): Mason words still missing 1 ms after the frame is whole publish with MAP_INCOMPLETE. -/
  | statsMapTimeout (n : BitVec 32)
  /-- AE_UPDATE (R437): Automatic exposure computes and writes a new value from published statistics. -/
  | aeUpdate 
  /-- AWB_UPDATE (R438): Automatic white balance writes new gains from published statistics. -/
  | awbUpdate 
  /-- HEADER_CLOSE_TIMEOUT (R378): The header of a frame that is not drained closes 200 µs after the frame is whole. -/
  | headerCloseTimeout (n : BitVec 32)
  /-- RECORD_SINK_WORD (R378): A RECORD-sink word arrives and is kept as timecode or a header word, or discarded. -/
  | recordSinkWord (e : BitVec 8) (ch : BitVec 7) (w : Word)
  /-- DRAIN_ASHLAR_START (R506): A whole frame begins its ashlar writes on a free magazine port. -/
  | drainAshlarStart 
  /-- MAG_RESPONSE (R492): A Rulia-class target response completes an outstanding command. -/
  | magResponse (m : Bool) (resp : List Byte) (data : List Byte)
  /-- MAG_DEADLINE_MISS (R496): A target command that misses its deadline fails the magazine. -/
  | magDeadlineMiss (m : Bool) (cid : BitVec 16)
  /-- TAKE_CLOSE_DONE (R510): The close steps end and the take is sealed and protected. -/
  | takeCloseDone 
  /-- META_CAIRNS_WRITE (R503): New cairns are copied into a CAIRNS extent at most 1 s apart. -/
  | metaCairnsWrite 
  /-- TAKE_ENTRY_REWRITE (R508): Every 10 s the open take's table entries are rewritten. -/
  | takeEntryRewrite 
  /-- MAG_PORTS_DOWN_TIMEOUT (R513): Magazine ports still down 10 s after a clock loss close the take as NO_MAGAZINE. -/
  | magPortsDownTimeout 
  /-- LANE_LOCK (R457): A lane gains block lock after 64 valid SYNC headers. -/
  | laneLock (l : BitVec 6)
  /-- LANE_LOCK_LOST (R457): A lane loses block lock after 16 invalid SYNC headers in 64 blocks. -/
  | laneLockLost (l : BitVec 6)
  /-- BIT_SLIP_SWEEP (R458): Every 64 blocks without lock, automatic alignment slips the lane by one bit. -/
  | bitSlipSweep (l : BitVec 6)
  /-- MARKER_RX (R460): An alignment marker is received and checked for deskew and BIP-8. -/
  | markerRx (l : BitVec 6) (body : List Byte) (bipOk : Bool) (skew : Byte)
  /-- SWITCH_BLOCK_RX (R476): The receive side follows the partner's SWITCH blocks to the new lane set. -/
  | switchBlockRx (t : BitVec 3) (lanes : Byte)
  /-- RESTRIPE_RX (R476): A LINKCTL RESTRIPE from the partner is answered by switching the transmit side. -/
  | restripeRx (t : BitVec 3) (set : Byte) (epoch : Byte)
  /-- LINK_DOWN_RX (R470): A received LINKCTL DOWN puts the port into RECOVER. -/
  | linkDownRx (t : BitVec 3) (reason : Byte)
  /-- RESTRIPE_TIMEOUT (R479): A partner that does not answer RESTRIPE within 5 µs causes a port fault. -/
  | restripeTimeout (t : BitVec 3)
  /-- DATA_PACKET_RX (R466): A DATA packet is accepted, discarded as a duplicate, or answered by NAK. -/
  | dataPacketRx (t : BitVec 3) (good : Bool) (framing : Bool) (hdr : List Byte) (payload : List Byte)
  /-- ACK_RX (R466): An ACK releases the replay buffer up to its SEQ. -/
  | ackRx (t : BitVec 3) (seq : Word)
  /-- NAK_RX (R467): A NAK replays the held packets from its SEQ. -/
  | nakRx (t : BitVec 3) (seq : Word)
  /-- CREDIT_RX (R468): A CREDIT packet updates the transmitter's per-VC limits. -/
  | creditRx (t : BitVec 3) (l0 : Word) (l1 : Word) (l2 : Word)
  /-- PACKET_TRANSMIT (R469): The transmitter picks and sends the next packet by priority and credit. -/
  | packetTransmit (t : BitVec 3)
  /-- REPLAY_TIMEOUT (R467): An unacknowledged packet after 2 µs triggers a replay. -/
  | replayTimeout (t : BitVec 3)
  /-- CREDIT_UPDATE_TIMER (R468): A CREDIT packet is sent at least every 100 µs. -/
  | creditUpdateTimer (t : BitVec 3)
  /-- CREDIT_STALL (R468): DATA waiting without credit for 10 ms sets CREDIT_STALL. -/
  | creditStall (t : BitVec 3) (vc : BitVec 2)
  /-- PORT_DOMAIN_ON (R472): A powered port leaves DISABLED for DETECT. -/
  | portDomainOn (t : BitVec 3)
  /-- PORT_PLL_LOCK (R472): The PHY locks and signal is present, so the port enters ALIGN. -/
  | portPllLock (t : BitVec 3) (signal : Byte)
  /-- ALIGN_WINDOW_END (R472): 2 ms after the first lane locks, the port proceeds to deskew. -/
  | alignWindowEnd (t : BitVec 3)
  /-- TRAINING_BLOCK_RX (R473): Received TRAINING blocks advance the lane-set and GO exchange. -/
  | trainingBlockRx (l : BitVec 6) (body : List Byte)
  /-- PORT_RECOVER_END (R472): After 100 µs of quiet in RECOVER, the port returns to DETECT. -/
  | portRecoverEnd (t : BitVec 3)
  /-- PORT_TRAIN_TIMEOUT (R472): A port not ACTIVE 400 ms after DETECT sets TRAIN_FAIL and waits 100 ms. -/
  | portTrainTimeout (t : BitVec 3)
  /-- PORT_RETRY_WAIT_END (R472): After the 100 ms wait, the port tries DETECT again. -/
  | portRetryWaitEnd (t : BitVec 3)
  /-- LANE_READMIT (R478): A lane clean for 1 s becomes READY and may be readmitted. -/
  | laneReadmit (l : BitVec 6)
  /-- EYE_SWEEP (R572): Each hour, lanes out of service measure their eye margin by PRBS loopback. -/
  | eyeSweep (margins : List (BitVec 6 × Byte))
  /-- REFRESH_DUE (R334): A refresh falls due and is issued, or owed up to the band limit. -/
  | refreshDue (r : BitVec 3) (busy : Bool)
  /-- REFRESH_PAYBACK (R334): Owed refreshes are paid once no guaranteed request has come for 100 ns. -/
  | refreshPayback (r : BitVec 3)
  /-- DRAM_TEMP_READ (R333): The die temperature is read each 1 ms and may change the refresh band and the rate. -/
  | dramTempRead (r : BitVec 3) (temp : BitVec 16)
  /-- DRAM_TEMP_MISSING (R336): A die reading failed or missing for 5 ms is replaced by the model estimate. -/
  | dramTempMissing (r : BitVec 3)
  /-- RECENTRE_PASS (R338): Every 100 ms a re-centring pass starts. -/
  | recentrePass (r : BitVec 3)
  /-- RECENTRE_PASS_END (R338): A re-centring pass ends and updates the training results in one step. -/
  | recentrePassEnd (r : BitVec 3) (eyeLow : Bool)
  /-- DATA_RATE_CHANGE (R339): A channel switches data rate with a stall of at most 12 µs. -/
  | dataRateChange (r : BitVec 3) (verifyOk : Bool)
  /-- UNCORRECTABLE_ACCESS (R342): An uncorrectable access returns an error to its requester and is logged. -/
  | uncorrectableAccess (r : BitVec 3) (pa : BitVec 33) (port : BitVec 4) (mirrorBad : Bool)
  /-- CHANNEL_NO_RESPONSE (R344): No access completed for 2 µs while requests wait retires the channel. -/
  | channelNoResponse (r : BitVec 3)
  /-- MON_DEVELOP_START (R407): The pipeline starts developing the newest whole due frame for a context. -/
  | monDevelopStart 
  /-- MON_OUTPUT_WHOLE (R409): A context's output frame is whole and queued for sending. -/
  | monOutputWhole (x : BitVec 2) (rows : List Word)
  /-- MON_SEND_DONE (R411): A context's output frame has been sent to its destination. -/
  | monSendDone (x : BitVec 2)
  /-- HELLO_TIMER (R523): Every 1 ms, a HELLO is sent on every pass in service. -/
  | helloTimer 
  /-- HELLO_RX (R523): A HELLO updates the best key, the parent and the root heartbeat. -/
  | helloRx (d : BitVec 3) (payload : List Byte)
  /-- ROOT_DECLARE (R523): A unit whose key has stayed best for 20 ms declares itself root. -/
  | rootDeclare 
  /-- REPORT_RX (R524): A REPORT is relayed towards the root. -/
  | reportRx (d : BitVec 3) (payload : List Byte)
  /-- DISCOVERY_QUIET (R524): After 10 ms without REPORTs, the root places and numbers the units and sends the TABLEs. -/
  | discoveryQuiet 
  /-- FABRIC_ALONE_TIMEOUT (R524): A unit with no pass after 100 ms, or no TABLE after 500 ms, becomes root alone. -/
  | fabricAloneTimeout 
  /-- TABLE_RX (R526): A TABLE is accepted for its switch tick, or ignored. -/
  | tableRx (payload : List Byte)
  /-- TABLE_SWITCH (R526): The new pass table and generation apply at the switch tick. -/
  | tableSwitch 
  /-- TIME_EXCHANGE_TIMER (R528): Every 1 ms, a non-root unit sends a TIME request to its time parent. -/
  | timeExchangeTimer (t1 : BitVec 72)
  /-- TIME_MSG_RX (R529): A TIME message is answered, or the child computes its offset and corrects its keystone. -/
  | timeMsgRx (node : Byte) (payload : List Byte) (arrived : BitVec 72) (sent : BitVec 72)
  /-- ROOT_LOST (R543): A root heartbeat that stalls for 10 ms starts a re-election. -/
  | rootLost 
  /-- ARRAY_MSG_RX (R533): An ARRAY PREPARE, READY, REFUSE, COMMIT or ABORT message is handled. -/
  | arrayMsgRx (node : Byte) (payload : List Byte)
  /-- ARRAY_PREPARE_TIMEOUT (R533): Members silent after 20 ms make the coordinator abort. -/
  | arrayPrepareTimeout 
  /-- ARRAY_CLOSE_TICK (R535): At Kc, each member closes its take and stops capture. -/
  | arrayCloseTick 
  /-- TRIGGER_MSG_RX (R537): A forwarded TRIGGER acts as a trigger stamped T_e. -/
  | triggerMsgRx (payload : List Byte)
  /-- PEER_MSG_RX (R538): A PEER prepare or activate message is granted or refused. -/
  | peerMsgRx (node : Byte) (payload : List Byte)
  /-- FORWARD_FRAME_START (R539): A whole frame starts moving to a peer as bulk messages. -/
  | forwardFrameStart 
  /-- FORWARD_RETRY (R539): A guest frame refused by a peer is retried every 1 ms. -/
  | forwardRetry 
  /-- REMOTE_REPLY_RX (R540): The reply to an FB_REMOTE arrives and becomes its result. -/
  | remoteReplyRx (node : Byte) (payload : List Byte)
  /-- REMOTE_TIMEOUT (R540): An FB_REMOTE without reply in 2 s returns TIMEOUT. -/
  | remoteTimeout 
  /-- FABRIC_NOTICE_RX (R541): A fabric event notice is delivered on the host port. -/
  | fabricNoticeRx (node : Byte) (payload : List Byte)
  /-- DIODE_SAMPLE (R555): Each cluster diode is sampled every 1 ms and checked for validity. -/
  | diodeSample (c : BitVec 7) (temp : BitVec 16) (dly : BitVec 12)
  /-- TD_SAMPLE (R556): The external temperature inputs are sampled every 10 ms. -/
  | tdSample (n : BitVec 2) (temp : BitVec 16) (ok : Bool)
  /-- REGION_MODEL_STEP (R557): Each 1 ms, a region model updates its estimates, band and rate of rise. -/
  | regionModelStep (r : BitVec 3) (rl : BitVec 16) (rc : BitVec 16)
  /-- RISE_SHED_ADVANCE (R563): While a fast rise lasts, shedding advances one step every 500 ms. -/
  | riseShedAdvance 
  /-- SHED_STEP_EXIT (R567): After 10 s of 3 K below its threshold, the highest step is left. -/
  | shedStepExit 
  /-- TEC_CONTROL (R564): Every 10 ms a TEC duty word is computed and posted. -/
  | tecControl 
  /-- FAN_TACH_WORD (R565): A tachometer interval word updates FAN_RPM. -/
  | fanTachWord (w : Word)
  /-- FAN_STALL (R565): No tachometer word for 2 s at 20 % duty or more is a fan stall. -/
  | fanStall 
  /-- VID_CONTROL_TICK (R570): Every 10 ms, the slowest delay monitor decides a VID raise or lowering. -/
  | vidControlTick 
  /-- VID_STEP (R46): VID moves one code, at least 10 µs after the last step. -/
  | vidStep 
  /-- AGEING_HOURLY (R574): Each hour, the ageing history record is written and the plan recomputed. -/
  | ageingHourly (index : List (BitVec 16)) (served : BitVec 16)
  /-- PLAN_COMPUTE_DONE (R575): A margin-plan computation ends, and its values await the next FCP. -/
  | planComputeDone 
  /-- VIN_LOSS (R589): VIN below VIN_FAIL for 200 ns hands VSYS over to the reserve boost. -/
  | vinLoss (pg : Bool)
  /-- CLOSE_OUT_DONE (R591): Close-out ends: the cairns are flushed and the supplies are released. -/
  | closeOutDone 
  /-- ENERGY_CHECK (R592): Every 10 ms of close-out, the energy is checked and the remaining frames may become stubs. -/
  | energyCheck (mv : BitVec 16) (ma : BitVec 16)
  /-- VIN_RETURN_STABLE (R590): VIN above VIN_OK for 20 ms is taken back. -/
  | vinReturnStable (vin : BitVec 16)
  /-- RESERVE_LIMIT_UPDATE (R594): The reserve burst-depth limit is recomputed every 100 ms. -/
  | reserveLimitUpdate 
  /-- CHARGE_CURRENT_SEARCH (R595): The charge current steps up every 50 ms to find the supply limit. -/
  | chargeCurrentSearch (vin : BitVec 16)
  /-- CHARGE_PHASE_TIMER (R596): A pulse, rest or top-off phase of the charger ends. -/
  | chargePhaseTimer (mv : BitVec 16) (ma : BitVec 16)
  /-- CELL_REMOVED (R598): A missing cell stops charging and the boost. -/
  | cellRemoved 
  /-- CELL_INSERTED (R598): A cell present for 100 ms is measured and charged again. -/
  | cellInserted (mv : BitVec 16)
  /-- BUTTON_SHORT_PRESS (R600): A press of 50 ms to 8 s wakes the part from standby, or raises event 953. -/
  | buttonShortPress 
  /-- BUTTON_RESET_PRESS (R600): A release between 8 and 16 s enters a 500 ms reset hold. -/
  | buttonResetPress 
  /-- RESET_HOLD_END (R600): After the 500 ms hold, start-up runs from step 1. -/
  | resetHoldEnd 
  /-- BUTTON_SHIP_HOLD (R600): A press held to 16 s enters ship mode. -/
  | buttonShipHold 
  /-- WATCHDOG_LOCKUP (R617): A missed watchdog or a fatal core fault resets the control core alone. -/
  | watchdogLockup 
  /-- CORE_RESTART_DONE (R619): The core finishes booting, rebuilds its state and resumes the waiting work. -/
  | coreRestartDone 
  /-- NVM_WORD_WRITE (R113): A journalled 64-byte NVM word write completes and is read back. -/
  | nvmWordWrite (ok1 : Bool) (ok2 : Bool)
  /-- CAIRN_FLUSH (R131): Queued cairns reach NVM within 1 ms. -/
  | cairnFlush 
  /-- MAINTAIN_TIMEOUT (R126): 15 minutes without a command from the origin ends its MAINTAIN. -/
  | maintainTimeout 
  /-- STAGING_RELEASE (R122): The staging buffer is released after 60 s without a write. -/
  | stagingRelease 
  /-- CHALLENGE_LOCKOUT_END (R125): After 60 s, GET_CHALLENGE is served again following three wrong answers. -/
  | challengeLockoutEnd 
  /-- RAIL_VALID (R53): A rail enters its monitor window; VID is driven, the SUP_MAIN_EN count starts and the group order is checked for SEQ_ERR. -/
  | railValid (rail : BitVec 4)
  /-- HELD_EXIT (R57): After an early RST_N release or a sequence error, the part leaves HELD once every rail has been valid 1 ms and TREFCLK stable 100 µs. -/
  | heldExit 
  /-- LREFCLK_RESTORED (R474): LREFCLK present again; after LREF_OK has been 1 for 100 µs the ports leave DETECT and retrain. -/
  | lrefclkRestored 
  /-- VDD_AON_REMOVED (R645): VDD_AON below 0.5 V for 10 ms counts as removed and clears the thermal-shutdown latch and all kept fields. -/
  | vddAonRemoved 
  /-- FULL_CAL_DONE (R196): A full calibration finishes its converter measurements, writes its results, replies and restarts the schedule; event 420 is raised. -/
  | fullCalDone (notDark : Bool) (entries : List (BitVec 22 × BitVec 64)) (defects : List Word) (temp : BitVec 16)
  /-- SELF_TEST_END (R624): A self-test run ends; ST_STAT is set, failed items are acted on, the reply is sent and capture restarts. -/
  | selfTestEnd (fails : List (BitVec 3 × BitVec 22))
  /-- PRBS_PATTERN_RX (R462): A lane's PRBS checker receives the pattern, gains PRBS_LOCK after 64 good bits and counts errors, raising event 610 + 3l on the first error. -/
  | prbsPatternRx (l : BitVec 6) (bits : BitVec 32) (errs : BitVec 32) (run : BitVec 32)
  /-- PAGE_IDLE_TIMEOUT (R328): A bank's idle timer runs out after PAGE_IDLE controller clocks without an access and closes its open row. -/
  | pageIdleTimeout (r : BitVec 3) (bank : BitVec 5)
  /-- TW_BUS_FREE (R105): After arbitration loss, a STOP and the bus-free time are seen and the controller transaction is started again. -/
  | twBusFree (start : BusStart) (result : BusResult)
  /-- STATUS_LAMP_SLOT (R601): Every 250 ms the lamp pattern advances one slot; a press passing 8 s turns both lamps on. -/
  | statusLampSlot (past8 : Bool)
  deriving DecidableEq, Repr

end Sys2Proof
end

