-- ==== Sys2Proof/Decode.lean ====
section
/-! DEFINITION. The command that a table word spells. No row of the table gives bits: a command reaches the block as a
request on a carrier or as an event, never as a word. -/

namespace Sys2Proof

/-- The command spelled by the low `_nbits` bits of `_w`: none, because the table gives no row an encoding. -/
def decodeTableWord (_nbits _w : Nat) : Option Instr := none

end Sys2Proof
end

