-- ==== Sys2Proof/Config.lean ====
section
/-! DEFINITION. What an implementation of the part fixes, and the values the spec leaves open, as opaque constants: no
proof can see them, so every statement holds whatever they are. -/

namespace Sys2Proof

/-- Silicon revision (R91): fixed per part. -/
opaque Config.siliconRev : Byte

/-- Serial number (R90): fixed per part. -/
opaque Config.serial : BitVec 64

/-- SHA-256 of the identity public key (R83), byte `i`. -/
opaque Config.idKeyHash : Nat → Byte

/-- The identity public key, byte `i` (R503). -/
opaque Config.idKey : Nat → Byte

/-- The maintenance key of the identity area as the factory set it (R125), byte `i`. -/
opaque Config.factoryKey : Nat → Byte

/-- ECDSA P-256 verification of a firmware header's signature against Abaden's key (R136). -/
opaque Config.fwSignatureOk : List Byte → Bool

/-- ECDSA P-256 signature by the identity key over a digest (R503, R509): byte `i` of the signature of a message. -/
opaque Config.sign : List Byte → Nat → Byte

/-- Random bytes: the `n`-th draw (R125). -/
opaque Config.random : Nat → Byte

/-- Factory calibration entry of a unit (R187, R188). -/
opaque Config.calFactory : Nat → BitVec 64

/-- Injector charge of a cluster, set at the factory (R187). -/
opaque Config.injector : Nat → BitVec 16

/-- The measured time of a course pair, from START to the end of its last segment, in ticks (R273, R577): by plan
number, region and bytes carried. -/
opaque Config.pairTime : Nat → Nat → Nat → Nat

/-- The words of the pin programs that the spec does not print (R245), by pin engine and word. -/
opaque Config.pinWord : Nat → Nat → Word

/-- Where the channels of those programs start (R245), by pin engine and channel. -/
opaque Config.pinEntry : Nat → Nat → BitVec 10

/-- The PWM periods, in ticks, that PE-TEC and PE-FAN were given, and the fan's pulses per revolution (R245, R564, R565). -/
opaque Config.tecPeriod : BitVec 24
opaque Config.fanPeriod : BitVec 24
opaque Config.fanPulses : Byte

/-- A value the spec leaves open: the `n`-th one drawn. -/
opaque Config.freeWord : Nat → Word

/-- The first and last frame that a part without frames is given in its entry and seal record, where the spec names none (R500,
R509): by take and part number. -/
opaque Config.emptyFirst : Nat → Nat → Word
opaque Config.emptyLast : Nat → Nat → Word

/-- What the world shows a request that runs from its carrier's queue: the pins a RESTART latches, the bus a TW_XFER meets, and
the parts a TAKE_RECOVER reads back. The `n`-th one drawn. -/
opaque Config.freePins : Nat → Pins
opaque Config.freeBus : Nat → BusStart × BusResult
opaque Config.freeFound : Nat → List FoundPart

end Sys2Proof
end

