-- ==== Sys2Proof/Machine/Bits.lean ====
section
/-! DEFINITION. Bit and byte helpers: fields of words, little-endian bytes (R5), modular keystone comparison (R294),
two's-complement readings, and the check functions the spec names: CRC-32 of IEEE 802.3 (R116), SHA-256 (R129) and
HMAC-SHA-256 (R125). -/

namespace Sys2Proof.Machine

/-- Bits [lo + width − 1 : lo] of a Nat. -/
def bitsOf (w lo width : Nat) : Nat := w / 2 ^ lo % 2 ^ width

/-- Mask of `width` ones from bit `lo`, as a word. -/
def wmask (lo width : Nat) : Word := BitVec.ofNat 32 ((2 ^ width - 1) * 2 ^ lo)

/-- Field [lo + width − 1 : lo] of a word. -/
def wfield (w : Word) (lo width : Nat) : Nat := w.toNat / 2 ^ lo % 2 ^ width

/-- `w` with field [lo + width − 1 : lo] replaced by `v`. -/
def wsetField (w : Word) (lo width v : Nat) : Word :=
  (w &&& ~~~ wmask lo width) ||| BitVec.ofNat 32 (v % 2 ^ width * 2 ^ lo)

/-- One bit of a word, as a Bool. -/
def wbit (w : Word) (i : Nat) : Bool := w.getLsbD i

/-- A Bool as 0 or 1. -/
def b2n (b : Bool) : Nat := if b then 1 else 0

/-- The `n` low bytes of `v`, least significant first (R5). -/
def leBytes : Nat → Nat → List Byte
  | 0, _ => []
  | n + 1, v => BitVec.ofNat 8 v :: leBytes n (v / 256)

/-- The value of bytes, least significant first (R5). -/
def leVal : List Byte → Nat
  | [] => 0
  | b :: t => b.toNat + 256 * leVal t

/-- `n` bytes at offset `o` of a byte string, as a little-endian value; missing bytes read as 0. -/
def leAt (l : List Byte) (o n : Nat) : Nat := leVal ((l.drop o).take n)

/-- A word as four bytes. -/
def wordBytes (w : Word) : List Byte := leBytes 4 w.toNat

/-- Words of a byte string, four bytes each. -/
def wordsOf : Nat → List Byte → List Word
  | 0, _ => []
  | n + 1, l => BitVec.ofNat 32 (leVal (l.take 4)) :: wordsOf n (l.drop 4)

/-- `n` zero bytes. -/
def zeros (n : Nat) : List Byte := List.replicate n 0

/-- Signed reading of the low `n` bits of a Nat (two's complement). -/
def sgn (n v : Nat) : Int :=
  let u := v % 2 ^ n
  if u < 2 ^ (n - 1) then (u : Int) else (u : Int) - (2 ^ n : Nat)

/-- Two's-complement encoding of an Int in `n` bits. -/
def unsgn (n : Nat) (v : Int) : Nat := (v % ((2 ^ n : Nat) : Int)).toNat

/-- `a` is later than `b`, modulo 2^64 (R294). -/
def laterThan (a b : Tick) : Bool :=
  let d := (a - b).toNat
  decide (1 ≤ d) && decide (d < 2 ^ 63)

/-- Hold an Int between two bounds. -/
def clampInt (lo hi v : Int) : Int := if v < lo then lo else if hi < v then hi else v

/-- Ceiling division. -/
def ceilDiv (a b : Nat) : Nat := (a + b - 1) / b

/-- Add with saturation. -/
def satAdd (top a b : Nat) : Nat := if top < a + b then top else a + b

/-- Rounding an exact quotient to nearest, ties away from zero in magnitude: (a + b / 2) / b for Nats. -/
def roundDiv (a b : Nat) : Nat := (2 * a + b) / (2 * b)

/-! ### CRC-32, IEEE 802.3 polynomial, reflected (R116) -/

/-- One bit step of the reflected CRC-32. -/
def crcBit (c : Word) : Word := if c.getLsbD 0 then (c >>> 1) ^^^ 0xEDB88320 else c >>> 1

/-- One byte step of CRC-32. -/
def crcByte (c : Word) (b : Byte) : Word :=
  let c0 := c ^^^ b.setWidth 32
  crcBit (crcBit (crcBit (crcBit (crcBit (crcBit (crcBit (crcBit c0)))))))

/-- CRC-32 of a byte string. -/
def crc32 (l : List Byte) : Word := ~~~ (l.foldl crcByte 0xFFFFFFFF)

/-! ### SHA-256 and HMAC-SHA-256, as their standards define them (R5, R125, R129) -/

/-- The 64 round constants of SHA-256. -/
def shaK : List Word := [
  0x428A2F98, 0x71374491, 0xB5C0FBCF, 0xE9B5DBA5, 0x3956C25B, 0x59F111F1, 0x923F82A4, 0xAB1C5ED5,
  0xD807AA98, 0x12835B01, 0x243185BE, 0x550C7DC3, 0x72BE5D74, 0x80DEB1FE, 0x9BDC06A7, 0xC19BF174,
  0xE49B69C1, 0xEFBE4786, 0x0FC19DC6, 0x240CA1CC, 0x2DE92C6F, 0x4A7484AA, 0x5CB0A9DC, 0x76F988DA,
  0x983E5152, 0xA831C66D, 0xB00327C8, 0xBF597FC7, 0xC6E00BF3, 0xD5A79147, 0x06CA6351, 0x14292967] ++ [
  0x27B70A85, 0x2E1B2138, 0x4D2C6DFC, 0x53380D13, 0x650A7354, 0x766A0ABB, 0x81C2C92E, 0x92722C85,
  0xA2BFE8A1, 0xA81A664B, 0xC24B8B70, 0xC76C51A3, 0xD192E819, 0xD6990624, 0xF40E3585, 0x106AA070,
  0x19A4C116, 0x1E376C08, 0x2748774C, 0x34B0BCB5, 0x391C0CB3, 0x4ED8AA4A, 0x5B9CCA4F, 0x682E6FF3,
  0x748F82EE, 0x78A5636F, 0x84C87814, 0x8CC70208, 0x90BEFFFA, 0xA4506CEB, 0xBEF9A3F7, 0xC67178F2]

/-- The eight working words of SHA-256. -/
structure Sha where
  a : Word
  b : Word
  c : Word
  d : Word
  e : Word
  f : Word
  g : Word
  h : Word
  deriving DecidableEq, Repr

/-- Initial hash value of SHA-256. -/
def shaInit : Sha :=
  ⟨0x6A09E667, 0xBB67AE85, 0x3C6EF372, 0xA54FF53A, 0x510E527F, 0x9B05688C, 0x1F83D9AB, 0x5BE0CD19⟩

/-- Rotate right. -/
def rotr (x : Word) (n : Nat) : Word := (x >>> n) ||| (x <<< (32 - n))

/-- One round. -/
def shaRound (s : Sha) (kw : Word) : Sha :=
  let s1 := rotr s.e 6 ^^^ rotr s.e 11 ^^^ rotr s.e 25
  let ch := (s.e &&& s.f) ^^^ (~~~ s.e &&& s.g)
  let t1 := s.h + s1 + ch + kw
  let s0 := rotr s.a 2 ^^^ rotr s.a 13 ^^^ rotr s.a 22
  let mj := (s.a &&& s.b) ^^^ (s.a &&& s.c) ^^^ (s.b &&& s.c)
  ⟨t1 + (s0 + mj), s.a, s.b, s.c, s.d + t1, s.e, s.f, s.g⟩

/-- Big-endian words of a block. -/
def beWords : Nat → List Byte → List Word
  | 0, _ => []
  | n + 1, l =>
    BitVec.ofNat 32 (leVal (l.take 4).reverse) :: beWords n (l.drop 4)

/-- Message schedule: run the rounds with a sliding window of 16 words. -/
def shaRounds : List Word → List Word → Sha → Sha
  | [], _, s => s
  | k :: ks, w, s =>
    let w0 := w.getD 0 0
    let w1 := w.getD 1 0
    let w9 := w.getD 9 0
    let w14 := w.getD 14 0
    let g0 := rotr w1 7 ^^^ rotr w1 18 ^^^ (w1 >>> 3)
    let g1 := rotr w14 17 ^^^ rotr w14 19 ^^^ (w14 >>> 10)
    shaRounds ks (w.drop 1 ++ [w0 + g0 + w9 + g1]) (shaRound s (k + w0))

/-- One 64-byte block. -/
def shaBlock (s : Sha) (blk : List Byte) : Sha :=
  let r := shaRounds shaK (beWords 16 blk) s
  ⟨s.a + r.a, s.b + r.b, s.c + r.c, s.d + r.d, s.e + r.e, s.f + r.f, s.g + r.g, s.h + r.h⟩

/-- Run `n` blocks. -/
def shaBlocks : Nat → List Byte → Sha → Sha
  | 0, _, s => s
  | n + 1, l, s => shaBlocks n (l.drop 64) (shaBlock s (l.take 64))

/-- Padding of a message of `n` bytes. -/
def shaPad (n : Nat) : List Byte :=
  (0x80 : Byte) :: (zeros ((119 - n % 64) % 64) ++ (leBytes 8 (8 * n)).reverse)

/-- SHA-256 of a byte string, as its 32-byte string (R5). -/
def sha256 (l : List Byte) : List Byte :=
  let m := l ++ shaPad l.length
  let s := shaBlocks (m.length / 64) m shaInit
  [s.a, s.b, s.c, s.d, s.e, s.f, s.g, s.h].flatMap (fun w => (wordBytes w).reverse)

/-- HMAC-SHA-256 with a key of at most 64 bytes (R125). -/
def hmac256 (key msg : List Byte) : List Byte :=
  let k := key ++ zeros (64 - key.length)
  sha256 (k.map (· ^^^ 0x5C) ++ sha256 (k.map (· ^^^ 0x36) ++ msg))

end Sys2Proof.Machine
end

