-- ==== Sys2Proof/Machine/Sparse.lean ====
section
/-! DEFINITION. Sparse maps: lists of (key, value) pairs with keys strictly rising and no entry equal to what an
unlisted key reads as. Registers, memories and per-unit tables of the block are held this way, so that equal
contents are equal data. -/

namespace Sys2Proof.Machine

/-- Read key `k`; an unlisted key reads as `d`. -/
def smGet {α : Type} (d : α) : List (Nat × α) → Nat → α
  | [], _ => d
  | (j, v) :: t, k => if j = k then v else smGet d t k

/-- Is key `k` listed? -/
def smHas {α : Type} (m : List (Nat × α)) (k : Nat) : Bool := m.any (fun e => decide (e.1 = k))

/-- Insert or replace the entry of key `k`, keeping keys rising. -/
def smPut {α : Type} : List (Nat × α) → Nat → α → List (Nat × α)
  | [], k, v => [(k, v)]
  | (j, w) :: t, k, v =>
    if k < j then (k, v) :: (j, w) :: t
    else if k = j then (k, v) :: t
    else (j, w) :: smPut t k v

/-- Remove the entry of key `k`. -/
def smDel {α : Type} (m : List (Nat × α)) (k : Nat) : List (Nat × α) := m.filter (fun e => decide (e.1 ≠ k))

/-- Write key `k`, whose unlisted reading is `d`: writing `d` removes the entry. -/
def smSet {α : Type} [DecidableEq α] (d : α) (m : List (Nat × α)) (k : Nat) (v : α) : List (Nat × α) :=
  if v = d then smDel m k else smPut m k v

/-- Keys strictly rising, all above `lo`. -/
def smSorted {α : Type} : Option Nat → List (Nat × α) → Bool
  | _, [] => true
  | none, (j, _) :: t => smSorted (some j) t
  | some i, (j, _) :: t => decide (i < j) && smSorted (some j) t

/-- The canonical form: keys strictly rising and no entry at its default. -/
def smWf {α : Type} [DecidableEq α] (d : Nat → α) (m : List (Nat × α)) : Bool :=
  smSorted none m && m.all (fun e => decide (e.2 ≠ d e.1))

end Sys2Proof.Machine
end

