-- ==== Sys2Proof/Machine/RegMap.lean ====
section
/-! DEFINITION. The register map of R89 and of the field tables of every chapter: for each register (or family of
registers) its addresses, its reset word and the bits of each access kind; and, under its own name
REGISTER.FIELD, the place of every named field. Bits in no mask are RO (R82 rule 5). -/

namespace Sys2Proof.Machine

/-- One row of the register map: the addresses base + i * s1 + j * s2 with i < n1 and j < n2, the reset word,
and the bits that are RW, RWS, W1C and WO. -/
structure RegRow where
  base : Nat
  n1 : Nat
  s1 : Nat
  n2 : Nat
  s2 : Nat
  rst : Nat
  rw : Nat
  rws : Nat
  w1c : Nat
  wo : Nat
  deriving DecidableEq, Repr

/-- The place of a field: register address, lowest bit, width. -/
structure RF where
  addr : Nat
  lo : Nat
  width : Nat
  deriving DecidableEq, Repr

/-- Does address `a` belong to this row? -/
def RegRow.hit (r : RegRow) (a : Nat) : Bool :=
  decide (r.base ≤ a) && decide ((a - r.base) / r.s1 < r.n1) &&
    decide (((a - r.base) % r.s1) / r.s2 < r.n2) && decide (((a - r.base) % r.s1) % r.s2 = 0)

/-- Base of engine `e`'s register block: masons are engines 0 to 127, pin engines 128 to 143 (R18, R89, R254). -/
def engBase (e : Nat) : Nat := if e < 128 then 0x100000 + 0x10000 * e else 0x3000000 + 0x10000 * (e - 128)

/-- Register map rows (Sys). -/
def regTableSys0 : List RegRow := [
  ⟨0, 1, 4, 1, 4, 0x6510, 0, 0, 0, 0⟩, -- SYS_ID, R91
  ⟨8, 2, 4, 1, 4, 0, 0, 0, 0, 0⟩, -- SYS_SERIAL, R90
  ⟨0x10, 1, 4, 1, 4, 0x10, 0, 0, 0, 0⟩, -- SYS_STATE, R92
  ⟨0x20, 1, 4, 1, 4, 0, 0, 0, 0, 0⟩, -- SYS_BOOT, R62
  ⟨0x24, 1, 4, 1, 4, 0x7FF, 0, 0, 0x7FF0800, 0⟩, -- SYS_SUPPLY, R63
  ⟨0x28, 1, 4, 1, 4, 0xD0FFFF, 0, 0, 0, 0⟩, -- SYS_DOMAIN, R51
  ⟨0x2C, 1, 4, 1, 4, 0x100000, 0x3F0000, 0, 0, 0⟩, -- SYS_DOMAIN_REQ, R52
  ⟨0x30, 1, 4, 1, 4, 0x2828, 0x3F0000, 0, 0, 0⟩, -- SYS_VID, R64
  ⟨0x34, 1, 4, 1, 4, 3, 0, 0, 0x300, 0⟩, -- SYS_CLK, R65
  ⟨0x100, 1, 4, 1, 4, 0x1E01, 0, 0xFF1F, 0, 0⟩, -- PIX_CFG, R164
  ⟨0x104, 1, 4, 1, 4, 0x22, 0, 0, 0, 0⟩, -- PIX_DRIVE_STAT, R165
  ⟨0x108, 1, 4, 1, 4, 0, 0, 0, 0x3F, 0⟩, -- PIX_STROBE_ERR, R157
  ⟨0x110, 1, 4, 1, 4, 0x28A00280, 0, 0xFFFF03FF, 0, 0⟩, -- PIX_BAND0, R166
  ⟨0x114, 1, 4, 1, 4, 0x78, 0, 0xFF, 0, 0⟩, -- PIX_BAND1, R166
  ⟨0x118, 1, 4, 1, 4, 0x148C0200, 0, 0xFFFF03FF, 0, 0⟩, -- PIX_BAND0, R166
  ⟨0x11C, 1, 4, 1, 4, 0x6E, 0, 0xFF, 0, 0⟩, -- PIX_BAND1, R166
  ⟨0x120, 1, 4, 1, 4, 0x780180, 0, 0xFFFF03FF, 0, 0⟩, -- PIX_BAND0, R166
  ⟨0x124, 1, 4, 1, 4, 0x64, 0, 0xFF, 0, 0⟩, -- PIX_BAND1, R166
  ⟨0x128, 1, 4, 1, 4, 0x780180, 0, 0xFFFF03FF, 0, 0⟩, -- PIX_BAND0, R166
  ⟨0x12C, 1, 4, 1, 4, 0x5A, 0, 0xFF, 0, 0⟩, -- PIX_BAND1, R166
  ⟨0x130, 1, 4, 1, 4, 0x640140, 0, 0xFFFF03FF, 0, 0⟩, -- PIX_BAND0, R166
  ⟨0x134, 1, 4, 1, 4, 0x50, 0, 0xFF, 0, 0⟩, -- PIX_BAND1, R166
  ⟨0x138, 1, 4, 1, 4, 0x500140, 0, 0xFFFF03FF, 0, 0⟩, -- PIX_BAND0, R166
  ⟨0x13C, 1, 4, 1, 4, 0x46, 0, 0xFF, 0, 0⟩  -- PIX_BAND1, R166
  ]

/-- Register map rows (Sys). -/
def regTableSys1 : List RegRow := [
  ⟨0x200, 1, 4, 1, 4, 0x10, 0x10, 0xF, 0, 0⟩, -- CNV_CFG, R198
  ⟨0x204, 1, 4, 1, 4, 0x2AF8, 0, 0x3FFF, 0, 0⟩, -- CNV_THRESH, R199
  ⟨0x208, 1, 4, 1, 4, 0x803E8, 0xFFFFF, 0, 0, 0⟩, -- CNV_BGCAL, R200
  ⟨0x20C, 1, 4, 1, 4, 0, 0, 0, 0x90000, 0⟩, -- CNV_STAT, R201
  ⟨0x300, 0x20, 4, 1, 4, 0x40, 0x1FFF, 0, 0, 0⟩, -- PE_PAD, R252
  ⟨0x400, 1, 4, 1, 4, 0, 0x203, 0x1FC, 0, 0⟩, -- FT_CFG, R282
  ⟨0x404, 1, 4, 1, 4, 0x1FCA055, 0, 0xFFFFFFFF, 0, 0⟩, -- FT_PERIOD, R283
  ⟨0x408, 1, 4, 1, 4, 0xFE502B, 0, 0xFFFFFFFF, 0, 0⟩, -- FT_EXPOSURE, R283
  ⟨0x40C, 1, 4, 1, 4, 0x810, 0, 0x7FFF, 0, 0⟩, -- FT_TERRACE, R284
  ⟨0x410, 1, 4, 1, 4, 0x17700, 0x3000000, 0xFFFFFF, 0, 0⟩, -- FT_TRIG, R285
  ⟨0x414, 1, 4, 1, 4, 1, 0, 0xFFFF, 0, 0⟩, -- FT_BURST, R285
  ⟨0x418, 1, 4, 1, 4, 0, 0xFF, 0, 0, 0⟩, -- FT_GENLOCK, R286
  ⟨0x41C, 1, 4, 1, 4, 0x1FCA055, 0xFFFFFFFF, 0, 0, 0⟩, -- FT_GL_REF, R286
  ⟨0x420, 1, 4, 1, 4, 0, 0xFFFFFFFF, 0, 0, 0⟩, -- FT_GL_OFFSET, R286
  ⟨0x428, 2, 4, 1, 4, 0, 0xFFFFFFFF, 0, 0, 0⟩, -- FT_START, R286
  ⟨0x430, 1, 4, 1, 4, 0, 0, 0, 0, 0⟩, -- FT_STAT, R287
  ⟨0x434, 1, 4, 1, 4, 0, 0, 0, 0xF, 0⟩, -- FT_ERR, R287
  ⟨0x438, 1, 4, 1, 4, 0xFFFFFFFF, 0, 0, 0, 0⟩, -- FT_FRAME_LAST, R288
  ⟨0x43C, 1, 4, 1, 4, 0, 0, 0, 0, 0⟩, -- FT_TRIG_CNT, R288
  ⟨0x440, 2, 4, 1, 4, 0xFFFFFFFF, 0, 0, 0, 0⟩, -- FT_NEXT, R288
  ⟨0x450, 5, 4, 1, 4, 0, 0, 0, 0, 0⟩, -- FT_PLAN, R289
  ⟨0x480, 4, 8, 1, 4, 0, 0, 0x8FFF0FFF, 0, 0⟩, -- FT_WIN0, R289
  ⟨0x484, 4, 8, 1, 4, 0, 0, 0x3FF03FF, 0, 0⟩, -- FT_WIN1, R289
  ⟨0x500, 0x20, 0x10, 1, 4, 0, 0, 0xFFFFFFFF, 0, 0⟩  -- FT_SUB0, R290
  ]

/-- Register map rows (Sys). -/
def regTableSys2 : List RegRow := [
  ⟨0x504, 0x20, 0x10, 1, 4, 0, 0, 0xFFFFFFFF, 0, 0⟩, -- FT_SUB1, R290
  ⟨0x508, 0x20, 0x10, 1, 4, 0, 0, 1, 0, 0⟩  -- FT_SUB2, R290
  ]

/-- Register map rows (Prf). -/
def regTablePrf : List RegRow := [
  ⟨0x10000, 1, 4, 1, 4, 0, 0, 0, 0, 0⟩, -- PRF_STATE, R123
  ⟨0x10004, 1, 4, 1, 4, 0, 0, 0, 0, 0⟩, -- LOG_HEAD, R134
  ⟨0x10008, 1, 4, 1, 4, 0, 0, 0, 0xE000, 0⟩, -- LOG_STAT, R134
  ⟨0x10020, 1, 4, 1, 4, 6, 0, 0, 0, 0⟩  -- FW_STATE, R138
  ]

/-- Register map rows (Mason). -/
def regTableMason : List RegRow := [
  ⟨0x100000, 0x80, 0x10000, 1, 4, 0x2004, 0xFF07, 0, 0, 0⟩, -- ENG_CTL, R246
  ⟨0x100004, 0x80, 0x10000, 1, 4, 0, 0, 0, 0, 0⟩, -- ENG_STAT, R247
  ⟨0x100008, 0x80, 0x10000, 1, 4, 0, 0, 0, 0x3F, 0⟩, -- ENG_ERR, R248
  ⟨0x10000C, 0x80, 0x10000, 1, 4, 0, 0, 0, 0, 0⟩, -- ENG_ERRINFO, R248
  ⟨0x100010, 0x80, 0x10000, 1, 4, 0, 0, 0, 0, 0⟩, -- ENG_QDROP, R249
  ⟨0x100014, 0x80, 0x10000, 1, 4, 0x30000000, 0, 0, 0, 0⟩, -- MSN_CLUSTER, R249
  ⟨0x100040, 0x80, 0x10000, 0xF, 4, 0, 0xFF, 0, 0, 0⟩, -- ENG_SYNC, R250
  ⟨0x10007C, 0x80, 0x10000, 1, 4, 0x40, 0xFF, 0, 0, 0⟩, -- ENG_SYNC, R250
  ⟨0x100080, 0x80, 0x10000, 0x40, 4, 0x4000, 0x3FFFFF, 0, 0, 0⟩, -- CH_CFG, R251
  ⟨0x100180, 0x80, 0x10000, 0x40, 4, 0x1400, 0, 0, 0, 0⟩, -- CH_STAT, R251
  ⟨0x100280, 0x80, 0x10000, 0x40, 4, 0, 0, 0, 0, 0xFFFFFFFF⟩, -- ENG_IN_POST, R251
  ⟨0x104000, 0x80, 0x10000, 0x400, 4, 0, 0, 0, 0, 0⟩, -- ENG_ACTIVE, R251
  ⟨0x108000, 0x80, 0x10000, 0x400, 4, 0, 0xFFFFFFFF, 0, 0, 0⟩, -- ENG_STAGING, R251
  ⟨0x10A000, 1, 0x10000, 0x400, 4, 0, 0, 0, 0, 0xFFFFFFFF⟩  -- ENG_BCAST, R251
  ]

/-- Register map rows (Region). -/
def regTableRegion : List RegRow := [
  ⟨0x1000100, 8, 0x100000, 1, 4, 0, 0, 0, 0, 0⟩, -- CNV_RSTAT, R202
  ⟨0x1000104, 8, 0x100000, 1, 4, 0, 0, 0, 0, 0⟩, -- CNV_RTIME, R202
  ⟨0x1000200, 8, 0x100000, 1, 4, 0x10, 0x1F, 0, 0, 0⟩, -- DSP_CFG, R253
  ⟨0x1000204, 8, 0x100000, 1, 4, 0, 0, 0, 0, 0⟩, -- DSP_STAT, R253
  ⟨0x1000300, 8, 0x100000, 1, 4, 0, 0, 0, 0, 0⟩, -- ING_STAT, R388
  ⟨0x1000304, 8, 0x100000, 1, 4, 0, 0, 0, 0, 0⟩  -- ING_PEAK, R388
  ]

/-- Register map rows (Ks). -/
def regTableKs : List RegRow := [
  ⟨0x2000000, 2, 4, 1, 4, 0, 0, 0, 0, 0⟩, -- KS_NOW, R312
  ⟨0x2000008, 1, 4, 1, 4, 0, 3, 0, 0, 0⟩, -- KS_CFG, R313
  ⟨0x200000C, 1, 4, 1, 4, 0, 0xFFFFFFFF, 0, 0, 0⟩, -- KS_TRIM, R313
  ⟨0x2000010, 1, 4, 1, 4, 0, 0, 0, 0, 0⟩, -- KS_TRIM_EFF, R313
  ⟨0x2000014, 1, 4, 1, 4, 0, 0, 0, 0, 0⟩, -- KS_SLEW, R313
  ⟨0x2000018, 1, 4, 1, 4, 1, 0, 0, 0x38, 0⟩, -- KS_STAT, R314
  ⟨0x2000020, 2, 4, 1, 4, 0, 0, 0, 0, 0⟩, -- KS_ARMED, R315
  ⟨0x2000028, 2, 4, 1, 4, 0, 0, 0, 0xFFFFFFFF, 0⟩, -- KS_LATE, R315
  ⟨0x2000100, 0x40, 0x20, 1, 4, 0, 0x3FFFFFDE, 0, 0, 0⟩, -- KS_CH_CTL, R316
  ⟨0x2000104, 0x40, 0x20, 1, 4, 0, 0xFFFFFFFF, 0, 0, 0⟩, -- KS_CH_CMP_LO, R317
  ⟨0x2000108, 0x40, 0x20, 1, 4, 0, 0xFFFFFFFF, 0, 0, 0⟩, -- KS_CH_CMP_HI, R317
  ⟨0x200010C, 0x40, 0x20, 1, 4, 1, 0xFFFFFFFF, 0, 0, 0⟩, -- KS_CH_PERIOD, R317
  ⟨0x2000110, 0x40, 0x20, 1, 4, 0, 0xFFFFFFFF, 0, 0, 0⟩, -- KS_CH_POST, R317
  ⟨0x2000114, 0x40, 0x20, 1, 4, 0, 0, 0, 0x10000, 0⟩, -- KS_CH_STAT, R317
  ⟨0x2000118, 0x40, 0x20, 1, 4, 0, 0, 0, 0, 0⟩, -- KS_CH_MATCH_LO, R317
  ⟨0x200011C, 0x40, 0x20, 1, 4, 0, 0, 0, 0, 0⟩  -- KS_CH_MATCH_HI, R317
  ]

/-- Register map rows (Mc). -/
def regTableMc : List RegRow := [
  ⟨0x2100000, 1, 4, 1, 4, 0xB18, 0x1FFF, 0, 0, 0⟩, -- MC_CFG, R348
  ⟨0x2100004, 1, 4, 1, 4, 0xFF, 0, 0, 0, 0⟩, -- MC_STAT, R349
  ⟨0x2100008, 1, 4, 1, 4, 0, 0, 0, 0, 0⟩, -- MC_SLOTS, R349
  ⟨0x210000C, 1, 4, 1, 4, 0, 0, 0, 0, 0⟩, -- MC_PLAN_USABLE, R350
  ⟨0x2100010, 1, 4, 1, 4, 0x8420, 0, 0, 0, 0⟩, -- MC_MAP, R350
  ⟨0x2100014, 1, 4, 1, 4, 0x10840, 0, 0, 0, 0⟩, -- MC_MAP, R350
  ⟨0x2100018, 1, 4, 1, 4, 0x21080, 0, 0, 0, 0⟩, -- MC_MAP, R350
  ⟨0x210001C, 1, 4, 1, 4, 0x42100, 0, 0, 0, 0⟩, -- MC_MAP, R350
  ⟨0x2100020, 1, 4, 1, 4, 0x84200, 0, 0, 0, 0⟩, -- MC_MAP, R350
  ⟨0x2100100, 1, 4, 1, 4, 0xFFFF0000, 0, 0, 0, 0⟩, -- MC_REG0, R351
  ⟨0x2100104, 1, 4, 1, 4, 0x2000, 0, 0, 0, 0⟩, -- MC_REG1, R351
  ⟨0x2100108, 1, 4, 1, 4, 0xFFFF0000, 0xFFFF0000, 0, 0, 0⟩, -- MC_REG0, R351
  ⟨0x210010C, 0xA, 8, 1, 4, 0x400, 0xFFFF, 0, 0, 0⟩, -- MC_REG1, R351
  ⟨0x2100110, 9, 8, 1, 4, 0xFFFF0000, 0xFFFFFFFF, 0, 0, 0⟩, -- MC_REG0, R351
  ⟨0x2101000, 8, 0x100, 1, 4, 0x200, 0, 0, 0, 0⟩, -- MC_CH_STAT, R352
  ⟨0x2101004, 8, 0x100, 1, 4, 0, 0, 0, 0, 0⟩, -- MC_CH_ECC, R353
  ⟨0x2101008, 8, 0x100, 1, 4, 0, 0, 0, 0, 0⟩, -- MC_CH_NBR, R353
  ⟨0x210100C, 8, 0x100, 1, 4, 0, 0, 0, 0, 0⟩, -- MC_CH_ERR_LO, R353
  ⟨0x2101010, 8, 0x100, 1, 4, 0, 0, 0, 0, 0⟩  -- MC_CH_ERR_HI, R353
  ]

/-- Register map rows (Lk). -/
def regTableLk : List RegRow := [
  ⟨0x2200000, 2, 0x1000, 1, 4, 0x3FF, 0x3FF, 0, 0, 0⟩, -- PT_CFG, R482
  ⟨0x2200004, 8, 0x1000, 1, 4, 0, 0, 0, 0, 0⟩, -- PT_STAT, R483
  ⟨0x2200008, 8, 0x1000, 1, 4, 0, 0, 0, 0x1FF, 0⟩, -- PT_ERR, R484
  ⟨0x220000C, 8, 0x1000, 1, 4, 0, 0, 0, 0, 0⟩, -- PT_COUNT, R484
  ⟨0x2200010, 8, 0x1000, 1, 4, 0, 0, 0, 0, 0⟩, -- PT_SEQ_TX, R485
  ⟨0x2200014, 8, 0x1000, 1, 4, 0, 0, 0, 0, 0⟩, -- PT_SEQ_RX, R485
  ⟨0x2200018, 8, 0x1000, 1, 4, 0, 0, 0, 0, 0⟩, -- PT_PARTNER, R485
  ⟨0x220001C, 8, 0x1000, 1, 4, 0, 0, 0, 0, 0⟩, -- PT_PARTNER_SN_LO, R485
  ⟨0x2200020, 8, 0x1000, 1, 4, 0, 0, 0, 0, 0⟩, -- PT_PARTNER_SN_HI, R485
  ⟨0x2202000, 6, 0x1000, 1, 4, 0x30F, 0x3FF, 0, 0, 0⟩, -- PT_CFG, R482
  ⟨0x2210000, 0x28, 0x100, 1, 4, 0, 6, 0, 0, 1⟩, -- LN_CTL, R486
  ⟨0x2210004, 0x28, 0x100, 1, 4, 0, 0, 0, 0, 0⟩, -- LN_STAT, R486
  ⟨0x2210008, 0x28, 0x100, 1, 4, 0, 0, 0, 0, 0⟩, -- LN_PRBS_ERR_LO, R487
  ⟨0x221000C, 0x28, 0x100, 1, 4, 0, 0, 0, 0, 0⟩, -- LN_PRBS_ERR_HI, R487
  ⟨0x2210010, 0x28, 0x100, 1, 4, 0, 0, 0, 0, 0⟩, -- LN_PRBS_BITS_LO, R487
  ⟨0x2210014, 0x28, 0x100, 1, 4, 0, 0, 0, 0, 0⟩  -- LN_PRBS_BITS_HI, R487
  ]

/-- Register map rows (Fb). -/
def regTableFb : List RegRow := [
  ⟨0x2300000, 1, 4, 1, 4, 0x8200000, 0xFFFFFF07, 0, 0, 0⟩, -- FB_CFG, R547
  ⟨0x2300004, 1, 4, 1, 4, 0x4C4B400, 0xFFFFFFFF, 0, 0, 0⟩, -- FB_LEAD, R547
  ⟨0x2300008, 1, 4, 1, 4, 0x10000, 0, 0, 0, 0⟩, -- FB_STAT, R548
  ⟨0x230000C, 1, 4, 1, 4, 0, 0, 0, 0, 0⟩, -- FB_GEN, R549
  ⟨0x2300010, 1, 4, 1, 4, 0, 0, 0, 0, 0⟩, -- FB_ID, R549
  ⟨0x2300014, 1, 4, 1, 4, 0, 0, 0, 0, 0⟩, -- FB_ROOT_SN_LO, R549
  ⟨0x2300018, 1, 4, 1, 4, 0, 0, 0, 0, 0⟩, -- FB_ROOT_SN_HI, R549
  ⟨0x230001C, 1, 4, 1, 4, 0, 0, 0, 0, 0⟩, -- FB_POS, R549
  ⟨0x2300020, 1, 4, 1, 4, 0, 0, 0, 0, 0⟩, -- FB_TIME_OFS, R549
  ⟨0x2300024, 1, 4, 1, 4, 0, 0, 0, 0, 0⟩, -- FB_TIME_DLY, R549
  ⟨0x2300044, 4, 4, 1, 4, 0, 0, 0, 0, 0⟩, -- FB_PASS, R550
  ⟨0x2300400, 0x100, 4, 1, 4, 0x3F, 0, 0, 0, 0⟩  -- FB_ROUTE, R551
  ]

/-- Register map rows (Mon). -/
def regTableMon0 : List RegRow := [
  ⟨0x2400000, 1, 4, 1, 4, 0, 0, 1, 0, 0⟩, -- MON_CFG, R419
  ⟨0x2400004, 1, 4, 1, 4, 0, 0, 0, 0, 0⟩, -- MON_STAT, R419
  ⟨0x2400008, 1, 4, 1, 4, 0, 0, 0, 0, 0⟩, -- MON_PLAN, R419
  ⟨0x2400100, 4, 0x100, 1, 4, 0x108, 0, 0x3FFFFFF, 0, 0⟩, -- MON_CTX_CFG, R420
  ⟨0x2400104, 4, 0x100, 1, 4, 0, 0, 0xFF, 0, 0⟩, -- MON_CTX_NODE, R421
  ⟨0x2400108, 4, 0x100, 1, 4, 0x8FF0000, 0, 0xFFF0FFF, 0, 0⟩, -- MON_CTX_CROP0, R421
  ⟨0x240010C, 4, 0x100, 1, 4, 0x3FF0000, 0, 0x3FF03FF, 0, 0⟩, -- MON_CTX_CROP1, R421
  ⟨0x2400110, 4, 0x100, 1, 4, 0x71C1000, 0, 0x3FFF3FFF, 0, 0⟩, -- MON_CTX_OUT, R421
  ⟨0x2400114, 4, 0x100, 1, 4, 0x10004, 0, 0xFFFFFF, 0, 0⟩, -- MON_CTX_NR, R421
  ⟨0x2400118, 4, 0x100, 1, 4, 0, 0, 0xFFFF, 0, 0⟩, -- MON_CTX_BLACK, R421
  ⟨0x240011C, 4, 0x100, 1, 4, 0x10001000, 0, 0xFFFFFFFF, 0, 0⟩, -- MON_CTX_WB0, R421
  ⟨0x2400120, 4, 0x100, 1, 4, 0x10001000, 0, 0xFFFFFFFF, 0, 0⟩, -- MON_CTX_WB1, R421
  ⟨0x2400124, 4, 0x100, 1, 4, 0x1000, 0, 0xFFFFFFFF, 0, 0⟩, -- MON_CTX_CM, R421
  ⟨0x2400128, 4, 0x100, 1, 4, 0, 0, 0xFFFFFFFF, 0, 0⟩, -- MON_CTX_CM, R421
  ⟨0x240012C, 4, 0x100, 1, 4, 0x1000, 0, 0xFFFFFFFF, 0, 0⟩, -- MON_CTX_CM, R421
  ⟨0x2400130, 4, 0x100, 1, 4, 0, 0, 0xFFFFFFFF, 0, 0⟩, -- MON_CTX_CM, R421
  ⟨0x2400134, 4, 0x100, 1, 4, 0x1000, 0, 0xFFFF, 0, 0⟩, -- MON_CTX_CM, R421
  ⟨0x2400138, 4, 0x100, 1, 4, 0xAF004, 0, 0xFFF7F, 0, 0⟩, -- MON_CTX_OVL, R421
  ⟨0x2400140, 4, 0x100, 4, 8, 0, 0, 0xFFFF3FFF, 0, 0⟩, -- MON_CTX_LINE0, R421
  ⟨0x2400144, 4, 0x100, 4, 8, 0, 0, 0x3FFF3FFF, 0, 0⟩, -- MON_CTX_LINE1, R421
  ⟨0x2400180, 4, 0x100, 0x10, 4, 0, 0, 0x3FFFFFFF, 0, 0⟩, -- MON_CTX_FC, R421
  ⟨0x24001C0, 4, 0x100, 1, 4, 0, 0, 0, 0, 0⟩, -- MON_CTX_STAT, R421
  ⟨0x24001C4, 4, 0x100, 1, 4, 0xFFFFFFFF, 0, 0, 0, 0⟩, -- MON_CTX_LAST, R421
  ⟨0x24001C8, 4, 0x100, 1, 4, 0, 0, 0, 0, 0⟩  -- MON_CTX_FLAGS, R421
  ]

/-- Register map rows (Mon). -/
def regTableMon1 : List RegRow := [
  ⟨0x2410000, 8, 0x1000, 0x400, 4, 0, 0x3FF, 0, 0, 0⟩  -- MON_TONE, R422
  ]

/-- Register map rows (Stat). -/
def regTableStat : List RegRow := [
  ⟨0x2420000, 1, 4, 1, 4, 1, 0, 3, 0, 0⟩, -- STAT_CFG, R445
  ⟨0x2420004, 1, 4, 1, 4, 0, 0, 0, 6, 0⟩, -- STAT_STAT, R445
  ⟨0x2420008, 1, 4, 1, 4, 0xFFFFFFFF, 0, 0, 0, 0⟩, -- STAT_LAST, R445
  ⟨0x2420040, 1, 4, 1, 4, 0x10000010, 0xFFFF0FFF, 0, 0, 0⟩, -- AE_CFG, R446
  ⟨0x2420044, 1, 4, 1, 4, 0x320, 0xFFFFFFFF, 0, 0, 0⟩, -- AE_MIN, R446
  ⟨0x2420048, 1, 4, 1, 4, 0xFFFFFFFF, 0xFFFFFFFF, 0, 0, 0⟩, -- AE_MAX, R446
  ⟨0x242004C, 1, 4, 1, 4, 0xFFFF, 0, 0, 0, 0⟩, -- AE_STAT, R446
  ⟨0x2420050, 1, 4, 1, 4, 0xFFFFFFFF, 0, 0, 0, 0⟩, -- AE_FRAME, R446
  ⟨0x2420060, 1, 4, 1, 4, 8, 0x7FF, 0, 0, 0⟩, -- AWB_CFG, R447
  ⟨0x2420064, 1, 4, 1, 4, 0xC0000100, 0xFFFFFFFF, 0, 0, 0⟩, -- AWB_RANGE, R447
  ⟨0x2420068, 1, 4, 1, 4, 0, 0, 0, 0, 0⟩, -- AWB_STAT, R447
  ⟨0x2420080, 1, 4, 1, 4, 0, 0, 0, 0, 0⟩  -- POL_LAST, R448
  ]

/-- Register map rows (Rec). -/
def regTableRec : List RegRow := [
  ⟨0x2500000, 1, 4, 1, 4, 0x8C2, 0xFF00, 0xFF, 0, 0⟩, -- REC_CFG, R383
  ⟨0x2500004, 1, 4, 1, 4, 0x400, 0, 0x3FFF, 0, 0⟩, -- REC_BLACK, R384
  ⟨0x2500008, 1, 4, 1, 4, 0x40, 0, 0x3FFF, 0, 0⟩, -- REC_TNR, R384
  ⟨0x250000C, 1, 4, 1, 4, 0xFFFF0000, 0xFFFF0000, 0, 0, 0⟩, -- REC_DEPTH, R385
  ⟨0x2500010, 1, 4, 1, 4, 0, 0, 0, 0, 0⟩, -- REC_FILL, R385
  ⟨0x2500014, 1, 4, 1, 4, 0, 0, 0, 0xFF, 0⟩, -- REC_STAT, R386
  ⟨0x2500018, 1, 4, 1, 4, 0xFFFFFFFF, 0, 0, 0, 0⟩, -- REC_LAST, R387
  ⟨0x250001C, 1, 4, 1, 4, 0, 0, 0, 0, 0⟩, -- REC_DRAIN, R387
  ⟨0x2500020, 1, 4, 1, 4, 0x640102, 0xFF01FF, 0, 0, 0⟩, -- REC_TC, R387
  ⟨0x2500100, 1, 4, 1, 4, 8, 0x1F, 0, 0, 0⟩, -- TK_CFG, R515
  ⟨0x2500104, 1, 4, 1, 4, 0, 0, 0, 0x10000000, 0⟩, -- TK_STAT, R516
  ⟨0x2500108, 1, 4, 1, 4, 0, 0, 0, 0, 0⟩, -- TK_FIRST, R516
  ⟨0x250010C, 1, 4, 1, 4, 1, 0, 0, 0, 0⟩, -- TK_NEXT, R516
  ⟨0x2500140, 2, 0x20, 1, 4, 0, 0, 0, 0, 0⟩, -- MG_STAT, R517
  ⟨0x2500144, 2, 0x20, 1, 4, 0, 0, 0, 0, 0⟩, -- MG_FREE_LO, R517
  ⟨0x2500148, 2, 0x20, 1, 4, 0, 0, 0, 0, 0⟩, -- MG_FREE_HI, R517
  ⟨0x250014C, 2, 0x20, 1, 4, 0, 0, 0, 0, 0⟩, -- MG_M_LO, R517
  ⟨0x2500150, 2, 0x20, 1, 4, 0, 0, 0, 0, 0⟩, -- MG_M_HI, R517
  ⟨0x2500154, 2, 0x20, 1, 4, 0, 0, 0, 0, 0⟩  -- MG_ERR, R517
  ]

/-- Register map rows (Th). -/
def regTableTh : List RegRow := [
  ⟨0x2600000, 1, 4, 1, 4, 0xC04, 0xFFFF, 0, 0, 0⟩, -- TH_CFG, R579
  ⟨0x2600004, 1, 4, 1, 4, 2, 0, 0, 0, 0⟩, -- TH_STAT, R579
  ⟨0x2600008, 1, 4, 1, 4, 0x8683807D, 0xFFFFFFFF, 0, 0, 0⟩, -- TH_SHED, R580
  ⟨0x260000C, 1, 4, 1, 4, 0x1455D028, 0x7FFFFFFF, 0, 0, 0⟩, -- TH_TEC, R580
  ⟨0x2600010, 1, 4, 1, 4, 0, 0, 0, 0, 0⟩, -- TH_COOL_STAT, R581
  ⟨0x2600014, 1, 4, 1, 4, 0x51405DC, 0xFFF0FFF, 0, 0, 0⟩, -- TH_VID_TGT, R581
  ⟨0x2600018, 1, 4, 1, 4, 0, 0, 0, 0, 0⟩, -- TH_RISE, R581
  ⟨0x2600100, 8, 8, 1, 4, 0x102, 0, 0, 0, 0⟩, -- TH_REGION, R582
  ⟨0x2600104, 8, 8, 1, 4, 0, 0, 0, 0, 0⟩, -- TH_RPWR, R582
  ⟨0x2600200, 4, 8, 1, 4, 0xD6B5500, 0xFFFFFF03, 0, 0, 0⟩, -- TH_TD0, R583
  ⟨0x2600204, 4, 8, 1, 4, 0, 0, 0, 0, 0⟩, -- TH_TD1, R583
  ⟨0x2600400, 1, 4, 1, 4, 0x3480000, 0, 0, 0, 0⟩, -- AG_STAT, R584
  ⟨0x2600404, 1, 4, 1, 4, 0, 0, 0, 0, 0⟩, -- AG_HOURS, R584
  ⟨0x2600410, 6, 4, 1, 4, 0, 0, 0, 0, 0⟩, -- AG_ADV, R584
  ⟨0x2600440, 8, 4, 1, 4, 0, 0, 0, 0, 0⟩  -- AG_REGION, R584
  ]

/-- Register map rows (Rsv). -/
def regTableRsv : List RegRow := [
  ⟨0x2700000, 1, 4, 1, 4, 0x4A1E0000, 0x7F7FFFFF, 0, 0, 0⟩, -- RSV_CFG, R602
  ⟨0x2700004, 1, 4, 1, 4, 0x7369, 0xFFFF, 0, 0, 0⟩, -- RSV_VIN_CFG, R602
  ⟨0x2700008, 1, 4, 1, 4, 0x80, 0, 0, 0x1800, 0⟩, -- RSV_STAT, R603
  ⟨0x270000C, 1, 4, 1, 4, 0, 0, 0, 0, 0⟩, -- RSV_CELL, R604
  ⟨0x2700010, 1, 4, 1, 4, 0, 0, 0, 0, 0⟩, -- RSV_VIN, R604
  ⟨0x2700014, 1, 4, 1, 4, 0, 0, 0, 0, 0⟩  -- RSV_ENERGY, R604
  ]

/-- Register map rows (Evt). -/
def regTableEvt : List RegRow := [
  ⟨0x2800000, 0x20, 4, 1, 4, 0, 0, 0, 0xFFFFFFFF, 0⟩, -- EVT_STATUS, R612
  ⟨0x2800080, 0x20, 4, 1, 4, 0, 0, 0, 0, 0⟩, -- EVT_LIVE, R612
  ⟨0x2800100, 0x20, 4, 1, 4, 0, 0xFFFFFFFF, 0, 0, 0⟩, -- EVT_MASK, R612
  ⟨0x2800180, 1, 4, 1, 4, 0, 0, 0, 0, 0⟩, -- EVT_PENDING, R613
  ⟨0x2800200, 1, 4, 1, 4, 0, 0, 0, 0, 0⟩, -- FLT_STAT, R620
  ⟨0x2800204, 1, 4, 1, 4, 0, 0, 0, 0, 0⟩, -- FLT_INTR, R620
  ⟨0x2800210, 1, 4, 1, 4, 0x14, 0x3FF, 0, 0, 0⟩, -- WDG_CFG, R620
  ⟨0x2800214, 1, 4, 1, 4, 0, 0, 0, 0x100, 0⟩, -- WDG_STAT, R620
  ⟨0x2800220, 1, 4, 1, 4, 0, 0, 0, 0, 0⟩  -- ST_STAT, R627
  ]

/-- Register map rows (Tw). -/
def regTableTw : List RegRow := [
  ⟨0x2900000, 1, 4, 1, 4, 0, 0xFFFFFFF, 0, 0, 0⟩, -- TW_CFG, R99
  ⟨0x2900004, 1, 4, 1, 4, 0, 0, 0, 0x3FF, 0⟩  -- TW_ERR, R110
  ]

/-- Register map rows (Pin). -/
def regTablePin : List RegRow := [
  ⟨0x3000000, 0x10, 0x10000, 1, 4, 0x2000, 0xFF07, 0, 0, 0⟩, -- ENG_CTL, R246
  ⟨0x3000004, 0x10, 0x10000, 1, 4, 0, 0, 0, 0, 0⟩, -- ENG_STAT, R247
  ⟨0x3000008, 0x10, 0x10000, 1, 4, 0, 0, 0, 0x3F, 0⟩, -- ENG_ERR, R248
  ⟨0x300000C, 0x10, 0x10000, 1, 4, 0, 0, 0, 0, 0⟩, -- ENG_ERRINFO, R248
  ⟨0x3000010, 0x10, 0x10000, 1, 4, 0, 0, 0, 0, 0⟩, -- ENG_QDROP, R249
  ⟨0x3000040, 0x10, 0x10000, 0x10, 4, 0, 0xFF, 0, 0, 0⟩, -- ENG_SYNC, R250
  ⟨0x3000080, 0x10, 0x10000, 0x10, 4, 0, 0x3FFFFF, 0, 0, 0⟩, -- CH_CFG, R251
  ⟨0x3000180, 0x10, 0x10000, 0x10, 4, 0x1400, 0, 0, 0, 0⟩, -- CH_STAT, R251
  ⟨0x3000280, 0x10, 0x10000, 0x10, 4, 0, 0, 0, 0, 0xFFFFFFFF⟩, -- ENG_IN_POST, R251
  ⟨0x3004000, 0x10, 0x10000, 0x400, 4, 0, 0, 0, 0, 0⟩, -- ENG_ACTIVE, R251
  ⟨0x3008000, 0x10, 0x10000, 0x400, 4, 0, 0xFFFFFFFF, 0, 0, 0⟩  -- ENG_STAGING, R251
  ]

/-- The rows of the part of the map that holds address `a` (R89). -/
def regTableAt (a : Nat) : List RegRow :=
  if a < 0x10000 then regTableSys0 ++ regTableSys1 ++ regTableSys2
  else if a < 0x100000 then regTablePrf
  else if a < 0x1000000 then regTableMason
  else if a < 0x2000000 then regTableRegion
  else if a < 0x2100000 then regTableKs
  else if a < 0x2200000 then regTableMc
  else if a < 0x2300000 then regTableLk
  else if a < 0x2400000 then regTableFb
  else if a < 0x2420000 then regTableMon0 ++ regTableMon1
  else if a < 0x2500000 then regTableStat
  else if a < 0x2600000 then regTableRec
  else if a < 0x2700000 then regTableTh
  else if a < 0x2800000 then regTableRsv
  else if a < 0x2900000 then regTableEvt
  else if a < 0x3000000 then regTableTw
  else regTablePin

/-- The row of an assigned register address. -/
def regRow? (a : Nat) : Option RegRow := (regTableAt a).find? (fun r => r.hit a)

/-- The reset word of the register at `a`; an unassigned address reads as zero (R82 rule 4). The silicon revision of SYS_ID
and the serial number are fixed per part (R90, R91). -/
def regReset (a : Nat) : BitVec 32 :=
  if a = 0 then (Config.siliconRev ++ 0x6510#16).setWidth 32
  else if a = 8 then Config.serial.setWidth 32
  else if a = 12 then (Config.serial >>> 32).setWidth 32
  else
    match regRow? a with
    | some r => BitVec.ofNat 32 r.rst
    | none => 0

/-- SYS_DOMAIN (R51). -/
def SYS_DOMAIN.addr : Nat := 0x28
def SYS_DOMAIN.RL_ON : RF := ⟨SYS_DOMAIN.addr, 0, 8⟩
def SYS_DOMAIN.RC_ON : RF := ⟨SYS_DOMAIN.addr, 8, 8⟩
def SYS_DOMAIN.DV_ON : RF := ⟨SYS_DOMAIN.addr, 16, 1⟩
def SYS_DOMAIN.MA_ON : RF := ⟨SYS_DOMAIN.addr, 17, 1⟩
def SYS_DOMAIN.MB_ON : RF := ⟨SYS_DOMAIN.addr, 18, 1⟩
def SYS_DOMAIN.MN_ON : RF := ⟨SYS_DOMAIN.addr, 19, 1⟩
def SYS_DOMAIN.HP_ON : RF := ⟨SYS_DOMAIN.addr, 20, 1⟩
def SYS_DOMAIN.FX_ON : RF := ⟨SYS_DOMAIN.addr, 21, 1⟩
def SYS_DOMAIN.CT_ON : RF := ⟨SYS_DOMAIN.addr, 22, 1⟩
def SYS_DOMAIN.AON_ON : RF := ⟨SYS_DOMAIN.addr, 23, 1⟩

/-- SYS_DOMAIN_REQ (R52). -/
def SYS_DOMAIN_REQ.addr : Nat := 0x2C
def SYS_DOMAIN_REQ.DV_EN : RF := ⟨SYS_DOMAIN_REQ.addr, 16, 1⟩
def SYS_DOMAIN_REQ.MA_EN : RF := ⟨SYS_DOMAIN_REQ.addr, 17, 1⟩
def SYS_DOMAIN_REQ.MB_EN : RF := ⟨SYS_DOMAIN_REQ.addr, 18, 1⟩
def SYS_DOMAIN_REQ.MN_EN : RF := ⟨SYS_DOMAIN_REQ.addr, 19, 1⟩
def SYS_DOMAIN_REQ.HP_EN : RF := ⟨SYS_DOMAIN_REQ.addr, 20, 1⟩
def SYS_DOMAIN_REQ.FX_EN : RF := ⟨SYS_DOMAIN_REQ.addr, 21, 1⟩

/-- SYS_BOOT (R62). -/
def SYS_BOOT.addr : Nat := 0x20
def SYS_BOOT.STAGE : RF := ⟨SYS_BOOT.addr, 0, 4⟩
def SYS_BOOT.FAIL_STAGE : RF := ⟨SYS_BOOT.addr, 4, 4⟩
def SYS_BOOT.IMAGE : RF := ⟨SYS_BOOT.addr, 8, 1⟩
def SYS_BOOT.PROFILE_FALLBACK : RF := ⟨SYS_BOOT.addr, 9, 1⟩
def SYS_BOOT.DEFAULTS : RF := ⟨SYS_BOOT.addr, 10, 1⟩
def SYS_BOOT.PRF : RF := ⟨SYS_BOOT.addr, 11, 3⟩
def SYS_BOOT.ROOT_PIN : RF := ⟨SYS_BOOT.addr, 14, 1⟩
def SYS_BOOT.ADDR_IN_BOOT : RF := ⟨SYS_BOOT.addr, 15, 1⟩
def SYS_BOOT.DRAM_RETIRED : RF := ⟨SYS_BOOT.addr, 16, 8⟩
def SYS_BOOT.DRAM_RETRIED : RF := ⟨SYS_BOOT.addr, 24, 8⟩

/-- SYS_SUPPLY (R63). -/
def SYS_SUPPLY.addr : Nat := 0x24
def SYS_SUPPLY.OK : RF := ⟨SYS_SUPPLY.addr, 0, 11⟩
def SYS_SUPPLY.SEQ_ERR : RF := ⟨SYS_SUPPLY.addr, 11, 1⟩
def SYS_SUPPLY.FAULT : RF := ⟨SYS_SUPPLY.addr, 16, 11⟩

/-- SYS_VID (R64). -/
def SYS_VID.addr : Nat := 0x30
def SYS_VID.CODE : RF := ⟨SYS_VID.addr, 0, 6⟩
def SYS_VID.FLOOR : RF := ⟨SYS_VID.addr, 8, 6⟩
def SYS_VID.MIN_CODE : RF := ⟨SYS_VID.addr, 16, 6⟩

/-- SYS_CLK (R65). -/
def SYS_CLK.addr : Nat := 0x34
def SYS_CLK.TREF_OK : RF := ⟨SYS_CLK.addr, 0, 1⟩
def SYS_CLK.LREF_OK : RF := ⟨SYS_CLK.addr, 1, 1⟩
def SYS_CLK.TREF_LOST : RF := ⟨SYS_CLK.addr, 8, 1⟩
def SYS_CLK.LREF_LOST : RF := ⟨SYS_CLK.addr, 9, 1⟩

/-- SYS_ID (R91). -/
def SYS_ID.addr : Nat := 0
def SYS_ID.PART : RF := ⟨SYS_ID.addr, 0, 16⟩
def SYS_ID.SILICON_REV : RF := ⟨SYS_ID.addr, 16, 8⟩

/-- SYS_STATE (R92). -/
def SYS_STATE.addr : Nat := 0x10
def SYS_STATE.CAPTURE_EN : RF := ⟨SYS_STATE.addr, 0, 1⟩
def SYS_STATE.SCHEDULE : RF := ⟨SYS_STATE.addr, 1, 1⟩
def SYS_STATE.TAKE_OPEN : RF := ⟨SYS_STATE.addr, 2, 1⟩
def SYS_STATE.BAND : RF := ⟨SYS_STATE.addr, 3, 3⟩
def SYS_STATE.SHEDDING : RF := ⟨SYS_STATE.addr, 6, 1⟩
def SYS_STATE.ROOT : RF := ⟨SYS_STATE.addr, 7, 1⟩
def SYS_STATE.NODE : RF := ⟨SYS_STATE.addr, 8, 8⟩

/-- TW_CFG (R99). -/
def TW_CFG.addr : Nat := 0x2900000
def TW_CFG.IND_ADDR : RF := ⟨TW_CFG.addr, 0, 7⟩
def TW_CFG.IND_VALID : RF := ⟨TW_CFG.addr, 7, 1⟩
def TW_CFG.GROUP_ADDR : RF := ⟨TW_CFG.addr, 8, 7⟩
def TW_CFG.GROUP_EN : RF := ⟨TW_CFG.addr, 15, 1⟩
def TW_CFG.MASK : RF := ⟨TW_CFG.addr, 16, 7⟩
def TW_CFG.MASK_EN : RF := ⟨TW_CFG.addr, 23, 1⟩
def TW_CFG.ROLE : RF := ⟨TW_CFG.addr, 24, 2⟩
def TW_CFG.CTL_SPEED : RF := ⟨TW_CFG.addr, 26, 2⟩
def TW_CFG.ADDR_OUT : RF := ⟨TW_CFG.addr, 28, 1⟩

/-- TW_ERR (R110). -/
def TW_ERR.addr : Nat := 0x2900004
def TW_ERR.PARTIAL_BYTE : RF := ⟨TW_ERR.addr, 0, 1⟩
def TW_ERR.ARB_LOST : RF := ⟨TW_ERR.addr, 1, 1⟩
def TW_ERR.ARB_STOP_ERR : RF := ⟨TW_ERR.addr, 2, 1⟩
def TW_ERR.BUS_CLEAR : RF := ⟨TW_ERR.addr, 3, 1⟩
def TW_ERR.BUS_STUCK : RF := ⟨TW_ERR.addr, 4, 1⟩
def TW_ERR.MBX_OVERRUN : RF := ⟨TW_ERR.addr, 5, 1⟩
def TW_ERR.WINDOW_DENIED : RF := ⟨TW_ERR.addr, 6, 1⟩
def TW_ERR.WINDOW_PARTIAL : RF := ⟨TW_ERR.addr, 7, 1⟩
def TW_ERR.BAD_ADDR : RF := ⟨TW_ERR.addr, 8, 1⟩
def TW_ERR.WINDOW_TIMEOUT : RF := ⟨TW_ERR.addr, 9, 1⟩

/-- PRF_STATE (R123). -/
def PRF_STATE.addr : Nat := 0x10000
def PRF_STATE.ACTIVE : RF := ⟨PRF_STATE.addr, 0, 3⟩
def PRF_STATE.PENDING : RF := ⟨PRF_STATE.addr, 3, 1⟩
def PRF_STATE.PENDING_NUM : RF := ⟨PRF_STATE.addr, 4, 3⟩
def PRF_STATE.DEFAULTS : RF := ⟨PRF_STATE.addr, 7, 1⟩
def PRF_STATE.VALID : RF := ⟨PRF_STATE.addr, 8, 8⟩

/-- LOG_HEAD (R134). -/
def LOG_HEAD.addr : Nat := 0x10004
def LOG_HEAD.SEQ : RF := ⟨LOG_HEAD.addr, 0, 32⟩

/-- LOG_STAT (R134). -/
def LOG_STAT.addr : Nat := 0x10008
def LOG_STAT.QUEUED : RF := ⟨LOG_STAT.addr, 0, 13⟩
def LOG_STAT.TORN : RF := ⟨LOG_STAT.addr, 13, 1⟩
def LOG_STAT.GAP : RF := ⟨LOG_STAT.addr, 14, 1⟩
def LOG_STAT.CHAIN_ERR : RF := ⟨LOG_STAT.addr, 15, 1⟩

/-- FW_STATE (R138). -/
def FW_STATE.addr : Nat := 0x10020
def FW_STATE.PREFERRED : RF := ⟨FW_STATE.addr, 0, 1⟩
def FW_STATE.VALID0 : RF := ⟨FW_STATE.addr, 1, 1⟩
def FW_STATE.VALID1 : RF := ⟨FW_STATE.addr, 2, 1⟩
def FW_STATE.UPDATING : RF := ⟨FW_STATE.addr, 3, 1⟩
def FW_STATE.ROLLBACK : RF := ⟨FW_STATE.addr, 16, 16⟩

/-- PIX_STROBE_ERR (R157). -/
def PIX_STROBE_ERR.addr : Nat := 0x108
def PIX_STROBE_ERR.GAP_SHORT : RF := ⟨PIX_STROBE_ERR.addr, 0, 1⟩
def PIX_STROBE_ERR.SUB_SHORT : RF := ⟨PIX_STROBE_ERR.addr, 1, 1⟩
def PIX_STROBE_ERR.TX_SHORT : RF := ⟨PIX_STROBE_ERR.addr, 2, 1⟩
def PIX_STROBE_ERR.GTX_COLLIDE : RF := ⟨PIX_STROBE_ERR.addr, 3, 1⟩
def PIX_STROBE_ERR.GTX_IDLE : RF := ⟨PIX_STROBE_ERR.addr, 4, 1⟩
def PIX_STROBE_ERR.GRST_REPEAT : RF := ⟨PIX_STROBE_ERR.addr, 5, 1⟩

/-- PIX_CFG (R164). -/
def PIX_CFG.addr : Nat := 0x100
def PIX_CFG.SUN_PROT : RF := ⟨PIX_CFG.addr, 0, 1⟩
def PIX_CFG.FORCE_EN : RF := ⟨PIX_CFG.addr, 1, 1⟩
def PIX_CFG.FORCE_SET : RF := ⟨PIX_CFG.addr, 2, 3⟩
def PIX_CFG.SUN_THRESH : RF := ⟨PIX_CFG.addr, 8, 8⟩

/-- PIX_DRIVE_STAT (R165). -/
def PIX_DRIVE_STAT.addr : Nat := 0x104
def PIX_DRIVE_STAT.SET : RF := ⟨PIX_DRIVE_STAT.addr, 0, 3⟩
def PIX_DRIVE_STAT.FORCED : RF := ⟨PIX_DRIVE_STAT.addr, 3, 1⟩
def PIX_DRIVE_STAT.BAND_AT_FCP : RF := ⟨PIX_DRIVE_STAT.addr, 4, 3⟩
def PIX_DRIVE_STAT.FIRST_FRAME : RF := ⟨PIX_DRIVE_STAT.addr, 8, 24⟩

/-- PIX_BAND0 (R166). -/
def PIX_BAND0.addr (b : Nat) : Nat := 0x110 + 8 * b
def PIX_BAND0.TTX (b : Nat) : RF := ⟨PIX_BAND0.addr b, 0, 10⟩
def PIX_BAND0.TX_HIGH (b : Nat) : RF := ⟨PIX_BAND0.addr b, 16, 8⟩
def PIX_BAND0.TX_LOW (b : Nat) : RF := ⟨PIX_BAND0.addr b, 24, 8⟩

/-- PIX_BAND1 (R166). -/
def PIX_BAND1.addr (b : Nat) : Nat := 0x114 + 8 * b
def PIX_BAND1.AB_EXP (b : Nat) : RF := ⟨PIX_BAND1.addr b, 0, 8⟩

/-- CNV_CFG (R198). -/
def CNV_CFG.addr : Nat := 0x200
def CNV_CFG.GAIN_MODE : RF := ⟨CNV_CFG.addr, 0, 2⟩
def CNV_CFG.BIN : RF := ⟨CNV_CFG.addr, 2, 2⟩
def CNV_CFG.BGCAL_EN : RF := ⟨CNV_CFG.addr, 4, 1⟩

/-- CNV_THRESH (R199). -/
def CNV_THRESH.addr : Nat := 0x204
def CNV_THRESH.LEVEL : RF := ⟨CNV_THRESH.addr, 0, 14⟩

/-- CNV_BGCAL (R200). -/
def CNV_BGCAL.addr : Nat := 0x208
def CNV_BGCAL.INTERVAL : RF := ⟨CNV_BGCAL.addr, 0, 16⟩
def CNV_BGCAL.VISITS_PER_GAP : RF := ⟨CNV_BGCAL.addr, 16, 4⟩

/-- CNV_STAT (R201). -/
def CNV_STAT.addr : Nat := 0x20C
def CNV_STAT.EPOCH : RF := ⟨CNV_STAT.addr, 0, 16⟩
def CNV_STAT.PASS_LATE : RF := ⟨CNV_STAT.addr, 16, 1⟩
def CNV_STAT.FULL_RUNNING : RF := ⟨CNV_STAT.addr, 17, 1⟩
def CNV_STAT.TABLE_DEGRADED : RF := ⟨CNV_STAT.addr, 18, 1⟩
def CNV_STAT.LIST_FULL : RF := ⟨CNV_STAT.addr, 19, 1⟩

/-- CNV_RSTAT (R202). -/
def CNV_RSTAT.addr (i : Nat) : Nat := 0x1000100 + 0x100000 * i
def CNV_RSTAT.UNITS_BAD (i : Nat) : RF := ⟨CNV_RSTAT.addr i, 0, 20⟩
def CNV_RSTAT.PASSES (i : Nat) : RF := ⟨CNV_RSTAT.addr i, 20, 12⟩

/-- CNV_RTIME (R202). -/
def CNV_RTIME.addr (i : Nat) : Nat := 0x1000104 + 0x100000 * i
def CNV_RTIME.SLOW_NODE (i : Nat) : RF := ⟨CNV_RTIME.addr i, 0, 16⟩

/-- ENG_CTL (R246). -/
def ENG_CTL.addr (e : Nat) : Nat := engBase e + 0
def ENG_CTL.RUN (e : Nat) : RF := ⟨ENG_CTL.addr e, 0, 1⟩
def ENG_CTL.SWAP_REQ (e : Nat) : RF := ⟨ENG_CTL.addr e, 1, 1⟩
def ENG_CTL.BCAST (e : Nat) : RF := ⟨ENG_CTL.addr e, 2, 1⟩
def ENG_CTL.QUANTUM (e : Nat) : RF := ⟨ENG_CTL.addr e, 8, 8⟩

/-- ENG_STAT (R247). -/
def ENG_STAT.addr (e : Nat) : Nat := engBase e + 4
def ENG_STAT.STATE (e : Nat) : RF := ⟨ENG_STAT.addr e, 0, 2⟩
def ENG_STAT.SERVING (e : Nat) : RF := ⟨ENG_STAT.addr e, 2, 1⟩
def ENG_STAT.TAKEN_OVER (e : Nat) : RF := ⟨ENG_STAT.addr e, 3, 1⟩
def ENG_STAT.PARTNER (e : Nat) : RF := ⟨ENG_STAT.addr e, 4, 7⟩
def ENG_STAT.CAUSE (e : Nat) : RF := ⟨ENG_STAT.addr e, 16, 8⟩

/-- ENG_ERR (R248). -/
def ENG_ERR.addr (e : Nat) : Nat := engBase e + 8
def ENG_ERR.PROG_ERR (e : Nat) : RF := ⟨ENG_ERR.addr e, 0, 1⟩
def ENG_ERR.FORCED_SWAP (e : Nat) : RF := ⟨ENG_ERR.addr e, 1, 1⟩
def ENG_ERR.QDROP (e : Nat) : RF := ⟨ENG_ERR.addr e, 2, 1⟩
def ENG_ERR.MISS (e : Nat) : RF := ⟨ENG_ERR.addr e, 3, 1⟩
def ENG_ERR.TIMED_LATE (e : Nat) : RF := ⟨ENG_ERR.addr e, 4, 1⟩
def ENG_ERR.PIN_DENIED (e : Nat) : RF := ⟨ENG_ERR.addr e, 5, 1⟩

/-- ENG_ERRINFO (R248). -/
def ENG_ERRINFO.addr (e : Nat) : Nat := engBase e + 0xC
def ENG_ERRINFO.PC (e : Nat) : RF := ⟨ENG_ERRINFO.addr e, 0, 10⟩
def ENG_ERRINFO.CHAN (e : Nat) : RF := ⟨ENG_ERRINFO.addr e, 10, 6⟩
def ENG_ERRINFO.CODE (e : Nat) : RF := ⟨ENG_ERRINFO.addr e, 16, 8⟩

/-- ENG_QDROP (R249). -/
def ENG_QDROP.addr (e : Nat) : Nat := engBase e + 0x10
def ENG_QDROP.COUNT (e : Nat) : RF := ⟨ENG_QDROP.addr e, 0, 16⟩

/-- MSN_CLUSTER (R249). -/
def MSN_CLUSTER.addr (i : Nat) : Nat := 0x100014 + 0x10000 * i
def MSN_CLUSTER.TEMP (i : Nat) : RF := ⟨MSN_CLUSTER.addr i, 0, 16⟩
def MSN_CLUSTER.DLY (i : Nat) : RF := ⟨MSN_CLUSTER.addr i, 16, 12⟩
def MSN_CLUSTER.TEMP_OK (i : Nat) : RF := ⟨MSN_CLUSTER.addr i, 28, 1⟩
def MSN_CLUSTER.DLY_OK (i : Nat) : RF := ⟨MSN_CLUSTER.addr i, 29, 1⟩

/-- ENG_SYNC (R250). -/
def ENG_SYNC.addr (e k : Nat) : Nat := engBase e + 0x40 + 4 * k
def ENG_SYNC.NEED (e k : Nat) : RF := ⟨ENG_SYNC.addr e k, 0, 7⟩
def ENG_SYNC.SCOPE (e k : Nat) : RF := ⟨ENG_SYNC.addr e k, 7, 1⟩

/-- CH_CFG (R251). -/
def CH_CFG.addr (e k : Nat) : Nat := engBase e + 0x80 + 4 * k
def CH_CFG.ENTRY (e k : Nat) : RF := ⟨CH_CFG.addr e k, 0, 10⟩
def CH_CFG.EN (e k : Nat) : RF := ⟨CH_CFG.addr e k, 10, 1⟩
def CH_CFG.QMODE (e k : Nat) : RF := ⟨CH_CFG.addr e k, 11, 3⟩
def CH_CFG.QSINK (e k : Nat) : RF := ⟨CH_CFG.addr e k, 14, 3⟩
def CH_CFG.CMD_PIN (e k : Nat) : RF := ⟨CH_CFG.addr e k, 17, 5⟩

/-- CH_STAT (R251). -/
def CH_STAT.addr (e k : Nat) : Nat := engBase e + 0x180 + 4 * k
def CH_STAT.PC (e k : Nat) : RF := ⟨CH_STAT.addr e k, 0, 10⟩
def CH_STAT.STATE (e k : Nat) : RF := ⟨CH_STAT.addr e k, 10, 3⟩
def CH_STAT.IN_FILL (e k : Nat) : RF := ⟨CH_STAT.addr e k, 13, 5⟩
def CH_STAT.OUT_FILL (e k : Nat) : RF := ⟨CH_STAT.addr e k, 18, 5⟩
def CH_STAT.FLAGS (e k : Nat) : RF := ⟨CH_STAT.addr e k, 24, 8⟩

/-- PE_PAD (R252). -/
def PE_PAD.addr (i : Nat) : Nat := 0x300 + 4 * i
def PE_PAD.OWNER (i : Nat) : RF := ⟨PE_PAD.addr i, 0, 4⟩
def PE_PAD.OWN_EN (i : Nat) : RF := ⟨PE_PAD.addr i, 4, 1⟩
def PE_PAD.OD (i : Nat) : RF := ⟨PE_PAD.addr i, 5, 1⟩
def PE_PAD.PULL (i : Nat) : RF := ⟨PE_PAD.addr i, 6, 2⟩
def PE_PAD.FAULT_STATE (i : Nat) : RF := ⟨PE_PAD.addr i, 8, 2⟩
def PE_PAD.FILTER (i : Nat) : RF := ⟨PE_PAD.addr i, 10, 3⟩

/-- DSP_CFG (R253). -/
def DSP_CFG.addr (i : Nat) : Nat := 0x1000200 + 0x100000 * i
def DSP_CFG.AHEAD (i : Nat) : RF := ⟨DSP_CFG.addr i, 0, 5⟩

/-- DSP_STAT (R253). -/
def DSP_STAT.addr (i : Nat) : Nat := 0x1000204 + 0x100000 * i
def DSP_STAT.LATE (i : Nat) : RF := ⟨DSP_STAT.addr i, 0, 12⟩
def DSP_STAT.TAKEOVER (i : Nat) : RF := ⟨DSP_STAT.addr i, 12, 1⟩

/-- FT_CFG (R282). -/
def FT_CFG.addr : Nat := 0x400
def FT_CFG.TIMING : RF := ⟨FT_CFG.addr, 0, 2⟩
def FT_CFG.EXPO : RF := ⟨FT_CFG.addr, 2, 2⟩
def FT_CFG.NSUB_M1 : RF := ⟨FT_CFG.addr, 4, 5⟩
def FT_CFG.START_AT : RF := ⟨FT_CFG.addr, 9, 1⟩

/-- FT_PERIOD (R283). -/
def FT_PERIOD.addr : Nat := 0x404
def FT_PERIOD.PERIOD : RF := ⟨FT_PERIOD.addr, 0, 32⟩

/-- FT_EXPOSURE (R283). -/
def FT_EXPOSURE.addr : Nat := 0x408
def FT_EXPOSURE.EXPOSURE : RF := ⟨FT_EXPOSURE.addr, 0, 32⟩

/-- FT_TERRACE (R284). -/
def FT_TERRACE.addr : Nat := 0x40C
def FT_TERRACE.RATIO : RF := ⟨FT_TERRACE.addr, 0, 9⟩
def FT_TERRACE.SLICES : RF := ⟨FT_TERRACE.addr, 9, 4⟩
def FT_TERRACE.LONG_NODE : RF := ⟨FT_TERRACE.addr, 13, 1⟩
def FT_TERRACE.SHORT_FIRST : RF := ⟨FT_TERRACE.addr, 14, 1⟩

/-- FT_TRIG (R285). -/
def FT_TRIG.addr : Nat := 0x410
def FT_TRIG.LATENCY : RF := ⟨FT_TRIG.addr, 0, 24⟩
def FT_TRIG.SRC : RF := ⟨FT_TRIG.addr, 24, 2⟩

/-- FT_BURST (R285). -/
def FT_BURST.addr : Nat := 0x414
def FT_BURST.FRAMES : RF := ⟨FT_BURST.addr, 0, 16⟩

/-- FT_GENLOCK (R286). -/
def FT_GENLOCK.addr : Nat := 0x418
def FT_GENLOCK.MUL_M1 : RF := ⟨FT_GENLOCK.addr, 0, 4⟩
def FT_GENLOCK.DIV_M1 : RF := ⟨FT_GENLOCK.addr, 4, 4⟩

/-- FT_STAT (R287). -/
def FT_STAT.addr : Nat := 0x430
def FT_STAT.RUNNING : RF := ⟨FT_STAT.addr, 0, 1⟩
def FT_STAT.LOCKED : RF := ⟨FT_STAT.addr, 1, 1⟩
def FT_STAT.HOLDOVER : RF := ⟨FT_STAT.addr, 2, 1⟩
def FT_STAT.WAITING : RF := ⟨FT_STAT.addr, 3, 1⟩
def FT_STAT.IN_BURST : RF := ⟨FT_STAT.addr, 4, 1⟩
def FT_STAT.RATE_OVER : RF := ⟨FT_STAT.addr, 5, 1⟩
def FT_STAT.YIELDED : RF := ⟨FT_STAT.addr, 6, 1⟩
def FT_STAT.NSUB_ACTIVE : RF := ⟨FT_STAT.addr, 8, 5⟩

/-- FT_ERR (R287). -/
def FT_ERR.addr : Nat := 0x434
def FT_ERR.TRIG_MISSED : RF := ⟨FT_ERR.addr, 0, 1⟩
def FT_ERR.TRIG_LATE : RF := ⟨FT_ERR.addr, 1, 1⟩
def FT_ERR.REF_LOST : RF := ⟨FT_ERR.addr, 2, 1⟩
def FT_ERR.RATE_OVER : RF := ⟨FT_ERR.addr, 3, 1⟩

/-- FT_TRIG_CNT (R288). -/
def FT_TRIG_CNT.addr : Nat := 0x43C
def FT_TRIG_CNT.ACCEPTED : RF := ⟨FT_TRIG_CNT.addr, 0, 16⟩
def FT_TRIG_CNT.MISSED : RF := ⟨FT_TRIG_CNT.addr, 16, 16⟩

/-- FT_WIN0 (R289). -/
def FT_WIN0.addr (i : Nat) : Nat := 0x480 + 8 * i
def FT_WIN0.U0 (i : Nat) : RF := ⟨FT_WIN0.addr i, 0, 12⟩
def FT_WIN0.U1 (i : Nat) : RF := ⟨FT_WIN0.addr i, 16, 12⟩
def FT_WIN0.EN (i : Nat) : RF := ⟨FT_WIN0.addr i, 31, 1⟩

/-- FT_WIN1 (R289). -/
def FT_WIN1.addr (i : Nat) : Nat := 0x484 + 8 * i
def FT_WIN1.V0 (i : Nat) : RF := ⟨FT_WIN1.addr i, 0, 10⟩
def FT_WIN1.V1 (i : Nat) : RF := ⟨FT_WIN1.addr i, 16, 10⟩

/-- FT_SUB0 (R290). -/
def FT_SUB0.addr (i : Nat) : Nat := 0x500 + 0x10 * i
def FT_SUB0.START (i : Nat) : RF := ⟨FT_SUB0.addr i, 0, 32⟩

/-- FT_SUB1 (R290). -/
def FT_SUB1.addr (i : Nat) : Nat := 0x504 + 0x10 * i
def FT_SUB1.WIDTH (i : Nat) : RF := ⟨FT_SUB1.addr i, 0, 32⟩

/-- FT_SUB2 (R290). -/
def FT_SUB2.addr (i : Nat) : Nat := 0x508 + 0x10 * i
def FT_SUB2.NODE (i : Nat) : RF := ⟨FT_SUB2.addr i, 0, 1⟩

/-- KS_NOW (R312). -/
def KS_NOW.addr (i : Nat) : Nat := 0x2000000 + 4 * i
def KS_NOW.NOW (i : Nat) : RF := ⟨KS_NOW.addr i, 0, 32⟩

/-- KS_CFG (R313). -/
def KS_CFG.addr : Nat := 0x2000008
def KS_CFG.DISC : RF := ⟨KS_CFG.addr, 0, 2⟩

/-- KS_TRIM (R313). -/
def KS_TRIM.addr : Nat := 0x200000C
def KS_TRIM.TRIM : RF := ⟨KS_TRIM.addr, 0, 32⟩

/-- KS_TRIM_EFF (R313). -/
def KS_TRIM_EFF.addr : Nat := 0x2000010
def KS_TRIM_EFF.EFF : RF := ⟨KS_TRIM_EFF.addr, 0, 32⟩

/-- KS_SLEW (R313). -/
def KS_SLEW.addr : Nat := 0x2000014
def KS_SLEW.REMAIN : RF := ⟨KS_SLEW.addr, 0, 32⟩

/-- KS_STAT (R314). -/
def KS_STAT.addr : Nat := 0x2000018
def KS_STAT.LOCK : RF := ⟨KS_STAT.addr, 0, 1⟩
def KS_STAT.SLEWING : RF := ⟨KS_STAT.addr, 1, 1⟩
def KS_STAT.TRIM_LIMIT : RF := ⟨KS_STAT.addr, 2, 1⟩
def KS_STAT.STROBE_LATE : RF := ⟨KS_STAT.addr, 3, 1⟩
def KS_STAT.WRAPPED : RF := ⟨KS_STAT.addr, 4, 1⟩
def KS_STAT.ALIGNED : RF := ⟨KS_STAT.addr, 5, 1⟩

/-- KS_CH_CTL (R316). -/
def KS_CH_CTL.addr (i : Nat) : Nat := 0x2000100 + 0x20 * i
def KS_CH_CTL.ARMED (i : Nat) : RF := ⟨KS_CH_CTL.addr i, 0, 1⟩
def KS_CH_CTL.REPEAT (i : Nat) : RF := ⟨KS_CH_CTL.addr i, 1, 1⟩
def KS_CH_CTL.REL (i : Nat) : RF := ⟨KS_CH_CTL.addr i, 2, 1⟩
def KS_CH_CTL.STROBE (i : Nat) : RF := ⟨KS_CH_CTL.addr i, 3, 2⟩
def KS_CH_CTL.LAST (i : Nat) : RF := ⟨KS_CH_CTL.addr i, 5, 1⟩
def KS_CH_CTL.EVT (i : Nat) : RF := ⟨KS_CH_CTL.addr i, 6, 1⟩
def KS_CH_CTL.POST (i : Nat) : RF := ⟨KS_CH_CTL.addr i, 7, 1⟩
def KS_CH_CTL.POST_ENG (i : Nat) : RF := ⟨KS_CH_CTL.addr i, 8, 8⟩
def KS_CH_CTL.POST_CH (i : Nat) : RF := ⟨KS_CH_CTL.addr i, 16, 6⟩
def KS_CH_CTL.CHAIN (i : Nat) : RF := ⟨KS_CH_CTL.addr i, 22, 1⟩
def KS_CH_CTL.CHAIN_CH (i : Nat) : RF := ⟨KS_CH_CTL.addr i, 23, 6⟩
def KS_CH_CTL.POST_STAMP (i : Nat) : RF := ⟨KS_CH_CTL.addr i, 29, 1⟩

/-- KS_CH_CMP_LO (R317). -/
def KS_CH_CMP_LO.addr (i : Nat) : Nat := 0x2000104 + 0x20 * i
def KS_CH_CMP_LO.CMP (i : Nat) : RF := ⟨KS_CH_CMP_LO.addr i, 0, 32⟩

/-- KS_CH_CMP_HI (R317). -/
def KS_CH_CMP_HI.addr (i : Nat) : Nat := 0x2000108 + 0x20 * i
def KS_CH_CMP_HI.CMP (i : Nat) : RF := ⟨KS_CH_CMP_HI.addr i, 0, 32⟩

/-- KS_CH_PERIOD (R317). -/
def KS_CH_PERIOD.addr (i : Nat) : Nat := 0x200010C + 0x20 * i
def KS_CH_PERIOD.PERIOD (i : Nat) : RF := ⟨KS_CH_PERIOD.addr i, 0, 32⟩

/-- KS_CH_POST (R317). -/
def KS_CH_POST.addr (i : Nat) : Nat := 0x2000110 + 0x20 * i
def KS_CH_POST.WORD (i : Nat) : RF := ⟨KS_CH_POST.addr i, 0, 32⟩

/-- KS_CH_STAT (R317). -/
def KS_CH_STAT.addr (i : Nat) : Nat := 0x2000114 + 0x20 * i
def KS_CH_STAT.MISSED (i : Nat) : RF := ⟨KS_CH_STAT.addr i, 0, 16⟩
def KS_CH_STAT.LATE (i : Nat) : RF := ⟨KS_CH_STAT.addr i, 16, 1⟩

/-- KS_CH_MATCH_LO (R317). -/
def KS_CH_MATCH_LO.addr (i : Nat) : Nat := 0x2000118 + 0x20 * i
def KS_CH_MATCH_LO.MATCH (i : Nat) : RF := ⟨KS_CH_MATCH_LO.addr i, 0, 32⟩

/-- KS_CH_MATCH_HI (R317). -/
def KS_CH_MATCH_HI.addr (i : Nat) : Nat := 0x200011C + 0x20 * i
def KS_CH_MATCH_HI.MATCH (i : Nat) : RF := ⟨KS_CH_MATCH_HI.addr i, 0, 32⟩

/-- MC_CFG (R348). -/
def MC_CFG.addr : Nat := 0x2100000
def MC_CFG.PAGE_IDLE : RF := ⟨MC_CFG.addr, 0, 8⟩
def MC_CFG.NBR_K : RF := ⟨MC_CFG.addr, 8, 4⟩
def MC_CFG.FORCE_5600 : RF := ⟨MC_CFG.addr, 12, 1⟩

/-- MC_STAT (R349). -/
def MC_STAT.addr : Nat := 0x2100004
def MC_STAT.IN_SERVICE : RF := ⟨MC_STAT.addr, 0, 8⟩
def MC_STAT.RETIRED : RF := ⟨MC_STAT.addr, 8, 8⟩
def MC_STAT.AT_5600 : RF := ⟨MC_STAT.addr, 16, 8⟩

/-- MC_SLOTS (R349). -/
def MC_SLOTS.addr : Nat := 0x2100008
def MC_SLOTS.SLOTS : RF := ⟨MC_SLOTS.addr, 0, 16⟩
def MC_SLOTS.EXTENT : RF := ⟨MC_SLOTS.addr, 16, 12⟩

/-- MC_PLAN_USABLE (R350). -/
def MC_PLAN_USABLE.addr : Nat := 0x210000C
def MC_PLAN_USABLE.USABLE : RF := ⟨MC_PLAN_USABLE.addr, 0, 16⟩
def MC_PLAN_USABLE.DEMAND : RF := ⟨MC_PLAN_USABLE.addr, 16, 16⟩

/-- MC_MAP (R350). -/
def MC_MAP.addr (i : Nat) : Nat := 0x2100010 + 4 * i
def MC_MAP.MASK (i : Nat) : RF := ⟨MC_MAP.addr i, 0, 27⟩

/-- MC_REG0 (R351). -/
def MC_REG0.addr (q : Nat) : Nat := 0x2100100 + 8 * q
def MC_REG0.GUAR (q : Nat) : RF := ⟨MC_REG0.addr q, 0, 16⟩
def MC_REG0.CEIL (q : Nat) : RF := ⟨MC_REG0.addr q, 16, 16⟩

/-- MC_REG1 (R351). -/
def MC_REG1.addr (q : Nat) : Nat := 0x2100104 + 8 * q
def MC_REG1.BURST (q : Nat) : RF := ⟨MC_REG1.addr q, 0, 16⟩
def MC_REG1.GRANTED (q : Nat) : RF := ⟨MC_REG1.addr q, 16, 16⟩

/-- MC_CH_STAT (R352). -/
def MC_CH_STAT.addr (i : Nat) : Nat := 0x2101000 + 0x100 * i
def MC_CH_STAT.RBAND (i : Nat) : RF := ⟨MC_CH_STAT.addr i, 0, 2⟩
def MC_CH_STAT.AT_5600 (i : Nat) : RF := ⟨MC_CH_STAT.addr i, 2, 1⟩
def MC_CH_STAT.PASS (i : Nat) : RF := ⟨MC_CH_STAT.addr i, 3, 1⟩
def MC_CH_STAT.RETIRED (i : Nat) : RF := ⟨MC_CH_STAT.addr i, 4, 1⟩
def MC_CH_STAT.OWED (i : Nat) : RF := ⟨MC_CH_STAT.addr i, 5, 4⟩
def MC_CH_STAT.TEMP_OK (i : Nat) : RF := ⟨MC_CH_STAT.addr i, 9, 1⟩
def MC_CH_STAT.CAUSE (i : Nat) : RF := ⟨MC_CH_STAT.addr i, 10, 3⟩
def MC_CH_STAT.TEMP (i : Nat) : RF := ⟨MC_CH_STAT.addr i, 16, 16⟩

/-- MC_CH_ECC (R353). -/
def MC_CH_ECC.addr (i : Nat) : Nat := 0x2101004 + 0x100 * i
def MC_CH_ECC.CORRECTED (i : Nat) : RF := ⟨MC_CH_ECC.addr i, 0, 16⟩
def MC_CH_ECC.UNCORR (i : Nat) : RF := ⟨MC_CH_ECC.addr i, 16, 16⟩

/-- MC_CH_NBR (R353). -/
def MC_CH_NBR.addr (i : Nat) : Nat := 0x2101008 + 0x100 * i
def MC_CH_NBR.COUNT (i : Nat) : RF := ⟨MC_CH_NBR.addr i, 0, 32⟩

/-- MC_CH_ERR_LO (R353). -/
def MC_CH_ERR_LO.addr (i : Nat) : Nat := 0x210100C + 0x100 * i
def MC_CH_ERR_LO.ADDRESS (i : Nat) : RF := ⟨MC_CH_ERR_LO.addr i, 0, 32⟩

/-- MC_CH_ERR_HI (R353). -/
def MC_CH_ERR_HI.addr (i : Nat) : Nat := 0x2101010 + 0x100 * i
def MC_CH_ERR_HI.ADDR32 (i : Nat) : RF := ⟨MC_CH_ERR_HI.addr i, 0, 1⟩
def MC_CH_ERR_HI.PORT (i : Nat) : RF := ⟨MC_CH_ERR_HI.addr i, 4, 4⟩

/-- REC_CFG (R383). -/
def REC_CFG.addr : Nat := 0x2500000
def REC_CFG.FORMAT : RF := ⟨REC_CFG.addr, 0, 2⟩
def REC_CFG.TNR_EN : RF := ⟨REC_CFG.addr, 2, 1⟩
def REC_CFG.STRENGTH : RF := ⟨REC_CFG.addr, 3, 4⟩
def REC_CFG.CLAMP_EN : RF := ⟨REC_CFG.addr, 7, 1⟩
def REC_CFG.WARN : RF := ⟨REC_CFG.addr, 8, 8⟩

/-- REC_BLACK (R384). -/
def REC_BLACK.addr : Nat := 0x2500004
def REC_BLACK.TARGET : RF := ⟨REC_BLACK.addr, 0, 14⟩

/-- REC_TNR (R384). -/
def REC_TNR.addr : Nat := 0x2500008
def REC_TNR.THRESH : RF := ⟨REC_TNR.addr, 0, 14⟩

/-- REC_DEPTH (R385). -/
def REC_DEPTH.addr : Nat := 0x250000C
def REC_DEPTH.DEPTH : RF := ⟨REC_DEPTH.addr, 0, 16⟩
def REC_DEPTH.DEPTH_MAX : RF := ⟨REC_DEPTH.addr, 16, 16⟩

/-- REC_FILL (R385). -/
def REC_FILL.addr : Nat := 0x2500010
def REC_FILL.HELD : RF := ⟨REC_FILL.addr, 0, 16⟩
def REC_FILL.STUBS : RF := ⟨REC_FILL.addr, 16, 7⟩
def REC_FILL.STUBS_TOTAL : RF := ⟨REC_FILL.addr, 23, 9⟩

/-- REC_STAT (R386). -/
def REC_STAT.addr : Nat := 0x2500014
def REC_STAT.INCOMPLETE : RF := ⟨REC_STAT.addr, 0, 1⟩
def REC_STAT.DAMAGED : RF := ⟨REC_STAT.addr, 1, 1⟩
def REC_STAT.NO_SLOT : RF := ⟨REC_STAT.addr, 2, 1⟩
def REC_STAT.OVERFLOW : RF := ⟨REC_STAT.addr, 3, 1⟩
def REC_STAT.EXCESS : RF := ⟨REC_STAT.addr, 4, 1⟩
def REC_STAT.BUS_STALL : RF := ⟨REC_STAT.addr, 5, 1⟩
def REC_STAT.CLAMP : RF := ⟨REC_STAT.addr, 6, 1⟩
def REC_STAT.TC : RF := ⟨REC_STAT.addr, 7, 1⟩
def REC_STAT.DEFICIT : RF := ⟨REC_STAT.addr, 8, 1⟩

/-- REC_DRAIN (R387). -/
def REC_DRAIN.addr : Nat := 0x250001C
def REC_DRAIN.FPS : RF := ⟨REC_DRAIN.addr, 0, 16⟩

/-- REC_TC (R387). -/
def REC_TC.addr : Nat := 0x2500020
def REC_TC.ENGINE : RF := ⟨REC_TC.addr, 0, 4⟩
def REC_TC.CHAN : RF := ⟨REC_TC.addr, 4, 4⟩
def REC_TC.EN : RF := ⟨REC_TC.addr, 8, 1⟩
def REC_TC.STALE_MS : RF := ⟨REC_TC.addr, 16, 8⟩

/-- ING_STAT (R388). -/
def ING_STAT.addr (i : Nat) : Nat := 0x1000300 + 0x100000 * i
def ING_STAT.OVERFLOWS (i : Nat) : RF := ⟨ING_STAT.addr i, 0, 8⟩
def ING_STAT.EXCESS (i : Nat) : RF := ⟨ING_STAT.addr i, 8, 8⟩
def ING_STAT.STALLS (i : Nat) : RF := ⟨ING_STAT.addr i, 16, 8⟩

/-- ING_PEAK (R388). -/
def ING_PEAK.addr (i : Nat) : Nat := 0x1000304 + 0x100000 * i
def ING_PEAK.PEAK (i : Nat) : RF := ⟨ING_PEAK.addr i, 0, 10⟩

/-- MON_CFG (R419). -/
def MON_CFG.addr : Nat := 0x2400000
def MON_CFG.SHARE : RF := ⟨MON_CFG.addr, 0, 1⟩

/-- MON_STAT (R419). -/
def MON_STAT.addr : Nat := 0x2400004
def MON_STAT.ACTIVE : RF := ⟨MON_STAT.addr, 0, 4⟩
def MON_STAT.SHED : RF := ⟨MON_STAT.addr, 4, 4⟩
def MON_STAT.BUSY : RF := ⟨MON_STAT.addr, 8, 1⟩
def MON_STAT.REBUILDING : RF := ⟨MON_STAT.addr, 9, 1⟩

/-- MON_PLAN (R419). -/
def MON_PLAN.addr : Nat := 0x2400008
def MON_PLAN.RATE : RF := ⟨MON_PLAN.addr, 0, 16⟩

/-- MON_CTX_CFG (R420). -/
def MON_CTX_CFG.addr (i : Nat) : Nat := 0x2400100 + 0x100 * i
def MON_CTX_CFG.EN (i : Nat) : RF := ⟨MON_CTX_CFG.addr i, 0, 1⟩
def MON_CTX_CFG.DEST (i : Nat) : RF := ⟨MON_CTX_CFG.addr i, 1, 2⟩
def MON_CTX_CFG.REPEAT (i : Nat) : RF := ⟨MON_CTX_CFG.addr i, 3, 1⟩
def MON_CTX_CFG.SOURCE (i : Nat) : RF := ⟨MON_CTX_CFG.addr i, 4, 2⟩
def MON_CTX_CFG.WINDOW (i : Nat) : RF := ⟨MON_CTX_CFG.addr i, 6, 2⟩
def MON_CTX_CFG.DIV (i : Nat) : RF := ⟨MON_CTX_CFG.addr i, 8, 8⟩
def MON_CTX_CFG.PHASE (i : Nat) : RF := ⟨MON_CTX_CFG.addr i, 16, 8⟩
def MON_CTX_CFG.AWB (i : Nat) : RF := ⟨MON_CTX_CFG.addr i, 24, 1⟩
def MON_CTX_CFG.TONE_BANK (i : Nat) : RF := ⟨MON_CTX_CFG.addr i, 25, 1⟩

/-- MON_CTX_NODE (R421). -/
def MON_CTX_NODE.addr (i : Nat) : Nat := 0x2400104 + 0x100 * i
def MON_CTX_NODE.NODE (i : Nat) : RF := ⟨MON_CTX_NODE.addr i, 0, 8⟩

/-- MON_CTX_CROP0 (R421). -/
def MON_CTX_CROP0.addr (i : Nat) : Nat := 0x2400108 + 0x100 * i
def MON_CTX_CROP0.U0 (i : Nat) : RF := ⟨MON_CTX_CROP0.addr i, 0, 12⟩
def MON_CTX_CROP0.U1 (i : Nat) : RF := ⟨MON_CTX_CROP0.addr i, 16, 12⟩

/-- MON_CTX_CROP1 (R421). -/
def MON_CTX_CROP1.addr (i : Nat) : Nat := 0x240010C + 0x100 * i
def MON_CTX_CROP1.V0 (i : Nat) : RF := ⟨MON_CTX_CROP1.addr i, 0, 10⟩
def MON_CTX_CROP1.V1 (i : Nat) : RF := ⟨MON_CTX_CROP1.addr i, 16, 10⟩

/-- MON_CTX_OUT (R421). -/
def MON_CTX_OUT.addr (i : Nat) : Nat := 0x2400110 + 0x100 * i
def MON_CTX_OUT.WIDTH (i : Nat) : RF := ⟨MON_CTX_OUT.addr i, 0, 14⟩
def MON_CTX_OUT.HEIGHT (i : Nat) : RF := ⟨MON_CTX_OUT.addr i, 16, 14⟩

/-- MON_CTX_NR (R421). -/
def MON_CTX_NR.addr (i : Nat) : Nat := 0x2400114 + 0x100 * i
def MON_CTX_NR.SP_STR (i : Nat) : RF := ⟨MON_CTX_NR.addr i, 0, 4⟩
def MON_CTX_NR.TMP_STR (i : Nat) : RF := ⟨MON_CTX_NR.addr i, 4, 4⟩
def MON_CTX_NR.TMP_THRESH (i : Nat) : RF := ⟨MON_CTX_NR.addr i, 8, 16⟩

/-- MON_CTX_BLACK (R421). -/
def MON_CTX_BLACK.addr (i : Nat) : Nat := 0x2400118 + 0x100 * i
def MON_CTX_BLACK.OFS (i : Nat) : RF := ⟨MON_CTX_BLACK.addr i, 0, 16⟩

/-- MON_CTX_WB0 (R421). -/
def MON_CTX_WB0.addr (i : Nat) : Nat := 0x240011C + 0x100 * i
def MON_CTX_WB0.GAIN_R (i : Nat) : RF := ⟨MON_CTX_WB0.addr i, 0, 16⟩
def MON_CTX_WB0.GAIN_GR (i : Nat) : RF := ⟨MON_CTX_WB0.addr i, 16, 16⟩

/-- MON_CTX_WB1 (R421). -/
def MON_CTX_WB1.addr (i : Nat) : Nat := 0x2400120 + 0x100 * i
def MON_CTX_WB1.GAIN_GB (i : Nat) : RF := ⟨MON_CTX_WB1.addr i, 0, 16⟩
def MON_CTX_WB1.GAIN_B (i : Nat) : RF := ⟨MON_CTX_WB1.addr i, 16, 16⟩

/-- MON_CTX_CM (R421). -/
def MON_CTX_CM.addr (x i : Nat) : Nat := 0x2400124 + 0x100 * x + 4 * i

/-- MON_CTX_OVL (R421). -/
def MON_CTX_OVL.addr (i : Nat) : Nat := 0x2400138 + 0x100 * i
def MON_CTX_OVL.FALSE_COLOUR (i : Nat) : RF := ⟨MON_CTX_OVL.addr i, 0, 1⟩
def MON_CTX_OVL.ZEBRA (i : Nat) : RF := ⟨MON_CTX_OVL.addr i, 1, 1⟩
def MON_CTX_OVL.MARK_FILL (i : Nat) : RF := ⟨MON_CTX_OVL.addr i, 2, 1⟩
def MON_CTX_OVL.LINE_EN (i : Nat) : RF := ⟨MON_CTX_OVL.addr i, 3, 4⟩
def MON_CTX_OVL.ZEBRA_LEVEL (i : Nat) : RF := ⟨MON_CTX_OVL.addr i, 8, 8⟩
def MON_CTX_OVL.TONE_SHIFT (i : Nat) : RF := ⟨MON_CTX_OVL.addr i, 16, 4⟩

/-- MON_CTX_LINE0 (R421). -/
def MON_CTX_LINE0.addr (x j : Nat) : Nat := 0x2400140 + 0x100 * x + 8 * j
def MON_CTX_LINE0.X0 (x j : Nat) : RF := ⟨MON_CTX_LINE0.addr x j, 0, 14⟩
def MON_CTX_LINE0.X1 (x j : Nat) : RF := ⟨MON_CTX_LINE0.addr x j, 16, 14⟩
def MON_CTX_LINE0.COLOUR (x j : Nat) : RF := ⟨MON_CTX_LINE0.addr x j, 30, 2⟩

/-- MON_CTX_LINE1 (R421). -/
def MON_CTX_LINE1.addr (x j : Nat) : Nat := 0x2400144 + 0x100 * x + 8 * j
def MON_CTX_LINE1.Y0 (x j : Nat) : RF := ⟨MON_CTX_LINE1.addr x j, 0, 14⟩
def MON_CTX_LINE1.Y1 (x j : Nat) : RF := ⟨MON_CTX_LINE1.addr x j, 16, 14⟩

/-- MON_CTX_FC (R421). -/
def MON_CTX_FC.addr (x k : Nat) : Nat := 0x2400180 + 0x100 * x + 4 * k
def MON_CTX_FC.RGB (x k : Nat) : RF := ⟨MON_CTX_FC.addr x k, 0, 30⟩

/-- MON_CTX_STAT (R421). -/
def MON_CTX_STAT.addr (i : Nat) : Nat := 0x24001C0 + 0x100 * i
def MON_CTX_STAT.DEVELOPED (i : Nat) : RF := ⟨MON_CTX_STAT.addr i, 0, 16⟩
def MON_CTX_STAT.SKIPPED (i : Nat) : RF := ⟨MON_CTX_STAT.addr i, 16, 16⟩

/-- MON_CTX_LAST (R421). -/
def MON_CTX_LAST.addr (i : Nat) : Nat := 0x24001C4 + 0x100 * i
def MON_CTX_LAST.FRAME (i : Nat) : RF := ⟨MON_CTX_LAST.addr i, 0, 32⟩

/-- MON_CTX_FLAGS (R421). -/
def MON_CTX_FLAGS.addr (i : Nat) : Nat := 0x24001C8 + 0x100 * i
def MON_CTX_FLAGS.FLAGS (i : Nat) : RF := ⟨MON_CTX_FLAGS.addr i, 0, 32⟩

/-- STAT_CFG (R445). -/
def STAT_CFG.addr : Nat := 0x2420000
def STAT_CFG.EN : RF := ⟨STAT_CFG.addr, 0, 1⟩
def STAT_CFG.TERRACE : RF := ⟨STAT_CFG.addr, 1, 1⟩

/-- STAT_STAT (R445). -/
def STAT_STAT.addr : Nat := 0x2420004
def STAT_STAT.SHED : RF := ⟨STAT_STAT.addr, 0, 1⟩
def STAT_STAT.MAP_INCOMPLETE : RF := ⟨STAT_STAT.addr, 1, 1⟩
def STAT_STAT.INPUT_INCOMPLETE : RF := ⟨STAT_STAT.addr, 2, 1⟩

/-- AE_CFG (R446). -/
def AE_CFG.addr : Nat := 0x2420040
def AE_CFG.EN : RF := ⟨AE_CFG.addr, 0, 1⟩
def AE_CFG.MODE : RF := ⟨AE_CFG.addr, 1, 1⟩
def AE_CFG.CTX : RF := ⟨AE_CFG.addr, 2, 2⟩
def AE_CFG.INTERVAL : RF := ⟨AE_CFG.addr, 4, 8⟩
def AE_CFG.TARGET : RF := ⟨AE_CFG.addr, 16, 16⟩

/-- AE_STAT (R446). -/
def AE_STAT.addr : Nat := 0x242004C
def AE_STAT.METRIC : RF := ⟨AE_STAT.addr, 0, 16⟩
def AE_STAT.HOLD : RF := ⟨AE_STAT.addr, 16, 3⟩

/-- AWB_CFG (R447). -/
def AWB_CFG.addr : Nat := 0x2420060
def AWB_CFG.EN : RF := ⟨AWB_CFG.addr, 0, 1⟩
def AWB_CFG.CTX : RF := ⟨AWB_CFG.addr, 1, 2⟩
def AWB_CFG.INTERVAL : RF := ⟨AWB_CFG.addr, 3, 8⟩

/-- AWB_RANGE (R447). -/
def AWB_RANGE.addr : Nat := 0x2420064
def AWB_RANGE.LOW : RF := ⟨AWB_RANGE.addr, 0, 16⟩
def AWB_RANGE.HIGH : RF := ⟨AWB_RANGE.addr, 16, 16⟩

/-- AWB_STAT (R447). -/
def AWB_STAT.addr : Nat := 0x2420068
def AWB_STAT.HOLD : RF := ⟨AWB_STAT.addr, 0, 3⟩
def AWB_STAT.ZONES : RF := ⟨AWB_STAT.addr, 3, 12⟩

/-- POL_LAST (R448). -/
def POL_LAST.addr : Nat := 0x2420080
def POL_LAST.CODE : RF := ⟨POL_LAST.addr, 0, 12⟩
def POL_LAST.COUNT : RF := ⟨POL_LAST.addr, 12, 20⟩

/-- PT_CFG (R482). -/
def PT_CFG.addr (t : Nat) : Nat := 0x2200000 + 0x1000 * t
def PT_CFG.LANES_ALLOWED (t : Nat) : RF := ⟨PT_CFG.addr t, 0, 8⟩
def PT_CFG.AUTO_ALIGN (t : Nat) : RF := ⟨PT_CFG.addr t, 8, 1⟩
def PT_CFG.READMIT (t : Nat) : RF := ⟨PT_CFG.addr t, 9, 1⟩

/-- PT_STAT (R483). -/
def PT_STAT.addr (i : Nat) : Nat := 0x2200004 + 0x1000 * i
def PT_STAT.STATE (i : Nat) : RF := ⟨PT_STAT.addr i, 0, 3⟩
def PT_STAT.LANES_IN (i : Nat) : RF := ⟨PT_STAT.addr i, 3, 8⟩
def PT_STAT.WIDTH (i : Nat) : RF := ⟨PT_STAT.addr i, 11, 4⟩
def PT_STAT.PAYLOAD (i : Nat) : RF := ⟨PT_STAT.addr i, 16, 12⟩

/-- PT_ERR (R484). -/
def PT_ERR.addr (i : Nat) : Nat := 0x2200008 + 0x1000 * i
def PT_ERR.CRC (i : Nat) : RF := ⟨PT_ERR.addr i, 0, 1⟩
def PT_ERR.FRAMING (i : Nat) : RF := ⟨PT_ERR.addr i, 1, 1⟩
def PT_ERR.REPLAY (i : Nat) : RF := ⟨PT_ERR.addr i, 2, 1⟩
def PT_ERR.REPLAY_LIMIT (i : Nat) : RF := ⟨PT_ERR.addr i, 3, 1⟩
def PT_ERR.CREDIT_STALL (i : Nat) : RF := ⟨PT_ERR.addr i, 4, 1⟩
def PT_ERR.RESTRIPED (i : Nat) : RF := ⟨PT_ERR.addr i, 5, 1⟩
def PT_ERR.PARTNER_TIMEOUT (i : Nat) : RF := ⟨PT_ERR.addr i, 6, 1⟩
def PT_ERR.TRAIN_FAIL (i : Nat) : RF := ⟨PT_ERR.addr i, 7, 1⟩
def PT_ERR.VERSION (i : Nat) : RF := ⟨PT_ERR.addr i, 8, 1⟩

/-- PT_COUNT (R484). -/
def PT_COUNT.addr (i : Nat) : Nat := 0x220000C + 0x1000 * i
def PT_COUNT.CRC_ERRS (i : Nat) : RF := ⟨PT_COUNT.addr i, 0, 16⟩
def PT_COUNT.REPLAYS (i : Nat) : RF := ⟨PT_COUNT.addr i, 16, 16⟩

/-- PT_SEQ_TX (R485). -/
def PT_SEQ_TX.addr (i : Nat) : Nat := 0x2200010 + 0x1000 * i
def PT_SEQ_TX.SEQ (i : Nat) : RF := ⟨PT_SEQ_TX.addr i, 0, 32⟩

/-- PT_SEQ_RX (R485). -/
def PT_SEQ_RX.addr (i : Nat) : Nat := 0x2200014 + 0x1000 * i
def PT_SEQ_RX.SEQ (i : Nat) : RF := ⟨PT_SEQ_RX.addr i, 0, 32⟩

/-- PT_PARTNER (R485). -/
def PT_PARTNER.addr (i : Nat) : Nat := 0x2200018 + 0x1000 * i
def PT_PARTNER.KIND (i : Nat) : RF := ⟨PT_PARTNER.addr i, 0, 8⟩
def PT_PARTNER.VERSION (i : Nat) : RF := ⟨PT_PARTNER.addr i, 8, 8⟩
def PT_PARTNER.LANES (i : Nat) : RF := ⟨PT_PARTNER.addr i, 16, 4⟩

/-- PT_PARTNER_SN_LO (R485). -/
def PT_PARTNER_SN_LO.addr (i : Nat) : Nat := 0x220001C + 0x1000 * i
def PT_PARTNER_SN_LO.SN (i : Nat) : RF := ⟨PT_PARTNER_SN_LO.addr i, 0, 32⟩

/-- PT_PARTNER_SN_HI (R485). -/
def PT_PARTNER_SN_HI.addr (i : Nat) : Nat := 0x2200020 + 0x1000 * i
def PT_PARTNER_SN_HI.SN (i : Nat) : RF := ⟨PT_PARTNER_SN_HI.addr i, 0, 32⟩

/-- LN_CTL (R486). -/
def LN_CTL.addr (i : Nat) : Nat := 0x2210000 + 0x100 * i
def LN_CTL.SLIP (i : Nat) : RF := ⟨LN_CTL.addr i, 0, 1⟩
def LN_CTL.PRBS_TX (i : Nat) : RF := ⟨LN_CTL.addr i, 1, 1⟩
def LN_CTL.PRBS_RX (i : Nat) : RF := ⟨LN_CTL.addr i, 2, 1⟩

/-- LN_STAT (R486). -/
def LN_STAT.addr (i : Nat) : Nat := 0x2210004 + 0x100 * i
def LN_STAT.LOCK (i : Nat) : RF := ⟨LN_STAT.addr i, 0, 1⟩
def LN_STAT.IN_SERVICE (i : Nat) : RF := ⟨LN_STAT.addr i, 1, 1⟩
def LN_STAT.READY (i : Nat) : RF := ⟨LN_STAT.addr i, 2, 1⟩
def LN_STAT.PRBS_LOCK (i : Nat) : RF := ⟨LN_STAT.addr i, 3, 1⟩
def LN_STAT.LOGICAL (i : Nat) : RF := ⟨LN_STAT.addr i, 4, 3⟩
def LN_STAT.SLIPS (i : Nat) : RF := ⟨LN_STAT.addr i, 8, 8⟩
def LN_STAT.BIP_MARKERS (i : Nat) : RF := ⟨LN_STAT.addr i, 16, 5⟩
def LN_STAT.SKEW (i : Nat) : RF := ⟨LN_STAT.addr i, 24, 8⟩

/-- LN_PRBS_ERR_LO (R487). -/
def LN_PRBS_ERR_LO.addr (i : Nat) : Nat := 0x2210008 + 0x100 * i
def LN_PRBS_ERR_LO.ERR (i : Nat) : RF := ⟨LN_PRBS_ERR_LO.addr i, 0, 32⟩

/-- LN_PRBS_ERR_HI (R487). -/
def LN_PRBS_ERR_HI.addr (i : Nat) : Nat := 0x221000C + 0x100 * i
def LN_PRBS_ERR_HI.ERR (i : Nat) : RF := ⟨LN_PRBS_ERR_HI.addr i, 0, 16⟩

/-- LN_PRBS_BITS_LO (R487). -/
def LN_PRBS_BITS_LO.addr (i : Nat) : Nat := 0x2210010 + 0x100 * i
def LN_PRBS_BITS_LO.BITS (i : Nat) : RF := ⟨LN_PRBS_BITS_LO.addr i, 0, 32⟩

/-- LN_PRBS_BITS_HI (R487). -/
def LN_PRBS_BITS_HI.addr (i : Nat) : Nat := 0x2210014 + 0x100 * i
def LN_PRBS_BITS_HI.BITS (i : Nat) : RF := ⟨LN_PRBS_BITS_HI.addr i, 0, 16⟩

/-- TK_CFG (R515). -/
def TK_CFG.addr : Nat := 0x2500100
def TK_CFG.MODE : RF := ⟨TK_CFG.addr, 0, 2⟩
def TK_CFG.PRIMARY : RF := ⟨TK_CFG.addr, 2, 1⟩
def TK_CFG.FAILOVER : RF := ⟨TK_CFG.addr, 3, 1⟩
def TK_CFG.PEER : RF := ⟨TK_CFG.addr, 4, 1⟩

/-- TK_STAT (R516). -/
def TK_STAT.addr : Nat := 0x2500104
def TK_STAT.TAKE : RF := ⟨TK_STAT.addr, 0, 16⟩
def TK_STAT.OPEN : RF := ⟨TK_STAT.addr, 16, 1⟩
def TK_STAT.CLOSING : RF := ⟨TK_STAT.addr, 17, 1⟩
def TK_STAT.MODE_NOW : RF := ⟨TK_STAT.addr, 18, 2⟩
def TK_STAT.A_IN : RF := ⟨TK_STAT.addr, 20, 1⟩
def TK_STAT.B_IN : RF := ⟨TK_STAT.addr, 21, 1⟩
def TK_STAT.PEER_IN : RF := ⟨TK_STAT.addr, 22, 1⟩
def TK_STAT.STANDBY : RF := ⟨TK_STAT.addr, 23, 1⟩
def TK_STAT.CAUSE : RF := ⟨TK_STAT.addr, 24, 4⟩
def TK_STAT.SEAL_FAIL : RF := ⟨TK_STAT.addr, 28, 1⟩

/-- MG_STAT (R517). -/
def MG_STAT.addr (i : Nat) : Nat := 0x2500140 + 0x20 * i
def MG_STAT.STATE (i : Nat) : RF := ⟨MG_STAT.addr i, 0, 3⟩
def MG_STAT.VOLATILE (i : Nat) : RF := ⟨MG_STAT.addr i, 3, 1⟩
def MG_STAT.RATE (i : Nat) : RF := ⟨MG_STAT.addr i, 16, 16⟩

/-- MG_FREE_LO (R517). -/
def MG_FREE_LO.addr (i : Nat) : Nat := 0x2500144 + 0x20 * i
def MG_FREE_LO.FREE (i : Nat) : RF := ⟨MG_FREE_LO.addr i, 0, 32⟩

/-- MG_FREE_HI (R517). -/
def MG_FREE_HI.addr (i : Nat) : Nat := 0x2500148 + 0x20 * i
def MG_FREE_HI.FREE (i : Nat) : RF := ⟨MG_FREE_HI.addr i, 0, 16⟩

/-- MG_M_LO (R517). -/
def MG_M_LO.addr (i : Nat) : Nat := 0x250014C + 0x20 * i
def MG_M_LO.M (i : Nat) : RF := ⟨MG_M_LO.addr i, 0, 32⟩

/-- MG_M_HI (R517). -/
def MG_M_HI.addr (i : Nat) : Nat := 0x2500150 + 0x20 * i
def MG_M_HI.M (i : Nat) : RF := ⟨MG_M_HI.addr i, 0, 16⟩

/-- MG_ERR (R517). -/
def MG_ERR.addr (i : Nat) : Nat := 0x2500154 + 0x20 * i
def MG_ERR.ERRORS (i : Nat) : RF := ⟨MG_ERR.addr i, 0, 16⟩
def MG_ERR.TIMEOUTS (i : Nat) : RF := ⟨MG_ERR.addr i, 16, 16⟩

/-- FB_CFG (R547). -/
def FB_CFG.addr : Nat := 0x2300000
def FB_CFG.TW_DERIVE : RF := ⟨FB_CFG.addr, 0, 1⟩
def FB_CFG.TRIG_FWD : RF := ⟨FB_CFG.addr, 1, 1⟩
def FB_CFG.REMOTE_REC : RF := ⟨FB_CFG.addr, 2, 1⟩
def FB_CFG.PEER_NODE : RF := ⟨FB_CFG.addr, 8, 8⟩
def FB_CFG.PEER_MAG : RF := ⟨FB_CFG.addr, 16, 1⟩
def FB_CFG.TW_BASE : RF := ⟨FB_CFG.addr, 17, 7⟩
def FB_CFG.OWN_RESERVE : RF := ⟨FB_CFG.addr, 24, 8⟩

/-- FB_STAT (R548). -/
def FB_STAT.addr : Nat := 0x2300008
def FB_STAT.NODE : RF := ⟨FB_STAT.addr, 0, 8⟩
def FB_STAT.ROOT : RF := ⟨FB_STAT.addr, 8, 1⟩
def FB_STAT.READY : RF := ⟨FB_STAT.addr, 9, 1⟩
def FB_STAT.TIME_LOCKED : RF := ⟨FB_STAT.addr, 10, 1⟩
def FB_STAT.IN_ARRAY : RF := ⟨FB_STAT.addr, 11, 1⟩
def FB_STAT.ADMIT_WAIT : RF := ⟨FB_STAT.addr, 12, 1⟩
def FB_STAT.PARTITIONED : RF := ⟨FB_STAT.addr, 13, 1⟩
def FB_STAT.NODES : RF := ⟨FB_STAT.addr, 16, 9⟩
def FB_STAT.DROPS : RF := ⟨FB_STAT.addr, 25, 7⟩

/-- FB_GEN (R549). -/
def FB_GEN.addr : Nat := 0x230000C
def FB_GEN.GEN : RF := ⟨FB_GEN.addr, 0, 32⟩

/-- FB_ID (R549). -/
def FB_ID.addr : Nat := 0x2300010
def FB_ID.ID : RF := ⟨FB_ID.addr, 0, 32⟩

/-- FB_ROOT_SN_LO (R549). -/
def FB_ROOT_SN_LO.addr : Nat := 0x2300014
def FB_ROOT_SN_LO.SN : RF := ⟨FB_ROOT_SN_LO.addr, 0, 32⟩

/-- FB_ROOT_SN_HI (R549). -/
def FB_ROOT_SN_HI.addr : Nat := 0x2300018
def FB_ROOT_SN_HI.SN : RF := ⟨FB_ROOT_SN_HI.addr, 0, 32⟩

/-- FB_POS (R549). -/
def FB_POS.addr : Nat := 0x230001C
def FB_POS.X : RF := ⟨FB_POS.addr, 0, 8⟩
def FB_POS.Y : RF := ⟨FB_POS.addr, 8, 8⟩
def FB_POS.HOPS : RF := ⟨FB_POS.addr, 16, 8⟩
def FB_POS.PARENT : RF := ⟨FB_POS.addr, 24, 3⟩

/-- FB_TIME_OFS (R549). -/
def FB_TIME_OFS.addr : Nat := 0x2300020
def FB_TIME_OFS.OFS : RF := ⟨FB_TIME_OFS.addr, 0, 32⟩

/-- FB_TIME_DLY (R549). -/
def FB_TIME_DLY.addr : Nat := 0x2300024
def FB_TIME_DLY.DLY : RF := ⟨FB_TIME_DLY.addr, 0, 32⟩

/-- FB_PASS (R550). -/
def FB_PASS.addr (d : Nat) : Nat := 0x2300040 + 4 * d
def FB_PASS.STATE (d : Nat) : RF := ⟨FB_PASS.addr d, 0, 2⟩
def FB_PASS.NBR_NODE (d : Nat) : RF := ⟨FB_PASS.addr d, 8, 8⟩
def FB_PASS.NBR_VALID (d : Nat) : RF := ⟨FB_PASS.addr d, 16, 1⟩
def FB_PASS.NBR_PASS (d : Nat) : RF := ⟨FB_PASS.addr d, 17, 3⟩

/-- FB_ROUTE (R551). -/
def FB_ROUTE.addr (i : Nat) : Nat := 0x2300400 + 4 * i
def FB_ROUTE.PRIMARY (i : Nat) : RF := ⟨FB_ROUTE.addr i, 0, 3⟩
def FB_ROUTE.ALT (i : Nat) : RF := ⟨FB_ROUTE.addr i, 3, 3⟩

/-- TH_CFG (R579). -/
def TH_CFG.addr : Nat := 0x2600000
def TH_CFG.RISE_ALERT : RF := ⟨TH_CFG.addr, 0, 8⟩
def TH_CFG.RISE_ACT : RF := ⟨TH_CFG.addr, 8, 8⟩

/-- TH_STAT (R579). -/
def TH_STAT.addr : Nat := 0x2600004
def TH_STAT.BAND : RF := ⟨TH_STAT.addr, 0, 3⟩
def TH_STAT.SHED_STEP : RF := ⟨TH_STAT.addr, 3, 3⟩
def TH_STAT.BOOST : RF := ⟨TH_STAT.addr, 6, 1⟩
def TH_STAT.COOLING_LOST : RF := ⟨TH_STAT.addr, 7, 1⟩
def TH_STAT.RISE_ALERT : RF := ⟨TH_STAT.addr, 8, 1⟩
def TH_STAT.RISE_ACT : RF := ⟨TH_STAT.addr, 9, 1⟩
def TH_STAT.TRIP_NEAR : RF := ⟨TH_STAT.addr, 10, 1⟩
def TH_STAT.HEATING : RF := ⟨TH_STAT.addr, 11, 1⟩
def TH_STAT.PENALTY : RF := ⟨TH_STAT.addr, 16, 8⟩

/-- TH_SHED (R580). -/
def TH_SHED.addr : Nat := 0x2600008
def TH_SHED.S1 : RF := ⟨TH_SHED.addr, 0, 8⟩
def TH_SHED.S2 : RF := ⟨TH_SHED.addr, 8, 8⟩
def TH_SHED.S3 : RF := ⟨TH_SHED.addr, 16, 8⟩
def TH_SHED.S4 : RF := ⟨TH_SHED.addr, 24, 8⟩

/-- TH_TEC (R580). -/
def TH_TEC.addr : Nat := 0x260000C
def TH_TEC.TARGET : RF := ⟨TH_TEC.addr, 0, 8⟩
def TH_TEC.MAX_NORMAL : RF := ⟨TH_TEC.addr, 8, 7⟩
def TH_TEC.HEAT_EN : RF := ⟨TH_TEC.addr, 15, 1⟩
def TH_TEC.HOT_MAX : RF := ⟨TH_TEC.addr, 16, 8⟩
def TH_TEC.FAN_MIN : RF := ⟨TH_TEC.addr, 24, 7⟩

/-- TH_COOL_STAT (R581). -/
def TH_COOL_STAT.addr : Nat := 0x2600010
def TH_COOL_STAT.TEC_DUTY : RF := ⟨TH_COOL_STAT.addr, 0, 7⟩
def TH_COOL_STAT.TEC_DIR : RF := ⟨TH_COOL_STAT.addr, 7, 1⟩
def TH_COOL_STAT.FAN_DUTY : RF := ⟨TH_COOL_STAT.addr, 8, 7⟩
def TH_COOL_STAT.FAN_RPM : RF := ⟨TH_COOL_STAT.addr, 16, 16⟩

/-- TH_VID_TGT (R581). -/
def TH_VID_TGT.addr : Nat := 0x2600014
def TH_VID_TGT.DLY_RAISE : RF := ⟨TH_VID_TGT.addr, 0, 12⟩
def TH_VID_TGT.DLY_LOWER : RF := ⟨TH_VID_TGT.addr, 16, 12⟩

/-- TH_RISE (R581). -/
def TH_RISE.addr : Nat := 0x2600018
def TH_RISE.RATE : RF := ⟨TH_RISE.addr, 0, 16⟩
def TH_RISE.CLUSTER : RF := ⟨TH_RISE.addr, 16, 7⟩

/-- TH_REGION (R582). -/
def TH_REGION.addr (i : Nat) : Nat := 0x2600100 + 8 * i
def TH_REGION.BAND (i : Nat) : RF := ⟨TH_REGION.addr i, 0, 3⟩
def TH_REGION.MODEL_ONLY (i : Nat) : RF := ⟨TH_REGION.addr i, 3, 1⟩
def TH_REGION.VALID (i : Nat) : RF := ⟨TH_REGION.addr i, 4, 5⟩
def TH_REGION.HOT_CLUSTER (i : Nat) : RF := ⟨TH_REGION.addr i, 9, 4⟩
def TH_REGION.TEMP (i : Nat) : RF := ⟨TH_REGION.addr i, 16, 16⟩

/-- TH_RPWR (R582). -/
def TH_RPWR.addr (i : Nat) : Nat := 0x2600104 + 8 * i
def TH_RPWR.RL (i : Nat) : RF := ⟨TH_RPWR.addr i, 0, 16⟩
def TH_RPWR.RC (i : Nat) : RF := ⟨TH_RPWR.addr i, 16, 16⟩

/-- TH_TD0 (R583). -/
def TH_TD0.addr (i : Nat) : Nat := 0x2600200 + 8 * i
def TH_TD0.TYPE (i : Nat) : RF := ⟨TH_TD0.addr i, 0, 2⟩
def TH_TD0.LIMIT (i : Nat) : RF := ⟨TH_TD0.addr i, 8, 8⟩
def TH_TD0.BETA (i : Nat) : RF := ⟨TH_TD0.addr i, 16, 16⟩

/-- TH_TD1 (R583). -/
def TH_TD1.addr (i : Nat) : Nat := 0x2600204 + 8 * i
def TH_TD1.TEMP (i : Nat) : RF := ⟨TH_TD1.addr i, 0, 16⟩
def TH_TD1.OK (i : Nat) : RF := ⟨TH_TD1.addr i, 16, 1⟩
def TH_TD1.OVER (i : Nat) : RF := ⟨TH_TD1.addr i, 17, 1⟩

/-- AG_STAT (R584). -/
def AG_STAT.addr : Nat := 0x2600400
def AG_STAT.PLANS : RF := ⟨AG_STAT.addr, 0, 16⟩
def AG_STAT.ETA : RF := ⟨AG_STAT.addr, 16, 10⟩
def AG_STAT.RUNNING : RF := ⟨AG_STAT.addr, 26, 1⟩

/-- AG_HOURS (R584). -/
def AG_HOURS.addr : Nat := 0x2600404
def AG_HOURS.HOURS : RF := ⟨AG_HOURS.addr, 0, 32⟩

/-- AG_ADV (R584). -/
def AG_ADV.addr (i : Nat) : Nat := 0x2600410 + 4 * i
def AG_ADV.RATE (i : Nat) : RF := ⟨AG_ADV.addr i, 0, 16⟩

/-- AG_REGION (R584). -/
def AG_REGION.addr (i : Nat) : Nat := 0x2600440 + 4 * i
def AG_REGION.INDEX (i : Nat) : RF := ⟨AG_REGION.addr i, 0, 16⟩
def AG_REGION.GUARD (i : Nat) : RF := ⟨AG_REGION.addr i, 16, 16⟩

/-- RSV_CFG (R602). -/
def RSV_CFG.addr : Nat := 0x2700000
def RSV_CFG.CAP_MWH : RF := ⟨RSV_CFG.addr, 0, 16⟩
def RSV_CFG.P_CLOSE : RF := ⟨RSV_CFG.addr, 16, 7⟩
def RSV_CFG.ICHG_MAX : RF := ⟨RSV_CFG.addr, 24, 6⟩
def RSV_CFG.PULSE_EN : RF := ⟨RSV_CFG.addr, 30, 1⟩

/-- RSV_VIN_CFG (R602). -/
def RSV_VIN_CFG.addr : Nat := 0x2700004
def RSV_VIN_CFG.VIN_FAIL : RF := ⟨RSV_VIN_CFG.addr, 0, 8⟩
def RSV_VIN_CFG.VIN_OK : RF := ⟨RSV_VIN_CFG.addr, 8, 8⟩

/-- RSV_STAT (R603). -/
def RSV_STAT.addr : Nat := 0x2700008
def RSV_STAT.STATE : RF := ⟨RSV_STAT.addr, 0, 3⟩
def RSV_STAT.CHARGE : RF := ⟨RSV_STAT.addr, 3, 3⟩
def RSV_STAT.CELL_PRESENT : RF := ⟨RSV_STAT.addr, 6, 1⟩
def RSV_STAT.UNPROTECTED : RF := ⟨RSV_STAT.addr, 7, 1⟩
def RSV_STAT.INHIBIT_COLD : RF := ⟨RSV_STAT.addr, 8, 1⟩
def RSV_STAT.INHIBIT_HOT : RF := ⟨RSV_STAT.addr, 9, 1⟩
def RSV_STAT.TD3_BAD : RF := ⟨RSV_STAT.addr, 10, 1⟩
def RSV_STAT.BOOST_FAULT : RF := ⟨RSV_STAT.addr, 11, 1⟩
def RSV_STAT.CELL_FAULT : RF := ⟨RSV_STAT.addr, 12, 1⟩
def RSV_STAT.VIN_STABLE : RF := ⟨RSV_STAT.addr, 13, 1⟩

/-- RSV_CELL (R604). -/
def RSV_CELL.addr : Nat := 0x270000C
def RSV_CELL.V_REST : RF := ⟨RSV_CELL.addr, 0, 16⟩
def RSV_CELL.I_CELL : RF := ⟨RSV_CELL.addr, 16, 16⟩

/-- RSV_VIN (R604). -/
def RSV_VIN.addr : Nat := 0x2700010
def RSV_VIN.VIN : RF := ⟨RSV_VIN.addr, 0, 16⟩
def RSV_VIN.ILIM : RF := ⟨RSV_VIN.addr, 16, 8⟩

/-- RSV_ENERGY (R604). -/
def RSV_ENERGY.addr : Nat := 0x2700014
def RSV_ENERGY.E_USE : RF := ⟨RSV_ENERGY.addr, 0, 16⟩
def RSV_ENERGY.LIMIT : RF := ⟨RSV_ENERGY.addr, 16, 16⟩

/-- EVT_STATUS (R612). -/
def EVT_STATUS.addr (i : Nat) : Nat := 0x2800000 + 4 * i
def EVT_STATUS.STATUS (i : Nat) : RF := ⟨EVT_STATUS.addr i, 0, 32⟩

/-- EVT_LIVE (R612). -/
def EVT_LIVE.addr (i : Nat) : Nat := 0x2800080 + 4 * i
def EVT_LIVE.LIVE (i : Nat) : RF := ⟨EVT_LIVE.addr i, 0, 32⟩

/-- EVT_MASK (R612). -/
def EVT_MASK.addr (i : Nat) : Nat := 0x2800100 + 4 * i
def EVT_MASK.MASK (i : Nat) : RF := ⟨EVT_MASK.addr i, 0, 32⟩

/-- EVT_PENDING (R613). -/
def EVT_PENDING.addr : Nat := 0x2800180
def EVT_PENDING.COUNT : RF := ⟨EVT_PENDING.addr, 0, 11⟩
def EVT_PENDING.FIRST : RF := ⟨EVT_PENDING.addr, 16, 10⟩
def EVT_PENDING.FIRST_VALID : RF := ⟨EVT_PENDING.addr, 26, 1⟩

/-- FLT_STAT (R620). -/
def FLT_STAT.addr : Nat := 0x2800200
def FLT_STAT.KIND : RF := ⟨FLT_STAT.addr, 0, 4⟩
def FLT_STAT.COUNT : RF := ⟨FLT_STAT.addr, 16, 16⟩

/-- FLT_INTR (R620). -/
def FLT_INTR.addr : Nat := 0x2800204
def FLT_INTR.LAST : RF := ⟨FLT_INTR.addr, 0, 16⟩
def FLT_INTR.MAX : RF := ⟨FLT_INTR.addr, 16, 16⟩

/-- WDG_CFG (R620). -/
def WDG_CFG.addr : Nat := 0x2800210
def WDG_CFG.PERIOD : RF := ⟨WDG_CFG.addr, 0, 10⟩

/-- WDG_STAT (R620). -/
def WDG_STAT.addr : Nat := 0x2800214
def WDG_STAT.RESTARTS : RF := ⟨WDG_STAT.addr, 0, 8⟩
def WDG_STAT.IMAGE_CHANGED : RF := ⟨WDG_STAT.addr, 8, 1⟩
def WDG_STAT.STUCK : RF := ⟨WDG_STAT.addr, 9, 1⟩

/-- ST_STAT (R627). -/
def ST_STAT.addr : Nat := 0x2800220
def ST_STAT.RAN : RF := ⟨ST_STAT.addr, 0, 8⟩
def ST_STAT.FAILED : RF := ⟨ST_STAT.addr, 8, 8⟩
def ST_STAT.RUNNING : RF := ⟨ST_STAT.addr, 16, 1⟩
def ST_STAT.SCOPE : RF := ⟨ST_STAT.addr, 17, 1⟩

/-- SYS_SERIAL (R90). -/
def SYS_SERIAL.addr (i : Nat) : Nat := 8 + 4 * i
def SYS_SERIAL.SERIAL (i : Nat) : RF := ⟨SYS_SERIAL.addr i, 0, 32⟩

/-- FT_GL_REF (R286). -/
def FT_GL_REF.addr : Nat := 0x41C
def FT_GL_REF.REF : RF := ⟨FT_GL_REF.addr, 0, 32⟩

/-- FT_GL_OFFSET (R286). -/
def FT_GL_OFFSET.addr : Nat := 0x420
def FT_GL_OFFSET.OFFSET : RF := ⟨FT_GL_OFFSET.addr, 0, 32⟩

/-- FT_START (R286). -/
def FT_START.addr (i : Nat) : Nat := 0x428 + 4 * i
def FT_START.START (i : Nat) : RF := ⟨FT_START.addr i, 0, 32⟩

/-- FT_FRAME_LAST (R288). -/
def FT_FRAME_LAST.addr : Nat := 0x438
def FT_FRAME_LAST.FRAME : RF := ⟨FT_FRAME_LAST.addr, 0, 32⟩

/-- FT_NEXT (R288). -/
def FT_NEXT.addr (i : Nat) : Nat := 0x440 + 4 * i
def FT_NEXT.NEXT (i : Nat) : RF := ⟨FT_NEXT.addr i, 0, 32⟩

/-- FT_PLAN (R289). -/
def FT_PLAN.addr (i : Nat) : Nat := 0x450 + 4 * i
def FT_PLAN.TICKS (i : Nat) : RF := ⟨FT_PLAN.addr i, 0, 32⟩

/-- KS_ARMED (R315). -/
def KS_ARMED.addr (i : Nat) : Nat := 0x2000020 + 4 * i
def KS_ARMED.ARMED (i : Nat) : RF := ⟨KS_ARMED.addr i, 0, 32⟩

/-- KS_LATE (R315). -/
def KS_LATE.addr (i : Nat) : Nat := 0x2000028 + 4 * i
def KS_LATE.LATE (i : Nat) : RF := ⟨KS_LATE.addr i, 0, 32⟩

/-- REC_LAST (R387). -/
def REC_LAST.addr : Nat := 0x2500018
def REC_LAST.FRAME : RF := ⟨REC_LAST.addr, 0, 32⟩

/-- STAT_LAST (R445). -/
def STAT_LAST.addr : Nat := 0x2420008
def STAT_LAST.FRAME : RF := ⟨STAT_LAST.addr, 0, 32⟩

/-- AE_MIN (R446). -/
def AE_MIN.addr : Nat := 0x2420044
def AE_MIN.MIN : RF := ⟨AE_MIN.addr, 0, 32⟩

/-- AE_MAX (R446). -/
def AE_MAX.addr : Nat := 0x2420048
def AE_MAX.MAX : RF := ⟨AE_MAX.addr, 0, 32⟩

/-- AE_FRAME (R446). -/
def AE_FRAME.addr : Nat := 0x2420050
def AE_FRAME.FRAME : RF := ⟨AE_FRAME.addr, 0, 32⟩

/-- TK_FIRST (R516). -/
def TK_FIRST.addr : Nat := 0x2500108
def TK_FIRST.FIRST : RF := ⟨TK_FIRST.addr, 0, 32⟩

/-- TK_NEXT (R516). -/
def TK_NEXT.addr : Nat := 0x250010C
def TK_NEXT.NEXT : RF := ⟨TK_NEXT.addr, 0, 16⟩

/-- FB_LEAD (R547). -/
def FB_LEAD.addr : Nat := 0x2300004
def FB_LEAD.LEAD : RF := ⟨FB_LEAD.addr, 0, 32⟩

/-- MON_TONE (R422). -/
def MON_TONE.addr (x b i : Nat) : Nat := 0x2410000 + 0x2000 * x + 0x1000 * b + 4 * i
def MON_TONE.VALUE (x b i : Nat) : RF := ⟨MON_TONE.addr x b i, 0, 10⟩

end Sys2Proof.Machine
end

