-- ==== Sys2Proof/Machine/StCmd.lean ====
section
/-! DEFINITION. State types of the command core: replies, notices, the two-wire block, events, the cairn log, access
classes, NVM, profiles, firmware, power and start-up (chapters 2, 3, 4 and 19 of the spec). -/

namespace Sys2Proof.Machine

/-- What a withheld or slow reply waits for (R76, R79). -/
inductive WaitOn
  /-- nothing: it leaves in its carrier's order -/
  | none
  /-- FCP of a frame -/
  | fcp (frame : Nat)
  /-- the swap of an engine -/
  | swap (e : Nat)
  /-- the end of a take close -/
  | takeClose
  /-- the end of CAL_FULL -/
  | fullCal
  /-- the end of a self-test run -/
  | selfTest
  /-- the hand-over of ENG_RESTORE -/
  | restore (c : Nat)
  /-- the remote reply with that identifier -/
  | remote (id : Nat)
  /-- the two-wire bus -/
  | bus
  /-- the members of an array take -/
  | array
  /-- a magazine's response: the requester's origin × 2 + magazine -/
  | magazine (k : Nat)
  /-- the publication of a margin plan -/
  | plan
  /-- the NVM word write under way -/
  | nvm
  deriving DecidableEq, Repr

/-- A reply (R74): leaves in order once `wait` is `none`. -/
structure Reply where
  carrier : Carrier
  opcode : Nat
  tag : Byte
  status : Nat
  result : List Byte
  wait : WaitOn
  since : Tick
  /-- QUIET was set: an OK or ACCEPTED_DEFERRED reply is suppressed (R72) -/
  quiet : Bool
  deriving DecidableEq, Repr

/-- An event notice sent (R88); `node` is the fabric destination, none for the host; `source` the node whose fabric notice
it passes on (R541). -/
structure Notice where
  event : Nat
  count : Nat
  live : Bool
  stamp : Tick
  node : Option Nat
  source : Option Nat
  deriving DecidableEq, Repr

/-- A request accepted into the execution sequence and not yet executed (R75, R76). -/
structure Accepted where
  opcode : Nat
  req : Req
  deriving DecidableEq, Repr

/-- The command core. -/
structure CmdState where
  replies : List Reply
  accepted : List Accepted
  notices : List Notice
  /-- a request from a carrier's queue is being executed: it does not wait behind those accepted after it -/
  executing : Bool
  deriving DecidableEq, Repr

/-- A two-wire controller transaction in progress (R104). -/
structure Xfer where
  target : Nat
  /-- bytes to send after the address, and bytes to read -/
  sends : Nat
  reads : Nat
  losses : Nat
  deriving DecidableEq, Repr

/-- The two-wire block (R93 to R110). Registers TW_CFG and TW_ERR are in the register map. -/
structure TwState where
  mbxStat : Nat
  reqBuf : List (Nat × Byte)
  repBuf : List Byte
  bank : Word
  pointer : Nat
  addrIn : Bool
  sclHeld : Bool
  /-- data read out to the controller in the last read -/
  readOut : List Byte
  /-- bytes still to be read out, from the pointer, when a window word has not arrived -/
  readWait : Option Nat
  /-- the target waits for a START -/
  waitStart : Bool
  xfer : Option Xfer
  deriving DecidableEq, Repr

/-- Event counts, stamps and routes (R87, R88, R610). Status, live and mask bits are registers. -/
structure EvtState where
  count : List (Nat × Nat)
  stamp : List (Nat × Tick)
  route : List (Nat × Byte)
  dest : List (Nat × Byte)
  deriving DecidableEq, Repr

/-- A cairn without its sequence and chain (R127). -/
structure Cairn where
  stamp : Tick
  origin : Nat
  kind : Nat
  target : Nat
  old : Word
  new : Word
  deriving DecidableEq, Repr

/-- A cairn as stored (R127): with sequence and chain check. -/
structure Entry where
  seq : Nat
  cairn : Cairn
  chain : Word
  deriving DecidableEq, Repr

/-- The cairn log: the entries stored, newest first, and the queue of R131, oldest first. -/
structure LogState where
  entries : List Entry
  queue : List Cairn
  lost : Nat
  /-- a torn cairn's sequence, to be reported by the next entry (R130) -/
  torn : Option Nat
  /-- a thermal shutdown lies before the next start-up (R114) -/
  resumed : Bool
  deriving DecidableEq, Repr

/-- MAINTAIN held by an origin, with the stamp of its last command (R126). -/
structure Maint where
  origin : Nat
  last : Tick
  deriving DecidableEq, Repr

/-- A nonce given to an origin (R125). -/
structure Nonce where
  origin : Nat
  nonce : List Byte
  since : Tick
  deriving DecidableEq, Repr

/-- Access classes: the active table (HOST, TWO_WIRE individual, TWO_WIRE group, FABRIC, PIN), MAINTAIN held, and the
challenge state. -/
structure AccState where
  table : List Nat
  perms : Nat
  maintain : List Maint
  nonces : List Nonce
  wrong : List Tick
  lockUntil : Option Tick
  /-- the maintenance key, once replaced -/
  key : Option (List Byte)
  deriving DecidableEq, Repr

/-- What an NVM word write carries to its owner once it is read back right (R113, R115). -/
inductive NvmApply
  /-- the bytes alone -/
  | bytes
  /-- a calibration entry of a unit (R203) -/
  | cal (u : Nat) (e : BitVec 64) (origin : Nat)
  /-- the header of profile `n`, last word of its store, with the store count before (R122) -/
  | profile (n origin old : Nat)
  /-- the maintenance key (R125) -/
  | key
  deriving DecidableEq, Repr

/-- A single-word write through the journal slot (R113): target offset and 64 bytes. -/
structure NvmWrite where
  offset : Nat
  data : List Byte
  owner : NvmApply
  deriving DecidableEq, Repr

/-- A firmware image as its header describes it (R135). -/
structure FwImage where
  version : Word
  rollback : Nat
  valid : Bool
  deriving DecidableEq, Repr

/-- A profile selection that awaits its FCP (R119). -/
structure PendProfile where
  num : Nat
  frame : Nat
  origin : Nat
  deriving DecidableEq, Repr

/-- NVM (R112): its bytes, the word writes waiting for the journal slot (the first is VALID in J0), the profile staging buffer and the firmware images. -/
structure NvmState where
  mem : List Host.Cell
  journal : List NvmWrite
  staging : List (Nat × Byte)
  stageOwner : Option Nat
  stageSince : Tick
  pendProfile : Option PendProfile
  fw0 : FwImage
  fw1 : FwImage
  updating : Option Nat
  updateLen : Nat
  rollback : Nat
  nextTake : Nat
  deriving DecidableEq, Repr

/-- Power, clocks and start-up that no register holds (R43 to R70). -/
structure PwrState where
  rstLow : Bool
  standby : Bool
  shipLatch : Bool
  thermalLatch : Bool
  mainEn : Bool
  vidDriven : Bool
  /-- the part holds itself in reset after a rail fault or thermal shutdown -/
  selfHeld : Bool
  /-- RST_N rose early or a sequence error: HELD until every rail is valid -/
  heldEarly : Bool
  coreDown : Bool
  coreRestarts : List Tick
  /-- a RC-rail fault awaits 10 ms of validity: tick at which the rail became valid again -/
  rcFault : Bool
  rcValidAt : Option Tick
  trefValidAt : Option Tick
  trefBlocked : Bool
  lrefValidAt : Option Tick
  /-- domains switched on and not yet powered (bit numbers of SYS_DOMAIN) -/
  switching : List Nat
  /-- profile words that wait for their domain to become powered -/
  domainWords : List (Nat × Word)
  resetAfterCloseOut : Bool
  /-- the pins at a release of RST_N during the close-out (R59) -/
  resetPins : Option Pins
  lastVidStep : Tick
  vidTarget : Nat
  deriving DecidableEq, Repr

/-- A fabric message as it arrives: by its pass or its sender, with its payload and, for TIME, its stamps. -/
inductive FabMsg
  | hello (d : BitVec 3) (payload : List Byte)
  | report (d : BitVec 3) (payload : List Byte)
  | table (payload : List Byte)
  | time (node : Byte) (payload : List Byte) (arrived sent : BitVec 72)
  | array (node : Byte) (payload : List Byte)
  | reply (node : Byte) (payload : List Byte)
  | notice (node : Byte) (payload : List Byte)
  deriving DecidableEq, Repr

/-- Watchdog and self-test (R617, R624). -/
structure FltState where
  /-- items of the run, and whether a fault of R614 has cut the run short (R625) -/
  stItems : Nat
  stCut : Bool
  stStart : Tick
  stEnd : Tick
  stRestart : Bool
  /-- the image that RESTART or a core restart asked for: 0 none, 1 image 0, 2 image 1 (R86, R619) -/
  imageTried : Nat
  /-- origin of the self-test run under way -/
  stOrigin : Nat
  /-- the core has locked up within 60 s of its last restart (R619) -/
  lockedEarly : Bool
  /-- fabric messages that wait for the core, oldest first (R618) -/
  waiting : List FabMsg
  deriving DecidableEq, Repr

end Sys2Proof.Machine
end

