-- ==== Sys2Proof/Machine/StMem.lean ====
section
/-! DEFINITION. State types of the frame memory, the record path, the monitor, the statistics, and the takes and
magazines (chapters 10 to 13 and 15 of the spec). Frame memory is held by what the spec puts there: the courses of
each frame, the slots that hold them, the monitor's output frames, the statistics areas and the error ring. -/

namespace Sys2Proof.Machine

/-- One record of the error ring (R342, R354). -/
structure ErrRec where
  stamp : Tick
  chan : Nat
  port : Nat
  pa : Nat
  deriving DecidableEq, Repr

/-- The frame memory controller beyond its registers (chapter 10). Keys of `openRows` are channel × 32 + bank, with
row + 1; `tempAt` holds the stamp of a channel's last valid die reading. -/
structure McState where
  ring : List ErrRec
  recent : List ErrRec
  cairnAt : List (Nat × Tick)
  openRows : List (Nat × Nat)
  tempAt : List (Nat × Tick)
  /-- data-rate changes requested and not yet run: channel to 1 for 5,600 and 2 for 6,400 MT/s, with the origin -/
  rateWant : List (Nat × Nat)
  rateOrigin : Nat
  passSince : List (Nat × Tick)
  stalledUntil : List (Nat × Tick)
  deriving DecidableEq, Repr

/-- One accepted course segment (R361 to R363): outputs after the unit correction of R183, as GF × 16,384 + v, unit by
unit; `none` marks an output without a conversion (R174). -/
structure Seg where
  region : Nat
  course : Nat
  node : Bool
  units : List Nat
  outs : List (List (Option Nat))
  deriving DecidableEq, Repr

/-- What the ingest holds of one frame: the segments, regions ended, the course flag map (key course × 4 + column of
R377), the offsets Δ in force (key ((node × 2 + h) × 32 + k) × 4 + colour), and the words of the RECORD sink. -/
structure Ingest where
  frame : Nat
  segs : List Seg
  started : List Nat
  ended : List Nat
  whole : Option Tick
  cflags : List (Nat × Byte)
  delta : List (Nat × Int)
  recWords : List Word
  recDropped : Nat
  tc : Option (Tick × BitVec 64)
  /-- once whole: every output in payload order, as GF × 16,384 + v, with bit 16 set where its course is filled, bit 17
  where it was replaced from the list and bit 18 where it was replaced dynamically; and the measured means of R368 as
  (key, (sum, count)) -/
  final : List Nat
  means : List (Nat × (Nat × Nat))
  dynList : List Word
  stats : Option (List Byte)
  deriving DecidableEq, Repr

/-- A frame slot or a stub (R357, R359): its consumers are the drains still owed (0 A, 1 B, 2 peer), the monitor
claims by context, and the next frame's temporal reference. -/
structure Slot where
  frame : Nat
  stub : Bool
  index : Nat
  take : Nat
  drains : List Nat
  draining : List Nat
  claims : List Nat
  damaged : List (Nat × Nat)
  damageCount : Nat
  remapped : Bool
  /-- regions whose whole extent was lost (R347) -/
  lost : List Nat
  /-- the header as completed, and its stamp -/
  header : Option (List Byte)
  headerAt : Tick
  guest : Option Nat
  deriving DecidableEq, Repr

/-- An INDEX entry (R504). -/
structure IndexEntry where
  frame : Nat
  flags : Word
  block : Nat
  blocks : Nat
  chain : List Byte
  deriving DecidableEq, Repr

/-- A part of a take on one magazine (R500). `entry` is the take table entry. -/
structure Part where
  mag : Nat
  number : Nat
  entry : Nat
  state : Nat
  sequence : Nat
  first : Nat
  endBlock : Nat
  firstFrame : Option Nat
  lastFrame : Option Nat
  frames : Nat
  stubs : Nat
  incomplete : Nat
  damaged : Nat
  index : List IndexEntry
  lastIndex : Nat
  lastMeta : List (Nat × Nat)
  sealRec : Nat
  chainBefore : List Byte
  chainAfter : List Byte
  cairnFirst : Nat
  cairnLast : Nat
  ready : Bool
  deriving DecidableEq, Repr

/-- A close in progress (R510). -/
structure Closing where
  cause : Nat
  at_ : Tick
  origin : Nat
  lastFrame : Nat
  deriving DecidableEq, Repr

/-- The open take (R507). -/
structure Take where
  num : Nat
  openAt : Tick
  start : Tick
  firstFrame : Nat
  mode : Nat
  mags : List Nat
  parts : List Part
  chain : List Byte
  chainFrame : Option Nat
  closing : Option Closing
  nearFull : Bool
  /-- the origin of the open, and the magazines on which steps 2 to 4 of R507 have not ended -/
  origin : Nat
  opening : List Nat
  /-- the defect list as its last DEFECTS extent holds it (R503) -/
  listed : List Word
  deriving DecidableEq, Repr

/-- What a magazine command is for (R506, R507, R510, R514, R518). -/
inductive Purpose
  | identify
  | capacity
  | superblock
  | table
  | metaExt (kind : Nat)
  | entry (part : Nat)
  | open_
  | opened
  | payload (frame : Nat)
  | header (frame : Nat)
  | ashlar (frame : Nat)
  | seal_
  | closeEnd
  | format
  | formatEnd (key : Nat)
  | read (offset length key : Nat)
  | recover (key : Nat)
  | sealRec (key : Nat)
  | other
  deriving DecidableEq, Repr

/-- A magazine command (R492, R493): its capsule, the block data it carries, and what it is for. -/
structure MagCmd where
  cid : Nat
  op : Nat
  block : Nat
  count : Nat
  dmsg : Nat
  data : List Byte
  purpose : Purpose
  deriving DecidableEq, Repr

/-- The superblock of a magazine (R498) as last read or written. -/
structure Superblock where
  valid : Bool
  generation : Nat
  volume : List Byte
  m : Nat
  alloc : Nat
  watermark : Nat
  serial : Nat
  formatAt : Nat
  used : Nat
  name : List Byte
  deriving DecidableEq, Repr

/-- A magazine (R491 to R499). `todo` are commands not yet sent, `out` those outstanding, in order. -/
structure Mag where
  ident : List Byte
  capacity : Nat
  sb : Superblock
  /-- bytes 0 to 127 of the superblock as read -/
  sbRaw : List Byte
  openParts : List Nat
  todo : List MagCmd
  out : List MagCmd
  nextCid : Nat
  nextMsg : Nat
  busy : Option Nat
  deriving DecidableEq, Repr

/-- The record path and takes beyond their registers. -/
structure RecState where
  ingest : List Ingest
  /-- per region: the frame open on its bus -/
  openFrame : List (Nat × Nat)
  overflowed : List Nat
  stalled : List Nat
  slots : List Slot
  /-- the delta tables by conversion key (gain mode × 4 + binning, node), and the last conversion key -/
  deltaLast : List (Nat × List (Nat × Int))
  deltaKey : Option Nat
  stubCairn : Option Tick
  stubsFull : Bool
  tcPart : List Word
  tcKept : List (Tick × BitVec 64)
  tcState : Nat
  recorded : List (Nat × (Word × Nat × Nat))
  reserveLimit : Nat
  depth : Nat
  take : Option Take
  magA : Mag
  magB : Mag
  peer : Option Nat
  lrefLostAt : Option Tick
  metaAt : Tick
  entryAt : Tick
  metaSeq : Nat
  /-- requests with FORCE that wait for the take's close and then execute: opcode and request -/
  afterClose : List (Nat × Req)
  deriving DecidableEq, Repr

/-- An output frame of the monitor (R409, R410): its header fields and rows. -/
structure OutFrame where
  frame : Nat
  header : List Byte
  rows : List Word
  flags : Nat
  deriving DecidableEq, Repr

/-- A monitor context beyond its registers (R409, R415). `restart` is owed at the next development. -/
structure MonCtx where
  developing : Option Nat
  waiting : Option OutFrame
  sending : Option OutFrame
  last : Option OutFrame
  count : Nat
  restart : Bool
  lastKey : Nat
  memErr : Bool
  deriving DecidableEq, Repr

/-- The monitor (chapter 12): contexts, frames due to contexts (frame, context), and the context of the last segment. -/
structure MonState where
  ctx : List (Nat × MonCtx)
  due : List (Nat × Nat)
  current : Option Nat
  repeats : List (Nat × Nat)
  awbGains : List Nat
  deriving DecidableEq, Repr

/-- A published statistics area (R428, R433): its bytes from 0x4000 to 0x9FFF. -/
structure StatArea where
  frame : Nat
  bytes : List Byte
  /-- valid-zone sums for the loops: (zones, ΣY) and the zones themselves (R, G, B, Y) -/
  zones : List (Nat × Nat × Nat × Nat)
  flags : Nat
  stamp : Tick
  deriving DecidableEq, Repr

/-- Statistics and the two loops (chapter 13). `map` counts the mason words of a frame; kAE and the ratios are exact. -/
structure StatState where
  kept : List StatArea
  maps : List (Nat × List (Nat × Nat))
  stopped : List Nat
  mapNow : List (Nat × List (Nat × Nat))
  aeFirst : Option Nat
  awbFirst : Option Nat
  kAe : Rat
  wR : Rat
  wB : Rat
  /-- STATISTICS sink: by engine × 128 + channel, the status word being followed and the count words still to come -/
  words : List (Nat × (Word × Nat))
  deriving DecidableEq, Repr

end Sys2Proof.Machine
end

