-- ==== Sys2Proof/Machine/StLink.lean ====
section
/-! DEFINITION. State types of the link ports, the fabric, temperature and ageing, and the reserve path (chapters 14
and 16 to 18 of the spec). -/

namespace Sys2Proof.Machine

/-- A packet (R463, R464). -/
structure Pkt where
  type : Nat
  vc : Nat
  first : Bool
  last : Bool
  seq : Nat
  msg : Nat
  dst : Nat
  src : Nat
  payload : List Byte
  deriving DecidableEq, Repr

/-- A re-striping in progress (R476, R477): the new set and epoch, the old set, its start, its origin, the lanes whose
SWITCH block has been followed, and whether the partner has answered. -/
structure Restripe where
  set : Nat
  epoch : Nat
  old : Nat
  since : Tick
  origin : Nat
  followed : Nat
  answered : Bool
  deriving DecidableEq, Repr

/-- A port (R452 to R480) beyond its registers. -/
structure Port where
  /-- link-layer packets waiting to be sent, then DATA packets waiting per VC order -/
  linkq : List Pkt
  dataq : List Pkt
  /-- DATA sent and not acknowledged, oldest first, and the tick the oldest was last sent -/
  replay : List Pkt
  /-- held packets to be sent again, oldest first -/
  resend : List Pkt
  sentAt : Tick
  noAck : Nat
  spent : List Nat
  limit : List Nat
  granted : List Nat
  creditSeen : Bool
  creditAt : Tick
  lastNak : Option Tick
  discarding : Bool
  msgNo : List Nat
  stallSince : List (Nat × Tick)
  since : Tick
  detectAt : Tick
  epoch : Nat
  restripe : Option Restripe
  /-- bring-up: SEEN run per lane, lanes with GO received, GO blocks sent, the lane set -/
  seen : List (Nat × Nat)
  go : Nat
  goSent : Nat
  set : Nat
  partnerSet : Nat
  /-- the last packet sent -/
  sent : Option Pkt
  /-- DATA of VC 2 delivered to this port's consumer -/
  bulk : List Pkt
  waiting : Bool
  preset : Option Nat
  deriving DecidableEq, Repr

/-- A lane (R457 to R462, R478) beyond its registers. -/
structure Lane where
  markerMiss : Nat
  bip : List Bool
  cleanSince : Option Tick
  readmittedAt : Option Tick
  barred : Bool
  byCommand : Bool
  margin : Nat
  prbsErr : Nat
  prbsBits : Nat
  prbsGood : Nat
  count : Nat
  preset : Nat
  outSince : Tick
  deriving DecidableEq, Repr

/-- Links: ports 0–7 and lanes 0–39. -/
structure LkState where
  ports : List (Nat × Port)
  lanes : List (Nat × Lane)
  deriving DecidableEq, Repr

/-- A node-list entry (R522). -/
structure Node where
  serial : Nat
  x : Int
  y : Int
  root : Bool
  admitted : Bool
  deriving DecidableEq, Repr

/-- One unit's REPORT (R522): its serial, and per pass N, E, S, W: usable, the neighbour's serial and its pass. -/
structure Report where
  serial : Nat
  passes : List (Bool × Nat × Nat)
  via : Nat
  deriving DecidableEq, Repr

/-- A pass table accepted for its switch tick (R526). -/
structure TableMsg where
  gen : Nat
  id : Nat
  switchAt : Tick
  node : Nat
  routes : List Byte
  nodes : List Node
  deriving DecidableEq, Repr

/-- The time exchange in progress (R528, R529): number, t1, t2, t4 in 1/256 tick; the values of the last exchange
waiting for its t3; θ and δ of the last exchanges, newest first. -/
structure Exchange where
  number : Nat
  t1 : Nat
  t2 : Nat
  t4 : Nat
  waiting : Bool
  prev : Option (Nat × Nat × Nat)
  offsets : List Int
  delays : List Int
  deriving DecidableEq, Repr

/-- An array take prepared or open (R533 to R536). `ready` are the members that answered
READY. -/
structure ArrayTake where
  coordinator : Bool
  k : Tick
  period : Nat
  members : List Nat
  ready : List Nat
  since : Tick
  committed : Bool
  closeAt : Option Tick
  deriving DecidableEq, Repr

/-- A request sent to another node (R540): its number, the node, TAG and opcode, and whether it is one of the KS_ARM
requests of an FB_SHARED_ARM (R536), which share one number. -/
structure Remote where
  id : Nat
  node : Nat
  tag : Byte
  opcode : Nat
  since : Tick
  shared : Bool
  deriving DecidableEq, Repr

/-- A reservation on a peer (R538, R539): the peer's node and magazine, the rate in 0.1 GB/s and slots asked, the take it is
for, and the frame that is leaving: its messages, those landed, and whether the peer answered BUSY. -/
structure PeerOut where
  node : Nat
  mag : Nat
  rate : Nat
  slots : Nat
  take : Nat
  granted : Bool
  active : Bool
  frame : Option Nat
  messages : List (Nat × List Byte)
  landed : Nat
  stalled : Bool
  deriving DecidableEq, Repr

/-- A reservation granted to a peer (R538, R539): the sender's node, serial number and take, the magazine, the part's state
and entry, its first and end blocks, its ashlars so far, the blocks of its last INDEX and SEAL_REC, and the bytes of the frame
being landed. -/
structure PeerIn where
  node : Nat
  mag : Nat
  rate : Nat
  slots : Nat
  serial : Nat
  take : Nat
  state : Nat
  entry : Nat
  sequence : Nat
  first : Nat
  endBlock : Nat
  frames : List IndexEntry
  lastIndex : Nat
  sealRec : Nat
  data : List Byte
  /-- the TAKE_OPEN and SEAL_REC extents as the sender sent them, and the chain value of its last frame -/
  opened : List Byte
  sealed : List Byte
  chainAfter : List Byte
  cairnFirst : Nat
  cairnLast : Nat
  deriving DecidableEq, Repr

/-- The fabric (chapter 16). Keys are byte 0 × 2^64 + serial, so the lower key is the better one. `lost` is the key last
given up with its heartbeat (R543); `neighbours` maps a pass to the serial number behind it, `nbrArray` lists the passes whose
neighbour has an array take open; `sentAt` holds the send stamp of the last TIME response to each node, in 1/256 tick;
`shared` the members that failed of each FB_SHARED_ARM; `openWait` a TAKE_OPEN that awaits the peer's answer. -/
structure FbState where
  bestKey : Nat
  bestHops : Nat
  bestSince : Tick
  heartbeat : Nat
  beatAt : Tick
  parent : Nat
  declared : Bool
  started : Bool
  lost : Option (Nat × Nat)
  reports : List Report
  reportAt : Option Tick
  table : Option TableMsg
  nodes : List Node
  stageAt : Tick
  neighbours : List (Nat × Nat)
  nbrArray : List Nat
  ex : Exchange
  sentAt : List (Nat × Nat)
  joining : Bool
  array : Option ArrayTake
  lastMembers : List Nat
  remotes : List Remote
  shared : List (Nat × List Nat)
  openWait : Option (Tick × Req)
  peerOut : Option PeerOut
  peerIn : Option PeerIn
  deriving DecidableEq, Repr

/-- A region's thermal model (R557, R562), exact: M and B in °C, ρ in K/s, and the local number of the hottest cluster. -/
structure RegionModel where
  m : Rat
  b : Rat
  rho : Rat
  bandCluster : Nat
  /-- the band before any penalty (R560) -/
  rawBand : Nat
  deriving DecidableEq, Repr

/-- A cluster diode (R555, R557, R562): offset o, the last sample in 1/16 °C, validity with its timers and the tick at which it
became valid again, the run of samples at 145 °C or more, and the values in force of the last 250 ms, newest first. -/
structure Diode where
  o : Rat
  temp : Int
  valid : Bool
  awayAt : Option Tick
  agreeAt : Option Tick
  validAt : Option Tick
  sampleAt : Tick
  hotRun : Nat
  history : List Rat
  deriving DecidableEq, Repr

/-- The plan model (R576, R577): its number, A_r and G_r by region (1 and 0.10 where not listed), TC in ticks and η. -/
structure PlanModel where
  num : Nat
  a : List (Nat × Rat)
  g : List (Nat × Rat)
  tc : Nat
  eta : Rat
  deriving DecidableEq, Repr

/-- The plan model of a new part (R273, R576, R577). -/
def PlanModel.new : PlanModel := ⟨0, [], [], 128000, 41 / 50⟩

/-- Temperature, cooling, ageing and the margin plan (chapter 17). -/
structure ThState where
  models : List (Nat × RegionModel)
  diodes : List (Nat × Diode)
  alertSince : Option Tick
  alertLow : Option Tick
  actSince : Option Tick
  actLow : Option Tick
  actStepAt : Tick
  coolSince : Option Tick
  stepAt : Tick
  belowSince : Option Tick
  integral : Rat
  dutyZeroAt : Option Tick
  fanAt : Option Tick
  fanStalled : Bool
  vidLowSince : Option Tick
  vidHighSince : Option Tick
  /-- POLICY runs of R444 that are being gathered: register address, value before the run, stamps -/
  runs : List (Nat × (Word × Tick × Tick))
  shedCtx : List Nat
  shedStats : Bool
  /-- penalties of R559: region, and the local cluster whose diode failed, 16 for MODEL_ONLY -/
  penalty : List (Nat × Nat)
  /-- next sequence of the history records of R574, which lie in NVM -/
  historySeq : Nat
  /-- mean OFS_H by region in the first history record after a full calibration, and that calibration's count (R573) -/
  driftBase : List (Nat × Rat)
  driftCal : Option Nat
  aHour : List (Nat × Rat)
  planRun : Option Tick
  plan : PlanModel
  planNext : Option PlanModel
  /-- advertised maxima (R578): profile × 6 + band to 0.1 fps -/
  adv : List (Nat × Nat)
  etaHour : Rat
  /-- worst SLOW_NODE of this hour and of the hour before, by region (R577) -/
  slowHour : List (Nat × Nat)
  slowPast : List (Nat × Nat)
  hottest : Int
  coldest : Int
  bandsSeen : Nat
  /-- the plan of the wait after READY has not been published yet (R578) -/
  afterReady : Bool
  /-- frames at whose FCP a plan is due after a mason swap (R575) -/
  swapPlans : List Nat
  deriving DecidableEq, Repr

/-- A close-out under way (R591, R592): its start, the energy available then in joules, the energy drawn from the cell in units
of 10^-8 J (1 mV × 1 mA × 10 ms), the take it closes (0 none), frames made stubs, step 3 ended under R592, and VIN taken back. -/
structure CloseOut where
  since : Tick
  energy : Rat
  drawn : Nat
  take : Nat
  stubbed : Nat
  ended : Bool
  vinBack : Bool
  deriving DecidableEq, Repr

/-- The reserve path (chapter 18) beyond its registers: the pins RSV_ORING_EN and RSV_BOOST_EN, whether RSV_CHG_PWM has a duty, and
the lamps. -/
structure RsvState where
  oring : Bool
  boost : Bool
  duty : Bool
  closeOut : Option CloseOut
  /-- the charger's phase: since when, and whether it has come to constant voltage (R596) -/
  phaseAt : Tick
  cv : Bool
  /-- the search of R595: steps done in a search under way, when the last one started, and VIN with the charger off, in 10 mV -/
  search : Option Nat
  searchAt : Option Tick
  vinBase : Nat
  /-- slot of the lamp pattern, slots left of the flashes at 16 s, and the lamps (R601) -/
  lampSlot : Nat
  flashes : Nat
  lampA : Bool
  lampB : Bool
  /-- L is the smallest term of D (R594) -/
  limited : Bool
  /-- ship mode is entered once the take has closed: the origin asked for it (R600) -/
  shipDue : Option Nat
  deriving DecidableEq, Repr

end Sys2Proof.Machine
end

