-- ==== Sys2Proof/Machine/StTime.lean ====
section
/-! DEFINITION. State types of the keystone, the frame schedule, the pixel array, the converters' calibration and the
engines (chapters 5 to 9 of the spec). -/

namespace Sys2Proof.Machine

/-- One entry of a sub-exposure table (R257): `node` is true for SN-B. -/
structure SubExp where
  start : Nat
  width : Nat
  node : Bool
  deriving DecidableEq, Repr

/-- A mark of the frame schedule (R259): the FCP of a frame, the GRST or the GTX of one of its entries. -/
inductive Mark
  | fcp (frame : Nat)
  | grst (frame k : Nat)
  | gtx (frame k : Nat) (node last : Bool)
  deriving DecidableEq, Repr

/-- A mark at its tick. -/
structure MarkAt where
  tick : Tick
  mark : Mark
  deriving DecidableEq, Repr

/-- A strobe that fired (R149): 0 GRST, 1 GTX-A, 2 GTX-B. -/
structure Fired where
  kind : Nat
  tick : Tick
  deriving DecidableEq, Repr

/-- What FCP(N), the strobes and the readout record of a frame (R280, R291, R375 to R379). `flags` are the header
flags of R376; `settings` are the register words in force at FCP, as (address, word). -/
structure FrameRec where
  num : Nat
  grst : Tick
  fcp : Tick
  last : Option Tick
  te : Tick
  flags : Word
  period : Nat
  table : List SubExp
  fired : List Fired
  trim : Int
  epoch : Nat
  settings : List (Nat × Word)
  /-- RATIO of the epoch in force (units that differ from the factory's), entries changed since, the defect list and its
  store count, the band of each region, and the header byte 0x27 -/
  ratios : List (Nat × Nat)
  calOld : List (Nat × BitVec 64)
  defects : List Word
  defectStores : Nat
  bands : List Nat
  profile : Nat
  tro : Nat
  /-- clusters whose transfer gate R156 closed in the frame, with the node; clusters without a mason (R31) -/
  gated : List (Nat × Bool)
  unserved : List Nat
  deriving DecidableEq, Repr

/-- The frame schedule (chapter 8). -/
structure FtState where
  table : List SubExp
  period : Nat
  sched : List MarkAt
  nextNum : Nat
  lastGrst : Option Tick
  frames : List FrameRec
  /-- TRIGGERED: the trigger stamp of the burst, frames still to schedule, earliest GRST accepted -/
  te : Tick
  burstLeft : Nat
  notBefore : Tick
  inFlight : Option Nat
  /-- GENLOCK: the start edge is awaited; T_r; the last edge; the last intervals, newest first; good edges in a
  row -/
  glStart : Bool
  glTr : Option Tick
  glLast : Option Tick
  glIntervals : List Nat
  glGood : Nat
  yieldPeriod : Option Nat
  deriving DecidableEq, Repr

/-- The keystone counter, its slew remainder in units of 2^-32 tick, and what the compare channels hold beyond their
registers: the last scheduled point, whether they fired since arming, chain arms and late firings registered. -/
structure KsState where
  now : Tick
  slew : Int
  stopped : Bool
  base : List (Nat × Tick)
  fired : List Nat
  chains : List (Nat × Tick)
  late : List (Nat × Tick)
  armedAt : List (Nat × Tick)
  deriving DecidableEq, Repr

/-- A unit's buffered pixel words of one node (R174, R175): its unit, node, frame, and 64 pixel words or the binned
outputs of R181, with the saturation count of R180. -/
structure UnitBuf where
  unit : Nat
  node : Bool
  frame : Nat
  words : List Nat
  sat : Nat
  deriving DecidableEq, Repr

/-- The pixel array: the AB gates, strobe history, and per node the clusters that hold unconverted charge, with its frame
(R149 to R156); `unserved` are the clusters without a mason (R31), whose gates stay closed. -/
structure PixState where
  abOff : Bool
  lastGtx : Option Tick
  lastGrst : Option Tick
  /-- the GRST before the last one, and whether the last GTX was GTX-B -/
  prevGrst : Option Tick
  lastNodeB : Bool
  busyA : List (Nat × Nat)
  busyB : List (Nat × Nat)
  unserved : List Nat
  nextSet : Option Nat
  /-- transfer pulse under way: node and the tick it started -/
  pulse : Option (Bool × Tick)
  /-- regions in which SUN_PROTECT was raised in the frame under readout -/
  sunRaised : List Nat
  bufs : List UnitBuf
  deriving DecidableEq, Repr

/-- A full calibration in progress (R196). -/
structure FullCal where
  start : Tick
  restart : Bool
  origin : Nat
  deriving DecidableEq, Repr

/-- Calibration (chapter 6): the working copy's entries that differ from the factory's, the entries as stored in NVM,
the entries still in force while a change awaits its FCP, the epoch's ratios, and the defect lists. -/
structure CalState where
  entries : List (Nat × BitVec 64)
  stored : List (Nat × BitVec 64)
  held : List (Nat × BitVec 64)
  epoch : List (Nat × Nat)
  defects : List Word
  defectsInForce : List Word
  defectsStored : List Word
  defectStores : Nat
  fullCount : Nat
  fullStamp : Tick
  fullTemp : Int
  writtenEpoch : Nat
  badStreak : List (Nat × Nat)
  visited : List Nat
  settling : List (Nat × List Nat)
  biasBand : List Nat
  passStart : List (Nat × Tick)
  passDone : Bool
  lastCommit : Tick
  full : Option FullCal
  badBlocks : List Nat
  /-- units stopped by R176 -/
  stoppedUnits : List Nat
  /-- slowest node conversion of the frame under way, by region: frame and time (R177) -/
  slow : List (Nat × (Nat × Nat))
  /-- entries that background calibration found and that enter the working copy at the next FCP (R186) -/
  pendBg : List (Nat × BitVec 64)
  deriving DecidableEq, Repr

/-- A held strobe (R222): frame number and stamp. -/
structure Latch where
  frame : Nat
  stamp : Tick
  deriving DecidableEq, Repr

/-- A wait source (R219, R223). -/
inductive Src
  | compare (i : Nat)
  | strobe (kind : Nat)
  | sync (b : Nat)
  | line (bit mode : Nat)
  | queue
  deriving DecidableEq, Repr

/-- What a stalled channel waits for, with the instruction to complete (R208). -/
inductive Stall
  | none
  | onQueue
  | onConverter
  deriving DecidableEq, Repr

/-- A channel's context and queues (R207, R226). `state` is CH_STAT.STATE. -/
structure Chan where
  pc : Nat
  x : Word
  y : Word
  so : Word
  consumed : Nat
  si : Word
  filled : Nat
  flags : Byte
  ol : Word
  il : Word
  state : Nat
  latches : List (Nat × Latch)
  armed : Option Src
  heldAt : Option Tick
  waitOn : Option Src
  waitStamp : Nat
  /-- the occurrence that satisfied the WAIT in progress -/
  wokeAt : Option Tick
  lastWait : List (Nat × Tick)
  delayEnd : Option Tick
  timedFrom : Option Tick
  barrier : Option (Nat × Bool)
  stall : Stall
  /-- OUT REFILL: bits already taken and their number; IN SPILL: bits left over and their number -/
  part : Word
  partN : Nat
  inq : List Word
  outq : List Word
  satc : List Byte
  /-- the course pair that its last STROBE named; a stop asked for at the next boundary; dispatcher words that wait for
  room in the in-queue -/
  pairNo : Nat
  stopReq : Bool
  backlog : List Word
  deriving DecidableEq, Repr

/-- A timed or immediate pin output awaiting its tick (R225). -/
structure PinOut where
  engine : Nat
  at_ : Tick
  isDir : Bool
  mask : Word
  value : Word
  deriving DecidableEq, Repr

/-- A word delivered to a consumer (R228). -/
structure Sunk where
  sink : Nat
  engine : Nat
  chan : Nat
  word : Word
  deriving DecidableEq, Repr

/-- An action the converter die has accepted (R220): cluster, course pair (0–63, or 64 + OBSEL), ACTION, node, frame, the
channel that gave it, GAIN, TEST_PAT, CAL_OFS, the units enabled, those not yet done, and what it reports (R230): a unit timed
out, gate closed, already converted, and the saturated pixels of each unit. -/
structure Action where
  cluster : Nat
  pair : Nat
  action : Nat
  node : Bool
  frame : Nat
  chan : Nat
  gain : Nat
  test : Bool
  ofs : Bool
  units : List Nat
  left : List Nat
  tmo : Bool
  gated : Bool
  dup : Bool
  sats : List (Nat × Nat)
  deriving DecidableEq, Repr

/-- A dispatcher word posted and not yet accepted by the converter die (R231, R242), with the RANGE words after it. -/
structure Posted where
  cluster : Nat
  chan : Nat
  word : Word
  ranges : List Word
  deriving DecidableEq, Repr

/-- The scheduler's turn on an engine (R208, R243): the channel that ran last, the instructions it ran in a row, whether it
still holds the engine, and the last channel of each group. -/
structure Turn where
  chan : Nat
  count : Nat
  holds : Bool
  lastOwn : Nat
  lastAdopted : Nat
  deriving DecidableEq, Repr

/-- The engines, pins, dispatchers and converter actions (chapter 7). Channel keys are engine × 128 + channel; channels
64 to 127 of a mason are its adopted channels (R242). `converted` holds the last ended action of each course pair,
`convDone` the nodes converted or flushed, as ((cluster × 128 + pair) × 2 + node, frame); `lastPost`, `lastFirst` and
`lastSwap` the frame (plus one) of the last START, of the last FIRST and of the last SWAPPT sent. -/
structure EngState where
  chans : List (Nat × Chan)
  turns : List (Nat × Turn)
  swapOrigin : List (Nat × Nat)
  pinLevel : Word
  pinOut : Word
  pinDir : Word
  timed : List PinOut
  sunk : List Sunk
  cmdBuf : List (Nat × List Byte)
  ranges : List (Nat × Word)
  actions : List Action
  converted : List Action
  convDone : List (Nat × Nat)
  posted : List Posted
  lastPost : List (Nat × Nat)
  lastFirst : List (Nat × Nat)
  lastSwap : List (Nat × Nat)
  /-- calibration visits in the present gap, by cluster (R193) -/
  gapVisits : List (Nat × Nat)
  restorePending : List Nat
  restoreSince : List (Nat × Tick)
  deriving DecidableEq, Repr

end Sys2Proof.Machine
end

