-- ==== Sys2Proof/Machine/State.lean ====
section
/-! DEFINITION. The state of the block, its faults and refusals, and the state at reset. -/

namespace Sys2Proof.Machine

/-- Why a command stops. Each is safe: the command names a thing that the part does not have, so no run of the hardware
holds it. -/
inductive Fault
  /-- an engine number of 144 or more, or a pin-engine channel of 16 or more (R206); raised by the engine rows. Safe. -/
  | noSuchEngine
  /-- a lane number of 40 or more (R452); raised by the lane rows. Safe. -/
  | noSuchLane
  /-- a rail number of 11 or more (R43); raised by the rail rows. Safe. -/
  | noSuchRail
  /-- a unit index past the last unit (R12, R187); raised by the converter rows. Safe. -/
  | noSuchUnit
  /-- a pass code outside 1 to 4 (R521); raised by the fabric rows that name a pass. Safe. -/
  | noSuchPass
  deriving DecidableEq, Repr

/-- Why the model does not answer. -/
inductive Refusal
  /-- a command whose meaning is not modelled yet: raised by its arm of exec alone. Safe. -/
  | notModelled (mnemonic : String)
  deriving DecidableEq, Repr

/-- Everything the spec gives the block, and nothing else. `regs` holds every register word that differs from its reset value, as
read (for a shadowed field the pending value, R649); `held` the words in force at addresses whose shadowed fields await their FCP
(R2); `free` is the model's own: it counts the free values drawn. -/
structure Block where
  regs : List (Nat × Word)
  held : List (Nat × Word)
  cmd : CmdState
  tw : TwState
  evt : EvtState
  log : LogState
  acc : AccState
  nvm : NvmState
  pwr : PwrState
  flt : FltState
  ks : KsState
  ft : FtState
  pix : PixState
  cal : CalState
  eng : EngState
  mc : McState
  rcd : RecState
  mon : MonState
  stat : StatState
  lk : LkState
  fb : FbState
  th : ThState
  rsv : RsvState
  free : Nat
  deriving DecidableEq, Repr

/-- The whole state: the commands that wait, first in first out, and the block they act on. -/
structure State where
  pending : List Instr
  blk : Block
  deriving DecidableEq, Repr

/-! ### The parts at reset -/

/-- No request waits, none is answered (R76). -/
def CmdState.reset : CmdState := ⟨[], [], [], false⟩

/-- The two-wire target after reset: mailbox IDLE, pointer 0 (R94, R97). -/
def TwState.reset : TwState := ⟨0, [], [], 0, 0, false, false, [], none, false, none⟩

/-- No event has occurred; routes at their reset values (R87). -/
def EvtState.reset : EvtState := ⟨[], [], [], []⟩

/-- The log holds the factory's entry 0 (R130): origin FIRMWARE, kind LOG_RESUMED, old value 0xFFFF_FFFF, new value 0,
chained over 32 zero bytes. Its stamp and target are the model's choice. -/
def LogState.reset : LogState :=
  ⟨[⟨0, ⟨0, 0x6000, 0x0122, 0, 0xFFFFFFFF, 0⟩, 0xAD7A6866⟩], [], 0, none, false⟩

/-- The default access classes of R124, no permission, nobody in MAINTAIN. -/
def AccState.reset : AccState := ⟨[2, 2, 1, 1, 0], 0, [], [], [], none, none⟩

/-- NVM as the model takes it before any write: no profile stored, image 0 and image 1 valid, journal DONE. -/
def NvmState.reset : NvmState :=
  ⟨[], [], [], none, 0, none, ⟨0, 0, true⟩, ⟨0, 0, true⟩, none, 0, 0, 1⟩

/-- Power: RST_N low, supplies up, VID driven (R53 to R57). -/
def PwrState.reset : PwrState :=
  ⟨true, false, false, false, true, true, false, false, false, [], false, none, none, false, none, [], [], false, none, 0, 40⟩

/-- No self-test has run. -/
def FltState.reset : FltState := ⟨0, false, 0, 0, false, 0, 0, false, []⟩

/-- The keystone before RST_N release (R293): 0, no channel armed. -/
def KsState.reset : KsState := ⟨0, 0, false, [], [], [], [], []⟩

/-- No schedule. -/
def FtState.reset : FtState :=
  { table := [], period := 0, sched := [], nextNum := 0, lastGrst := none, frames := [], te := 0, burstLeft := 0,
    notBefore := 0, inFlight := none, glStart := false, glTr := none, glLast := none, glIntervals := [], glGood := 0,
    yieldPeriod := none }

/-- AB on, no node holds charge (R149). -/
def PixState.reset : PixState := ⟨false, none, none, none, false, [], [], [], none, none, [], []⟩

/-- The factory's calibration, epoch 0, an empty defect list. -/
def CalState.reset : CalState :=
  ⟨[], [], [], [], [], [], [], 0, 0, 0, 0, 0, [], [], [], [], [], false, 0, none, [], [], [], []⟩

/-- No engine runs. -/
def EngState.reset : EngState := ⟨[], [], [], 0, 0, 0, [], [], [], [], [], [], [], [], [], [], [], [], [], []⟩

/-- Nothing in the error ring. -/
def McState.reset : McState := ⟨[], [], [], [], [], [], 0, [], []⟩

/-- A magazine not attached. -/
def Mag.reset : Mag := ⟨[], 0, ⟨false, 0, [], 0, 0, 0, 0, 0, 0, []⟩, [], [], [], [], 0, 0, none⟩

/-- No frame held, no take open. -/
def RecState.reset : RecState :=
  ⟨[], [], [], [], [], [], none, none, false, [], [], 0, [], 0, 0, none, Mag.reset, Mag.reset, none, none, 0, 0, 0, []⟩

/-- No context develops. -/
def MonState.reset : MonState := ⟨[], [], none, [], []⟩

/-- No statistics; the loops' last values are 1 (R439). -/
def StatState.reset : StatState := ⟨[], [], [], [], none, none, 1, 1, 1, []⟩

/-- Every port and lane at its default. -/
def LkState.reset : LkState := ⟨[], []⟩

/-- No exchange yet. -/
def Exchange.reset : Exchange := ⟨0, 0, 0, 0, false, none, [], []⟩

/-- Not in a fabric. -/
def FbState.reset : FbState :=
  { bestKey := 0, bestHops := 0, bestSince := 0, heartbeat := 0, beatAt := 0, parent := 0, declared := false, started := false,
    lost := none, reports := [], reportAt := none, table := none, nodes := [], stageAt := 0, neighbours := [], nbrArray := [],
    ex := Exchange.reset, sentAt := [], joining := false, array := none, lastMembers := [], remotes := [], shared := [],
    openWait := none, peerOut := none, peerIn := none }

/-- The thermal controller before its first sample. -/
def ThState.reset : ThState :=
  { models := [], diodes := [], alertSince := none, alertLow := none, actSince := none, actLow := none, actStepAt := 0,
    coolSince := none, stepAt := 0, belowSince := none, integral := 0, dutyZeroAt := none,
    fanAt := none, fanStalled := false, vidLowSince := none, vidHighSince := none, runs := [],
    shedCtx := [], shedStats := false, penalty := [], historySeq := 0, driftBase := [], driftCal := none, aHour := [], planRun := none, plan := PlanModel.new,
    planNext := none, adv := [], etaHour := 1, slowHour := [], slowPast := [], hottest := -32768, coldest := 32767, bandsSeen := 0, afterReady := false, swapPlans := [] }

/-- VIN path on, boost low, charger off. -/
def RsvState.reset : RsvState :=
  { oring := true, boost := false, duty := false, closeOut := none, phaseAt := 0, cv := false, search := none, searchAt := none,
    vinBase := 0, lampSlot := 0, flashes := 0, lampA := false, lampB := false, limited := false, shipDue := none }

/-- The block right after reset: every register at its reset value, RST_N still low. -/
def Block.reset : Block :=
  { regs := [], held := [], cmd := .reset, tw := .reset, evt := .reset, log := .reset, acc := .reset,
    nvm := .reset, pwr := .reset, flt := .reset, ks := .reset, ft := .reset, pix := .reset, cal := .reset,
    eng := .reset, mc := .reset, rcd := .reset, mon := .reset, stat := .reset, lk := .reset, fb := .reset,
    th := .reset, rsv := .reset, free := 0 }

/-- Right after reset, with no command waiting. -/
def State.reset : State := ⟨[], .reset⟩

end Sys2Proof.Machine
end

