-- ==== Sys2Proof/Machine/Ops.lean ====
section
/-! DEFINITION. The named operations every meaning is built from: register words and fields (R82, R89), shadowed
registers (R2, R78), events and notices (R88, R610, R611), cairns (R127 to R131), origins and access classes (R73,
R124), replies (R72, R74, R79), and the request path (R75 to R78). The block has no exception entry: raising an
event, setting an error bit and marking a frame are effects on the state. -/

namespace Sys2Proof.Machine

/-- A command acts on the block; the queue of commands is not its business. -/
def State.onBlock (s : State) (f : Block → Host.Outcome Block Fault Refusal) : Host.Outcome State Fault Refusal :=
  match f s.blk with
  | .next b => .next { s with blk := b }
  | .fault r => .fault r
  | .refused r => .refused r

/-! ### Registers -/

namespace Block

/-- The register word at `a`: the value last written or set, which for a shadowed field is the pending value (R649). -/
def reg (s : Block) (a : Nat) : Word := smGet (regReset a) s.regs a

/-- Set the register word at `a`. -/
def setReg (s : Block) (a : Nat) (w : Word) : Block := { s with regs := smSet (regReset a) s.regs a w }

/-- A field of a register, as a number. -/
def fld (s : Block) (f : RF) : Nat := wfield (s.reg f.addr) f.lo f.width

/-- Set a field of a register. -/
def setFld (s : Block) (f : RF) (v : Nat) : Block := s.setReg f.addr (wsetField (s.reg f.addr) f.lo f.width v)

/-- A one-bit field, as a Bool. -/
def flag (s : Block) (f : RF) : Bool := decide (s.fld f = 1)

/-- Set a one-bit field from a Bool. -/
def setFlag (s : Block) (f : RF) (b : Bool) : Block := s.setFld f (b2n b)

/-- Add to a field, modulo its width. -/
def incFld (s : Block) (f : RF) (n : Nat) : Block := s.setFld f (s.fld f + n)

/-- Add to a field, saturating. -/
def satFld (s : Block) (f : RF) (n : Nat) : Block := s.setFld f (satAdd (2 ^ f.width - 1) (s.fld f) n)

/-- The word in force at `a`: RWS bits that await their FCP keep their held value (R2). -/
def eff (s : Block) (a : Nat) : Word :=
  let w := s.reg a
  let m := BitVec.ofNat 32 (match regRow? a with | some r => r.rws | none => 0)
  (w &&& ~~~ m) ||| (smGet w s.held a &&& m)

/-- A field in force. -/
def effFld (s : Block) (f : RF) : Nat := wfield (s.eff f.addr) f.lo f.width

/-- A one-bit field in force. -/
def effFlag (s : Block) (f : RF) : Bool := decide (s.effFld f = 1)

/-! ### Common views -/

/-- The keystone (R293). -/
def now (s : Block) : Tick := s.ks.now

/-- A frame schedule is running (R92). -/
def running (s : Block) : Bool := s.flag SYS_STATE.SCHEDULE

/-- A take is open (R92). -/
def takeOpen (s : Block) : Bool := s.flag SYS_STATE.TAKE_OPEN

/-- Ticks since `t`, modulo 2^64 (R294). -/
def sinceT (s : Block) (t : Tick) : Nat := (s.ks.now - t).toNat

end Block

/-- Ticks of one millisecond, of one microsecond and of one second at 800 MHz (R22). -/
def msT : Nat := 800000
def usT : Nat := 800
def secT : Nat := 800000000

/-! ### Events (R610, R611) -/

/-- Address of the status, live and mask word of event `e` (R612), and its bit. -/
def evtStatusA (e : Nat) : Nat := EVT_STATUS.addr (e / 32)
def evtLiveA (e : Nat) : Nat := EVT_LIVE.addr (e / 32)
def evtMaskA (e : Nat) : Nat := EVT_MASK.addr (e / 32)

namespace Block

/-- Status bit of event `e`. -/
def evtStatus (s : Block) (e : Nat) : Bool := (s.reg (evtStatusA e)).getLsbD (e % 32)

/-- Live bit of event `e`. -/
def evtLive (s : Block) (e : Nat) : Bool := (s.reg (evtLiveA e)).getLsbD (e % 32)

/-- Mask bit of event `e`. -/
def evtMasked (s : Block) (e : Nat) : Bool := (s.reg (evtMaskA e)).getLsbD (e % 32)

end Block

/-- Route byte an event has after RST_N release: 1016 to 1023 go to EVT_A_N and host notices (R87). -/
def routeReset (e : Nat) : Byte := if 1016 ≤ e ∧ e ≤ 1023 then 0b0101 else 0

/-- Set or clear one bit of a word. -/
def wput (w : Word) (i : Nat) (b : Bool) : Word := wsetField w i 1 (b2n b)

namespace Block

/-- The route byte of event `e` (R87). -/
def evtRoute (s : Block) (e : Nat) : Byte := smGet (routeReset e) s.evt.route e

/-- Occurrences of event `e` since its status bit was last clear (R88). -/
def evtCount (s : Block) (e : Nat) : Nat := smGet 0 s.evt.count e

/-- Stamp of the occurrence that set the status bit of event `e` (R88). -/
def evtStamp (s : Block) (e : Nat) : Tick := smGet 0 s.evt.stamp e

/-- Send the notice of event `e` on its routes (R88). -/
def notify (s : Block) (e : Nat) : Block :=
  let r := s.evtRoute e
  let n (d : Option Nat) : Notice := ⟨e, s.evtCount e, s.evtLive e, s.evtStamp e, d, none⟩
  let h := if r.getLsbD 2 then [n none] else []
  let f := if r.getLsbD 3 then [n (some (smGet 0 s.evt.dest e).toNat)] else []
  { s with cmd := { s.cmd with notices := s.cmd.notices ++ (h ++ f) } }

/-- An occurrence of event `e`, stamped `t`: status set, occurrence counted; on the rise of the status bit the stamp is
recorded and one notice is sent unless the event is masked (R88, R610). -/
def raiseAt (s : Block) (e : Nat) (t : Tick) : Block :=
  let up := s.evtStatus e
  let s1 := s.setReg (evtStatusA e) (wput (s.reg (evtStatusA e)) (e % 32) true)
  if up then
    { s1 with evt := { s1.evt with count := smSet 0 s1.evt.count e (satAdd 0xFFFF (s1.evtCount e) 1) } }
  else
    let s2 := { s1 with evt := { s1.evt with count := smSet 0 s1.evt.count e 1, stamp := smSet 0 s1.evt.stamp e t } }
    if s2.evtMasked e then s2 else s2.notify e

/-- An occurrence of event `e` now. -/
def raise (s : Block) (e : Nat) : Block := s.raiseAt e s.now

/-- Set the live bit of event `e`; its rise is one occurrence (R610). -/
def setLive (s : Block) (e : Nat) (b : Bool) : Block :=
  let was := s.evtLive e
  let s1 := s.setReg (evtLiveA e) (wput (s.reg (evtLiveA e)) (e % 32) b)
  if b && !was then s1.raise e else s1

/-- Clear the status bit of event `e`, with its count (R610). -/
def clearEvt (s : Block) (e : Nat) : Block :=
  let s1 := s.setReg (evtStatusA e) (wput (s.reg (evtStatusA e)) (e % 32) false)
  { s1 with evt := { s1.evt with count := smDel s1.evt.count e, stamp := smDel s1.evt.stamp e } }

/-- Raise several events in ascending order of the list (R25). -/
def raiseAll (s : Block) (l : List Nat) : Block := l.foldl raise s

end Block

/-- Level of EVT_A_N (bit 0) or EVT_B_N (bit 1): low while a routed, unmasked event has its status bit set (R87). -/
def evtPinLow (s : Block) (pin : Nat) : Bool :=
  (List.range 1024).any (fun e => s.evtStatus e && !s.evtMasked e && (s.evtRoute e).getLsbD pin)

/-- EVT_PENDING (R613): the number of events with status set, and the lowest unmasked one. -/
def evtPendingWord (s : Block) : Word :=
  let l := (List.range 1024).filter (fun e => s.evtStatus e)
  let f := l.filter (fun e => !s.evtMasked e)
  BitVec.ofNat 32 (l.length + (match f with | [] => 0 | e :: _ => e * 65536 + 67108864))

/-! ### The cairn log (R127 to R131) -/

/-- The 32 bytes of a cairn as stored (R127). -/
def entryBytes (e : Entry) : List Byte :=
  leBytes 4 e.seq ++ leBytes 8 e.cairn.stamp.toNat ++ leBytes 2 e.cairn.origin ++ leBytes 2 e.cairn.kind ++
    leBytes 4 e.cairn.target ++ wordBytes e.cairn.old ++ wordBytes e.cairn.new ++ wordBytes e.chain

/-- The chain check over the entry before (R129). -/
def chainOf (prev : List Entry) : Word :=
  match prev with
  | [] => BitVec.ofNat 32 (leVal ((sha256 (zeros 32)).take 4))
  | e :: _ => BitVec.ofNat 32 (leVal ((sha256 (entryBytes e)).take 4))

/-- Sequence of the next entry (R130): one after the last, modulo 2^32. -/
def nextSeq (entries : List Entry) : Nat :=
  match entries with
  | [] => 0
  | e :: _ => (e.seq + 1) % 2 ^ 32

/-- Store one cairn in NVM: it takes the next sequence and chains to the last entry; the ring holds 262,144. -/
def storeCairn (entries : List Entry) (c : Cairn) : List Entry :=
  (⟨nextSeq entries, c, chainOf entries⟩ :: entries).take 262144

/-- Store the whole queue. -/
def storeQueue (l : LogState) : LogState :=
  { l with entries := l.queue.foldl storeCairn l.entries, queue := [] }

/-- Kinds of origin (R73). -/
def oHost : Nat := 0x1000
def oFirmware : Nat := 0x6000
def oPolicy (code : Nat) : Nat := 0x4000 + code
def oProfile (n : Nat) : Nat := 0x5000 + n

namespace Block

/-- LOG_HEAD and LOG_STAT.QUEUED follow the log (R134). -/
def syncLog (s : Block) : Block :=
  (s.setFld LOG_HEAD.SEQ ((nextSeq s.log.entries + (2 ^ 32 - 1)) % 2 ^ 32)).setFld LOG_STAT.QUEUED s.log.queue.length

/-- Write a cairn stamped `t` (R127). On a full queue an entry of POLICY, FIRMWARE or PROFILE is counted, not queued;
an entry of a command waits for room, which is the queue reaching NVM within its command's step (R131). -/
def cairnAt (s : Block) (t : Tick) (origin kind target : Nat) (old new : Word) : Block :=
  let c : Cairn := ⟨t, origin, kind, target, old, new⟩
  if s.log.queue.length < 4096 then
    ({ s with log := { s.log with queue := s.log.queue ++ [c] } }).setFld LOG_STAT.QUEUED (s.log.queue.length + 1)
  else if 0x4000 ≤ origin ∧ origin < 0x7000 then { s with log := { s.log with lost := s.log.lost + 1 } }
  else
    let l := storeQueue s.log
    ({ s with log := { l with queue := [c] } }).syncLog

/-- Write a cairn stamped now. -/
def cairn (s : Block) (origin kind target : Nat) (old new : Word) : Block :=
  s.cairnAt s.now origin kind target old new

/-- Cairn with numeric values. -/
def cairnN (s : Block) (origin kind target old new : Nat) : Block :=
  s.cairn origin kind target (BitVec.ofNat 32 old) (BitVec.ofNat 32 new)

end Block

/-! ### Origins and access classes (R73, R124) -/

/-- The origin of a request (R73). -/
def originOf : Carrier → Nat
  | .host => 0x1000
  | .twoWire a g => 0x2000 + a.toNat + 128 * b2n g
  | .fabric n k => 0x3000 + n.toNat + 256 * k.toNat
  | .pin e p => 0x7000 + 32 * e.toNat + p.toNat

/-- Column of the access table for a carrier (R116). -/
def classCol : Carrier → Nat
  | .host => 0
  | .twoWire _ g => if g then 2 else 1
  | .fabric _ _ => 3
  | .pin _ _ => 4

/-- The access class an origin holds: MAINTAIN (3) if it answered a challenge, else its class of the active table. -/
def classOf (s : Block) (c : Carrier) : Nat :=
  if s.acc.maintain.any (fun m => decide (m.origin = originOf c)) then 3 else s.acc.table.getD (classCol c) 0

/-! ### Status codes (R74) -/

def stOk : Nat := 0x0000
def stDeferred : Nat := 0x0001
def stBusy : Nat := 0x0101
def stDenied : Nat := 0x0102
def stBadParam : Nat := 0x0103
def stUnknown : Nat := 0x0104
def stConflict : Nat := 0x0105
def stRecording : Nat := 0x0106
def stFault : Nat := 0x0201
def stTimeout : Nat := 0x0202
def stNotPresent : Nat := 0x0203

/-- A failed check: the condition that fails it, and its status. -/
abbrev Check := Bool × Nat

/-- The order of the checks of R77. -/
def checkOrder : List Nat := [stBadParam, stDenied, stBusy, stRecording, stConflict, stNotPresent, stFault]

/-- The first status that applies, in the order of R77. -/
def firstFail (l : List Check) : Option Nat :=
  checkOrder.find? (fun st => l.any (fun c => c.1 && decide (c.2 = st)))

/-! ### Replies (R72, R74, R79) -/

/-- QUIET suppresses an OK or ACCEPTED_DEFERRED reply, except on the mailbox (R72); a COMMAND sink's reply is
discarded (R228). -/
def replyDropped (q : Req) (status : Nat) : Bool :=
  match q.carrier with
  | .pin _ _ => true
  | .twoWire _ _ => false
  | _ => q.flags.getLsbD 1 && (decide (status = stOk) || decide (status = stDeferred))

/-- The bytes of a reply on its carrier (R74). -/
def replyBytes (r : Reply) : List Byte :=
  leBytes 2 r.opcode ++ [r.tag, 0x80] ++ leBytes 2 r.result.length ++ leBytes 2 r.status ++ r.result

/-- Is a held reply suppressed once its wait ends (R72)? -/
def replyQuiet (r : Reply) : Bool := r.quiet && (decide (r.status = stOk) || decide (r.status = stDeferred))

/-- Do two carriers share one request queue (R75)? The mailbox is one, and each source node of the fabric has its own. -/
def sameQueue : Carrier → Carrier → Bool
  | .host, .host => true
  | .twoWire _ _, .twoWire _ _ => true
  | .fabric n _, .fabric m _ => decide (n = m)
  | .pin e p, .pin f r => decide (e = f) && decide (p = r)
  | _, _ => false

namespace Block

/-- A reply to the mailbox puts its bytes there and sets MBX_STAT to REPLY_READY (R97). -/
def deliver (s : Block) (r : Reply) : Block :=
  match r.carrier with
  | .twoWire _ _ => { s with tw := { s.tw with repBuf := replyBytes r, mbxStat := 2 } }
  | _ => s

/-- Answer a request. -/
def reply (s : Block) (q : Req) (op status : Nat) (result : List Byte) : Block :=
  if replyDropped q status then s
  else
    let r : Reply := ⟨q.carrier, op, q.tag, status, result, .none, s.now, false⟩
    ({ s with cmd := { s.cmd with replies := s.cmd.replies ++ [r] } }).deliver r

/-- Hold a reply until `w` ends its wait (R76, R79). -/
def replyLater (s : Block) (q : Req) (op status : Nat) (result : List Byte) (w : WaitOn) : Block :=
  { s with cmd := { s.cmd with
      replies := s.cmd.replies ++ [⟨q.carrier, op, q.tag, status, result, w, s.now, replyDropped q stOk⟩] } }

/-- End the waits that satisfy `p`, rewriting each reply with `f`. -/
def release (s : Block) (p : WaitOn → Bool) (f : Reply → Reply) : Block :=
  let done (r : Reply) : Reply := { f r with wait := .none }
  let rs := s.cmd.replies.filterMap (fun r => if p r.wait then (if replyQuiet (done r) then none else some (done r)) else some r)
  let s1 := { s with cmd := { s.cmd with replies := rs } }
  ((s.cmd.replies.filter (fun r => p r.wait)).map done).foldl (fun t r => if replyQuiet r then t else t.deliver r) s1

/-- End the wait of the oldest reply that waits for `w`. -/
def releaseFirst (s : Block) (w : WaitOn) (f : Reply → Reply) : Block :=
  match s.cmd.replies.span (fun r => decide (r.wait ≠ w)) with
  | (a, r :: b) =>
    let d := { f r with wait := .none }
    if replyQuiet d then { s with cmd := { s.cmd with replies := a ++ b } }
    else ({ s with cmd := { s.cmd with replies := a ++ d :: b } }).deliver d
  | _ => s

/-- A slow action holds the carrier's queue (R76): a reply of it is withheld, or a request of it waits for the end of a take or for a
peer. -/
def slow (s : Block) (c : Carrier) : Nat :=
  (s.rcd.afterClose.filter (fun a => sameQueue a.2.carrier c)).length +
    (match s.fb.openWait with | some w => b2n (sameQueue w.2.carrier c) | none => 0) +
    (s.cmd.replies.filter (fun r => sameQueue r.carrier c && decide (r.wait ≠ .none))).length

/-- A carrier's requests accepted and not yet answered (R75). -/
def outstanding (s : Block) (c : Carrier) : Nat :=
  (s.cmd.accepted.filter (fun a => sameQueue a.req.carrier c)).length + s.slow c

/-- Must a request of carrier `c` wait (R76)? Its own queue is held, or requests accepted before it come first. -/
def mustWait (s : Block) (c : Carrier) : Bool :=
  !s.cmd.executing && (decide (s.slow c ≠ 0) || s.cmd.accepted.any (fun a => sameQueue a.req.carrier c || decide (s.slow a.req.carrier = 0)))

end Block

/-- Largest PLEN and RLEN of a carrier (R75). -/
def lenLimit : Carrier → Nat
  | .twoWire _ _ => 504
  | _ => 4088

/-- Requests a carrier's queue holds (R75). -/
def queueLimit : Carrier → Nat
  | .host => 16
  | .twoWire _ _ => 1
  | .fabric _ _ => 8
  | .pin _ _ => 1

/-- The header of a request is well formed (R71, R72, R75). -/
def headerOk (q : Req) : Bool :=
  decide (q.flags.toNat / 8 = 0) && decide (q.plen.toNat = q.params.length) && decide (q.plen.toNat ≤ lenLimit q.carrier)

/-- FORCE and COMPLETE of a request (R72). -/
def forced (q : Req) : Bool := q.flags.getLsbD 0
def wantsComplete (q : Req) : Bool := q.flags.getLsbD 2

/-- Is the request executed in the present state (R60, R98)? In RECOVERY only the mailbox is served; before READY, in
standby, in ship mode and while the part is held in reset no request is executed. -/
def serves (s : Block) (q : Req) : Bool :=
  !s.pwr.standby && !s.pwr.shipLatch && !s.pwr.selfHeld && !s.pwr.rstLow && s.flag SYS_DOMAIN.CT_ON &&
    (decide (s.fld SYS_BOOT.STAGE = 9) ||
      (decide (s.fld SYS_BOOT.STAGE = 10) && (match q.carrier with | .twoWire _ _ => true | _ => false)))

/-- Answer BUSY at step 5 of R76, undecoded. -/
def refuseBusy (op : Nat) (q : Req) (s : Block) : Block := (s.reply q op stBusy []).raise 970

/-- Take a request into its carrier's queue, or answer BUSY when the queue is full (R75, R76). -/
def acceptReq (op : Nat) (q : Req) (s : Block) : Block :=
  if queueLimit q.carrier ≤ s.outstanding q.carrier then refuseBusy op q s
  else { s with cmd := { s.cmd with accepted := s.cmd.accepted ++ [⟨op, q⟩] } }

/-- Refuse a request: DENIED raises event 968, CONFLICT raises event 969 (R77); nothing else changes. -/
def refuse (op : Nat) (q : Req) (st : Nat) (s : Block) : Block :=
  let s1 := s.reply q op st []
  if st = stDenied then s1.raise 968 else if st = stConflict then s1.raise 969 else s1

/-- A command of an origin that holds MAINTAIN keeps it (R126). -/
def touchMaintain (c : Carrier) (s : Block) : Block :=
  { s with acc := { s.acc with
      maintain := s.acc.maintain.map (fun m => if m.origin = originOf c then { m with last := s.now } else m) } }

/-- A fabric message waits for the core (R618). -/
def waitCore (i : FabMsg) (s : Block) : Block := { s with flt := { s.flt with waiting := s.flt.waiting ++ [i] } }

/-- The opcodes that RECOVERY executes from the mailbox, without a class check (R98, R124). -/
def isFwLoad (op : Nat) : Bool := decide (0x130 ≤ op) && decide (op ≤ 0x133)

/-- The request path (R76, R77): `cls` is the opcode's minimum class, `maxRes` the largest result its parameters can
call for, `checks` its own checks, `body` its execution. A request that must wait, or that finds the core down, goes into its carrier's queue. -/
def runReq (op cls maxRes : Nat) (q : Req) (checks : Block → List Check) (body : Block → Block) (s : Block) :
    Host.Outcome Block Fault Refusal :=
  if (s.pwr.coreDown && decide (s.fld SYS_BOOT.STAGE ≠ 10)) || s.mustWait q.carrier then .next (acceptReq op q s)
  else if !serves s q then .next s
  else
    let s0 := touchMaintain q.carrier s
    let recovery := decide (s0.fld SYS_BOOT.STAGE = 10)
    let denied := if recovery then !isFwLoad op else decide (classOf s0 q.carrier < cls)
    match firstFail (((!headerOk q || decide (lenLimit q.carrier < maxRes)), stBadParam) :: (denied, stDenied) ::
        checks s0) with
    | some st => .next (refuse op q st s0)
    | none => .next (body s0)

/-! ### Parameters of a request (R71) -/

/-- One byte, and a little-endian field of `n` bytes, of a request's parameters. -/
def pByte (q : Req) (o : Nat) : Nat := leAt q.params o 1
def pNat (q : Req) (o n : Nat) : Nat := leAt q.params o n

/-- The parameters have exactly `n` bytes, and those at `res`, which are reserved, are zero (R71, R77). -/
def shape (q : Req) (n : Nat) (res : List Nat) : Check :=
  (decide (q.params.length ≠ n) || res.any (fun o => decide (pByte q o ≠ 0)), stBadParam)

/-- A condition that makes a request BAD_PARAM. -/
def bad (b : Bool) : Check := (b, stBadParam)

/-- `n` register words from address `a`, as bytes. -/
def wordsFrom (s : Block) (a n : Nat) : List Byte := (List.range n).flatMap (fun i => wordBytes (s.reg (a + 4 * i)))

/-! ### Deferred acceptance (R78) -/

/-- The first frame whose FCP is later than now: the frame of the next FCP mark, else the next frame number. -/
def firstFrame (s : Block) : Nat :=
  match s.ft.sched.find? (fun m => match m.mark with | .fcp _ => true | _ => false) with
  | some ⟨_, .fcp n⟩ => n
  | _ => s.ft.nextNum

/-- The stamp and first frame of R78: all ones for a change that is not deferred to an FCP. -/
def stampFrame (s : Block) (frame : Nat) : List Byte := leBytes 8 s.now.toNat ++ leBytes 4 frame

/-- Reply to a change of R78: `deferred` if a shadowed field changed while a schedule runs. -/
def replyDeferred (op : Nat) (q : Req) (deferred : Bool) (pre : List Byte) (s : Block) : Block :=
  if deferred then
    if wantsComplete q then s.replyLater q op stOk (pre ++ stampFrame s (firstFrame s)) (.fcp (firstFrame s))
    else s.reply q op stDeferred (pre ++ stampFrame s (firstFrame s))
  else s.reply q op stOk (pre ++ stampFrame s 0xFFFFFFFF)

end Sys2Proof.Machine
end

