-- ==== Sys2Proof/Machine/Geometry.lean ====
section
/-! DEFINITION. The array's numbering (R11 to R17), windows (R278), packed sizes (R326, R372 to R374), slot capacity
(R326), placement (R346) and drain rates (R382, R471). -/

namespace Sys2Proof.Machine

/-! ### Units, clusters, regions (R11 to R17) -/

/-- Extended unit column and row of unit index `u` (R12, R16). -/
def unitXY (u : Nat) : Nat × Nat :=
  if u < 2359296 then (u % 2304 + 32, u / 2304)
  else if u < 2392064 then ((u - 2359296) % 32, (u - 2359296) / 32)
  else if u < 2424832 then ((u - 2392064) % 32 + 2336, (u - 2392064) / 32)
  else ((u - 2424832) % 2368, (u - 2424832) / 2368 + 1024)

/-- Unit index at extended coordinates (R12, R16). -/
def unitAt (ue ve : Nat) : Nat :=
  if 1024 ≤ ve then 2424832 + (ve - 1024) * 2368 + ue
  else if ue < 32 then 2359296 + ve * 32 + ue
  else if ue < 2336 then ve * 2304 + (ue - 32)
  else 2392064 + ve * 32 + (ue - 2336)

/-- Is the unit active, not optical-black (R15)? -/
def unitActive (u : Nat) : Bool := decide (u < 2359296)

/-- Cluster column of an extended unit column (R13, R17). -/
def colOf (ue : Nat) : Nat := if ue < 32 then 0 else if 2335 < ue then 15 else (ue - 32) / 144

/-- Cluster row of an extended unit row (R13, R17). -/
def rowOf (ve : Nat) : Nat := if 1023 < ve then 7 else ve / 128

/-- Cluster of a unit (R13, R17). -/
def clusterOf (u : Nat) : Nat := rowOf (unitXY u).2 * 16 + colOf (unitXY u).1

/-- Region of a cluster (R14). -/
def regionOf (c : Nat) : Nat := c / 64 * 4 + c % 16 / 4

/-- Local number of a cluster in its region (R14). -/
def localOf (c : Nat) : Nat := c / 16 % 4 * 4 + c % 4

/-- The 16 clusters of region `r`, by local number (R14). -/
def clustersOf (r : Nat) : List Nat := (List.range 16).map (fun i => (r / 4 * 4 + i / 4) * 16 + r % 4 * 4 + i % 4)

/-- Channel that serves course `v` of its cluster row (R15). -/
def chanOf (v : Nat) : Nat := v % 128 / 2

/-- Colour of an output at (x, y): 0 R, 1 Gr, 2 Gb, 3 B (R11, R367). -/
def colourOf (x y : Nat) : Nat := y % 2 * 2 + x % 2

/-! ### Windows (R278) -/

/-- A window in unit coordinates, inclusive. -/
structure Win where
  num : Nat
  u0 : Nat
  u1 : Nat
  v0 : Nat
  v1 : Nat
  deriving DecidableEq, Repr

/-- Window `w` as two words give it. -/
def winOf (num : Nat) (a b : Word) : Win := ⟨num, wfield a 0 12, wfield a 16 12, wfield b 0 10, wfield b 16 10⟩

/-- The enabled windows from a reader of register words. -/
def winsOf (rd : Nat → Word) : List Win :=
  (List.range 4).filterMap (fun w =>
    let a := rd (FT_WIN0.EN w).addr
    if wfield a (FT_WIN0.EN w).lo 1 = 1 then some (winOf w a (rd (FT_WIN1.V0 w).addr)) else none)

/-- The windows that are read: the full array when none is enabled (R278). -/
def winsOrFull (l : List Win) : List Win := match l with | [] => [⟨0, 0, 2303, 0, 1023⟩] | l => l

/-- Do two windows overlap? -/
def Win.overlaps (a b : Win) : Bool :=
  decide (a.u0 ≤ b.u1) && decide (b.u0 ≤ a.u1) && decide (a.v0 ≤ b.v1) && decide (b.v0 ≤ a.v1)

/-- The windows satisfy R278: bounds in order and no overlap. -/
def winsOk (l : List Win) : Bool :=
  l.all (fun w => decide (w.u0 ≤ w.u1) && decide (w.u1 ≤ 2303) && decide (w.v0 ≤ w.v1) && decide (w.v1 ≤ 1023)) &&
    l.all (fun a => l.all (fun b => decide (a.num = b.num) || !a.overlaps b))

/-- Outputs per unit edge by binning (R181). -/
def binEdge (bin : Nat) : Nat := if bin = 0 then 8 else if bin = 1 then 4 else 2

/-- Bits per packed output by format (R372). -/
def fmtBits (fmt : Nat) : Nat := if fmt = 0 then 12 else if fmt = 1 then 14 else 15

/-- Units of an interval [a, b] inside [lo, hi]. -/
def overlapLen (a b lo hi : Nat) : Nat := min b hi + 1 - max a lo

/-- Payload bytes of region `r` for one part (R326, R373): each row segment padded to a byte. -/
def regionBytes (wins : List Win) (bin fmt r : Nat) : Nat :=
  (wins.map (fun w =>
    let nu := overlapLen w.u0 w.u1 (r % 4 * 576) (r % 4 * 576 + 575)
    let nv := overlapLen w.v0 w.v1 (r / 4 * 512) (r / 4 * 512 + 511)
    if nu = 0 then 0 else ceilDiv (nu * binEdge bin * fmtBits fmt) 8 * (nv * binEdge bin))).sum

/-- Bytes written to one extent per frame: the front area and the largest region payload (R326, R331). -/
def extentBytes (wins : List Win) (bin fmt parts : Nat) : Nat :=
  65536 + ((List.range 8).map (fun r => regionBytes wins bin fmt r * parts)).foldl max 0

/-- Units that a region converts (R331). -/
def regionUnits (wins : List Win) (r : Nat) : Nat :=
  (wins.map (fun w => overlapLen w.u0 w.u1 (r % 4 * 576) (r % 4 * 576 + 575) *
    overlapLen w.v0 w.v1 (r / 4 * 512) (r / 4 * 512 + 511))).sum

/-- Bytes of one window in the payload, on a byte boundary (R373). -/
def winBytes (bin fmt : Nat) (w : Win) : Nat :=
  ceilDiv ((w.u1 + 1 - w.u0) * binEdge bin * ((w.v1 + 1 - w.v0) * binEdge bin) * fmtBits fmt) 8

/-- Payload bytes of one part (R373). -/
def partBytes (wins : List Win) (bin fmt : Nat) : Nat := (wins.map (winBytes bin fmt)).sum

/-- Payload bytes of a frame; a frame of two nodes pads each part to 64 KiB (R374). -/
def payloadBytes (wins : List Win) (bin fmt : Nat) (two : Bool) : Nat :=
  if two then 2 * (ceilDiv (partBytes wins bin fmt) 65536 * 65536) else partBytes wins bin fmt

/-- Does a sub-exposure table use both nodes (R374)? -/
def twoNodes (t : List SubExp) : Bool := t.any (fun e => e.node) && t.any (fun e => !e.node)

/-! ### Slot capacity (R326) -/

/-! ### Tables (R257 to R263) -/

/-- A field through a reader. -/
def rdFld (rd : Nat → Word) (f : RF) : Nat := wfield (rd f.addr) f.lo f.width

/-- Lay entries of (width, node) end to end. -/
def merged : Nat → List (Nat × Bool) → List SubExp
  | _, [] => []
  | o, (w, n) :: t => ⟨o, w, n⟩ :: merged (o + w) t

/-- The table that the settings make (R260 to R263). -/
def tableOf (rd : Nat → Word) : List SubExp :=
  let l := rdFld rd FT_EXPOSURE.EXPOSURE
  let ratio := rdFld rd FT_TERRACE.RATIO
  let long := decide (rdFld rd FT_TERRACE.LONG_NODE = 1)
  match rdFld rd FT_CFG.EXPO with
  | 0 => [⟨0, l, false⟩]
  | 1 =>
    let a := (l, long)
    let b := (l / ratio, !long)
    merged 0 (if rdFld rd FT_TERRACE.SHORT_FIRST = 1 then [b, a] else [a, b])
  | 2 =>
    let m := rdFld rd FT_TERRACE.SLICES
    let h := l / (2 * m)
    let s := 2 * h / ratio
    merged 0 ((List.range (2 * m + 1)).map (fun k =>
      if k % 2 = 1 then (s, !long) else if k = 0 ∨ k = 2 * m then (h, long) else (2 * h, long)))
  | _ =>
    (List.range (rdFld rd FT_CFG.NSUB_M1 + 1)).map (fun k =>
      ⟨rdFld rd (FT_SUB0.START k), rdFld rd (FT_SUB1.WIDTH k), decide (rdFld rd (FT_SUB2.NODE k) = 1)⟩)

/-- Extent size of the pending geometry and format, in 2 MiB units (R326). -/
def extentUnits (s : Block) : Nat :=
  ceilDiv (extentBytes (winsOrFull (winsOf s.reg)) (s.fld CNV_CFG.BIN) (s.fld REC_CFG.FORMAT)
    (if twoNodes (tableOf s.reg) then 2 else 1)) 2097152

/-- Channels in service (R349). -/
def inService (s : Block) : List Nat := (List.range 8).filter (fun r => (s.reg MC_STAT.IN_SERVICE.addr).getLsbD r)

/-- Slot capacity S (R326). -/
def slotCap (s : Block) : Nat := min 4095 ((inService s).length * (7680 * 1048576 / (extentUnits s * 2097152)) / 8)

/-- Where extent (slot `k`, region `r`) lies: its channel and index (R346). -/
def extentAt (s : Block) (k r : Nat) : Nat × Nat :=
  let live := inService s
  if live.contains r then (r, k)
  else
    let gone := (List.range 8).filter (fun x => !live.contains x)
    let j := k * gone.length + (gone.findIdx (fun x => decide (x = r)))
    (live.getD (j % live.length) 0, slotCap s + j / live.length)

/-- Extents counted in the most loaded channel per frame, as a fraction over the channels in service (R331). -/
def loadShare (s : Block) : Nat × Nat := (8, (inService s).length)

/-! ### Drain rates (R382, R471) -/

/-- Payload rate of width `n`, in 0.1 GB/s (R471). -/
def payloadRate (n : Nat) : Nat := n * 36875 / 1000

/-- Sustained write rate a magazine reported, in 0.1 GB/s (R494). -/
def Mag.rate (m : Mag) : Nat := leAt m.ident 16 2

/-- Magazine 0 (A) or 1 (B). -/
def Block.mag (s : Block) (m : Nat) : Mag := if m = 0 then s.rcd.magA else s.rcd.magB

/-- Set a magazine. -/
def Block.setMag (s : Block) (m : Nat) (g : Mag) : Block :=
  { s with rcd := if m = 0 then { s.rcd with magA := g } else { s.rcd with magB := g } }

/-- MG_STAT.STATE of magazine `m` (R517). -/
def Block.magState (s : Block) (m : Nat) : Nat := s.fld (MG_STAT.STATE m)

/-- Drain rate of magazine port `m` in 0.1 GB/s: the lower of the port's and the target's (R382, R496). -/
def magRate (s : Block) (m : Nat) : Nat :=
  let st := s.magState m
  if st = 4 ∨ st = 5 then min (s.fld (PT_STAT.PAYLOAD m)) (s.mag m).rate else 0

/-- Magazines of a mode (R505): 0 single with the primary, 1 mirrored, 2 striped. -/
def modeMags (mode primary : Nat) : List Nat := if mode = 0 then [primary] else [0, 1]

/-- Drain rate of the ports in service, in 0.1 GB/s (R382). A forwarded take is bounded by
the reservation and by the pass towards the peer (R539). -/
def portsRate (s : Block) : Nat :=
  match s.rcd.take with
  | some t =>
    let own := t.mags.filter (fun m => decide (m < 2))
    let base :=
      if t.mode = 1 ∧ own.length = 2 then (own.map (magRate s)).foldl min 1000000
      else (own.map (magRate s)).sum
    if t.mags.contains 2 then
      (match s.fb.peerOut with
        | some p => min p.rate (s.fld (PT_STAT.PAYLOAD (s.fld (FB_ROUTE.PRIMARY p.node) % 4 + 3 + 4 * b2n (decide (s.fld (FB_ROUTE.PRIMARY p.node) = 4)))))
        | none => 0)
    else base
  | none =>
    let mode := s.fld TK_CFG.MODE
    let ms := modeMags mode (s.fld TK_CFG.PRIMARY)
    if mode = 1 then (ms.map (magRate s)).foldl min 1000000 else (ms.map (magRate s)).sum

/-- Bytes of a frame of the schedule in force, with its header (R382). -/
def frameBytes (s : Block) : Nat :=
  65536 + payloadBytes (winsOrFull (winsOf s.eff)) (s.effFld CNV_CFG.BIN) (s.effFld REC_CFG.FORMAT) (twoNodes s.ft.table)

/-- REC_DRAIN.FPS: floor(10 × drain rate) (R382). -/
def drainFps (s : Block) : Nat := min 65535 (portsRate s * 100000000 * 10 / frameBytes s)

end Sys2Proof.Machine
end

