-- ==== Sys2Proof/Machine/Flags.lean ====
section
/-! DEFINITION. Frame records and their header flags (R376), the course flag map (R377), POLICY decisions (R442 to
R444), and the events raised on a first occurrence. -/

namespace Sys2Proof.Machine

/-- Raise event `e` only if its status bit is clear: events raised "on the first … after the status bit was last
cleared". -/
def Block.raiseFirst (s : Block) (e : Nat) : Block := if s.evtStatus e then s else s.raise e

/-! ### Frame flags (R376) -/

def fIncomplete : Nat := 0
def fDamaged : Nat := 1
def fStrobeRule : Nat := 2
def fNodeBusy : Nat := 3
def fCourseLate : Nat := 4
def fBusStall : Nat := 5
def fOverflow : Nat := 6
def fExcess : Nat := 7
def fShort : Nat := 8
def fNoSlot : Nat := 9
def fHoldover : Nat := 10
def fFcpLate : Nat := 11
def fRateYield : Nat := 12
def fCalSettling : Nat := 13
def fTnrOn : Nat := 14
def fTnrPartial : Nat := 15
def fClampHeld : Nat := 16
def fClampLimit : Nat := 17
def fStatsAbsent : Nat := 18
def fTcAbsent : Nat := 19
def fTcStale : Nat := 20
def fReplOverflow : Nat := 21
def fReplFail : Nat := 22
def fKsUnlocked : Nat := 23
def fRemapped : Nat := 24
def fWordsDropped : Nat := 25

namespace Block

/-- The record of frame `n`. -/
def frame? (s : Block) (n : Nat) : Option FrameRec := s.ft.frames.find? (fun f => decide (f.num = n))

/-- Change the record of frame `n`. -/
def onFrame (s : Block) (n : Nat) (g : FrameRec → FrameRec) : Block :=
  { s with ft := { s.ft with frames := s.ft.frames.map (fun f => if f.num = n then g f else f) } }

/-- Flag `b` of frame `n`. -/
def frameFlag (s : Block) (n b : Nat) : Bool := match s.frame? n with | some f => f.flags.getLsbD b | none => false

/-- What follows when a flag is first set in a frame: the REC_STAT bit and the event (R364, R368, R376, R386). -/
def flagEffects (s : Block) (b : Nat) : Block :=
  if b = fIncomplete then (s.setFlag REC_STAT.INCOMPLETE true).raise 792
  else if b = fDamaged then (s.setFlag REC_STAT.DAMAGED true).raise 793
  else if b = fNoSlot then s.setFlag REC_STAT.NO_SLOT true
  else if b = fOverflow then (s.setFlag REC_STAT.OVERFLOW true).raise 796
  else if b = fExcess then (s.setFlag REC_STAT.EXCESS true).raise 797
  else if b = fBusStall then (s.setFlag REC_STAT.BUS_STALL true).raise 798
  else if b = fClampHeld ∨ b = fClampLimit then (s.setFlag REC_STAT.CLAMP true).raiseFirst 799
  else if b = fTcAbsent ∨ b = fTcStale then s.setFlag REC_STAT.TC true
  else s

/-- Set flag `b` of frame `n`; its effects follow when it was clear. -/
def mark (s : Block) (n b : Nat) : Block :=
  match s.frame? n with
  | some f =>
    if f.flags.getLsbD b then s
    else (s.onFrame n (fun g => { g with flags := wput g.flags b true })).flagEffects b
  | none => s

/-- Set several flags of frame `n`. -/
def marks (s : Block) (n : Nat) (l : List Nat) : Block := l.foldl (fun t b => t.mark n b) s

end Block

/-! ### Course flags (R377) -/

def cFilled : Nat := 0
def cShort : Nat := 1
def cNodeBusy : Nat := 2
def cCourseLate : Nat := 3
def cBusStall : Nat := 4
def cOverflow : Nat := 5
def cDamaged : Nat := 6
def cAbsent : Nat := 7

namespace Block

/-- The ingest of frame `n`. -/
def ingest? (s : Block) (n : Nat) : Option Ingest := s.rcd.ingest.find? (fun g => decide (g.frame = n))

/-- Change the ingest of frame `n`. -/
def onIngest (s : Block) (n : Nat) (g : Ingest → Ingest) : Block :=
  { s with rcd := { s.rcd with ingest := s.rcd.ingest.map (fun i => if i.frame = n then g i else i) } }

/-- Course flags of course `q` in region column `col` of frame `n`. -/
def courseFlags (s : Block) (n q col : Nat) : Byte :=
  match s.ingest? n with | some g => smGet 0 g.cflags (q * 4 + col) | none => 0

/-- Set course flags (a byte of flags) of course `q` in region column `col` of frame `n`. -/
def flagCourse (s : Block) (n q col : Nat) (bits : Byte) : Block :=
  s.onIngest n (fun g => { g with cflags := smSet 0 g.cflags (q * 4 + col) (smGet 0 g.cflags (q * 4 + col) ||| bits) })

end Block

/-- A byte with one bit set. -/
def bit8 (i : Nat) : Byte := BitVec.ofNat 8 (2 ^ i)

/-! ### POLICY decisions (R442 to R444) -/

namespace Block

/-- A POLICY decision with code `code` is taken: POL_LAST follows (R444, R448). -/
def policy (s : Block) (code : Nat) : Block := (s.setFld POL_LAST.CODE code).incFld POL_LAST.COUNT 1

/-- A POLICY decision with its cairn. -/
def policyCairn (s : Block) (code kind target old new : Nat) : Block :=
  (s.policy code).cairnN (oPolicy code) kind target old new

/-- Write a register word with shadowing (R2): while a schedule runs, a word whose shadowed bits change keeps the word in
force until its FCP. -/
def shadowSet (s : Block) (a : Nat) (w : Word) : Block :=
  let m := BitVec.ofNat 32 (match regRow? a with | some r => r.rws | none => 0)
  if s.running && decide ((w ^^^ s.reg a) &&& m ≠ 0) && !smHas s.held a then
    ({ s with held := smPut s.held a (s.reg a) }).setReg a w
  else s.setReg a w

/-- A change of a register word, logged as a REGISTER cairn with that origin (R649). -/
def regCairn (s : Block) (origin a : Nat) (w : Word) : Block :=
  if s.reg a = w then s else (s.cairn origin 0x0001 a (s.reg a) w).shadowSet a w

/-- A POLICY write of a register field, logged as a REGISTER cairn. -/
def policyFld (s : Block) (code : Nat) (f : RF) (v : Nat) : Block :=
  let w := wsetField (s.reg f.addr) f.lo f.width v
  if s.reg f.addr = w then s else (s.policy code).regCairn (oPolicy code) f.addr w

/-- A free value: the next one drawn (see the assumption log). -/
def drawn (s : Block) : Word := Config.freeWord s.free

/-- Count a free value as drawn. -/
def draw (s : Block) : Block := { s with free := s.free + 1 }

/-- A single fault of kind `k` is contained (R614, R620): KIND and COUNT, the measured interruption, and event 1023. Kinds 6
and 7 interrupt nothing, nor does a fault outside a take; of any other the interruption is a free value of at most 20 µs. A self-test
run ends with the items done (R625). -/
def contain (s : Block) (k : Nat) : Block :=
  let none_ := !s.takeOpen || decide (k = 6) || decide (k = 7)
  let v := if none_ then 0 else s.drawn.toNat % 201
  let s1 := if none_ then s else s.draw
  let s2 := ((s1.setFld FLT_STAT.KIND k).incFld FLT_STAT.COUNT 1).setFld FLT_INTR.LAST v
  let s3 := (s2.setFld FLT_INTR.MAX (max v (s2.fld FLT_INTR.MAX))).raise 1023
  { s3 with flt := { s3.flt with stCut := s3.flt.stCut || s3.flag ST_STAT.RUNNING } }

end Block

/-! ### Runs of POLICY values (R444) -/

/-- Code of the decision whose values lie at an address. -/
def runCode (a : Nat) : Nat := if a = SYS_VID.addr then 0xB01 else if a = TH_COOL_STAT.addr then 0xB03 else 0xC01

/-- Note that the word at `a` has changed from what it was in `before`. -/
def noteRun (a : Nat) (before s : Block) : Block :=
  if before.reg a = s.reg a then s
  else
    let entry := match s.th.runs.find? (fun e => decide (e.1 = a)) with
      | some (_, old, _, at_) => (old, s.now, at_)
      | none => (before.reg a, s.now, s.now)
    let s1 := s.policy (runCode a)
    { s1 with th := { s1.th with runs := smPut s1.th.runs a entry } }

/-- Write the cairns of the runs that are 1 s old unchanged, or 60 s long. -/
def flushRuns (s : Block) : Block :=
  s.th.runs.foldl (fun (t : Block) e =>
    let a := e.1
    let log (u : Block) : Block := u.cairn (oPolicy (runCode a)) 0x0001 a e.2.1 (u.reg a)
    if secT ≤ t.sinceT e.2.2.1 then (log { t with th := { t.th with runs := smDel t.th.runs a } })
    else if 60 * secT ≤ t.sinceT e.2.2.2 then
      log { t with th := { t.th with runs := smPut t.th.runs a (t.reg a, e.2.2.1, t.now) } }
    else t) s

/-! ### The end of MAINTAIN (R126) -/

/-- The class that the access table gives an origin number (R116, R124). -/
def tableClass (s : Block) (origin : Nat) : Nat :=
  s.acc.table.getD (match origin / 0x1000 with
    | 1 => 0
    | 2 => if origin.testBit 7 then 2 else 1
    | 3 => 3
    | _ => 4) 0

/-- MAINTAIN ends for every origin that `p` picks: a cairn and event 975 for each (R126). A cairn of LEAVE_MAINTAIN carries
its origin, every other one FIRMWARE. -/
def endMaintain (byCommand : Bool) (p : Maint → Bool) (s : Block) : Block :=
  let s1 := { s with acc := { s.acc with maintain := s.acc.maintain.filter (fun m => !p m) } }
  (s.acc.maintain.filter p).foldl (fun t m =>
    (t.cairnN (if byCommand then m.origin else oFirmware) 0x0111 0 3 (tableClass t m.origin)).raise 975) s1

end Sys2Proof.Machine
end

