-- ==== Sys2Proof/Machine/Record.lean ====
section
/-! DEFINITION. The record path: corrections (R183, R366 to R371), packing (R372 to R374), payload checks (R380), the
frame header (R375 to R379), slots and burst depth (R357 to R360). -/

namespace Sys2Proof.Machine

/-! ### What a frame was taken with -/

/-- Register word in force at FCP(N), from the settings of the record (R379). -/
def FrameRec.reg (f : FrameRec) (a : Nat) : Word := smGet (regReset a) f.settings a

/-- Register field in force at FCP(N). -/
def FrameRec.fld (f : FrameRec) (r : RF) : Nat := wfield (f.reg r.addr) r.lo r.width

/-- Windows, binning, format and gain mode of a frame. -/
def FrameRec.wins (f : FrameRec) : List Win := winsOrFull (winsOf f.reg)
def FrameRec.bin (f : FrameRec) : Nat := f.fld CNV_CFG.BIN
def FrameRec.fmt (f : FrameRec) : Nat := f.fld REC_CFG.FORMAT
def FrameRec.gain (f : FrameRec) : Nat := f.fld CNV_CFG.GAIN_MODE
def FrameRec.black (f : FrameRec) : Nat := f.fld REC_BLACK.TARGET
def FrameRec.two (f : FrameRec) : Bool := twoNodes f.table

/-- The nodes converted, in part order (R374): a frame of one node has the one part of its node. -/
def FrameRec.nodes (f : FrameRec) : List Bool :=
  if f.two then [false, true] else if f.table.any (fun e => e.node) then [true] else [false]

/-- RATIO of unit `u` in the frame's epoch (R185); a retired unit takes 1,843 (R369). -/
def FrameRec.ratio (f : FrameRec) (u : Nat) : Nat := smGet ((Config.calFactory u).toNat / 2 ^ 44 % 4096) f.ratios u

/-- The calibration entry of unit `u` in the working copy (R186). -/
def Block.calEntry (s : Block) (u : Nat) : BitVec 64 := smGet (Config.calFactory u) s.cal.entries u

/-- The calibration entry in force for frame `f` (R186). -/
def calFor (s : Block) (f : FrameRec) (u : Nat) : BitVec 64 :=
  smGet (smGet (s.calEntry u) s.cal.held u) f.calOld u |||
    (if s.cal.badBlocks.contains (u / 4096) then (0x8000000000000000 : BitVec 64) else 0)

/-! ### Unit correction (R183) -/

/-- Round half up a rational with positive denominator (R183). -/
def roundUp (a : Int) (b : Nat) : Int := (2 * a + (b : Int)) / (2 * (b : Int))

/-- The corrected value of raw code `d` at the LCG setting (`lcg`) or the HCG setting, with entry `e` (R183, R188). -/
def unitCorrect (e : BitVec 64) (lcg : Bool) (d : Nat) : Nat :=
  if d = 16383 then 16383
  else
    let n := e.toNat
    let o := if lcg then bitsOf n 13 13 else bitsOf n 0 13
    let g := sgn 9 (if lcg then bitsOf n 35 9 else bitsOf n 26 9)
    (clampInt 0 16383 (roundUp ((2048 + g) * (4 * (d : Int) - (o : Int))) 8192 + 1024)).toNat

/-- Correct one output word of 15 bits (GF in bit 14): none for the no-conversion marker (R174). -/
def correctWord (e : BitVec 64) (gain : Nat) (w : Nat) : Option Nat :=
  let gf := w / 16384 % 2
  let d := w % 16384
  if gf = 1 ∧ d = 0 then none
  else some (gf * 16384 + unitCorrect e (decide (gain = 2) || decide (gf = 1)) d)

/-! ### Access to a frame's outputs -/

/-- The output of a segment list at node, course, unit and index: none if it was not delivered. -/
def segOut (segs : List Seg) (node : Bool) (q u i : Nat) : Option (Option Nat) :=
  match segs.find? (fun g => decide (g.course = q) && decide (g.node = node) && g.units.contains u) with
  | some g => some ((g.outs.getD (g.units.idxOf u) []).getD i none)
  | none => none

/-- Region of an output at column x of the grid with edge `k`, in course `q` (R14). -/
def regionAt (k x q : Nat) : Nat := q / 512 % 2 * 4 + min 3 (x / k / 576)

/-! ### Black clamp (R367, R368) -/

/-- Key of Δ: node, half, band and colour (R367). -/
def deltaKey (node : Bool) (q c : Nat) : Nat := ((b2n node * 2 + q / 512) * 32 + q % 512 / 16) * 4 + c

/-- Is the optical-black unit (ue, ve) in a clamp set, and in which (half, band) (R368)? -/
def clampBand (ue ve : Nat) : Option (Nat × Nat) :=
  if decide (ue ≤ 29) || (decide (2338 ≤ ue) && decide (ue ≤ 2367)) then
    if ve < 1024 then some (ve / 512, ve % 512 / 16) else none
  else if 1026 ≤ ve ∧ ve ≤ 1039 ∧ 32 ≤ ue ∧ ue ≤ 2335 then some (1, 31) else none

/-- Is pixel `p` of unit `u`, or the whole unit, on a defect list (R191)? UNIT is bits [21:0], PIX [27:22], KIND [29:28]. -/
def onList (l : List Word) (whole : Bool) (u p : Nat) : Bool :=
  l.any (fun w => decide (wfield w 0 22 = u) &&
    (if whole then decide (wfield w 28 2 = 3) else decide (wfield w 28 2 = 3) || decide (wfield w 22 6 = p)))

/-- Sums and counts of the clamp sets of a frame, by Δ key (R368). -/
def clampMeans (s : Block) (f : FrameRec) (g : Ingest) : List (Nat × (Nat × Nat)) :=
  g.segs.foldl (fun acc sg =>
    (sg.units.zip sg.outs).foldl (fun acc2 (uo : Nat × List (Option Nat)) =>
      let (u, os) := uo
      let (ue, ve) := unitXY u
      match clampBand ue ve with
      | none => acc2
      | some (h, k) =>
        if (calFor s f u).getLsbD 63 || (smGet 0 g.cflags (sg.course * 4 + sg.region % 4)).getLsbD cFilled then acc2
        else
          let ed := binEdge f.bin
          os.zipIdx.foldl (fun acc3 (oi : Option Nat × Nat) =>
            match oi.1 with
            | none => acc3
            | some w =>
              if decide (f.bin = 0) && onList f.defects false u oi.2 then acc3
              else
                let key := ((b2n sg.node * 2 + h) * 32 + k) * 4 + colourOf (oi.2 % ed) (oi.2 / ed)
                let (a, n) := smGet (0, 0) acc3 key
                smPut acc3 key (a + w % 16384, n + 1)) acc2) acc) []

/-- The conversion key of a frame: gain mode and binning (R368). -/
def convKey (f : FrameRec) : Nat := f.gain * 4 + f.bin

/-- Δ of frame `f` for one key, with the flags CLAMP_HELD and CLAMP_LIMIT (R367, R368). -/
def deltaOf (s : Block) (f : FrameRec) (prev : Option (FrameRec × Ingest)) (first : Bool) (key : Nat) :
    Int × Bool × Bool :=
  let fixed : Int := 1024 - (f.black : Int)
  let node := decide (256 ≤ key)
  if f.fld REC_CFG.CLAMP_EN = 0 then (fixed, false, false)
  else
    let kept : Int :=
      match s.rcd.deltaLast.find? (fun e => decide (e.1 = convKey f * 2 + b2n node)) with
      | some e => smGet fixed e.2 key
      | none => fixed
    match prev with
    | none => (kept, true, false)
    | some (pf, pg) =>
      if first || decide (convKey pf ≠ convKey f) || !pf.nodes.contains node then (kept, true, false)
      else
        let (a, n) := smGet (0, 0) pg.means key
        if n < 1024 then (smGet fixed pg.delta key, true, false)
        else
          let d := roundUp (a : Int) n - (f.black : Int)
          let c := clampInt (fixed - 256) (fixed + 256) d
          (c, false, decide (c ≠ d))

/-- The clamp output of a corrected word (R367). -/
def clampOut (f : FrameRec) (delta : List (Nat × Int)) (node : Bool) (q c w : Nat) : Nat :=
  let gf := w / 16384
  let v := w % 16384
  let b : Int := (f.black : Int)
  if v = 16383 then gf * 16384 + 16383
  else if f.gain = 0 ∧ gf = 1 then 16384 + (clampInt 0 16383 ((v : Int) + b - 1024)).toNat
  else gf * 16384 + (clampInt 0 16383 ((v : Int) - smGet (1024 - b) delta (deltaKey (node && f.two) q c))).toNat

/-! ### Defect replacement (R369, R370) and temporal noise reduction (R371) -/

/-- Bits that `final` carries beside a word. -/
def mkFilled : Nat := 65536
def mkListed : Nat := 131072
def mkDynamic : Nat := 262144

/-- An output before replacement: filled, to be replaced from the list, to be replaced dynamically, or its word. -/
inductive Cell
  | filled
  | listed
  | dynamic
  | val (w : Nat)
  deriving DecidableEq, Repr

/-- The output at (x, y) of a part, after the black clamp (R366). -/
def cellAt (s : Block) (f : FrameRec) (g : Ingest) (node : Bool) (x y : Nat) : Cell :=
  let k := binEdge f.bin
  let q := y / k
  let u := unitAt (x / k + 32) q
  let i := y % k * k + x % k
  if (smGet 0 g.cflags (q * 4 + regionAt k x q % 4)).getLsbD cFilled then .filled
  else
    match segOut g.segs node q u i with
    | none => .filled
    | some o =>
      if (calFor s f u).getLsbD 63 || onList f.defects (decide (f.bin ≠ 0)) u i then .listed
      else
        match o with
        | none => .dynamic
        | some w => .val (clampOut f g.delta node q (colourOf x y) w)

/-- The nearest valid candidate on one side, at distance 2, 4, 6, 8 or 10 (R369). -/
def candidate (s : Block) (f : FrameRec) (g : Ingest) (w : Win) (node : Bool) (y : Nat) (xs : List Int) :
    Option (Nat × Nat) :=
  let k := binEdge f.bin
  xs.findSome? (fun xi =>
    if xi < ((w.u0 * k : Nat) : Int) ∨ (((w.u1 + 1) * k : Nat) : Int) ≤ xi then none
    else
      let x := xi.toNat
      match cellAt s f g node x y with
      | .val v => some (x, v)
      | _ => none)

/-- Linear value of a word of unit `u`, over 2,048 (R184). -/
def linear2048 (f : FrameRec) (u w : Nat) : Int :=
  let d : Int := ((w % 16384 : Nat) : Int) - (f.black : Int)
  if w / 16384 = 1 ∨ f.gain = 2 then d * ((8192 + f.ratio u : Nat) : Int) else d * 2048

/-- The replacement of an output, and whether no candidate was found (R369). -/
def replacement (s : Block) (f : FrameRec) (g : Ingest) (w : Win) (node : Bool) (x y : Nat) : Nat × Bool :=
  let left := candidate s f g w node y [(x : Int) - 2, (x : Int) - 4, (x : Int) - 6, (x : Int) - 8, (x : Int) - 10]
  let right := candidate s f g w node y [(x : Int) + 2, (x : Int) + 4, (x : Int) + 6, (x : Int) + 8, (x : Int) + 10]
  let l := (left.map (fun a => [a])).getD [] ++ (right.map (fun a => [a])).getD []
  let k := binEdge f.bin
  match l with
  | [] => (f.black, true)
  | _ =>
    if f.gain = 0 then
      let sum := (l.map (fun a => linear2048 f (unitAt (a.1 / k + 32) (y / k)) a.2)).sum
      let mean := roundUp sum (2048 * l.length)
      if mean ≤ 16383 - (f.black : Int) then ((clampInt 0 16383 ((f.black : Int) + mean)).toNat, false)
      else
        let u := unitAt (x / k + 32) (y / k)
        let r := if (calFor s f u).getLsbD 63 then 1843 else f.ratio u
        (16384 + (min 16383 ((f.black : Int) + roundUp sum (l.length * (8192 + r)))).toNat, false)
    else ((roundUp ((l.map (fun a => ((a.2 % 16384 : Nat) : Int))).sum) l.length).toNat, false)

/-- Position of output (x, y) of part `part` in payload order, in outputs; the window that holds it. -/
def payloadPos (f : FrameRec) (part x y : Nat) : Option Nat :=
  let k := binEdge f.bin
  let wsize (w : Win) : Nat := (w.u1 + 1 - w.u0) * k * ((w.v1 + 1 - w.v0) * k)
  let total := (f.wins.map wsize).sum
  let rec go : List Win → Nat → Option Nat
    | [], _ => none
    | w :: t, o =>
      if w.u0 * k ≤ x ∧ x < (w.u1 + 1) * k ∧ w.v0 * k ≤ y ∧ y < (w.v1 + 1) * k then
        some (o + (y - w.v0 * k) * ((w.u1 + 1 - w.u0) * k) + (x - w.u0 * k))
      else go t (o + wsize w)
  (go f.wins 0).map (fun o => part * total + o)

/-- The recorded value of a word (R372). -/
def packed (fmt w : Nat) : Nat :=
  if fmt = 0 then min 4095 ((w % 16384 + 2) / 4) else if fmt = 1 then w % 16384 else w % 32768

/-- The reference value of R371 from a recorded frame's word. -/
def refValue (fmt w : Nat) : Int := if fmt = 0 then ((packed 0 w * 4 : Nat) : Int) else ((w % 16384 : Nat) : Int)

/-- Temporal noise reduction of one word with reference `ref` (R371). -/
def tnr (f : FrameRec) (ref : Int) (w : Nat) : Nat :=
  let v : Int := ((w % 16384 : Nat) : Int)
  if ((ref - v).natAbs : Int) ≤ (f.fld REC_TNR.THRESH : Int) then
    w / 16384 * 16384 + (clampInt 0 16383 (v + roundUp ((ref - v) * (f.fld REC_CFG.STRENGTH : Int)) 16)).toNat
  else w

/-- Is frame N − 1 usable as a reference for frame `f` (R371)? -/
def tnrUsable (f p : FrameRec) (held : Bool) : Bool :=
  held && decide (p.wins = f.wins) && decide (p.fmt = f.fmt) && decide (convKey p = convKey f) &&
    decide (p.nodes = f.nodes)

/-- Every output of a frame in payload order (R366 to R374), with TNR_PARTIAL and REPLACE_FAIL. -/
def finalOuts (s : Block) (f : FrameRec) (g : Ingest) (ref : Option (FrameRec × Ingest)) : List Nat × Bool × Bool :=
  let k := binEdge f.bin
  let on := decide (f.fld REC_CFG.TNR_EN = 1)
  let cells := f.nodes.zipIdx.flatMap (fun (np : Bool × Nat) =>
    f.wins.flatMap (fun w =>
      (List.range ((w.v1 + 1 - w.v0) * k)).flatMap (fun dy =>
        (List.range ((w.u1 + 1 - w.u0) * k)).map (fun dx =>
          let x := w.u0 * k + dx
          let y := w.v0 * k + dy
          let (word, marks, fail) : Nat × Nat × Bool :=
            match cellAt s f g np.1 x y with
            | .filled => (0, mkFilled, false)
            | .listed => let r := replacement s f g w np.1 x y; (r.1, mkListed, r.2)
            | .dynamic => let r := replacement s f g w np.1 x y; (r.1, mkDynamic, r.2)
            | .val v => (v, 0, false)
          if !on || decide (marks = mkFilled) || decide (word / 16384 = 1) then (word + marks, on && decide (word / 16384 = 1), fail)
          else
            let rv : Option Int :=
              match ref with
              | none => none
              | some (pf, pg) =>
                match payloadPos pf np.2 x y with
                | none => none
                | some o =>
                  let rw := pg.final.getD o mkFilled
                  let damaged := (smGet 0 pg.cflags (y / k * 4 + regionAt k x (y / k) % 4)).getLsbD cDamaged
                  if rw / mkFilled % 2 = 1 || damaged then none else some (refValue pf.fmt rw)
            match rv with
            | some r => (tnr f r word + marks, false, fail)
            | none => (word + marks, true, fail)))))
  (cells.map (fun c => c.1), cells.any (fun c => c.2.1), cells.any (fun c => c.2.2))

/-! ### Packing (R372 to R374) and payload checks (R380) -/

/-- Pack values of `w` bits each, least significant bit first, into bytes; the tail is padded with zero bits (R372). -/
def packBits (w : Nat) (l : List Nat) : List Byte :=
  leBytes (ceilDiv (w * l.length) 8) (l.zipIdx.foldl (fun acc (vi : Nat × Nat) => acc + vi.1 % 2 ^ w * 2 ^ (w * vi.2)) 0)

/-- Split a list into pieces of the given lengths. -/
def pieces {α : Type} : List Nat → List α → List (List α)
  | [], _ => []
  | n :: t, l => l.take n :: pieces t (l.drop n)

/-- Outputs of each window of one part. -/
def winLens (f : FrameRec) : List Nat :=
  f.wins.map (fun w => (w.u1 + 1 - w.u0) * binEdge f.bin * ((w.v1 + 1 - w.v0) * binEdge f.bin))

/-- Pad bytes to a multiple of `n` with zeros. -/
def padTo (n : Nat) (l : List Byte) : List Byte := l ++ zeros (ceilDiv l.length n * n - l.length)

/-- Where output (x, y) of part `part` lies in its region's extent, in bits from the extent's payload (R373): parts,
then windows, then rows, each row segment padded to a byte. -/
def extentBit (f : FrameRec) (part x y : Nat) : Nat :=
  let k := binEdge f.bin
  let r := regionAt k x (y / k)
  let w := fmtBits f.fmt
  let rec go : List Win → Nat → Nat
    | [], o => o
    | v :: t, o =>
      let a := max v.u0 (r % 4 * 576)
      let row := ceilDiv (overlapLen v.u0 v.u1 (r % 4 * 576) (r % 4 * 576 + 575) * k * w) 8
      let rows := overlapLen v.v0 v.v1 (r / 4 * 512) (r / 4 * 512 + 511) * k
      if v.u0 * k ≤ x ∧ x < (v.u1 + 1) * k ∧ v.v0 * k ≤ y ∧ y < (v.v1 + 1) * k then
        o + (y - max v.v0 (r / 4 * 512) * k) * row * 8 + (x - a * k) * w
      else go t (o + row * rows * 8)
  go f.wins (part * regionBytes f.wins f.bin f.fmt r * 8)

/-- The bits of an output that damaged accesses leave: those inside a damaged 64 bytes are sent as 0 (R342, R373). -/
def keepBits (f : FrameRec) (sl : Slot) (part x y v : Nat) : Nat :=
  let k := binEdge f.bin
  let r := regionAt k x (y / k)
  if sl.lost.contains r then 0
  else
    let mine := sl.damaged.filter (fun d => decide (d.1 = r) && decide (65536 ≤ d.2))
    if mine.isEmpty then v
    else
      let o := extentBit f part x y
      ((List.range (fmtBits f.fmt)).map (fun i =>
        if mine.any (fun d => decide ((d.2 - 65536) * 8 ≤ o + i) && decide (o + i < (d.2 - 65536) * 8 + 512)) then 0
        else v / 2 ^ i % 2 * 2 ^ i)).sum

/-- Coordinates of every output in payload order, with its part. -/
def outCoords (f : FrameRec) : List (Nat × Nat × Nat) :=
  let k := binEdge f.bin
  (List.range f.nodes.length).flatMap (fun part => f.wins.flatMap (fun w =>
    (List.range ((w.v1 + 1 - w.v0) * k)).flatMap (fun dy =>
      (List.range ((w.u1 + 1 - w.u0) * k)).map (fun dx => (part, w.u0 * k + dx, w.v0 * k + dy)))))

/-- The payload of a frame (R373, R374): a filled output is sent as 0, and so is what damage took. -/
def payloadOf (f : FrameRec) (sl : Slot) (final : List Nat) : List Byte :=
  let lens := winLens f
  let vals := (final.zip (outCoords f)).map (fun vc =>
    if vc.1 / mkFilled % 2 = 1 then 0 else keepBits f sl vc.2.1 vc.2.2.1 vc.2.2.2 (packed f.fmt vc.1))
  let parts := pieces (f.nodes.map (fun _ => lens.sum)) vals
  let pk (p : List Nat) : List Byte := (pieces lens p).flatMap (fun w => packBits (fmtBits f.fmt) w)
  match parts with
  | [a, b] => padTo 65536 (pk a) ++ padTo 65536 (pk b)
  | l => l.flatMap pk

/-- The 16-bit word of an output for the payload CRC (R380). -/
def crcWord (fmt v : Nat) : Nat :=
  if v / mkFilled % 2 = 1 then 0 else if fmt = 0 then packed 0 v else v % 32768

/-- Payload CRC of region `r` (R380); 0 for a region without outputs. -/
def regionCrc (f : FrameRec) (final : List Nat) (r : Nat) : Word :=
  let k := binEdge f.bin
  let coords := (outCoords f).map (fun c => c.2)
  let mine := (coords.zip final).filter (fun c => decide (regionAt k c.1.1 (c.1.2 / k) = r))
  match mine with
  | [] => 0
  | l => crc32 (l.flatMap (fun c => leBytes 2 (crcWord f.fmt c.2)))

/-! ### The header (R375 to R379, R381) -/

/-- Lay fields at rising offsets, filling the gaps with zeros. -/
def layOut : Nat → List (Nat × List Byte) → List Byte
  | _, [] => []
  | o, (a, b) :: t => zeros (a - o) ++ b ++ layOut (max o a + b.length) t

/-- The settings pairs (R379), in order: the addresses. -/
def settingsAddrs : List Nat :=
  [FT_CFG.addr, FT_PERIOD.addr, FT_EXPOSURE.addr, FT_TERRACE.addr, FT_TRIG.addr, FT_BURST.addr, FT_GENLOCK.addr,
    FT_GL_REF.addr, FT_GL_OFFSET.addr, CNV_CFG.addr, CNV_THRESH.addr, PIX_CFG.addr, PIX_DRIVE_STAT.addr, REC_CFG.addr,
    REC_BLACK.addr, REC_TNR.addr] ++
  (List.range 4).flatMap (fun w => [(FT_WIN0.EN w).addr, (FT_WIN1.V0 w).addr]) ++
  [KS_CFG.addr, KS_TRIM_EFF.addr, SYS_VID.addr, PRF_STATE.addr, SYS_STATE.addr, CNV_STAT.addr, REC_DEPTH.addr,
    FT_STAT.addr]

/-- The settings pairs as bytes (R379). -/
def settingsBytes (rd : Nat → Word) : List Byte := settingsAddrs.flatMap (fun a => leBytes 4 a ++ wordBytes (rd a))

/-- Byte of 32-bit two's complement. -/
def int32 (v : Int) : List Byte := leBytes 4 (unsgn 32 v)

/-- Total width exposed into a node (R375). -/
def widthInto (t : List SubExp) (b : Bool) : Nat := ((t.filter (fun e => e.node == b)).map (fun e => e.width)).sum

/-- Extent E of a sub-exposure table: the end of its last entry. -/
def tableExtent (t : List SubExp) : Nat := (t.map (fun e => e.start + e.width)).foldl max 0

/-- The window table of the header (R375). -/
def winTable (f : FrameRec) : List Byte :=
  let k := binEdge f.bin
  let ws := f.wins
  let offs := (List.range ws.length).map (fun i => ((ws.take i).map (winBytes f.bin f.fmt)).sum)
  (List.range 4).flatMap (fun n =>
    match (ws.zip offs).find? (fun (wo : Win × Nat) => decide (wo.1.num = n)) with
    | some (w, o) => leBytes 8 o ++ leBytes 4 ((w.u1 + 1 - w.u0) * k) ++ leBytes 4 ((w.v1 + 1 - w.v0) * k)
    | none => zeros 16)

/-- Strobe stamps of the header: the GRST stamps and the GTX stamps as fired, paired in order (R375). -/
def strobeTable (f : FrameRec) : List Byte :=
  let g := f.fired.filter (fun x => decide (x.kind = 0))
  let t := f.fired.filter (fun x => decide (x.kind ≠ 0))
  (List.range 32).flatMap (fun i =>
    leBytes 8 ((g[i]?.map (fun x => x.tick.toNat)).getD 0) ++ leBytes 8 ((t[i]?.map (fun x => x.tick.toNat)).getD 0))

/-- Courses filled: bytes of the course flag map with FILLED (R375). -/
def filledCount (g : Ingest) : Nat := (g.cflags.filter (fun e => e.2.getLsbD cFilled)).length

/-- Header bytes 0x0000 to 0xFFDB of a frame (R375), completed at `at_`; `payload` is false for a stub (R359). -/
def headerBody (f : FrameRec) (g : Ingest) (sl : Slot) (at_ : Tick) : List Byte :=
  let pay := !sl.stub
  let final := if pay then g.final else []
  let cnt (m : Nat) : Nat := (final.filter (fun v => decide (v / m % 2 = 1))).length
  let plen := if pay then payloadBytes f.wins f.bin f.fmt f.two else 0
  let deltaBytes (node : Bool) : List Byte :=
    (List.range 256).flatMap (fun i => leBytes 2 (unsgn 16 (smGet 0 g.delta (256 * b2n node + i))))
  layOut 0 [
    (0x0000, leBytes 4 0x5248414E ++ leBytes 2 1 ++ leBytes 1 f.fmt ++
      leBytes 1 (f.gain + 4 * f.bin + 16 * f.fld REC_CFG.TNR_EN) ++ leBytes 4 f.num ++ leBytes 2 sl.take ++
      leBytes 2 f.epoch ++ leBytes 8 Config.serial.toNat ++ leBytes 8 plen ++ wordBytes f.flags ++
      leBytes 2 f.black ++ leBytes 1 (f.fld PIX_DRIVE_STAT.SET + 8 * f.fld PIX_DRIVE_STAT.FORCED +
        16 * f.fld PIX_DRIVE_STAT.BAND_AT_FCP) ++ leBytes 1 f.profile ++ int32 f.trim ++ leBytes 4 g.recDropped ++
      leBytes 4 f.defectStores ++ leBytes 4 f.defects.length ++ leBytes 4 (cnt mkListed) ++ leBytes 4 (cnt mkDynamic) ++
      leBytes 4 (if pay then sl.damageCount else 0) ++ leBytes 4 (if pay then filledCount g else 0) ++
      f.bands.flatMap (fun b => leBytes 1 b)),
    (0x0050, leBytes 8 (if f.two then ceilDiv (partBytes f.wins f.bin f.fmt) 65536 * 65536 else 0)),
    (0x0100, leBytes 8 f.fcp.toNat ++ leBytes 8 f.grst.toNat ++ leBytes 8 (f.last.getD 0).toNat ++ leBytes 8 f.te.toNat ++
      leBytes 4 f.period ++ leBytes 4 (tableExtent f.table) ++ leBytes 4 (widthInto f.table false) ++
      leBytes 4 (widthInto f.table true) ++ leBytes 1 f.table.length),
    (0x0134, leBytes 4 f.tro ++ leBytes 8 at_.toNat),
    (0x0180, winTable f),
    (0x0200, f.table.flatMap (fun e => leBytes 4 e.start ++ leBytes 4 e.width ++ leBytes 1 (b2n e.node) ++ zeros 3)),
    (0x0400, strobeTable f),
    (0x0600, match g.tc with | some (t, b) => leBytes 8 b.toNat ++ leBytes 8 t.toNat | none => zeros 16),
    (0x0700, settingsBytes f.reg),
    (0x0800, deltaBytes false),
    (0x0A00, if pay then (List.range 8).flatMap (fun r => wordBytes (regionCrc f g.final r)) else zeros 32),
    (0x0A40, if pay then (sl.damaged.take 16).flatMap (fun d => leBytes 1 d.1 ++ zeros 3 ++ leBytes 4 d.2) else []),
    (0x0B00, g.recWords.flatMap wordBytes),
    (0x1300, leBytes 4 g.recWords.length),
    (0x1400, if pay then (List.range 4160).map (fun i => smGet 0 g.cflags i) else []),
    (0x2500, if pay then (g.dynList.take 1024).flatMap wordBytes else []),
    (0x4000, match g.stats with | some b => b | none => []),
    (0xA000, if f.two then deltaBytes true else zeros 512),
    (0xFFDC, [])]

/-- Complete a header (R375, R381): body, CRC, and the chain value over `prev` inside a take. -/
def headerOf (f : FrameRec) (g : Ingest) (sl : Slot) (at_ : Tick) (prev : Option (List Byte)) : List Byte :=
  let body := headerBody f g sl at_
  let h := body ++ wordBytes (crc32 body)
  match prev with
  | some c => h ++ sha256 (c ++ h)
  | none => h ++ zeros 32

/-! ### Burst depth and slots (R357 to R360) -/

/-- Slots held, stubs held (R385). -/
def heldSlots (s : Block) : Nat := (s.rcd.slots.filter (fun l => !l.stub)).length
def heldStubs (s : Block) : Nat := (s.rcd.slots.filter (fun l => l.stub)).length

/-- REC_FILL follows the slots held (R385). -/
def syncFill (s : Block) : Block := (s.setFld REC_FILL.HELD (heldSlots s)).setFld REC_FILL.STUBS (heldStubs s)

/-- D (R358). -/
def depthOf (s : Block) : Nat := min (slotCap s) (min (s.fld REC_DEPTH.DEPTH_MAX) s.rcd.reserveLimit)

/-- Recompute D, with the cairn of its change and event 801 (R358); event 952 when L becomes its smallest term (R594).
`origin` is none for POLICY. -/
def updateDepth (origin : Option Nat) (s : Block) : Block :=
  let d := depthOf s
  let lim := decide (s.rcd.reserveLimit < slotCap s) && decide (s.rcd.reserveLimit < s.fld REC_DEPTH.DEPTH_MAX)
  let s1 := { s with rcd := { s.rcd with depth := d }, rsv := { s.rsv with limited := lim } }
  let s2 := if lim && !s.rsv.limited then s1.raise 952 else s1
  if d = s.rcd.depth then s2
  else
    let s3 := s2.setFld REC_DEPTH.DEPTH d
    (match origin with
      | some o => s3.cairnN o 0x0601 REC_DEPTH.addr s.rcd.depth d
      | none => s3.policyCairn 0x601 0x0601 REC_DEPTH.addr s.rcd.depth d).raise 801

/-- Does the schedule in force need frames faster than the ports drain them (R360)? DEFICIT, and event 804 at the opening of a
take and at each change of a rate. -/
def updateDeficit (s : Block) : Block :=
  let p := s.fld FT_PERIOD.PERIOD
  let short := s.running && s.takeOpen && decide (s.fld REC_DRAIN.FPS * p < 8000000000)
  let s1 := s.setFlag REC_STAT.DEFICIT short
  if short then s1.raise 804 else s1

/-! ### The reserve limit (R593, R594) -/

/-- Block of charge at a rest voltage in mV (R593). -/
def socOf (mv : Nat) : Rat :=
  let v : Rat := mv
  if mv ≤ 3000 then 0
  else if mv ≤ 3500 then (v - 3000) / 5000
  else if mv ≤ 3700 then 1 / 10 + (v - 3500) * 7 / 4000
  else if mv ≤ 3900 then 9 / 20 + (v - 3700) * 3 / 2000
  else if mv ≤ 4100 then 3 / 4 + (v - 3900) / 1000
  else if mv ≤ 4200 then 19 / 20 + (v - 4100) / 2000
  else 1

/-- Temperature of the cell, in 1/16 °C, when TD3 is OK (R556, R588). -/
def cellTemp (s : Block) : Option Int := if s.flag (TH_TD1.OK 3) then some (sgn 16 (s.fld (TH_TD1.TEMP 3))) else none

/-- f_T (R593). -/
def tempFactor (t : Int) : Rat := if 0 ≤ t then 1 else if -320 ≤ t then 3 / 4 else 1 / 2

/-- E_USE in joules (R593). -/
def energyUse (s : Block) : Rat :=
  match cellTemp s with
  | some t =>
    if s.flag RSV_STAT.CELL_PRESENT then
      (s.fld RSV_CFG.CAP_MWH : Rat) * 18 / 5 * socOf (s.fld RSV_CELL.V_REST) * tempFactor t * 4 / 5
    else 0
  | none => 0

/-- L (R594). -/
def reserveL (s : Block) : Nat :=
  ((energyUse s / (s.fld RSV_CFG.P_CLOSE : Rat) - 1 / 2) * (s.fld REC_DRAIN.FPS : Rat) / 10).floor.toNat

/-- Recompute L (R593, R594): RSV_ENERGY, UNPROTECTED with event 947, and D. An energy beyond the field's range reads as a free
value. -/
def updateLimit (s : Block) : Block :=
  let l := reserveL s
  let e := (energyUse s).floor.toNat
  let s1 := if e < 65536 then s.setFld RSV_ENERGY.E_USE e else s.draw.setFld RSV_ENERGY.E_USE s.drawn.toNat
  let s2 := noteRun RSV_ENERGY.addr s1 (s1.setFld RSV_ENERGY.LIMIT (min 65535 l))
  let low := decide (l < 2)
  let s3 := (s2.setFlag RSV_STAT.UNPROTECTED low).setLive 947 low
  updateDepth none { s3 with rcd := { s3.rcd with reserveLimit := l } }

/-- Recompute REC_DRAIN.FPS (R382), and at a change L (R594) and the deficit of R360. -/
def updateDrain (s : Block) : Block :=
  let v := drainFps s
  if s.fld REC_DRAIN.FPS = v then s else updateDeficit (updateLimit (s.setFld REC_DRAIN.FPS v))

/-- A take opens or ends: the drain rate and the deficit (R360, R382). -/
def updateRates (s : Block) : Block := if s.fld REC_DRAIN.FPS = drainFps s then updateDeficit s else updateDrain s

/-- Is slot `l` needed as the temporal reference of the next frame (R357)? -/
def tnrNeeds (s : Block) (l : Slot) : Bool :=
  s.effFlag REC_CFG.TNR_EN && !l.stub && l.guest.isNone &&
    (match s.ingest? (l.frame + 1) with | some g => g.whole.isNone | none => s.running)

/-- Has every consumer finished with slot `l` (R357)? A stub is held until its header is written (R359). A slot that is
not drained is kept until its header closes (R378). -/
def slotDone (s : Block) (l : Slot) : Bool :=
  l.drains.isEmpty && l.draining.isEmpty && l.claims.isEmpty && l.header.isSome && !tnrNeeds s l

/-- Free every slot that is done; D may allow further slots (R357). -/
def sweepSlots (s : Block) : Block :=
  syncFill { s with rcd := { s.rcd with slots := s.rcd.slots.filter (fun l => !slotDone s l) } }

/-- Change the slot of frame `n`. -/
def Block.onSlot (s : Block) (n : Nat) (g : Slot → Slot) : Block :=
  { s with rcd := { s.rcd with slots := s.rcd.slots.map (fun l => if l.frame = n then g l else l) } }

/-- The slot of frame `n`. -/
def Block.slot? (s : Block) (n : Nat) : Option Slot := s.rcd.slots.find? (fun l => decide (l.frame = n))

/-- Lowest free slot index below S (R346). -/
def freeIndex (s : Block) : Option Nat :=
  (List.range (slotCap s)).find? (fun i => !s.rcd.slots.any (fun l => !l.stub && decide (l.index = i)))

/-- Does a remapped extent lie under slot index `k` (R346)? -/
def slotRemapped (s : Block) (k : Nat) : Bool := (List.range 8).any (fun r => decide (extentAt s k r ≠ (r, k)))

end Sys2Proof.Machine
end

