-- ==== Sys2Proof/Machine/Channels.lean ====
section
/-! DEFINITION. Engine channels (R206 to R208), the units of a course pair, the lines and pins that channels see (R230,
R236), and the occurrences that their waits take (R222 to R224). -/

namespace Sys2Proof.Machine

/-! ### Channel contexts (R207) -/

/-- The context of a channel that starts at `pc` (R207): nothing in SO, every latch clear, READY. -/
def Chan.start (pc : Nat) : Chan :=
  { pc := pc, x := 0, y := 0, so := 0, consumed := 32, si := 0, filled := 0, flags := 0, ol := 0, il := 0, state := 0,
    latches := [], armed := none, heldAt := none, waitOn := none, waitStamp := 0, wokeAt := none, lastWait := [],
    delayEnd := none, timedFrom := none, barrier := none, stall := .none, part := 0, partN := 0, inq := [], outq := [],
    satc := [], pairNo := 128, stopReq := false, backlog := [] }

/-- A channel that never started: HALTED (R251). -/
def Chan.reset : Chan := { Chan.start 0 with state := 5 }

/-- Key of channel `ch` of engine `e`. -/
def chanKey (e ch : Nat) : Nat := e * 128 + ch

namespace Block

/-- Channel `ch` of engine `e`. -/
def chan (s : Block) (e ch : Nat) : Chan := smGet Chan.reset s.eng.chans (chanKey e ch)

/-- Set a channel. -/
def setChan (s : Block) (e ch : Nat) (c : Chan) : Block :=
  { s with eng := { s.eng with chans := smPut s.eng.chans (chanKey e ch) c } }

/-- Change a channel. -/
def onChan (s : Block) (e ch : Nat) (f : Chan → Chan) : Block := s.setChan e ch (f (s.chan e ch))

/-- The engine whose CH_CFG and ENG_SYNC a channel runs with, and whose cluster it drives: an adopted channel's are the
faulted mason's (R242). -/
def cfgEng (s : Block) (e ch : Nat) : Nat := if ch < 64 then e else s.fld (ENG_STAT.PARTNER e)

/-- Is the channel one the engine has: 64, with 64 adopted ones while it serves a partner, or 16 on a pin engine? -/
def hasChan (s : Block) (e ch : Nat) : Bool :=
  if 128 ≤ e then decide (ch < 16) else decide (ch < 64) || (decide (ch < 128) && s.flag (ENG_STAT.SERVING e))

/-- Is the channel enabled (R251)? -/
def chanOn (s : Block) (e ch : Nat) : Bool := s.hasChan e ch && s.flag (CH_CFG.EN (s.cfgEng e ch) (ch % 64))

end Block

/-- The engine event of `e`'s fault, and of its notices (R255). -/
def engFaultEvt (e : Nat) : Nat := if e < 128 then 3 * e else 384 + 2 * (e - 128)
def engNoticeEvt (e : Nat) : Nat := if e < 128 then 3 * e + 1 else 385 + 2 * (e - 128)

/-! ### Units of a course pair (R15 to R17, R220) -/

/-- Units of cluster `c` in course `q`, optical-black ones included. -/
def courseUnits (c q : Nat) : List Nat :=
  ((List.range 2368).filter (fun ue => decide (colOf ue = c % 16))).map (fun ue => unitAt ue q)

/-- The two courses of pair `p` of cluster `c`: its own pair 0–63, or top optical-black pair `p` − 64 (R229). -/
def pairCourses (c p : Nat) : List Nat :=
  if p < 64 then [c / 16 * 128 + 2 * p, c / 16 * 128 + 2 * p + 1] else [1024 + 2 * (p - 64), 1025 + 2 * (p - 64)]

/-- Key of a range-table entry (R233). -/
def rangeKey (c p course i : Nat) : Nat := ((c * 64 + p) * 2 + course) * 4 + i

/-- Is local column `x` of course `k` of the pair inside a VALID range (R233)? -/
def inRanges (s : Block) (c p k x : Nat) : Bool :=
  (List.range 4).any (fun i =>
    let w := smGet 0 s.eng.ranges (rangeKey c p k i)
    w.getLsbD 19 && decide (wfield w 0 8 ≤ x) && decide (x ≤ wfield w 8 8))

/-- Units that an action on pair `p` enables: all, or with WIN the active units in a range and the side optical-black
ones (R220, R233). -/
def enabledUnits (s : Block) (c p : Nat) (win : Bool) : List Nat :=
  (pairCourses c p).zipIdx.flatMap (fun (qk : Nat × Nat) =>
    (courseUnits c qk.1).filter (fun u =>
      !win || decide (64 ≤ p) || !unitActive u || inRanges s c p qk.2 (u % 2304 % 144)))

/-- Buffer halves in use in unit `u` (R175). -/
def halvesUsed (s : Block) (u : Nat) : Nat := (s.pix.bufs.filter (fun b => decide (b.unit = u))).length

/-- Every one of the units has a free buffer half (R175). -/
def allFree (s : Block) (us : List Nat) : Bool :=
  let full := (s.pix.bufs.map (fun b => b.unit)).filter (fun u => decide (2 ≤ halvesUsed s u))
  us.all (fun u => !full.contains u)

/-! ### Lines and pins (R230, R236) -/

/-- The action in progress on a course pair. -/
def actionOn (s : Block) (c p : Nat) : Option Action :=
  s.eng.actions.find? (fun a => decide (a.cluster = c) && decide (a.pair = p))

/-- The last ended action of a course pair. -/
def lastAction (s : Block) (c p : Nat) : Option Action :=
  s.eng.converted.find? (fun a => decide (a.cluster = c) && decide (a.pair = p))

/-- Saturated pixels of an action's node. -/
def Action.sat (a : Action) : Nat := (a.sats.map (fun e => e.2)).sum

/-- The course pair that a channel's last STROBE named; its own before the first (`pairNo` 128). -/
def namedPair (s : Block) (e ch : Nat) : Nat := let p := (s.chan e ch).pairNo; if p = 128 then ch % 64 else p

/-- The input lines IL of a mason channel (R230). -/
def ilWord (s : Block) (e ch : Nat) : Word :=
  let c := s.cfgEng e ch
  let p := namedPair s e ch
  let done := (actionOn s c p).isNone
  let a : Option Action := match actionOn s c p with | some x => some x | none => lastAction s c p
  let us := match a with | some x => x.units | none => enabledUnits s c p false
  let bit (g : Action → Bool) : Nat := match a with | some x => b2n (g x) | none => 0
  let sat := match lastAction s c p with | some x => x.sat | none => 0
  BitVec.ofNat 32 (b2n done + 2 * b2n (allFree s us) + 4 * bit (fun x => x.tmo) + 8 * bit (fun x => x.gated) +
    16 * bit (fun x => x.dup) + 32 * b2n (decide (c / 16 = 7)) + 64 * b2n (decide (sat ≠ 0)) + 65536 * (sat % 32768))

/-- Pins that the part drives: outputs, but for open-drain ones at 1 (R236, R252). -/
def drivenPins (s : Block) : Word :=
  let od := (List.range 32).foldl (fun (w : Word) n => wput w n (s.flag (PE_PAD.OD n))) 0
  s.eng.pinDir &&& ~~~ (od &&& s.eng.pinOut)

/-- The levels of PE[31:0]: as driven, else as the outside holds them. -/
def pinsNow (s : Block) : Word :=
  let d := drivenPins s
  (s.eng.pinOut &&& d) ||| (s.eng.pinLevel &&& ~~~ d)

/-- The lines a channel sees: IL, or the pins (R213). -/
def lineWord (s : Block) (e ch : Nat) : Word := if e < 128 then ilWord s e ch else pinsNow s

/-! ### Occurrences (R222, R223) -/

/-- A channel sets MISS (R222, R223). -/
def missed (e ch : Nat) (s : Block) : Block :=
  (s.onChan e ch (fun c => { c with flags := c.flags ||| 0x08 })).setFlag (ENG_ERR.MISS e) true

/-- Does the channel wait on `src`, not yet satisfied? -/
def Chan.waitsFor (c : Chan) (src : Src) : Bool :=
  decide (c.state = 2) && decide (c.waitOn = some src) && c.wokeAt.isNone

/-- An occurrence of an armed source at tick `t` reaches a channel (R223). -/
def occur (e ch : Nat) (src : Src) (t : Tick) (s : Block) : Block :=
  let c := s.chan e ch
  if !s.chanOn e ch || decide (c.armed ≠ some src) then s
  else if c.waitsFor src then s.setChan e ch { c with wokeAt := some t }
  else if c.heldAt.isNone then s.setChan e ch { c with heldAt := some t }
  else missed e ch s

/-- An occurrence reaches every channel armed on its source. -/
def occurAll (src : Src) (t : Tick) (s : Block) : Block :=
  s.eng.chans.foldl (fun t1 k => if k.2.armed = some src then occur (k.1 / 128) (k.1 % 128) src t t1 else t1) s

/-- A strobe fires: 0 GRST, 1 GTX-A, 2 GTX-B, 3 LAST; each enabled channel latches it, or sets MISS (R222). -/
def latchStrobe (kind frame : Nat) (t : Tick) (s : Block) : Block :=
  s.eng.chans.foldl (fun t1 k =>
    let e := k.1 / 128
    let ch := k.1 % 128
    let c := t1.chan e ch
    if !t1.chanOn e ch then t1
    else if c.waitsFor (.strobe kind) then t1.setChan e ch { c with wokeAt := some t }
    else if smHas c.latches kind then missed e ch t1
    else t1.setChan e ch { c with latches := smPut c.latches kind ⟨frame, t⟩ }) s

/-- Does a change from `a` to `b` satisfy an edge mode of R219? -/
def edgeHit (mode : Nat) (a b : Bool) : Bool :=
  if mode = 2 then a && !b else if mode = 3 then !a && b else if mode = 4 then a != b else false

/-- Do `f`, and give every channel armed on a line edge the edges that it made (R223, R224). -/
def withEdges (f : Block → Block) (s : Block) : Block :=
  let s1 := f s
  s1.eng.chans.foldl (fun t k =>
    match k.2.armed with
    | some (.line b m) =>
      let e := k.1 / 128
      let ch := k.1 % 128
      if edgeHit m ((lineWord s e ch).getLsbD b) ((lineWord s1 e ch).getLsbD b) then occur e ch (.line b m) s1.now t else t
    | _ => t) s1

/-- A stalled, waiting or delayed channel becomes READY, or HALTED when a stop was asked for (R208, R254). -/
def Chan.wake (c : Chan) : Chan := if c.stopReq then { c with state := 5, stopReq := false } else { c with state := 0 }

end Sys2Proof.Machine
end

