-- ==== Sys2Proof/Machine/Takes.lean ====
section
/-! DEFINITION. Magazines and takes (chapter 15): commands to a Rulia-class target (R491 to R496), what is written to a
magazine (R497 to R506, R509), opening (R507), draining (R506), closing (R510) and magazine failure (R512). -/

namespace Sys2Proof.Machine

/-! ### Sending to a port: one DATA packet on VC 0, a message on VC 2 (R464, R491) -/

/-- The port `t`, an unlisted port being at its reset (R466, R468). -/
def Port.reset : Port :=
  { linkq := [], dataq := [], replay := [], resend := [], sentAt := 0, noAck := 0, spent := [0, 0, 0], limit := [0, 0, 0],
    granted := [0, 0, 0], creditSeen := false, creditAt := 0, lastNak := none, discarding := false, msgNo := [0, 0, 0],
    stallSince := [], since := 0, detectAt := 0, epoch := 0, restripe := none, seen := [], go := 0, goSent := 0, set := 0,
    partnerSet := 0, sent := none, bulk := [], waiting := false, preset := none }

/-- Port `t`. -/
def Block.port (s : Block) (t : Nat) : Port := smGet Port.reset s.lk.ports t

/-- Set port `t`. -/
def Block.setPort (s : Block) (t : Nat) (p : Port) : Block :=
  { s with lk := { s.lk with ports := smSet Port.reset s.lk.ports t p } }

/-- Queue one DATA packet that is a whole message, on port `t` (R464). -/
def sendMsg (t vc dst src : Nat) (payload : List Byte) (s : Block) : Block :=
  let p := s.port t
  let n := p.msgNo.getD vc 0
  s.setPort t { p with
    dataq := p.dataq ++ [⟨0xC1, vc, true, true, 0, n, dst, src, payload⟩],
    msgNo := p.msgNo.set vc ((n + 1) % 65536) }

/-- Cut a byte string into packets of at most 4,096 bytes. -/
def chunks : Nat → List Byte → List (List Byte)
  | 0, _ => []
  | n + 1, l => if l.isEmpty then [] else l.take 4096 :: chunks n (l.drop 4096)

/-- Queue a message of several packets on VC 2, with MSG `msg` (R491). -/
def sendBulk (t msg dst src : Nat) (payload : List Byte) (s : Block) : Block :=
  let p := s.port t
  let cs := chunks (payload.length / 4096 + 1) payload
  let k := cs.length
  s.setPort t { p with
    dataq := p.dataq ++ cs.zipIdx.map (fun (ci : List Byte × Nat) =>
      (⟨0xC1, 2, decide (ci.2 = 0), decide (ci.2 + 1 = k), 0, msg, dst, src, ci.1⟩ : Pkt)) }

/-- Is port `t` ACTIVE or re-striping (R472)? -/
def portUp (s : Block) (t : Nat) : Bool := decide (s.fld (PT_STAT.STATE t) = 5) || decide (s.fld (PT_STAT.STATE t) = 6)

/-- The port towards node `n`: PRIMARY, or ALT when PRIMARY is not in service (R527); none when there is no pass. -/
def routePort (s : Block) (n : Nat) : Option Nat :=
  let p := s.fld (FB_ROUTE.PRIMARY n)
  let a := s.fld (FB_ROUTE.ALT n)
  if 1 ≤ p ∧ p ≤ 4 ∧ portUp s (p + 3) = true then some (p + 3)
  else if 1 ≤ a ∧ a ≤ 4 ∧ portUp s (a + 3) = true then some (a + 3)
  else none

/-- Send a fabric management message to node `n` (R522, R527). -/
def fabSend (n vc type : Nat) (payload : List Byte) (s : Block) : Block :=
  match routePort s n with
  | some t => sendMsg t vc n (s.fld FB_STAT.NODE) (leBytes 2 type ++ payload) s
  | none => s.satFld FB_STAT.DROPS 1

/-- Send a bulk message with MSG `msg` to node `n` (R539). -/
def fabBulk (n msg : Nat) (payload : List Byte) (s : Block) : Block :=
  match routePort s n with
  | some t => sendBulk t msg n (s.fld FB_STAT.NODE) payload s
  | none => s.satFld FB_STAT.DROPS 1

/-! ### Commands to a target (R492, R493, R496) -/

/-- The 32-byte capsule of a command, with the opcode bytes that SEAL adds (R492, R493). -/
def capsule (c : MagCmd) : List Byte :=
  leBytes 1 c.op ++ [0] ++ leBytes 2 c.cid ++ zeros 4 ++ leBytes 8 c.block ++ leBytes 4 c.count ++ leBytes 2 c.dmsg ++
    zeros 2 ++ zeros 8 ++ (if c.op = 6 then c.data else [])

/-- Commands that may be outstanding to a target: 32 at most, and the target's own limit (R496). -/
def outLimit (g : Mag) : Nat := if g.ident.isEmpty then 1 else min 32 (leAt g.ident 2 2)

/-- Most blocks of one WRITE_EXTENT or READ_EXTENT (R494). -/
def extentLimit (g : Mag) : Nat := max 1 (leAt g.ident 4 4)

/-- May command `c` go out? A FLUSH or SEAL covers the writes that were completed before it, so it waits for those outstanding
(R493); what the spec puts after a FLUSH waits for it, but an ashlar or a metadata extent may begin before (R499, R506, R507,
R510). -/
def magMay (g : Mag) (c : MagCmd) : Bool :=
  let writing := g.out.any (fun x => decide (x.op = 3))
  let flushing := g.out.any (fun x => decide (x.op = 5) || decide (x.op = 6))
  if c.op = 5 then !writing
  else if c.op = 6 then !writing && !flushing
  else if c.op = 3 then !flushing || (match c.purpose with | .payload _ | .header _ | .metaExt _ => true | _ => false)
  else true

/-- Send the next waiting commands of magazine `m`, up to its limit; `fuel` bounds the commands sent. -/
def magPump : Nat → Nat → Block → Block
  | 0, _, s => s
  | fuel + 1, m, s =>
    let g := s.mag m
    match g.todo with
    | [] => s
    | c :: rest =>
      if outLimit g ≤ g.out.length || !magMay g c then s
      else
        let c1 := { c with cid := g.nextCid, dmsg := g.nextMsg }
        let g1 := { g with todo := rest, out := g.out ++ [c1], nextCid := (g.nextCid + 1) % 65536,
                           nextMsg := if c.op = 3 ∨ c.op = 4 then (g.nextMsg + 1) % 65536 else g.nextMsg }
        let s1 := sendMsg m 0 0 0 (capsule c1) (s.setMag m g1)
        magPump fuel m (if c.op = 3 then sendBulk m c1.dmsg 0 0 c.data s1 else s1)

/-- Give commands to magazine `m` and send what may be sent. -/
def magDo (m : Nat) (l : List MagCmd) (s : Block) : Block :=
  let g := s.mag m
  magPump (g.todo.length + l.length) m (s.setMag m { g with todo := g.todo ++ l })

/-- Commands of each kind. -/
def cmdOf (op block count : Nat) (p : Purpose) : MagCmd := ⟨0, op, block, count, 0, [], p⟩
def flushCmd (p : Purpose) : MagCmd := cmdOf 5 0 0 p
def writeCmd (block : Nat) (data : List Byte) (p : Purpose) : MagCmd :=
  ⟨0, 3, block, ceilDiv data.length 4096, 0, padTo 4096 data, p⟩

/-- Split a write into commands of at most `lim` blocks; the last one carries `last`, the others `other` (R506). -/
def splitWrite (lim block : Nat) (p last : Purpose) : Nat → List Byte → List MagCmd
  | 0, _ => []
  | fuel + 1, data =>
    if data.length ≤ lim * 4096 then [writeCmd block data last]
    else writeCmd block (data.take (lim * 4096)) p :: splitWrite lim (block + lim) p last fuel (data.drop (lim * 4096))

/-- Blocks of 64 KiB units that hold `n` bytes (R497). -/
def unitBlocks (n : Nat) : Nat := 16 * ceilDiv n 65536

/-! ### The superblock (R498, R499) -/

/-- Copy `copy` of a superblock as bytes (R498). -/
def superBytes (b : Superblock) (copy : Nat) : List Byte :=
  let body := leBytes 4 0x47414D52 ++ leBytes 2 1 ++ leBytes 2 copy ++ leBytes 8 b.generation ++
    (b.volume ++ zeros 16).take 16 ++ leBytes 8 b.m ++ leBytes 8 b.alloc ++ leBytes 8 b.watermark ++ leBytes 8 b.serial ++
    leBytes 8 b.formatAt ++ leBytes 2 b.used ++ zeros 2 ++ (b.name ++ zeros 24).take 24 ++ zeros 24
  body ++ wordBytes (crc32 body)

/-- Update the superblock of magazine `m`: the generation rises, copy 0, FLUSH, copy 1, FLUSH (R499). -/
def superCmds (b : Superblock) (last : Purpose) : List MagCmd :=
  [writeCmd 0 (padTo 65536 (superBytes b 0)) .superblock, flushCmd .superblock,
    writeCmd (b.m - 16) (padTo 65536 (superBytes b 1)) .superblock, flushCmd last]

/-- Free blocks follow the allocation pointer (R517). -/
def syncFree (m : Nat) (s : Block) : Block :=
  let b := (s.mag m).sb
  let f := b.m - 16 - b.alloc
  ((((s.setFld (MG_FREE_LO.FREE m) f).setFld (MG_FREE_HI.FREE m) (f / 2 ^ 32)).setFld (MG_M_LO.M m) b.m).setFld
    (MG_M_HI.M m) (b.m / 2 ^ 32)).setFld (MG_STAT.RATE m) (magRate s m)

/-- Write the superblock of magazine `m`. -/
def writeSuper (m : Nat) (last : Purpose) (s : Block) : Block :=
  let g := s.mag m
  let b := { g.sb with generation := g.sb.generation + 1 }
  syncFree m (magDo m (superCmds b last) (s.setMag m { g with sb := b }))

/-- Take `n` blocks from the allocation pointer of magazine `m` (R497). -/
def allocBlocks (m n : Nat) (s : Block) : Block :=
  let g := s.mag m
  syncFree m (s.setMag m { g with sb := { g.sb with alloc := g.sb.alloc + n } })

/-! ### Parts, entries and metadata (R500 to R504, R509) -/

/-- Part `p` of the open take. -/
def Take.part? (t : Take) (m : Nat) : Option Part := t.parts.find? (fun p => decide (p.mag = m) && decide (p.state ≠ 9))

/-- Change the part on magazine `m`. -/
def Take.onPart (t : Take) (m : Nat) (g : Part → Part) : Take :=
  { t with parts := t.parts.map (fun p => if p.mag = m then g p else p) }

/-- Change the open take. -/
def Block.onTake (s : Block) (g : Take → Take) : Block := { s with rcd := { s.rcd with take := s.rcd.take.map g } }

/-- The first and last frame of a part (R500, R509). -/
def partFirst (t : Take) (p : Part) : Nat := p.firstFrame.getD (Config.emptyFirst t.num p.number).toNat
def partLast (t : Take) (p : Part) : Nat := p.lastFrame.getD (Config.emptyLast t.num p.number).toNat

/-- The take table entry of a part (R500); `closeAt` and `cause` once closed. -/
def entryImage (s : Block) (t : Take) (p : Part) : List Byte :=
  let (cl, cause) : Nat × Nat := match t.closing with | some c => (c.at_.toNat, c.cause) | none => (0, 0xFF)
  let body := leBytes 4 0x454B4154 ++ leBytes 4 p.sequence ++ leBytes 8 Config.serial.toNat ++ leBytes 2 t.num ++
    leBytes 1 p.number ++ leBytes 1 p.state ++ leBytes 1 t.mode ++ leBytes 1 p.mag ++
    leBytes 1 (s.effFld REC_CFG.FORMAT) ++ leBytes 1 cause ++ leBytes 8 t.openAt.toNat ++ leBytes 8 cl ++
    leBytes 8 p.first ++ leBytes 8 p.endBlock ++ leBytes 4 (partFirst t p) ++ leBytes 4 (partLast t p) ++
    leBytes 4 p.frames ++ leBytes 4 p.stubs ++ leBytes 4 p.incomplete ++ leBytes 4 p.damaged ++ leBytes 8 p.lastIndex ++
    leBytes 8 p.sealRec ++ (p.chainBefore ++ zeros 32).take 32 ++ (p.chainAfter ++ zeros 32).take 32 ++
    leBytes 4 p.cairnFirst ++ leBytes 4 p.cairnLast ++ zeros 84
  body ++ wordBytes (crc32 body)

/-- Rewrite the entry of the part on magazine `m`, into the slot that does not hold the newer copy (R500, R508). -/
def rewriteEntry (m : Nat) (last : Purpose) (s : Block) : Block :=
  match s.rcd.take with
  | none => s
  | some t =>
    match t.part? m with
    | none => s
    | some p =>
      let p1 := { p with sequence := p.sequence + 1 }
      let t1 := t.onPart m (fun _ => p1)
      let s1 := { s with rcd := { s.rcd with take := some t1 } }
      magDo m [writeCmd (32 + 2 * p.entry + p1.sequence % 2) (entryImage s1 t1 p1) last] s1

/-- The image of a metadata extent (R502): header, body, padding to 64 KiB units. -/
def metaImage (s : Block) (t : Take) (p : Part) (kind : Nat) (body : List Byte) : List Byte :=
  let prev := smGet 0 p.lastMeta kind
  let h := leBytes 4 0x4154454D ++ leBytes 2 kind ++ leBytes 1 p.number ++ [0] ++ leBytes 8 Config.serial.toNat ++
    leBytes 2 t.num ++ zeros 2 ++ leBytes 4 body.length ++ leBytes 8 s.now.toNat ++ leBytes 8 prev ++
    wordBytes (crc32 body) ++ zeros 16
  padTo 65536 (h ++ wordBytes (crc32 h) ++ body)

/-- Write a metadata extent of kind `kind` on magazine `m` (R502, R503). -/
def writeMeta (m kind : Nat) (body : List Byte) (s : Block) : Block :=
  match s.rcd.take with
  | none => s
  | some t =>
    match t.part? m with
    | none => s
    | some p =>
      let img := metaImage s t p kind body
      let b := (s.mag m).sb.alloc
      let s1 := allocBlocks m (unitBlocks img.length) s
      let s2 := s1.onTake (fun t1 => t1.onPart m (fun q => { q with
        lastMeta := smPut q.lastMeta kind b, endBlock := b + unitBlocks img.length,
        lastIndex := if kind = 5 then b else q.lastIndex, sealRec := if kind = 6 then b else q.sealRec }))
      magDo m (splitWrite (extentLimit (s.mag m)) b (.metaExt kind) (.metaExt kind) (img.length / 4096 + 1) img) s2

/-- GET_IDENTITY result (R83), as the system chapter lays it out. -/
def identityBytes (s : Block) : List Byte :=
  leBytes 2 0x6510 ++ [Config.siliconRev, 0] ++ leBytes 8 Config.serial.toNat ++ wordBytes s.nvm.fw0.version ++
    wordBytes s.nvm.fw1.version ++ leBytes 1 (s.fld SYS_BOOT.IMAGE) ++ zeros 3 ++ leBytes 4 0x00010000 ++
    (List.range 32).map Config.idKeyHash

/-- The TAKE_OPEN body (R503). -/
def takeOpenBody (s : Block) (t : Take) : List Byte :=
  identityBytes s ++ zeros 4 ++ (List.range 64).map Config.idKey ++ (t.chain ++ zeros 32).take 32 ++
    leBytes 1 (s.fld PRF_STATE.ACTIVE) ++ leBytes 1 t.mode ++ zeros 2 ++ settingsBytes s.eff

/-- The EPOCH body: epoch number and the RATIO of each active unit (R185, R503). -/
def epochBody (s : Block) : List Byte :=
  leBytes 2 (s.fld CNV_STAT.EPOCH) ++ zeros 2 ++ (List.range 2359296).flatMap (fun u =>
    leBytes 2 (smGet ((Config.calFactory u).toNat / 2 ^ 44 % 4096) s.cal.epoch u))

/-- The defect list as stored and read: header and entries (R191). -/
def defectImage (stores : Nat) (l : List Word) : List Byte :=
  let h := leBytes 4 0x46544644 ++ leBytes 2 1 ++ zeros 2 ++ leBytes 4 l.length ++ leBytes 4 stores ++ zeros 44
  let e := l.flatMap wordBytes
  h ++ wordBytes (crc32 (h ++ e)) ++ e

/-- The DEFECTS body (R503). -/
def defectsBody (s : Block) (frame : Nat) : List Byte := leBytes 4 frame ++ defectImage s.cal.defectStores s.cal.defects

/-- The CAIRNS body: the stored cairns from sequence `from_` on, oldest first, with the queued ones as they will be
stored (R133, R503). -/
def cairnsBody (s : Block) (from_ n : Nat) : List Byte :=
  (((storeQueue s.log).entries.filter (fun e => decide ((e.seq + 2 ^ 32 - from_) % 2 ^ 32 < 2 ^ 31))).take n).reverse.flatMap
    entryBytes

/-- The INDEX body (R504). -/
def indexBody (l : List IndexEntry) : List Byte :=
  l.flatMap (fun e => leBytes 4 e.frame ++ wordBytes e.flags ++ leBytes 8 e.block ++ leBytes 4 e.blocks ++ zeros 4 ++
    (e.chain ++ zeros 8).take 8)

/-- The seal record (R509): signed with the identity key over the digest of its first 96 bytes. -/
def sealRecord (t : Take) (p : Part) (cause : Nat) : List Byte :=
  let b := leBytes 4 0x4C414553 ++ leBytes 2 1 ++ leBytes 1 p.number ++ leBytes 1 cause ++ leBytes 8 Config.serial.toNat ++
    leBytes 2 t.num ++ zeros 2 ++ leBytes 4 (partFirst t p) ++ leBytes 4 (partLast t p) ++ leBytes 4 p.frames ++
    (p.chainBefore ++ zeros 32).take 32 ++ (t.chain ++ zeros 32).take 32
  b ++ (List.range 64).map (Config.sign (sha256 b))

/-- The first cairn sequence that a CAIRNS body holds, or `d` where it holds none (R500). -/
def cairnsFirst (d : Nat) (body : List Byte) : Nat := if body.isEmpty then d else leAt body 0 4

/-- Sequence of the last cairn written or queued. -/
def cairnHead (s : Block) : Nat := (nextSeq s.log.entries + s.log.queue.length + (2 ^ 32 - 1)) % 2 ^ 32

/-- Write a part's opening extents and its entry, then the superblock (R507 steps 2 to 4). -/
def openPart (m : Nat) (s : Block) : Block :=
  match s.rcd.take with
  | none => s
  | some t =>
    let from_ := (cairnHead s + 2 ^ 32 - 4095) % 2 ^ 32
    let s1 := writeMeta m 1 (takeOpenBody s t) s
    let s2 := writeMeta m 2 (epochBody s) s1
    let s3 := writeMeta m 3 (defectsBody s t.firstFrame) s2
    let body := cairnsBody s from_ 4096
    let s4 := writeMeta m 4 body s3
    let s5 := s4.onTake (fun t1 => t1.onPart m (fun p => { p with cairnFirst := cairnsFirst from_ body, cairnLast := cairnHead s }))
    let s6 := rewriteEntry m .open_ (magDo m [flushCmd .open_] s5)
    let g := s6.mag m
    writeSuper m .opened (s6.setMag m { g with sb := { g.sb with used := g.sb.used + 1 } })

/-- Step 5 of R507: the TAKE_OPEN cairn and event 805. -/
def openedStep (t : Take) (s : Block) : Block := (s.cairnN t.origin 0x0610 TK_STAT.addr 0 t.num).raise 805

/-- Steps 2 to 4 of R507 have ended on magazine `m`, or it has failed; step 5 follows the last one. -/
def openedOn (m : Nat) (s : Block) : Block :=
  match s.rcd.take with
  | some t =>
    if t.opening.contains m then
      let l := t.opening.filter (fun x => decide (x ≠ m))
      let s1 := s.onTake (fun k => { k with opening := l })
      if l.isEmpty then openedStep t s1 else s1
    else s
  | none => s

/-- Write a metadata extent on every part of the open take that is in service on this unit's magazines (R185, R503). -/
def takeMeta (kind : Nat) (body : List Byte) (s : Block) : Block :=
  match s.rcd.take with
  | some t =>
    if t.closing.isSome then s
    else ((t.parts.filter (fun p => decide (p.state ≠ 9) && decide (p.mag < 2))).map (fun p => p.mag)).foldl
      (fun u m => writeMeta m kind body u) s
  | none => s

/-- DEFECTS at the FCP of frame `n` when the working list has changed since the last one (R503); it waits for the core
(R618). -/
def defectsAtFcp (n : Nat) (s : Block) : Block :=
  match s.rcd.take with
  | some t =>
    if t.closing.isSome || s.pwr.coreDown || decide (t.listed = s.cal.defects) then s
    else (takeMeta 3 (defectsBody s n) s).onTake (fun k => { k with listed := s.cal.defects })
  | none => s

/-- A new part on magazine `m`, in state `st` (R500). -/
def newPart (s : Block) (m number st : Nat) (chain : List Byte) : Part :=
  { mag := m, number := number, entry := (s.mag m).sb.used, state := st, sequence := 0, first := (s.mag m).sb.alloc,
    endBlock := (s.mag m).sb.alloc, firstFrame := none, lastFrame := none, frames := 0, stubs := 0, incomplete := 0,
    damaged := 0, index := [], lastIndex := 0, lastMeta := [], sealRec := 0, chainBefore := chain, chainAfter := chain,
    cairnFirst := 0, cairnLast := 0, ready := false }

/-- Set MG_STAT.STATE of magazine `m`; a change raises event 808 or 809 (R517, R519). -/
def setMagState (m v : Nat) (s : Block) : Block :=
  if s.fld (MG_STAT.STATE m) = v then s else (s.setFld (MG_STAT.STATE m) v).raise (808 + m)

/-- TK_STAT follows the open take (R516). -/
def syncTake (s : Block) : Block :=
  match s.rcd.take with
  | some t =>
    let s1 := ((s.setFld TK_STAT.TAKE t.num).setFlag TK_STAT.OPEN true).setFlag TK_STAT.CLOSING t.closing.isSome
    let s2 := (s1.setFld TK_STAT.MODE_NOW (if t.mags.length < 2 then 0 else t.mode)).setFlag TK_STAT.A_IN (t.mags.contains 0)
    let s3 := (s2.setFlag TK_STAT.B_IN (t.mags.contains 1)).setFlag TK_STAT.PEER_IN (t.mags.contains 2)
    (s3.setFlag TK_STAT.STANDBY (t.parts.any (fun p => decide (p.state = 1) && p.ready))).setFlag SYS_STATE.TAKE_OPEN true
  | none =>
    let s1 := ((s.setFlag TK_STAT.OPEN false).setFlag TK_STAT.CLOSING false).setFlag TK_STAT.A_IN false
    ((s1.setFlag TK_STAT.B_IN false).setFlag TK_STAT.PEER_IN false).setFlag TK_STAT.STANDBY false |>.setFlag
      SYS_STATE.TAKE_OPEN false

/-- Does the open take use magazine `m`: IN_TAKE, or READY as its standby (R507, R512, R513)? -/
def magInTake (s : Block) (m : Nat) : Bool :=
  decide (s.magState m = 5) || (decide (s.magState m = 4) &&
    (match s.rcd.take with | some t => t.parts.any (fun p => decide (p.mag = m) && decide (p.state = 1)) | none => false))

/-- The first chain value of a take (R381). -/
def chainStart (num : Nat) (at_ : Tick) : List Byte :=
  sha256 (leBytes 8 Config.serial.toNat ++ leBytes 2 num ++ leBytes 8 at_.toNat)

/-- Magazines a take records on: TK_CFG's mode, or the peer with FB_CFG.REMOTE_REC (R505, R538). -/
def takeMags (s : Block) : List Nat :=
  if s.flag FB_CFG.REMOTE_REC && decide (s.fld TK_CFG.MODE = 0) then [2]
  else modeMags (s.fld TK_CFG.MODE) (s.fld TK_CFG.PRIMARY)

/-- Does the mode prepare a standby part on the other magazine (R507 step 3)? -/
def standbyMag (s : Block) : Option Nat :=
  let o := 1 - s.fld TK_CFG.PRIMARY
  if s.fld TK_CFG.MODE = 0 ∧ s.flag TK_CFG.FAILOVER = true ∧ s.magState o = 4 then some o else none

/-- Next take number (R507). -/
def nextTakeNum (n : Nat) : Nat := if n = 65535 then 1 else n + 1

/-- Sub-kinds of PEER messages (R538, R539): their numbers are the model's. -/
def peerPrepare : Nat := 0
def peerGrant : Nat := 1
def peerRefuse : Nat := 2
def peerActivate : Nat := 3
def peerLanded : Nat := 4
def peerBusy : Nat := 5

/-- Send a PEER message about the reservation `p` (R538). -/
def sendPeer (sub : Nat) (p : PeerOut) (s : Block) : Block :=
  fabSend p.node 0 0x0AF4 (leBytes 1 sub ++ leBytes 1 p.mag ++ zeros 2 ++ leBytes 2 p.rate ++ leBytes 2 p.slots ++
    leBytes 8 Config.serial.toNat ++ leBytes 2 p.take) s

/-- MSG of the bulk message that carries the metadata extent of kind `kind`, and of a frame's header: the model's. -/
def peerMeta (kind : Nat) : Nat := 0xFF00 + kind
def peerHeader : Nat := 0xFFFF

/-- Send the opening extents of the part on a peer's magazine (R538). -/
def openPeer (s : Block) : Block :=
  match s.rcd.take, s.fb.peerOut with
  | some t, some o =>
    match t.part? 2 with
    | some p =>
      let from_ := (cairnHead s + 2 ^ 32 - 4095) % 2 ^ 32
      let out (kind : Nat) (body : List Byte) (a : Block) : Block := fabBulk o.node (peerMeta kind) (metaImage a t p kind body) a
      let s1 := out 4 (cairnsBody s from_ 4096) (out 3 (defectsBody s t.firstFrame) (out 2 (epochBody s) (out 1 (takeOpenBody s t) s)))
      s1.onTake (fun t1 => t1.onPart 2 (fun q => { q with
        ready := true, cairnFirst := cairnsFirst from_ (cairnsBody s from_ 4096), cairnLast := cairnHead s }))
    | none => s
  | _, _ => s

/-- The reservation that a take asks of the peer of FB_CFG (R538): the rate of its frames, and a number of slots that the spec
leaves open. -/
def wantPeer (take slots : Nat) (s : Block) : PeerOut :=
  { node := s.fld FB_CFG.PEER_NODE, mag := s.fld FB_CFG.PEER_MAG,
    rate := ceilDiv (frameBytes s * 8) (max 1 (s.effFld FT_PERIOD.PERIOD)), slots := slots, take := take, granted := false,
    active := false, frame := none, messages := [], landed := 0, stalled := false }

/-- Ask the peer for a reservation (R538). -/
def askPeer (take : Nat) (s : Block) : Block :=
  let p := wantPeer take (s.drawn.toNat % 65536) s
  let s1 := s.draw
  sendPeer peerPrepare p { s1 with fb := { s1.fb with peerOut := some p } }

/-- Is a peer prepared as the continuation of a take (R512, R538)? It serves once the take is in single mode without a standby. -/
def peerStandby (s : Block) : Bool := s.flag TK_CFG.PEER && s.acc.perms.testBit 2

/-- Open a take (R507), from frame `first`, started at or after `start`. -/
def openTake (origin first : Nat) (start : Tick) (s : Block) : Block :=
  let num := s.nvm.nextTake
  let chain := chainStart num s.now
  let ms := takeMags s
  let sb := match standbyMag s with | some o => [newPart s o 1 1 chain] | none => []
  let parts := (ms.zipIdx.map (fun (mi : Nat × Nat) => newPart s mi.1 mi.2 2 chain)) ++ sb
  let t : Take := { num := num, openAt := s.now, start := start, firstFrame := first, mode := s.fld TK_CFG.MODE, mags := ms,
                    parts := parts, chain := chain, chainFrame := none, closing := none, nearFull := false, origin := origin,
                    opening := (parts.map (fun p => p.mag)).filter (fun m => decide (m < 2)), listed := s.cal.defects }
  let s1 := { s with nvm := { s.nvm with nextTake := nextTakeNum num },
                     rcd := { s.rcd with take := some t, metaAt := s.now, entryAt := s.now, stubsFull := false,
                                         metaSeq := cairnHead s } }
  let s2 := ((s1.setFld TK_NEXT.NEXT (nextTakeNum num)).setFld TK_FIRST.FIRST first).setFld REC_FILL.STUBS_TOTAL 0
  let s3 := ms.foldl (fun a m => if m < 2 then setMagState m 5 a else a) s2
  let s4 := (parts.map (fun p => p.mag)).foldl (fun a m => if m < 2 then openPart m a else openPeer a) s3
  let s5 := match ms, s4.fb.peerOut with
    | [2], some p => sendPeer peerActivate p { s4 with fb := { s4.fb with peerOut := some { p with take := num, active := true } } }
    | _, _ => if peerStandby s4 then askPeer num s4 else s4
  let s6 := if t.opening.isEmpty then openedStep t s5 else s5
  updateRates (syncTake s6)

/-! ### Draining (R506) and the chain (R381) -/

/-- Is frame `n` a frame of the open take (R507)? Its FCP lies between the acceptance of the open and that of the close. -/
def inTake (s : Block) (n : Nat) : Bool :=
  match s.rcd.take with
  | some t => decide (t.firstFrame ≤ n) && (match t.closing with
      | none => true
      | some c => decide (n ≤ c.lastFrame) && (match s.frame? n with | some f => !laterThan f.fcp c.at_ | none => false))
  | none => false

/-- Frames of the take that have not come to their LAST. -/
def takeFlying (s : Block) : List Nat :=
  (s.ft.frames.filter (fun f => f.last.isNone && inTake s f.num)).map (fun f => f.num)

/-- Frames of the take still to be drained. -/
def takeSlots (s : Block) (num : Nat) : List Slot :=
  s.rcd.slots.filter (fun l => decide (l.take = num) && !(l.drains.isEmpty && l.draining.isEmpty))

/-- Steps 2 to 5 of R510 on magazine `m`; step 6 follows the SEAL's response. -/
def closeMag (cause m : Nat) (s : Block) : Block :=
  match s.rcd.take with
  | none => s
  | some t =>
    match t.part? m with
    | none => s
    | some p =>
      let s1 := writeMeta m 4 (cairnsBody s ((s.rcd.metaSeq + 1) % 2 ^ 32) ((cairnHead s + 2 ^ 32 - s.rcd.metaSeq) % 2 ^ 32)) s
      let s2 := writeMeta m 5 (indexBody p.index) s1
      let s3 := s2.onTake (fun t1 => t1.onPart m (fun q => { q with index := [], cairnLast := cairnHead s }))
      let s4 := magDo m [flushCmd .closeEnd] (writeMeta m 6 (sealRecord t p cause) s3)
      let s5 := s4.onTake (fun t1 => t1.onPart m (fun q => { q with state := 3 }))
      let s6 := magDo m [flushCmd .closeEnd] (rewriteEntry m .closeEnd s5)
      let b := (s6.mag m).sb
      let top := (s6.mag m).openParts.foldl min b.alloc
      magDo m [{ cmdOf 6 b.watermark (top - b.watermark) .seal_ with data := sealRecord t p cause }] s6

/-- The close on a peer's magazine (R539): the seal record goes to the peer, which writes it. -/
def closePeer (cause : Nat) (s : Block) : Block :=
  match s.rcd.take, s.fb.peerOut with
  | some t, some o =>
    match t.part? 2 with
    | some p =>
      (fabBulk o.node (peerMeta 6) (metaImage s t p 6 (sealRecord t p cause)) s).onTake (fun t1 => t1.onPart 2 (fun q =>
        { q with state := 3 }))
    | none => s
  | _, _ => s

/-- When the frames of a closing take are drained, run the close steps on every magazine in service (R510); they wait for the
core (R618). -/
def closeSteps (s : Block) : Block :=
  match s.rcd.take with
  | some t =>
    match t.closing with
    | some c =>
      if !s.pwr.coreDown && (takeSlots s t.num).isEmpty && (takeFlying s).isEmpty && t.parts.all (fun p => decide (p.state ≠ 3)) then
        ((t.parts.filter (fun p => decide (p.state < 3))).map (fun p => p.mag)).foldl (fun a m =>
          if 2 ≤ m then closePeer c.cause a else if a.magState m ≠ 6 then closeMag c.cause m a else a) s
      else s
    | none => s
  | none => s

/-- Close the open take with cause `cause` (R510): no later frame belongs to it. A close in progress keeps the cause
that was accepted first. -/
def closeTake (origin cause : Nat) (s : Block) : Block :=
  match s.rcd.take with
  | none => s
  | some t =>
    if t.closing.isSome then s
    else
      let last := ((s.ft.frames.filter (fun f => decide (t.firstFrame ≤ f.num))).map (fun f => f.num)).foldl max 0
      let t1 := { t with closing := some ⟨cause, s.now, origin, last⟩ }
      closeSteps (syncTake { s with rcd := { s.rcd with take := some t1 } })

/-- Complete the header of frame `n` (R378, R381): flags and counts are final; REC_LAST follows. -/
def completeHeader (n : Nat) (s : Block) : Block :=
  match s.slot? n, s.frame? n, s.ingest? n with
  | some sl, some _, some g0 =>
    if sl.header.isSome then s else
    let s0 := if g0.stats.isNone then s.mark n fStatsAbsent else s
    let s1 := if sl.damageCount = 0 then s0 else s0.mark n fDamaged
    match s1.frame? n with
    | none => s
    | some f =>
      let prev : Option (List Byte) :=
        match s1.rcd.take with
        | some t => if sl.take = t.num then some t.chain else none
        | none => none
      let h := headerOf f g0 sl s1.now prev
      let s2 := s1.onSlot n (fun l => { l with header := some h, headerAt := s1.now })
      let s3 := if prev.isSome then s2.onTake (fun t => { t with chain := h.drop 65504, chainFrame := some n }) else s2
      let fl := if sl.stub then 0 else filledCount g0
      let s4 := { s3 with rcd := { s3.rcd with recorded := ((n, (f.flags, sl.damageCount, fl)) :: s3.rcd.recorded).take 256 } }
      s4.setFld REC_LAST.FRAME n
  | _, _, _ => s

/-- May the header of frame `n` of the take be completed: the frame before it in the take has its chain value (R381)? A header
once completed stays. -/
def chainReady (s : Block) (n : Nat) : Bool :=
  (s.slot? n).any (fun l => l.header.isSome) ||
  match s.rcd.take with
  | some t =>
    (match t.chainFrame with
      | some k => decide (n = k + 1)
      | none => !s.rcd.slots.any (fun l => decide (l.take = t.num) && decide (l.frame < n) && l.header.isNone))
  | none => true

/-- The header of frame `n` goes out on every magazine whose payload is written (R506 steps 2 and 3). -/
def sendHeader (n : Nat) (s : Block) : Block :=
  match s.slot? n with
  | none => s
  | some sl =>
    match sl.header with
    | none => s
    | some h =>
      (sl.draining.filter (fun d => decide (10 ≤ d ∧ d < 20))).foldl (fun a d =>
        let m := d - 10
        match a.rcd.take.bind (fun t => t.part? m) with
        | none => a
        | some p =>
          let blk := match p.index.find? (fun e => decide (e.frame = n)) with | some e => e.block | none => p.endBlock - 16
          let g := a.mag m
          magDo m [writeCmd blk h (.header n), flushCmd (.ashlar n)]
            ((a.setMag m { g with busy := none }).onSlot n (fun l => { l with
              draining := l.draining.map (fun x => if x = d then x + 10 else x) }))) s

/-- Complete and send the headers that wait, in frame order (R378, R381); a frame given to another magazine keeps its header
(R512). -/
def pumpHeaders : Nat → Block → Block
  | 0, s => s
  | fuel + 1, s =>
    let ready := s.rcd.slots.filter (fun l => if l.header.isSome then l.draining.any (fun d => decide (10 ≤ d ∧ d < 20))
      else l.drains.isEmpty && !l.draining.isEmpty && l.draining.all (fun d => decide (10 ≤ d)) && chainReady s l.frame)
    match ready with
    | [] => s
    | l :: _ => pumpHeaders fuel (sendHeader l.frame (completeHeader l.frame s))

/-- Begin the ashlar of frame `n` on magazine `m` (R501, R506): its blocks are allocated, its payload written. A magazine
that cannot hold it is full (R508). -/
def ashlarBlocks (s : Block) (n : Nat) : Nat :=
  match s.slot? n, s.frame? n with
  | some sl, some f => if sl.stub then 16 else 16 + unitBlocks (payloadBytes f.wins f.bin f.fmt f.two)
  | _, _ => 16

/-- Free blocks of magazine `m`. -/
def freeBlocks (s : Block) (m : Nat) : Nat := (s.mag m).sb.m - 16 - (s.mag m).sb.alloc

/-- Start the ashlar of frame `n` on magazine `m` (R506 step 1). -/
def startAshlar (n m : Nat) (s : Block) : Block :=
  match s.slot? n, s.frame? n, s.ingest? n with
  | some sl, some f, some g =>
    let blocks := ashlarBlocks s n
    let b := (s.mag m).sb.alloc
    let s1 := allocBlocks m blocks s
    let mg := s1.mag m
    let s2 := (s1.setMag m { mg with busy := some n }).onTake (fun t => t.onPart m (fun p => { p with
      endBlock := b + blocks,
      index := p.index ++ [⟨n, f.flags, b, blocks, []⟩] }))
    let owed := sl.drains.filter (fun d => decide (d ≠ m) && decide (d ≠ 3))
    if sl.stub then
      pumpHeaders 64 (s2.onSlot n (fun l => { l with drains := owed, draining := l.draining ++ [10 + m] }))
    else
      let pay := padTo 65536 (payloadOf f sl g.final)
      magDo m (splitWrite (extentLimit mg) (b + 16) (.payload n) (.payload n) (pay.length / 4096 + 1) pay)
        (s2.onSlot n (fun l => { l with drains := owed, draining := l.draining ++ [m] }))
  | _, _, _ => s

/-- The payload of frame `n` is stored on magazine `m`. -/
def payloadDone (n m : Nat) (s : Block) : Block :=
  pumpHeaders 64 (s.onSlot n (fun l => { l with draining := l.draining.map (fun d => if d = m then d + 10 else d) }))

/-- The ashlar of frame `n` is acknowledged on magazine `m` (R28, R505, R506): counts, INDEX entry, slot. -/
def ashlarAcked (n m : Nat) (s : Block) : Block :=
  match s.slot? n, s.frame? n with
  | some sl, some f =>
    let ch := (sl.header.getD []).drop 65504
    let s1 := s.onTake (fun t => t.onPart m (fun p => { p with
      firstFrame := some (p.firstFrame.getD n), lastFrame := some n, frames := p.frames + 1,
      stubs := p.stubs + b2n sl.stub, incomplete := p.incomplete + b2n (f.flags.getLsbD fIncomplete),
      damaged := p.damaged + b2n (f.flags.getLsbD fDamaged), chainAfter := ch,
      index := p.index.map (fun e => if e.frame = n then { e with flags := f.flags, chain := ch.take 8 } else e) }))
    let s2 := s1.onSlot n (fun l => { l with draining := l.draining.filter (fun d => decide (d ≠ 20 + m)) })
    let s3 :=
      match s2.rcd.take.bind (fun t => t.part? m) with
      | some p =>
        if p.frames % 4096 = 0 ∧ s2.pwr.coreDown = false then
          let done (e : IndexEntry) : Bool := !e.chain.isEmpty
          rewriteEntry m .other ((writeMeta m 5 (indexBody (p.index.filter done)) s2).onTake (fun t => t.onPart m (fun q =>
            { q with index := q.index.filter (fun e => !done e) })))
        else s2
      | none => s2
    closeSteps (sweepSlots s3)
  | _, _ => s

/-- A guest's ashlar is acknowledged on magazine `m` (R539): its slot is freed. Guest slots carry frame numbers from 2^33 up. -/
def guestAcked (n : Nat) (s : Block) : Block := sweepSlots (s.onSlot n (fun l => { l with draining := [] }))

/-! ### Magazine failure (R512) -/

/-- A continuation: event 810 and the MAG_FAILOVER cairn (R512). -/
def failover (failed tgt : Nat) (s : Block) : Block :=
  (s.policyCairn 0x603 0x0612 TK_STAT.addr failed tgt).raise 810

/-- Give the frames not acknowledged on magazine `m` to magazine `tgt` again, from their start (R512 step 3). A magazine
that already holds or owes the frame is not given it twice. -/
def requeue (m tgt : Nat) (s : Block) : Block :=
  { s with rcd := { s.rcd with slots := s.rcd.slots.map (fun l =>
      let mine := l.drains.contains m || l.draining.any (fun d => decide (d % 10 = m))
      let rest := l.draining.filter (fun d => decide (d % 10 ≠ m))
      let owed := l.drains.filter (fun d => decide (d ≠ m))
      if mine && l.guest.isNone then
        { l with draining := rest,
                 drains := if owed.contains tgt || rest.any (fun d => decide (d % 10 = tgt)) then owed else owed ++ [tgt] }
      else l) } }

/-- Drop the drains owed to magazine `m` (mirrored mode keeps the other copy). -/
def dropDrains (m : Nat) (s : Block) : Block :=
  { s with rcd := { s.rcd with slots := s.rcd.slots.map (fun l =>
      { l with drains := l.drains.filter (fun d => decide (d ≠ m)),
               draining := l.draining.filter (fun d => decide (d % 10 ≠ m)) }) } }

/-- Every frame not acknowledged is not recorded (R512, no continuation). -/
def dropAllDrains (s : Block) : Block :=
  { s with rcd := { s.rcd with slots := s.rcd.slots.map (fun l =>
      if l.guest.isSome then l else { l with drains := [], draining := [] }) } }

/-- The take loses magazine `m` and goes on elsewhere, or closes (R512). `full` tells cause FULL. -/
def continueTake (m : Nat) (full : Bool) (s : Block) : Block :=
  match s.rcd.take with
  | none => s
  | some t =>
    if !t.mags.contains m then
      (syncTake (s.onTake (fun t1 => t1.onPart m (fun p => { p with state := 9 }))))
    else
      let rest := t.mags.filter (fun x => decide (x ≠ m))
      let lost := s.onTake (fun t1 => { (t1.onPart m (fun p => { p with state := 9 })) with mags := rest })
      match rest with
      | o :: _ =>
        let s1 := if t.mode = 1 then dropDrains m lost else requeue m o lost
        closeSteps (updateDrain (syncTake (failover m o s1)))
      | [] =>
        match t.parts.find? (fun p => decide (p.state = 1) && p.ready && decide (s.magState p.mag = 4) && decide (p.mag < 2) &&
            decide (p.mag ≠ m)) with
        | some p =>
          let s1 := (setMagState p.mag 5 lost).onTake (fun t1 => { (t1.onPart p.mag (fun q => { q with state := 2, chainBefore := t1.chain }))
            with mags := [p.mag] })
          let s2 := rewriteEntry p.mag .other (requeue m p.mag s1)
          closeSteps (updateDrain (syncTake (failover m p.mag s2)))
        | none =>
          match t.parts.find? (fun p => decide (p.state = 1) && p.ready && decide (p.mag = 2)), s.fb.peerOut with
          | some _, some pr =>
            if lost.pwr.coreDown then syncTake ((closeTake (oPolicy 0x603) (if full then 5 else 6) (dropAllDrains lost)).raise 815) else
            let s1 := lost.onTake (fun t1 => { (t1.onPart 2 (fun q => { q with state := 2, chainBefore := t1.chain })) with mags := [2] })
            let s2 := sendPeer peerActivate pr { s1 with fb := { s1.fb with peerOut := some { pr with active := true } } }
            updateDrain (syncTake (failover m 2 (requeue m 2 s2)))
          | _, _ =>
            let s1 := closeTake (oPolicy 0x603) (if full then 5 else 6) (dropAllDrains lost)
            syncTake (s1.raise 815)

/-- Does a withheld reply wait for magazine `m`? -/
def waitsMag (m : Nat) (w : WaitOn) : Bool := match w with | .magazine k => decide (k % 2 = m) | _ => false

/-- Magazine `m` fails (R512): its commands are abandoned, requests that wait for it are answered FAULT, and the take goes on
elsewhere. -/
def magFail (m : Nat) (full : Bool) (s : Block) : Block :=
  let g := s.mag m
  let s0 := { s with rcd := { s.rcd with slots := s.rcd.slots.filter (fun l => l.guest.isNone || decide (l.draining ≠ [20 + m])) } }
  let s1 := openedOn m (setMagState m 6 (s0.setMag m { g with todo := [], out := [], busy := none }))
  continueTake m full (s1.release (waitsMag m) (fun r => { r with status := stFault, result := [] }))

/-- The unit is in no array take any more (R532, R535, R553): IN_ARRAY, event 832; a root that held units back admits them. -/
def leaveArray (s : Block) : Block :=
  if s.flag FB_STAT.IN_ARRAY then
    let held := s.fb.declared && s.fb.reports.any (fun r => !s.fb.nodes.any (fun n => decide (n.serial = r.serial)))
    let s1 := { s with fb := { s.fb with array := none, reportAt := if held then some s.now else s.fb.reportAt } }
    (s1.setFlag FB_STAT.IN_ARRAY false).raise 832
  else s

/-- Finish a close (R510): TK_STAT, the cairn, event 806, and the replies that wait for it; after a fault of an RC rail the RC
domains go off now (R56 step 4). -/
def finishClose (s : Block) : Block :=
  match s.rcd.take with
  | none => s
  | some t =>
    match t.closing with
    | none => s
    | some c =>
      let s1 := { s with rcd := { s.rcd with take := none }, fb := { s.fb with peerOut := none } }
      let s2 := (syncTake s1).setFld TK_STAT.CAUSE c.cause
      let s3 := [0, 1].foldl (fun a m => if a.magState m = 5 then setMagState m 4 a else a) s2
      let s4 := (s3.cairnN c.origin 0x0611 TK_STAT.addr t.num c.cause).raise 806
      let res := leBytes 2 t.num ++ leBytes 1 c.cause ++ [0] ++ leBytes 4 c.lastFrame
      let s5 := s4.release (fun w => decide (w = .takeClose)) (fun r => if r.opcode = 0x0611 then { r with result := res } else r)
      let s6 := if s5.pwr.rcFault then s5.setFld SYS_DOMAIN.RC_ON 0 else s5
      let again := s5.rcd.afterClose.map (fun e => (⟨e.1, e.2⟩ : Accepted))
      leaveArray (updateRates { s6 with
        rcd := { s6.rcd with afterClose := [] }, cmd := { s6.cmd with accepted := again ++ s6.cmd.accepted } })

/-- FORCE on an open take (R72, R85): the take is closed cleanly with cause FORCE, and the request executes after it. -/
def forceClose (op : Nat) (q : Req) (s : Block) : Block :=
  closeTake (originOf q.carrier) 2 { s with rcd := { s.rcd with afterClose := s.rcd.afterClose ++ [(op, q)] } }

end Sys2Proof.Machine
end

