-- ==== Sys2Proof/Machine/Ingest.lean ====
section
/-! DEFINITION. The ingest of courses (R361 to R366): the expected set, acceptance, fills, and the frame when whole;
slot allocation at LAST (R357, R359, R408). The meanings of the ingest commands. -/

namespace Sys2Proof.Machine

/-! ### The plan of a frame (R363) -/

/-- Extended unit columns that region `r` converts in course `q` of frame `f`, ascending (R158, R159, R232). -/
def expUnits (f : FrameRec) (r q : Nat) : List Nat :=
  let lo := r % 4 * 576 + 32
  if 1040 ≤ q then []
  else if 1024 ≤ q then
    if r < 4 then []
    else (List.range 2368).filter (fun ue => decide (regionOf (rowOf q * 16 + colOf ue) = r))
  else if q / 512 ≠ r / 4 then []
  else
    let act := (List.range 576).filterMap (fun i =>
      let u := r % 4 * 576 + i
      if f.wins.any (fun w => decide (w.u0 ≤ u) && decide (u ≤ w.u1) && decide (w.v0 ≤ q) && decide (q ≤ w.v1)) then
        some (lo + i) else none)
    (if r % 4 = 0 then List.range 32 else []) ++ act ++ (if r % 4 = 3 then (List.range 32).map (fun i => 2336 + i) else [])

/-- Courses of region `r`'s rows. -/
def regionCourses (r : Nat) : List Nat :=
  if r < 4 then List.range 512 else (List.range 512).map (fun i => 512 + i) ++ (List.range 16).map (fun i => 1024 + i)

/-- Course segments that region `r` must deliver for frame `f` (R363). -/
def expSegs (f : FrameRec) (r : Nat) : List (Nat × Bool) :=
  (regionCourses r).flatMap (fun q => if (expUnits f r q).isEmpty then [] else f.nodes.map (fun n => (q, n)))

/-- Does an enabled window touch course `q` in region `r` (R377)? -/
def touched (f : FrameRec) (r q : Nat) : Bool :=
  f.wins.any (fun w => decide (w.v0 ≤ q) && decide (q ≤ w.v1) && decide (w.u0 ≤ r % 4 * 576 + 575) &&
    decide (r % 4 * 576 ≤ w.u1))

/-- The course flag map of a frame at its start: ABSENT where no window touches an active course (R377). -/
def startFlags (f : FrameRec) : List (Nat × Byte) :=
  (List.range 1024).flatMap (fun q => (List.range 4).filterMap (fun col =>
    if touched f (q / 512 * 4 + col) q then none else some (q * 4 + col, bit8 cAbsent)))

/-- The ingest of a frame whose readout begins. -/
def Ingest.start (f : FrameRec) : Ingest :=
  { frame := f.num, segs := [], started := [], ended := [], whole := none, cflags := startFlags f, delta := [],
    recWords := [], recDropped := 0, tc := none, final := [], means := [], dynList := [], stats := none }

/-! ### Fills (R364) -/

/-- Fill the courses `qs` of region `r` in frame `n`, with further course flags `bits`. -/
def fillCourses (n r : Nat) (qs : List Nat) (bits : Byte) (s : Block) : Block :=
  qs.foldl (fun t q => t.flagCourse n q (r % 4) (bit8 cFilled ||| bits)) s

/-- Courses of region `r` in frame `n` that are expected and not wholly accepted. -/
def missingCourses (s : Block) (f : FrameRec) (n r : Nat) : List Nat :=
  match s.ingest? n with
  | none => []
  | some g =>
    let have_ := g.segs.filter (fun sg => decide (sg.region = r))
    (((expSegs f r).filter (fun e => !have_.any (fun sg => decide (sg.course = e.1) && (sg.node == e.2)) &&
      !(smGet 0 g.cflags (e.1 * 4 + r % 4)).getLsbD cFilled)).map (fun e => e.1)).eraseDups

/-- A frame number from its low 16 bits, among the frames whose ingest is kept (R361). -/
def frameOfLow (s : Block) (w : Nat) : Option Nat :=
  (s.rcd.ingest.find? (fun g => decide (g.frame % 65536 = w))).map (fun g => g.frame)

/-! ### The frame when whole (R27, R28, R366 to R371) -/

/-- Is frame `n` due for context `x` (R394)? Bits: due by EN, DIV and PHASE; and the source usable. -/
def monDue (s : Block) (f : FrameRec) (x : Nat) : Bool :=
  decide (f.fld (MON_CTX_CFG.EN x) = 1) && !s.th.shedCtx.contains x &&
    decide (f.num % max 1 (f.fld (MON_CTX_CFG.DIV x)) = f.fld (MON_CTX_CFG.PHASE x))

/-- The crop of context `x` lies wholly inside its window in frame `f` (R394). -/
def monCropOk (f : FrameRec) (x : Nat) : Bool :=
  let u0 := f.fld (MON_CTX_CROP0.U0 x)
  let u1 := f.fld (MON_CTX_CROP0.U1 x)
  let v0 := f.fld (MON_CTX_CROP1.V0 x)
  let v1 := f.fld (MON_CTX_CROP1.V1 x)
  f.wins.any (fun w => decide (w.num = f.fld (MON_CTX_CFG.WINDOW x)) && decide (w.u0 ≤ u0) && decide (u1 ≤ w.u1) &&
    decide (w.v0 ≤ v0) && decide (v1 ≤ w.v1))

/-- The deltas of frame `f`, with CLAMP_HELD and CLAMP_LIMIT (R367, R368). -/
def deltasOf (s : Block) (f : FrameRec) : List (Nat × Int) × Bool × Bool :=
  let prev : Option (FrameRec × Ingest) :=
    match s.frame? (f.num - 1), s.ingest? (f.num - 1) with
    | some a, some b => if f.num = 0 then none else some (a, b)
    | _, _ => none
  let keys := List.range (if f.two then 512 else 256)
  let l := keys.map (fun k => (k, deltaOf s f prev s.rcd.deltaKey.isNone k))
  (l.map (fun e => (e.1, e.2.1)), l.any (fun e => e.2.2.1), l.any (fun e => e.2.2.2))

/-- Δ measured from a whole frame (R368), for later frames of its gain mode and binning; a set of fewer than 1,024
outputs leaves the Δ that the frame used. -/
def measuredDelta (f : FrameRec) (g : Ingest) : List (Nat × Int) :=
  let fixed : Int := 1024 - (f.black : Int)
  (List.range (if f.two then 512 else 256)).map (fun key =>
    let (a, n) := smGet (0, 0) g.means key
    (key, if n < 1024 then smGet fixed g.delta key
      else clampInt (fixed - 256) (fixed + 256) (roundUp (a : Int) n - (f.black : Int))))

/-- Entries of the dynamic replacement list (R370): a whole unit by one entry of KIND 0b11, a pixel by KIND 0b01, both
with SOURCE 0b10, in the layout of R191 (UNIT in [21:0], PIX in [27:22], KIND in [29:28], SOURCE in [31:30]). -/
def dynEntries (f : FrameRec) (final : List Nat) : List Word :=
  let k := binEdge f.bin
  let coords := (outCoords f).map (fun c => c.2)
  let dyn := (coords.zip final).filterMap (fun c =>
    if c.2 / mkDynamic % 2 = 1 then some (unitAt (c.1.1 / k + 32) (c.1.2 / k), c.1.2 % k * k + c.1.1 % k) else none)
  let per (u : Nat) : List Nat := (dyn.filter (fun e => decide (e.1 = u))).map (fun e => e.2) |>.eraseDups
  ((dyn.map (fun e => e.1)).eraseDups).flatMap (fun u =>
    if (per u).length = k * k then [BitVec.ofNat 32 (2 * 2 ^ 30 + 3 * 2 ^ 28 + u)]
    else (per u).map (fun p => BitVec.ofNat 32 (2 * 2 ^ 30 + 2 ^ 28 + p * 2 ^ 22 + u)))

/-- Frame `n` is whole: clamp, replacement and noise reduction are settled, monitor claims are made (R27, R408). -/
def frameWhole (n : Nat) (s : Block) : Block :=
  match s.frame? n, s.ingest? n with
  | some f, some g0 =>
    let (delta, held, limit) := deltasOf s f
    let g := { g0 with delta := delta }
    let ref : Option (FrameRec × Ingest) :=
      match s.frame? (n - 1), s.ingest? (n - 1) with
      | some a, some b => if tnrUsable f a (s.slot? (n - 1)).isSome && decide (n ≠ 0) then some (a, b) else none
      | _, _ => none
    let (fin, part, fail) := finalOuts s f g ref
    let g1 := { g with whole := some s.now, means := clampMeans s f g, dynList := dynEntries f fin, final := fin }
    let s1 := s.onIngest n (fun _ => g1)
    let last := f.nodes.foldl (fun l nd => smPut l (convKey f * 2 + b2n nd) (measuredDelta f g1)) s1.rcd.deltaLast
    let s2 := { s1 with rcd := { s1.rcd with deltaKey := some (convKey f), deltaLast := last } }
    let s3 := if held then s2.mark n fClampHeld else s2
    let s4 := if limit then s3.mark n fClampLimit else s3
    let s5 := if f.fld REC_CFG.TNR_EN = 1 then s4.mark n fTnrOn else s4
    let s6 := if part && decide (f.fld REC_CFG.TNR_EN = 1) then s5.mark n fTnrPartial else s5
    let s7 := if fail then s6.mark n fReplFail else s6
    let s8 := if decide (1024 < g1.dynList.length) then s7.mark n fReplOverflow else s7
    let stored := match s.slot? n with | some l => !l.stub | none => false
    let due := (List.range 4).filter (fun x => stored && monDue s f x && monCropOk f x)
    let s9 := s8.onSlot n (fun l => { l with claims := due })
    let s10 := { s9 with mon := { s9.mon with due := s9.mon.due ++ due.map (fun x => (n, x)) } }
    sweepSlots s10
  | _, _ => s

/-- Region `r` has ended frame `n`; the frame is whole when every region has (R27). -/
def regionEnd (n r : Nat) (s : Block) : Block :=
  let s1 := s.onIngest n (fun g => if g.ended.contains r then g else { g with ended := g.ended ++ [r] })
  let s2 := { s1 with rcd := { s1.rcd with openFrame := smDel s1.rcd.openFrame r } }
  match s2.ingest? n with
  | some g => if g.ended.length = 8 ∧ g.whole.isNone then frameWhole n s2 else s2
  | none => s2

/-- Close region `r`'s frame `n` as short: missing courses are filled (R364). -/
def closeRegion (n r : Nat) (bits : Byte) (flags : List Nat) (s : Block) : Block :=
  match s.frame? n with
  | none => regionEnd n r s
  | some f =>
    let miss := missingCourses s f n r
    regionEnd n r (if miss.isEmpty then s else (fillCourses n r miss bits s).marks n flags)

/-! ### The commands -/

/-- A frame-start beat (R364): an earlier frame still open on the bus is closed as short; the slice accepts again. -/
def execFrameStartRx (r : BitVec 3) (hdr : BitVec 64) (s : State) : Host.Outcome State Fault Refusal :=
  s.onBlock fun s =>
  let rn := r.toNat
  let s0 := match s.rcd.openFrame.find? (fun e => decide (e.1 = rn)) with
    | some (_, n) => closeRegion n rn (bit8 cShort) [fShort, fIncomplete] s
    | none => s
  match frameOfLow s0 (bitsOf hdr.toNat 0 16) with
  | some n => .next { s0 with rcd := { s0.rcd with
      openFrame := smPut s0.rcd.openFrame rn n, overflowed := s0.rcd.overflowed.filter (fun x => decide (x ≠ rn)),
      stalled := s0.rcd.stalled.filter (fun x => decide (x ≠ rn)) } }
  | none => .next s0

/-- A frame-end beat (R364): missing courses are filled as SHORT; with all eight regions the frame is whole (R27). -/
def execFrameEndRx (r : BitVec 3) (hdr : BitVec 64) (s : State) : Host.Outcome State Fault Refusal :=
  s.onBlock fun s =>
  let rn := r.toNat
  match s.rcd.openFrame.find? (fun e => decide (e.1 = rn)) with
  | some (_, n) =>
    if n % 65536 = bitsOf hdr.toNat 0 16 then .next (closeRegion n rn (bit8 cShort) [fShort, fIncomplete] s)
    else .next s
  | none => .next s

/-- A discarded segment or packet is counted; a frame with one carries EXCESS_DROPPED (R364). -/
def dropSegment (n : Option Nat) (r : Nat) (s : Block) : Block :=
  let s1 := s.incFld (ING_STAT.EXCESS r) 1
  match n with | some k => s1.mark k fExcess | none => s1

/-- One unit block's outputs: output j occupies bits [15j + 14 : 15j] of the block's beats (R362). -/
def blockOuts (count : Nat) (beats : List (BitVec 64)) : List Nat :=
  let v := beats.foldr (fun b acc => b.toNat + 2 ^ 64 * acc) 0
  (List.range count).map (fun j => v / 2 ^ (15 * j) % 2 ^ 15)

/-- Beats of a unit block by binning (R362). -/
def blockBeats (bin : Nat) : Nat := if bin = 0 then 15 else if bin = 1 then 4 else 1

/-- The mortar bus has taken a course's pixel words of a node: the buffer halves that held them are free (R175). -/
def freeBufs (f : FrameRec) (r q : Nat) (node : Bool) (s : Block) : Block :=
  let us := (expUnits f r q).map (fun ue => unitAt ue q)
  withEdges (fun t => { t with pix := { t.pix with bufs := t.pix.bufs.filter (fun b =>
    !(us.contains b.unit && (b.node == node) && decide (b.frame = f.num % 65536))) } }) s

/-- A course segment arrives (R363): accepted if it is in the set, new, and matches; else discarded and counted. A full
buffer discards the rest of the region's frame (R364). A stalled or overflowed slice discards until the next frame start. -/
def execCourseSegmentRx (r : BitVec 3) (hdr : BitVec 64) (beats : List (BitVec 64)) (full : Bool) (s : State) :
    Host.Outcome State Fault Refusal :=
  s.onBlock fun s =>
  let rn := r.toNat
  let h := hdr.toNat
  match s.rcd.openFrame.find? (fun e => decide (e.1 = rn)) with
  | none => .next s
  | some (_, n) =>
    match s.frame? n, s.ingest? n with
    | some f, some g =>
      let s := freeBufs f rn (bitsOf h 16 11) (decide (bitsOf h 27 1 = 1)) s
      if s.rcd.overflowed.contains rn then .next s
      else if full then
        let s1 := fillCourses n rn (missingCourses s f n rn) (bit8 cOverflow) s
        let s2 := (s1.incFld (ING_STAT.OVERFLOWS rn) 1).setFld (ING_PEAK.PEAK rn) 512
        .next ({ s2 with rcd := { s2.rcd with overflowed := s2.rcd.overflowed ++ [rn] } }.marks n [fOverflow, fIncomplete])
      else
        let q := bitsOf h 16 11
        let node := decide (bitsOf h 27 1 = 1)
        let units := expUnits f rn q
        let nb := blockBeats f.bin
        if bitsOf h 0 16 = n % 65536 ∧ bitsOf h 28 2 = 0 ∧ bitsOf h 30 10 = units.length ∧
            (expSegs f rn).contains (q, node) ∧ beats.length = nb * units.length ∧
            !g.segs.any (fun sg => decide (sg.region = rn) && decide (sg.course = q) && (sg.node == node)) then
          let us := units.map (fun ue => unitAt ue q)
          let k := binEdge f.bin
          let outs := us.zipIdx.map (fun (ui : Nat × Nat) =>
            (blockOuts (k * k) ((beats.drop (nb * ui.2)).take nb)).map (correctWord (calFor s f ui.1) f.gain))
          let sg : Seg := ⟨rn, q, node, us, outs⟩
          let s1 := if smHas s.cal.settling rn then s.mark n fCalSettling else s
          .next (s1.onIngest n (fun g1 => { g1 with segs := g1.segs ++ [sg] }))
        else .next (dropSegment (some n) rn s)
    | _, _ => .next s

/-- D(N) passes for frame `n` (R364): each region that has not ended fills its missing courses, COURSE_LATE where R235
named the course and BUS_STALL otherwise. -/
def execFrameDeadline (n : BitVec 32) (s : State) : Host.Outcome State Fault Refusal :=
  s.onBlock fun s =>
  let k := n.toNat
  match s.frame? k, s.ingest? k with
  | some f, some g =>
    let left := (List.range 8).filter (fun r => !g.ended.contains r)
    .next (left.foldl (fun t r =>
      let miss := missingCourses t f k r
      let late := miss.filter (fun q => (t.courseFlags k q (r % 4)).getLsbD cCourseLate)
      let stall := miss.filter (fun q => !(t.courseFlags k q (r % 4)).getLsbD cCourseLate)
      let t1 := fillCourses k r stall (bit8 cBusStall) (fillCourses k r late (bit8 cCourseLate) t)
      let t2 := if late.isEmpty then t1 else t1.marks k [fCourseLate, fIncomplete]
      let t3 := if stall.isEmpty then t2 else t2.marks k [fBusStall, fIncomplete]
      let t4 := { (t3.incFld (ING_STAT.STALLS r) 1) with rcd := { t3.rcd with stalled := t3.rcd.stalled ++ [r] } }
      regionEnd k r t4) s)
  | _, _ => .next s

/-! ### Slots at LAST (R357, R359, R408) -/

/-- Drains that a slot of the open take owes: its magazine, both, or (3) whichever port becomes free first (R505). -/
def takeDrains (s : Block) : List Nat :=
  match s.rcd.take with
  | some t => if t.mode = 2 ∧ t.mags.length = 2 then [3] else t.mags
  | none => []

/-- A slot for frame `n`. -/
def newSlot (s : Block) (n index : Nat) (stub : Bool) : Slot :=
  { frame := n, stub := stub, index := index, take := if inTake s n then (s.rcd.take.map (fun t => t.num)).getD 0 else 0,
    drains := if inTake s n then takeDrains s else [], draining := [], claims := [], damaged := [], damageCount := 0,
    remapped := !stub && slotRemapped s index, lost := [], header := none, headerAt := 0, guest := none }

/-- A monitor context skips a frame: counted, event 984 (R407, R408). -/
def monSkip (x : Nat) (s : Block) : Block := (s.incFld (MON_CTX_STAT.SKIPPED x) 1).raise 984

/-- The oldest slot held by a monitor claim alone (R408). -/
def claimOnly (s : Block) : Option Slot :=
  s.rcd.slots.find? (fun l => !l.stub && l.drains.isEmpty && l.draining.isEmpty && !l.claims.isEmpty && l.header.isSome &&
    !tnrNeeds s l)

/-- Release the monitor's claim on a slot; its developments stop and count as skipped (R408). -/
def releaseClaim (l : Slot) (s : Block) : Block :=
  let s1 := { s with mon := { s.mon with
    due := s.mon.due.filter (fun e => decide (e.1 ≠ l.frame)),
    ctx := s.mon.ctx.map (fun e => (e.1, if e.2.developing = some l.frame then { e.2 with developing := none } else e.2)) } }
  let s2 := l.claims.foldl (fun t x => monSkip x t) s1
  sweepSlots (s2.onSlot l.frame (fun k => { k with claims := [] }))

/-- Close the take because the stub area is full (R359 step 5): frame `n` and later frames are outside it. -/
def stubsFullClose (n : Nat) (s : Block) : Block :=
  let num := (s.rcd.take.map (fun t => t.num)).getD 0
  let s1 := (s.policyCairn 0x602 0x0603 REC_FILL.addr num n).raise 802
  (closeTake (oPolicy 0x602) 1 s1).onTake (fun t =>
    { t with closing := t.closing.map (fun c => { c with lastFrame := n - 1 }) })

/-- Frame `n` becomes a stub (R359). -/
def makeStub (n : Nat) (s : Block) : Block :=
  if 64 ≤ heldStubs s then stubsFullClose n s
  else
    let s1 := { s with rcd := { s.rcd with slots := s.rcd.slots ++ [newSlot s n 0 true] } }
    let s2 := (syncFill (s1.marks n [fNoSlot, fIncomplete])).satFld REC_FILL.STUBS_TOTAL 1
    let s3 := s2.raiseFirst 794
    let due := match s3.rcd.stubCairn with | some t => decide (80000000 ≤ s3.sinceT t) | none => true
    if due then
      { (s3.policyCairn 0x602 0x0602 REC_FILL.addr (heldSlots s3) n) with
        rcd := { s3.rcd with stubCairn := some s3.now } }
    else s3

/-- Put frame `n` into a free slot (R357); BURST_NEAR when the slots held reach D − WARN (R360). -/
def takeSlot (n i : Nat) (s : Block) : Block :=
  let sl := newSlot s n i false
  let s1 := syncFill { s with rcd := { s.rcd with slots := s.rcd.slots ++ [sl] } }
  let s2 := if sl.remapped then s1.mark n fRemapped else s1
  if heldSlots s2 + s2.fld REC_CFG.WARN = s2.rcd.depth then s2.raise 795 else s2

/-- At LAST(N), frame `n` is given a slot, or becomes a stub in a take, or is not stored (R357, R359, R408). -/
def allocSlot (n : Nat) (s : Block) : Block :=
  let go (t : Block) : Option Block :=
    if heldSlots t < t.rcd.depth then (freeIndex t).map (fun i => takeSlot n i t) else none
  match go s with
  | some t => t
  | none =>
    match claimOnly s with
    | some l =>
      let s1 := releaseClaim l s
      (match go s1 with | some t => t | none => if inTake s1 n then makeStub n s1 else s1)
    | none => if inTake s n then makeStub n s else s

/-- The courses of clusters whose gate was closed are filled: FILLED and NODE_BUSY (R156), or FILLED alone where the
cluster has no mason (R31). -/
def fillGated (f : FrameRec) (s : Block) : Block :=
  let courses (c : Nat) : List Nat :=
    ((List.range 128).map (fun i => c / 16 * 128 + i)).filter (fun q => touched f (regionOf c) q)
  let s1 := f.gated.foldl (fun t c => fillCourses f.num (regionOf c.1) (courses c.1) (bit8 cNodeBusy) t) s
  f.unserved.foldl (fun t c => (fillCourses f.num (regionOf c) (courses c) 0 t).mark f.num fIncomplete) s1

/-- The ingest of frame `n` opens at LAST(N), with its timecode (R378), and its slot is allocated. -/
def startReadout (n : Nat) (s : Block) : Block :=
  match s.frame? n with
  | none => s
  | some f =>
    let kept := s.rcd.ingest.filter (fun g => (s.slot? g.frame).isSome || decide (n ≤ g.frame + 2) || g.whole.isNone)
    let tc := if s.flag REC_TC.EN then s.rcd.tcKept.find? (fun e => !laterThan e.1 f.grst) else none
    let s0 := { s with rcd := { s.rcd with ingest := kept ++ [{ Ingest.start f with tc := tc }] } }
    let s1 := fillGated f s0
    let s2 := closeSteps (allocSlot n s1)
    if s.flag REC_TC.EN then
      let stale := match tc with | some e => decide (s.fld REC_TC.STALE_MS * 800000 < (f.grst - e.1).toNat) | none => false
      let s3 := if tc.isNone then s2.mark n fTcAbsent else if stale then s2.mark n fTcStale else s2
      let st := if tc.isNone then 1 else if stale then 2 else 0
      if st = s.rcd.tcState then s3 else { (s3.raise 800) with rcd := { s3.rcd with tcState := st } }
    else s2

/-! ### Words of the RECORD sink and headers that are not drained (R378) -/

/-- A word reaches the RECORD sink: a timecode word, or a word of the frame in progress, or discarded (R378). -/
def recordWord (e ch : Nat) (w : Word) (s : Block) : Block :=
  if decide (e = 128 + s.fld REC_TC.ENGINE) && decide (ch = s.fld REC_TC.CHAN) && s.flag REC_TC.EN then
    let part := s.rcd.tcPart ++ [w]
    match part with
    | [a, b, c] =>
      let kept := if c = 0 then ((s.now, b ++ a) :: s.rcd.tcKept).take 16 else s.rcd.tcKept
      { s with rcd := { s.rcd with tcPart := [], tcKept := kept } }
    | _ => { s with rcd := { s.rcd with tcPart := part } }
  else
    match s.ft.frames.find? (fun f => !laterThan f.fcp s.now) with
    | none => s
    | some f =>
      match s.ingest? f.num with
      | some g =>
        if g.recWords.length < 512 then s.onIngest f.num (fun i => { i with recWords := i.recWords ++ [w] })
        else (((s.onIngest f.num (fun i => { i with recDropped := i.recDropped + 1 })).mark f.num fWordsDropped).raise 803)
      | none => s

/-- RECORD_SINK_WORD (R378). -/
def execRecordSinkWord (e : BitVec 8) (ch : BitVec 7) (w : Word) (s : State) : Host.Outcome State Fault Refusal :=
  s.onBlock fun s =>
  .next (recordWord e.toNat ch.toNat w s)

/-- HEADER_CLOSE_TIMEOUT (R378): the header of a frame that is not drained closes 200 µs after the frame is whole. -/
def execHeaderCloseTimeout (n : BitVec 32) (s : State) : Host.Outcome State Fault Refusal :=
  s.onBlock fun s =>
  let k := n.toNat
  match s.slot? k, s.ingest? k with
  | some l, some g =>
    if g.whole.isSome && l.drains.isEmpty && l.draining.isEmpty && l.header.isNone then
      .next (sweepSlots (completeHeader k s))
    else .next s
  | _, _ => .next s

end Sys2Proof.Machine
end

