-- ==== Sys2Proof/Machine/Monitor.lean ====
section
/-! DEFINITION. The monitor pipeline (chapter 12): which frames a context develops (R394, R405, R407), output frames
(R409 to R412), destinations (R411), rebuild (R416) and shedding (R417). The picture itself is specified by its
properties (R404): its rows are what MON_OUTPUT_WHOLE delivers. -/

namespace Sys2Proof.Machine

/-- A context at reset. -/
def MonCtx.reset : MonCtx := ⟨none, none, none, none, 0, true, 0, false⟩

/-- Context `x`. -/
def Block.ctx (s : Block) (x : Nat) : MonCtx := smGet MonCtx.reset s.mon.ctx x

/-- Change context `x`. -/
def Block.onCtx (s : Block) (x : Nat) (g : MonCtx → MonCtx) : Block :=
  { s with mon := { s.mon with ctx := smPut s.mon.ctx x (g (s.ctx x)) } }

/-- ACTIVE: contexts enabled and not shed; BUSY: a development runs (R419). -/
def syncMon (s : Block) : Block :=
  let act := ((List.range 4).map (fun x =>
    if s.effFlag (MON_CTX_CFG.EN x) && !s.th.shedCtx.contains x then 2 ^ x else 0)).sum
  let shed := ((List.range 4).map (fun x => if s.th.shedCtx.contains x then 2 ^ x else 0)).sum
  ((s.setFld MON_STAT.ACTIVE act).setFld MON_STAT.SHED shed).setFlag MON_STAT.BUSY
    ((List.range 4).any (fun x => (s.ctx x).developing.isSome))

/-! ### Destinations (R411, R527) -/

/-- The port of context `x`'s destination, if its link is up and its domain on (R411). -/
def monPort (s : Block) (dest node : Nat) : Option Nat :=
  if dest = 0 then (if s.flag SYS_DOMAIN.MN_ON && portUp s 2 then some 2 else none)
  else if dest = 1 then (if s.flag SYS_DOMAIN.HP_ON && portUp s 3 then some 3 else none)
  else if s.flag SYS_DOMAIN.FX_ON then routePort s node else none

/-! ### Output frames (R410, R412) -/

/-- The 64-byte header of an output frame (R410). -/
def outHeader (x n w h flags count : Nat) (grst at_ : Tick) (take : Nat) : List Byte :=
  let b := leBytes 4 0x544E4F4D ++ leBytes 1 x ++ [0] ++ zeros 2 ++ leBytes 4 n ++ leBytes 2 w ++ leBytes 2 h ++
    leBytes 4 flags ++ leBytes 4 count ++ leBytes 8 grst.toNat ++ leBytes 8 at_.toNat ++ leBytes 2 take ++ zeros 18 -- 60 bytes
  b ++ wordBytes (crc32 b)

/-- The bytes of an output frame: header, rows, trailer (R410). -/
def outBytes (o : OutFrame) : List Byte :=
  let rows := o.rows.flatMap wordBytes
  o.header ++ rows ++ leBytes 4 o.flags ++ wordBytes (crc32 rows) ++ zeros 8

/-- Send an output frame of context `x` (R411). -/
def sendOut (x : Nat) (o : OutFrame) (s : Block) : Block :=
  let node := s.effFld (MON_CTX_NODE.NODE x)
  match monPort s (s.effFld (MON_CTX_CFG.DEST x)) node with
  | some t =>
    let fab := decide (s.effFld (MON_CTX_CFG.DEST x) = 2)
    let msg := (s.port t).msgNo.getD 2 0
    let s1 := s.setPort t { s.port t with msgNo := (s.port t).msgNo.set 2 ((msg + 1) % 65536) }
    (sendBulk t msg (if fab then node else 0) (if fab then s.fld FB_STAT.NODE else 0) (outBytes o) s1).onCtx x
      (fun c => { c with sending := some o })
  | none => s.onCtx x (fun c => { c with sending := none })

/-- A whole output of context `x`: sent if nothing is being sent, else it waits, and an output that was waiting is
discarded and counted (R409). -/
def queueOut (x : Nat) (o : OutFrame) (s : Block) : Block :=
  let s1 := s.onCtx x (fun c => { c with last := some o, count := (c.count + 1) % 2 ^ 32 })
  let c := s1.ctx x
  match c.sending with
  | none => sendOut x o s1
  | some _ =>
    let s2 := if c.waiting.isSome then monSkip x s1 else s1
    s2.onCtx x (fun k => { k with waiting := some o })

/-- The settings whose change restarts the temporal reference (R415), as one number. -/
def restartKey (f : FrameRec) (x : Nat) : Nat :=
  let parts := [(f.reg (MON_CTX_CROP0.U0 x).addr).toNat, (f.reg (MON_CTX_CROP1.V0 x).addr).toNat,
    f.fld (MON_CTX_CFG.WINDOW x), f.fld (MON_CTX_CFG.SOURCE x), f.fmt, convKey f]
  parts.foldl (fun a b => a * 2 ^ 32 + b) 1

/-- Take number of frame `n`, 0 outside a take. -/
def takeOf (s : Block) (n : Nat) : Nat := ((s.slot? n).map (fun l => l.take)).getD 0

/-- A repeat output of context `x` for frame `n` (R394, R405): the last rows again, with the flags of its cause. -/
def repeatOut (x n : Nat) (noSource : Bool) (s : Block) : Block :=
  match (s.ctx x).last, s.frame? n with
  | some o, some f =>
    let fl := 8 + (if noSource then 16 else 0)
    let h := outHeader x n (s.effFld (MON_CTX_OUT.WIDTH x)) (s.effFld (MON_CTX_OUT.HEIGHT x)) fl (s.ctx x).count f.grst
      s.now (takeOf s n)
    (queueOut x { o with frame := n, header := h, flags := fl } s).setFld (MON_CTX_FLAGS.FLAGS x) fl
  | _, _ => s

/-- At LAST(N): a due context whose frame has no slot or whose crop is outside its window repeats (R394). -/
def monAtLast (n : Nat) (s : Block) : Block :=
  match s.frame? n with
  | none => s
  | some f =>
    (List.range 4).foldl (fun t x =>
      if !monDue t f x then t
      else
        let crop := monCropOk f x
        let stored := match t.slot? n with | some l => !l.stub | none => false
        let t1 := if crop then t else (t.setFld (MON_CTX_FLAGS.FLAGS x) (t.fld (MON_CTX_FLAGS.FLAGS x) ||| 16)).raise 988
        if (!crop || !stored) && decide (f.fld (MON_CTX_CFG.REPEAT x) = 1) then repeatOut x n (!crop) t1 else t1) s

/-! ### Developing (R405, R407, R411) -/

/-- End the claim of context `x` on frame `n` (R408). -/
def endClaim (n x : Nat) (s : Block) : Block :=
  let s1 := { s with mon := { s.mon with due := s.mon.due.filter (fun e => decide (e ≠ (n, x))) } }
  sweepSlots (s1.onSlot n (fun l => { l with claims := l.claims.filter (fun y => decide (y ≠ x)) }))

/-- Skip every due frame of a context for which a later frame is already whole and due (R407). -/
def dropOld (s : Block) : Block :=
  (s.mon.due.filter (fun e => s.mon.due.any (fun d => decide (d.2 = e.2) && decide (e.1 < d.1)) &&
    decide ((s.ctx e.2).developing ≠ some e.1))).foldl (fun t e => monSkip e.2 (endClaim e.1 e.2 t)) s

/-- The next development: the lowest frame, then the lowest context that is free (R405). -/
def nextDue (s : Block) : Option (Nat × Nat) :=
  let stripes := s.effFlag MON_CFG.SHARE
  let busy := (List.range 4).filterMap (fun x => (s.ctx x).developing)
  let open_ := s.mon.due.filter (fun e => (s.ctx e.2).developing.isNone &&
    (busy.isEmpty || (stripes && busy.contains e.1)))
  open_.foldl (fun best e =>
    match best with
    | none => some e
    | some b => if e.1 < b.1 ∨ (e.1 = b.1 ∧ e.2 < b.2) then some e else some b) none

/-- MON_DEVELOP_START (R407, R411): older due frames are skipped, then the next development starts, unless its
destination is down. -/
def execMonDevelopStart (s : State) : Host.Outcome State Fault Refusal :=
  s.onBlock fun s =>
  let s0 := dropOld s
  match nextDue s0 with
  | none => .next (syncMon s0)
  | some (n, x) =>
    if s0.th.shedCtx.contains x || !s0.effFlag (MON_CTX_CFG.EN x) then .next (syncMon (endClaim n x s0))
    else if (monPort s0 (s0.effFld (MON_CTX_CFG.DEST x)) (s0.effFld (MON_CTX_NODE.NODE x))).isNone then
      let s1 := (endClaim n x s0).incFld (MON_CTX_STAT.SKIPPED x) 1
      .next (syncMon ((s1.setFld (MON_CTX_FLAGS.FLAGS x) (s1.fld (MON_CTX_FLAGS.FLAGS x) ||| 128)).raise 990))
    else
      let s1 := s0.onCtx x (fun c => { c with developing := some n, memErr := false })
      .next (syncMon (({ s1 with mon := { s1.mon with current := some x } }).setFlag MON_STAT.REBUILDING false))

/-- Does a filled course or a damaged access lie under the crop of context `x` (R413)? -/
def cropMarked (f : FrameRec) (g : Ingest) (sl : Slot) (x : Nat) : Bool :=
  let v0 := f.fld (MON_CTX_CROP1.V0 x)
  let v1 := f.fld (MON_CTX_CROP1.V1 x)
  let u0 := f.fld (MON_CTX_CROP0.U0 x)
  let u1 := f.fld (MON_CTX_CROP0.U1 x)
  decide (0 < sl.damageCount) || g.cflags.any (fun e => (e.2.getLsbD cFilled || e.2.getLsbD cDamaged) &&
    decide (v0 ≤ e.1 / 4) && decide (e.1 / 4 ≤ v1) && decide (u0 ≤ e.1 % 4 * 576 + 575) && decide (e.1 % 4 * 576 ≤ u1))

/-- MON_OUTPUT_WHOLE (R409, R410, R412): context `x`'s development ends with these rows, and its output is queued. -/
def execMonOutputWhole (x : BitVec 2) (rows : List Word) (s : State) : Host.Outcome State Fault Refusal :=
  s.onBlock fun s =>
  let k := x.toNat
  match (s.ctx k).developing with
  | none => .next s
  | some n =>
    match s.frame? n, s.ingest? n, s.slot? n with
    | some f, some g, some sl =>
      let c := s.ctx k
      let tmp := decide (f.fld (MON_CTX_NR.TMP_STR k) ≠ 0)
      let marked := cropMarked f g sl k
      let fl := b2n (f.flags.getLsbD fIncomplete) + 2 * b2n (f.flags.getLsbD fDamaged || c.memErr) + 4 * b2n c.memErr +
        32 * b2n (tmp && (c.restart || decide (c.lastKey ≠ restartKey f k) || marked)) + 64 * f.fld (MON_CTX_CFG.AWB k)
      let h := outHeader k n (f.fld (MON_CTX_OUT.WIDTH k)) (f.fld (MON_CTX_OUT.HEIGHT k)) fl c.count f.grst s.now sl.take
      let s1 := s.onCtx k (fun c1 => { c1 with developing := none, restart := false, lastKey := restartKey f k })
      let s2 := (s1.incFld (MON_CTX_STAT.DEVELOPED k) 1).setFld (MON_CTX_FLAGS.FLAGS k) fl
      let s3 := if marked && decide (f.fld (MON_CTX_OVL.MARK_FILL k) = 1) then s2.raiseFirst 986 else s2
      .next (syncMon (endClaim n k (queueOut k ⟨n, h, rows, fl⟩ s3)))
    | _, _, _ => .next (syncMon (s.onCtx k (fun c => { c with developing := none })))

/-- MON_SEND_DONE (R409, R411): the output has been sent; MON_CTX_LAST follows, and a waiting output is sent next. -/
def execMonSendDone (x : BitVec 2) (s : State) : Host.Outcome State Fault Refusal :=
  s.onBlock fun s =>
  let k := x.toNat
  match (s.ctx k).sending with
  | none => .next s
  | some o =>
    let s1 := (s.setFld (MON_CTX_LAST.FRAME k) o.frame).setFld (MON_CTX_FLAGS.FLAGS k) o.flags
    match (s.ctx k).waiting with
    | none => .next (s1.onCtx k (fun c => { c with sending := none }))
    | some w => .next (sendOut k w (s1.onCtx k (fun c => { c with sending := none, waiting := none })))

/-! ### Rebuild and shedding (R416, R417) -/

/-- Buffers and references lost with channel `r` are rebuilt elsewhere (R416). The buffers of a context are spread over
every monitor area, so all are affected. -/
def monRebuild (r : Nat) (s : Block) : Block :=
  let used := (List.range 4).filter (fun x => s.effFlag (MON_CTX_CFG.EN x) || (s.ctx x).last.isSome)
  let s1 := used.foldl (fun t x => t.onCtx x (fun c => { c with
    waiting := none, sending := none, last := none, developing := none, restart := true })) s
  (((syncMon s1).setFlag MON_STAT.REBUILDING true).raise 989).policyCairn 0x704 0x0702 MON_STAT.addr 0 r

/-- Shed or restore context `x` (R417): its development stops, ACTIVE and SHED follow, cairn and event 985. -/
def shedContext (x : Nat) (on : Bool) (s : Block) : Block :=
  if s.th.shedCtx.contains x == on then s
  else
    let old := s.fld MON_STAT.ACTIVE
    let l := if on then s.th.shedCtx ++ [x] else s.th.shedCtx.filter (fun y => decide (y ≠ x))
    let s1 := { s with th := { s.th with shedCtx := l } }
    let s2 := match on, (s1.ctx x).developing with
      | true, some n => endClaim n x (s1.onCtx x (fun c => { c with developing := none }))
      | _, _ => s1
    let s3 := syncMon (s2.onCtx x (fun c => { c with restart := true }))
    (s3.policyCairn 0xB02 0x0701 MON_STAT.addr old (s3.fld MON_STAT.ACTIVE)).raise 985

/-- Is context `x` shed by the step in force (R417, R567)? Step 1 sheds what is not fabric, step 3 the rest. -/
def shedDue (s : Block) (x : Nat) : Bool :=
  s.effFlag (MON_CTX_CFG.EN x) && decide ((if s.effFld (MON_CTX_CFG.DEST x) = 2 then 3 else 1) ≤ s.fld TH_STAT.SHED_STEP)

/-- Contexts follow the shedding in force, in descending order; one is restored only when `restore` (R417, R568). -/
def applyShed (restore : Bool) (s : Block) : Block :=
  [3, 2, 1, 0].foldl (fun t x =>
    if shedDue t x then shedContext x true t else if restore then shedContext x false t else t) s

end Sys2Proof.Machine
end

