-- ==== Sys2Proof/Machine/Memory.lean ====
section
/-! DEFINITION. The frame memory controller (chapter 10): bank mapping (R322, R323), guarantees (R330 to R332), refresh
and data rate (R333 to R340), errors (R341 to R343) and retirement (R344 to R347). -/

namespace Sys2Proof.Machine

/-- H of channel `r` (R352). -/
def chanBase (r : Nat) : Nat := 0x02101000 + 0x100 * r

/-! ### Bank mapping (R323) -/

/-- A mask is legal for bank bit `i`: it sets bit 5 + i and no other bit from 5 to 9 (R323). -/
def maskOk (i : Nat) (m : Nat) : Bool := decide (m / 32 % 32 = 2 ^ i) && decide (m < 2 ^ 27)

/-- Parity of a Nat's low 33 bits. -/
def parity33 (n : Nat) : Nat := ((List.range 33).map (fun i => n / 2 ^ i % 2)).sum % 2

/-- The bank of an access (R322, R323). -/
def bankOf (s : Block) (pa : Nat) : Nat :=
  ((List.range 5).map (fun i => parity33 (pa &&& (s.fld (MC_MAP.MASK i) * 64)) * 2 ^ i)).sum

/-- The row of an access (R322). -/
def rowOfPa (pa : Nat) : Nat := bitsOf pa 16 17

/-! ### Usable rate and guarantees (R331, R332) -/

/-- The refresh interval of a band, in ns × 1000 (R333). -/
def trefi (band : Nat) : Nat := if band = 0 then 3900 else if band = 1 then 1950 else 975

/-- Refreshes a band may owe (R333). -/
def owedLimit (band : Nat) : Nat := if band = 0 then 8 else if band = 1 then 4 else 2

/-- U of channel `r` in MB/s (R332). -/
def usable (s : Block) (r : Nat) : Nat :=
  let mt : Nat := if s.flag (MC_CH_STAT.AT_5600 r) then 5600 else 6400
  let t := trefi (s.fld (MC_CH_STAT.RBAND r))
  let q : Rat := ((mt * 4 : Nat) : Rat) * (1 - (410 : Rat) / (t : Rat)) * s.th.plan.eta
  q.floor.toNat

/-- The channel in service with the lowest U, and that U (R332, R350). -/
def worstChannel (s : Block) : Option (Nat × Nat) :=
  (inService s).foldl (fun best r =>
    match best with
    | none => some (r, usable s r)
    | some b => if usable s r < b.2 then some (r, usable s r) else some b) none

/-- The guarantees set, by port. -/
def guars (s : Block) : List Nat := (List.range 11).map (fun q => s.fld (MC_REG0.GUAR q))

/-- Grants under a limit: ports 10 down to 2 give way first, ports 0 and 1 never (R332). -/
def grantsUnder (u : Nat) (g : List Nat) : List Nat :=
  let lower : List Nat → Nat → List Nat := fun l q =>
    let excess := l.sum - u
    l.set q (l.getD q 0 - min excess (l.getD q 0))
  ((List.range 9).map (fun i => 10 - i)).foldl lower g

/-- Set the grants, each change with its cairn and event 550 + 8r (R332). -/
def regrant (s : Block) : Block :=
  match worstChannel s with
  | none => s
  | some (r, u) =>
    let want := grantsUnder u (guars s)
    (List.range 11).foldl (fun t q =>
      let v := want.getD q 0
      let old := t.fld (MC_REG1.GRANTED q)
      if v = old then t
      else if q < 2 then t.setFld (MC_REG1.GRANTED q) v
      else ((t.setFld (MC_REG1.GRANTED q) v).policyCairn 0x802 0x0805 (MC_REG0.GUAR q).addr old v).raise (550 + 8 * r)) s

/-- Recompute the guarantees of ports 0 and 1 for the schedule in force with period `p` (R331), remapped extents counted,
then the grants. -/
def computeGuar (p : Nat) (s : Block) : Block :=
  let wins := winsOrFull (winsOf s.eff)
  let n := max 1 (inService s).length
  let x := extentBytes wins (s.effFld CNV_CFG.BIN) (s.effFld REC_CFG.FORMAT) (if twoNodes s.ft.table then 2 else 1)
  let y := 8 * ((List.range 8).map (regionUnits wins)).foldl max 0
  let g0 := ceilDiv (x * 800 * 8) (max 1 p * n)
  let g1 := ceilDiv (y * 800 * 8) (max 1 p * n)
  regrant ((s.setFld (MC_REG0.GUAR 0) g0).setFld (MC_REG0.GUAR 1) g1)

/-! ### Retirement (R344 to R347) -/

/-- Courses whose rows of region `r` of a frame fall in bytes `o` to `o + 63` of an extent (R373). -/
def coursesAt (f : FrameRec) (r o : Nat) : List Nat :=
  let k := binEdge f.bin
  let lo := (o - 65536) * 8
  (((outCoords f).filter (fun c =>
    decide (regionAt k c.2.1 (c.2.2 / k) = r) &&
      (let b := extentBit f c.1 c.2.1 c.2.2
       decide (b < lo + 512) && decide (lo < b + fmtBits f.fmt)))).map (fun c => c.2.2 / k)).eraseDups

/-- Mark the slot of frame `n` damaged in region `r` at byte `o` of its extent (R343, R373, R377). -/
def damageSlot (n r o : Nat) (s : Block) : Block :=
  let s1 := s.onSlot n (fun l => { l with damaged := (l.damaged ++ [(r, o)]).take 16, damageCount := satAdd 65535 l.damageCount 1 })
  let s2 := match s1.frame? n with
    | some f => if 65536 ≤ o then (coursesAt f r o).foldl (fun (t : Block) q => t.flagCourse n q (r % 4) (bit8 cDamaged)) s1 else s1
    | none => s1
  s2.mark n fDamaged

/-- A frame held when region `r`'s channel retires (R32, R347): a whole frame loses the region's payload; a frame being
ingested loses the courses it had written there. -/
def loseExtent (r : Nat) (l : Slot) (s : Block) : Block :=
  match s.ingest? l.frame with
  | none => s
  | some g =>
    if g.whole.isSome then
      (s.onSlot l.frame (fun k => { k with lost := k.lost ++ [r], damageCount := satAdd 65535 k.damageCount 1 })).mark l.frame
        fDamaged
    else
      let qs := ((g.segs.filter (fun sg => decide (sg.region = r))).map (fun sg => sg.course)).eraseDups
      let s1 := fillCourses l.frame r qs (bit8 cDamaged) s
      if qs.isEmpty then s1 else s1.marks l.frame [fDamaged, fIncomplete]

/-- Retire channel `r` with cause `cause` (R345): isolated, remapped, S, grants and monitor follow. `origin` is none for
POLICY. With no channel left, capture stops and the take is closed. -/
def retire (r cause : Nat) (origin : Option Nat) (s : Block) : Block :=
  if !(inService s).contains r then s
  else
    let s0 := (s.rcd.slots.filter (fun l => !l.stub && (List.range 8).any (fun x =>
      decide ((extentAt s l.index x).1 = r)))).foldl (fun t l =>
        ((List.range 8).filter (fun x => decide ((extentAt s l.index x).1 = r))).foldl (fun t1 x => loseExtent x l t1) t) s
    let s1 := s0.setReg MC_STAT.IN_SERVICE.addr (wput (wput (s0.reg MC_STAT.IN_SERVICE.addr) r false) (8 + r) true)
    let s2 := ((s1.setFlag (MC_CH_STAT.RETIRED r) true).setFld (MC_CH_STAT.CAUSE r) cause).setFlag (MC_CH_STAT.PASS r) false
    let s3 := match origin with
      | some o => s2.cairnN o 0x0801 (chanBase r) 0 cause
      | none => s2.policyCairn 0x803 0x0801 (chanBase r) 0 cause
    let s4 := monRebuild r (s3.raise (546 + 8 * r))
    let s5 := regrant (updateDepth none { s4 with mc := { s4.mc with
      openRows := s4.mc.openRows.filter (fun e => decide (e.1 / 32 ≠ r)), rateWant := smDel s4.mc.rateWant r } })
    let s5 := if origin.isNone then s5.contain 5 else s5
    let s6 := if s5.th.planRun.isSome then s5
      else (({ s5 with th := { s5.th with planRun := some s5.now } } : Block)).setFlag AG_STAT.RUNNING true
    if (inService s6).isEmpty then
      (closeTake (oPolicy 0x803) 6 s6).setFlag SYS_STATE.CAPTURE_EN false
    else s6

/-! ### The commands -/

/-- Close every row of channel `r` (R328). -/
def closeRows (r : Nat) (s : Block) : Block :=
  { s with mc := { s.mc with openRows := s.mc.openRows.filter (fun e => decide (e.1 / 32 ≠ r)) } }

/-- PAGE_IDLE_TIMEOUT (R328): the bank's open row closes. -/
def execPageIdleTimeout (r : BitVec 3) (bank : BitVec 5) (s : State) : Host.Outcome State Fault Refusal :=
  s.onBlock fun s =>
  .next { s with mc := { s.mc with openRows := smDel s.mc.openRows (r.toNat * 32 + bank.toNat) } }

/-- REFRESH_DUE (R334): issued at once when no port has a request in guarantee or the owed limit is reached, else owed. -/
def execRefreshDue (r : BitVec 3) (busy : Bool) (s : State) : Host.Outcome State Fault Refusal :=
  s.onBlock fun s =>
  let k := r.toNat
  if !(inService s).contains k then .next s
  else if busy && decide (s.fld (MC_CH_STAT.OWED k) < owedLimit (s.fld (MC_CH_STAT.RBAND k))) then
    .next (s.incFld (MC_CH_STAT.OWED k) 1)
  else .next (closeRows k s)

/-- REFRESH_PAYBACK (R334): the owed refreshes are issued back to back. -/
def execRefreshPayback (r : BitVec 3) (s : State) : Host.Outcome State Fault Refusal :=
  s.onBlock fun s =>
  let k := r.toNat
  if s.fld (MC_CH_STAT.OWED k) = 0 then .next s else .next ((closeRows k s).setFld (MC_CH_STAT.OWED k) 0)

/-- The refresh band for a die temperature in 1/16 °C, from band `b`, with 3 K of hysteresis (R333). -/
def refreshBand (b : Nat) (t : Int) : Nat :=
  if b = 0 then (if 110 * 16 ≤ t then 2 else if 90 * 16 ≤ t then 1 else 0)
  else if b = 1 then (if 110 * 16 ≤ t then 2 else if t ≤ 87 * 16 then 0 else 1)
  else if t ≤ 87 * 16 then 0 else if t ≤ 107 * 16 then 1 else 2

/-- Want channel `r` at 5,600 (1) or 6,400 MT/s (2) (R340). -/
def wantRate (r v origin : Nat) (s : Block) : Block :=
  let at56 := s.flag (MC_CH_STAT.AT_5600 r)
  let l := if at56 == decide (v = 1) then smDel s.mc.rateWant r else smPut s.mc.rateWant r v
  { s with mc := { s.mc with rateWant := l, rateOrigin := origin } }

/-- A band change of channel `r` (R333, R335, R340): cairn, event, owed refreshes past the new limit issued, and an
emergency or return change of data rate wanted; an emergency abandons a pass in progress. -/
def setRefreshBand (r b : Nat) (s : Block) : Block :=
  let old := s.fld (MC_CH_STAT.RBAND r)
  if old = b then s
  else
    let s1 := (s.policyCairn 0x801 0x0802 (chanBase r) old b).raise (547 + 8 * r)
    let s2 := s1.setFld (MC_CH_STAT.RBAND r) b
    let s3 := if owedLimit b < s2.fld (MC_CH_STAT.OWED r) then (closeRows r s2).setFld (MC_CH_STAT.OWED r) (owedLimit b) else s2
    let s4 :=
      if b = 2 then
        let s5 := if s3.flag (MC_CH_STAT.PASS r) then
            ((s3.policyCairn 0x801 0x0806 (chanBase r) 0 5600).raise (549 + 8 * r)).setFlag (MC_CH_STAT.PASS r) false
          else s3
        wantRate r 1 (oPolicy 0x801) s5
      else if old = 2 ∧ s3.flag MC_CFG.FORCE_5600 = false then wantRate r 2 (oPolicy 0x801) s3
      else s3
    regrant s4

/-- A die temperature in force: register, band, and event 551 + 8r when it passes 140 °C (R333). -/
def dieTemp (r : Nat) (t : Int) (s : Block) : Block :=
  let was := sgn 16 (s.fld (MC_CH_STAT.TEMP r))
  let s1 := s.setFld (MC_CH_STAT.TEMP r) (unsgn 16 t)
  let s2 := if 140 * 16 < t ∧ was ≤ 140 * 16 then s1.raise (551 + 8 * r) else s1
  setRefreshBand r (refreshBand (s2.fld (MC_CH_STAT.RBAND r)) t) s2

/-- DRAM_TEMP_READ (R333, R336): a valid die reading, every 1 ms. -/
def execDramTempRead (r : BitVec 3) (temp : BitVec 16) (s : State) : Host.Outcome State Fault Refusal :=
  s.onBlock fun s =>
  let k := r.toNat
  let s1 := s.setFlag (MC_CH_STAT.TEMP_OK k) true
  .next (dieTemp k temp.toInt { s1 with mc := { s1.mc with tempAt := smPut s1.mc.tempAt k s1.now } })

/-- DRAM_TEMP_MISSING (R336): TEMP_OK clears, event 551 + 8r, and the region model plus 10 K stands in. -/
def execDramTempMissing (r : BitVec 3) (s : State) : Host.Outcome State Fault Refusal :=
  s.onBlock fun s =>
  let k := r.toNat
  let est : Int := (match s.th.models.find? (fun e => decide (e.1 = k)) with
    | some (_, m) => (m.m * 16).floor
    | none => sgn 16 (s.fld (TH_REGION.TEMP k))) + 160
  let s1 := if s.flag (MC_CH_STAT.TEMP_OK k) then (s.setFlag (MC_CH_STAT.TEMP_OK k) false).raise (551 + 8 * k) else s
  .next (dieTemp k est s1)

/-- RECENTRE_PASS (R338): a pass begins. -/
def execRecentrePass (r : BitVec 3) (s : State) : Host.Outcome State Fault Refusal :=
  s.onBlock fun s =>
  let k := r.toNat
  if (inService s).contains k then
    .next { s.setFlag (MC_CH_STAT.PASS k) true with mc := { s.mc with passSince := smPut s.mc.passSince k s.now } }
  else .next s

/-- RECENTRE_PASS_END (R338): the results enter in one step; an eye below the limit raises event 549 + 8r. -/
def execRecentrePassEnd (r : BitVec 3) (eyeLow : Bool) (s : State) : Host.Outcome State Fault Refusal :=
  s.onBlock fun s =>
  let k := r.toNat
  if s.flag (MC_CH_STAT.PASS k) then
    let s1 := s.setFlag (MC_CH_STAT.PASS k) false
    .next (if eyeLow then s1.raise (549 + 8 * k) else s1)
  else .next s

/-- The slot and region of an access to the slot area of channel `r` (R325, R326, R346), with the byte in its extent. -/
def slotOfPa (s : Block) (r pa : Nat) : Option (Slot × Nat × Nat) :=
  if pa < 0x20000000 then none
  else
    let e := extentUnits s * 2097152
    let i := (pa - 0x20000000) / e
    let o := (pa - 0x20000000) % e
    s.rcd.slots.findSome? (fun l =>
      if l.stub then none
      else ((List.range 8).find? (fun x => decide (extentAt s l.index x = (r, i)))).map (fun x => (l, x, o)))

/-- What an error response does to the requester of port `q` (R342). -/
def errorEffect (r q pa : Nat) (s : Block) : Block :=
  match slotOfPa s r pa with
  | some (l, x, o) =>
    if q = 4 ∨ q = 5 ∨ q = 6 ∨ q = 8 then damageSlot l.frame x o s
    else if q = 2 then s.mark (l.frame + 1) fTnrPartial
    else if q = 9 ∨ q = 10 then
      ((List.range 4).foldl (fun t c => if (t.ctx c).developing = some l.frame then
        t.onCtx c (fun k => { k with memErr := true }) else t) s).raise 987
    else s
  | none =>
    if q = 9 ∨ q = 10 then
      ((List.range 4).foldl (fun t c => if (t.ctx c).developing.isSome then
        t.onCtx c (fun k => { k with memErr := true }) else t) s).raise 987
    else s

/-- Neighbour refreshes at an activate (R337): drawn with probability 1 ÷ 2^NBR_K; a row at either end has one
neighbour. -/
def activate (r pa : Nat) (s : Block) : Block :=
  let row := rowOfPa pa
  let key := r * 32 + bankOf s pa
  if smGet 0 s.mc.openRows key = row + 1 then s
  else
    let hit := decide (s.drawn.toNat % 2 ^ s.fld MC_CFG.NBR_K = 0)
    let n := if row = 0 ∨ row = 131071 then 1 else 2
    let s1 := s.draw
    let s2 := if hit then s1.incFld (MC_CH_NBR.COUNT r) n else s1
    let rows := if s.fld MC_CFG.PAGE_IDLE = 0 then smDel s2.mc.openRows key else smPut s2.mc.openRows key (row + 1)
    { s2 with mc := { s2.mc with openRows := rows } }

end Sys2Proof.Machine
end

