-- ==== Sys2Proof/Machine/Nvm.lean ====
section
/-! DEFINITION. NVM: its bytes and single-word writes (R112, R113, R115), and profiles as stored images (R116, R117). -/

namespace Sys2Proof.Machine

/-! ### Bytes (R112, R139) -/

namespace Block

/-- An NVM byte; never written reads as zero (R139). -/
def nvmByte (s : Block) (a : Nat) : Byte := smGet 0 s.nvm.mem a

/-- `n` NVM bytes from offset `a`. -/
def nvmBytes (s : Block) (a n : Nat) : List Byte := (List.range n).map (fun i => s.nvmByte (a + i))

/-- Write NVM bytes from offset `a`. -/
def nvmPut (s : Block) (a : Nat) (l : List Byte) : Block :=
  { s with nvm := { s.nvm with mem := l.zipIdx.foldl (fun m (bi : Byte × Nat) => smSet 0 m (a + bi.2) bi.1) s.nvm.mem } }

/-- Give a word to the journal slot (R113). -/
def nvmWord (s : Block) (w : NvmWrite) : Block := { s with nvm := { s.nvm with journal := s.nvm.journal ++ [w] } }

end Block

/-! ### Profiles (R116, R117) -/

/-- NVM offset of profile `n` (R112). -/
def profileBase (n : Nat) : Nat := 0x1880000 + n * 0x40000

/-- One record of a profile body (R117). -/
inductive ProfRec
  | words (a : Nat) (ws : List Word)
  | route (e : Nat) (bs : List Byte)
  deriving DecidableEq, Repr

/-- The records of a body up to its END; none if one is malformed (R117). -/
def parseBody : Nat → List Byte → Option (List ProfRec)
  | 0, _ => none
  | fuel + 1, l =>
    if l.length < 8 then none
    else
      let ty := leAt l 0 2
      let n := leAt l 2 2
      let a := leAt l 4 4
      let rest := l.drop 8
      if ty = 0xFFFF then (if n = 0 ∧ a = 0 then some [] else none)
      else if rest.length < 4 * n ∨ n = 0 ∨ 1024 < n then none
      else if ty = 1 then
        (parseBody fuel (rest.drop (4 * n))).map (fun t => .words a (wordsOf n rest) :: t)
      else if ty = 2 then
        let bs := (wordsOf n rest).map (fun w => w.setWidth 8)
        if 1024 < a % 65536 + n ∨ bs.any (fun b => decide (b.toNat / 16 ≠ 0)) = true then none
        else (parseBody fuel (rest.drop (4 * n))).map (fun t => .route (a % 65536) bs :: t)
      else none

/-- The body of an image, by its header's length. -/
def bodyOf (img : List Byte) : List Byte := (img.drop 64).take (leAt img 8 4)

/-- The records of an image. -/
def recordsOf (img : List Byte) : Option (List ProfRec) := parseBody (leAt img 8 4 / 8 + 1) (bodyOf img)

/-- An image's header, class bytes, CRC and body form are right for slot `n` (R116, R117). -/
def imageOk (n : Nat) (img : List Byte) : Bool :=
  decide (leAt img 0 4 = 0x5046524E) && decide (leAt img 4 2 = 1) && decide (leAt img 6 1 = n) &&
    decide (leAt img 8 4 ≤ 262080) && decide (crc32 (img.take 60 ++ bodyOf img) = BitVec.ofNat 32 (leAt img 60 4)) &&
    ((img.drop 48).take 5).all (fun b => decide (b.toNat < 3)) && (recordsOf img).isSome

/-- The stored image of profile `n`: header and body. -/
def profileImage (s : Block) (n : Nat) : List Byte :=
  let h := s.nvmBytes (profileBase n) 64
  h ++ s.nvmBytes (profileBase n + 64) (min 262080 (leAt h 8 4))

/-- Is profile `n` valid (R116)? -/
def profileValid (s : Block) (n : Nat) : Bool := decide (n < 8) && imageOk n (profileImage s n)

/-- PRF_STATE.VALID (R123): one bit for each valid profile. -/
def profileValids (s : Block) : Nat := ((List.range 8).map (fun n => if profileValid s n then 2 ^ n else 0)).sum

/-- The register word that profile `n` sets at `a`; its reset value where the profile does not set it. -/
def profileReg (recs : List ProfRec) (a : Nat) : Word :=
  recs.foldl (fun v r =>
    match r with
    | .words b ws => if b ≤ a ∧ a < b + 4 * ws.length ∧ (a - b) % 4 = 0 then ws.getD ((a - b) / 4) 0 else v
    | .route _ _ => v) (regReset a)

/-- Permission bits of the active profile: CAPTURE_AUTO, THERMAL_YIELD, PEER_RECORD (R116). -/
def permCapture (s : Block) : Bool := s.acc.perms.testBit 0
def permYield (s : Block) : Bool := s.acc.perms.testBit 1
def permPeer (s : Block) : Bool := s.acc.perms.testBit 2

end Sys2Proof.Machine
end

