-- ==== Sys2Proof/Machine/Plan.lean ====
section
/-! DEFINITION. Sub-exposure tables (R257 to R264), the margin plan's values (R273, R275, R576, R577), and the checks of
a schedule (R258, R267, R274, R276, R278). A `rd` is a reader of register words: pending, in force, or a candidate. -/

namespace Sys2Proof.Machine

/-- Gaps between entries are 0 or at least 400 ticks (R258.2, R258.4). -/
def gapsOk : List SubExp → Bool
  | a :: b :: t => (decide (b.start = a.start + a.width) || decide (a.start + a.width + 400 ≤ b.start)) && gapsOk (b :: t)
  | _ => true

/-- A table is legal (R258). -/
def tableLegal (t : List SubExp) : Bool :=
  (match t with | [] => false | a :: _ => decide (a.start = 0)) && decide (t.length ≤ 32) &&
    t.all (fun e => decide (800 ≤ e.width)) && gapsOk t

/-- E of a table (R259). -/
def extentOf (t : List SubExp) : Nat := match t.getLast? with | some e => e.start + e.width | none => 0

/-- WIDTH_0 of a table. -/
def width0 (t : List SubExp) : Nat := match t with | e :: _ => e.width | [] => 0

/-! ### The margin plan (R273, R275, R576, R577) -/

/-- The geometry that a plan is computed for. -/
structure Geom where
  wins : List Win
  bin : Nat
  two : Bool
  deriving DecidableEq, Repr

/-- The geometry of settings. -/
def geomOf (rd : Nat → Word) : Geom := ⟨winsOrFull (winsOf rd), rdFld rd CNV_CFG.BIN, twoNodes (tableOf rd)⟩

/-- K_b by band (R576). -/
def kBand (b : Nat) : Rat :=
  match b with | 0 => 28 / 25 | 1 => 21 / 20 | 4 => 51 / 50 | 5 => 53 / 50 | _ => 1

/-- k of region `r` at band `b` (R576). -/
def scaleOf (m : PlanModel) (r b : Nat) : Rat :=
  smGet 1 m.a r * kBand b * (1 + smGet (1 / 10) m.g r) / (11 / 10)

/-- Bytes per unit and course by binning (R273, R362). -/
def unitBytes (bin : Nat) : Nat := if bin = 0 then 120 else if bin = 1 then 32 else 8

/-- Active units of region `r` in course `q` under the windows. -/
def activeIn (wins : List Win) (r q : Nat) : Nat :=
  ((wins.filter (fun w => decide (w.v0 ≤ q) && decide (q ≤ w.v1))).map (fun w =>
    overlapLen w.u0 w.u1 (r % 4 * 576) (r % 4 * 576 + 575))).sum

/-- Course pairs of region `r` in conversion order (R231): gated or not, and units carried. Pairs that carry nothing
are left out. -/
def pairsOf (wins : List Win) (r : Nat) : List (Bool × Nat) :=
  let side := if r % 4 = 0 ∨ r % 4 = 3 then 32 else 0
  let top : List (Bool × Nat) := if 4 ≤ r then List.replicate 8 (true, 2 * (576 + side)) else []
  top ++ (List.range 256).filterMap (fun j =>
    let q := r / 4 * 512 + 2 * j
    let n := activeIn wins r q + activeIn wins r (q + 1)
    if n = 0 then (if side = 0 then none else some (false, 2 * side)) else some (true, n + 2 * side))

/-- Planned bus ticks of one node of a pair that carries `units` units (R273, R577): the bus time scaled by k, and for a
pair of less than the region's whole width without binning, at least the measured time. -/
def pairTicks (m : PlanModel) (r b bin units : Nat) : Nat :=
  let bytes := units * unitBytes bin
  let bus := (((bytes * 256 : Nat) : Rat) / 3136 * scaleOf m r b).ceil.toNat
  if bin = 0 ∧ 2 * 576 ≤ units then bus
  else max bus ((((Config.pairTime m.num r bytes : Nat) : Rat) * (1 + smGet (1 / 10) m.g r)).ceil.toNat)

/-- The bus over one region's frame: ticks at which each gated pair was taken, the bus's end, the last conversion. -/
structure BusRun where
  taken : List Nat
  fin : Nat
  free : Nat
  deriving DecidableEq, Repr

/-- Take one pair posted at `p` over the bus (R273). -/
def busPair (tc nodes t p : Nat) (gated : Bool) (x : BusRun) : BusRun :=
  let e1 := max x.fin (p + tc) + t
  let e := if nodes = 2 then max e1 (p + 2 * tc) + t else e1
  ⟨if gated then x.taken ++ [e] else x.taken, e, max x.free (p + nodes * tc)⟩

/-- Pairs in posting order: those posted at the frame's start in conversion order, then the other gated ones (R231). -/
def postOrder : Nat → List (Bool × Nat) → List (Bool × Nat) × List (Bool × Nat)
  | _, [] => ([], [])
  | ahead, (false, n) :: t => let r := postOrder ahead t; ((false, n) :: r.1, r.2)
  | ahead + 1, (true, n) :: t => let r := postOrder ahead t; ((true, n) :: r.1, r.2)
  | 0, (true, n) :: t => let r := postOrder 0 t; (r.1, (true, n) :: r.2)

/-- T_RO and T_FREE of one region (R273). -/
def regionPlan (m : PlanModel) (g : Geom) (ahead r b : Nat) : Nat × Nat :=
  let nodes := if g.two then 2 else 1
  let (first, later) := postOrder ahead (pairsOf g.wins r)
  let x0 : BusRun := first.foldl (fun x pu => busPair m.tc nodes (pairTicks m r b g.bin pu.2) 0 pu.1 x) ⟨[], 0, 0⟩
  let x := later.foldl (fun x pu =>
    busPair m.tc nodes (pairTicks m r b g.bin pu.2) (x.taken.getD (x.taken.length - ahead) 0) true x) x0
  (x.fin, x.free)

/-- The five values of R273. -/
structure PlanVals where
  tro : Nat
  tfree : Nat
  ping : Nat
  pmin : Nat
  span : Nat
  deriving DecidableEq, Repr

/-- P_ING (R275). -/
def pIng (g : Geom) : Nat :=
  let px := (g.wins.map (fun w => (w.u1 + 1 - w.u0) * (w.v1 + 1 - w.v0) * 64)).sum
  let a := px / (if g.bin = 0 then 1 else if g.bin = 1 then 4 else 16) * (if g.two then 2 else 1)
  max 160000 (ceilDiv (10000000 * a) 452984832)

/-- T_RO and T_FREE over the regions at bands `band` (R577). -/
def readoutTimes (m : PlanModel) (g : Geom) (aheads : Nat → Nat) (band : Nat → Nat) : Nat × Nat :=
  let l := (List.range 8).map (fun r => regionPlan m g (aheads r) r (band r))
  ((l.map (fun x => x.1)).foldl max 0, (l.map (fun x => x.2)).foldl max 0)

/-- P_MIN of a table (R274). -/
def pMin (t : List SubExp) (tro tfree ping : Nat) : Nat :=
  [extentOf t, tro, tfree + extentOf t - width0 t, ping, 160000].foldl max 0

/-- The plan's values for settings, a table and a period, at bands `band` (R273). -/
def planVals (m : PlanModel) (rd : Nat → Word) (band : Nat → Nat) : PlanVals :=
  let g := geomOf rd
  let t := tableOf rd
  let rt := readoutTimes m g (fun r => rdFld rd (DSP_CFG.AHEAD r)) band
  let ping := pIng g
  ⟨rt.1, rt.2, ping, pMin t rt.1 rt.2 ping, rdFld rd FT_PERIOD.PERIOD - rt.2⟩

/-- Present band of a region (R582). -/
def bandNow (s : Block) (r : Nat) : Nat := s.fld (TH_REGION.BAND r)

/-- The plan's values for settings at the present bands, under the model in force. -/
def planNow (s : Block) (rd : Nat → Word) : PlanVals := planVals s.th.plan rd (bandNow s)

/-! ### Checks (R258, R264, R267, R274, R276, R278) -/

/-- The period meets R274 for extent `e` and first width `w0`. -/
def periodOk (p e w0 tro tfree ping : Nat) : Bool :=
  (decide (p = e) || decide (e + 400 ≤ p)) && decide (tro ≤ p) && decide (tfree + e ≤ p + w0) && decide (ping ≤ p) &&
    decide (160000 ≤ p)

/-- The schedule that settings would leave is legal (R258, R264, R267, R274). -/
def scheduleOk (s : Block) (rd : Nat → Word) : Bool :=
  let t := tableOf rd
  let v := planNow s rd
  let p := rdFld rd FT_PERIOD.PERIOD
  tableLegal t && periodOk p (extentOf t) (width0 t) v.tro v.tfree v.ping &&
    (decide (rdFld rd FT_CFG.TIMING ≠ 1) ||
      (decide (p * (rdFld rd FT_GENLOCK.DIV_M1 + 1) = rdFld rd FT_GL_REF.REF * (rdFld rd FT_GENLOCK.MUL_M1 + 1)) &&
        decide (rdFld rd FT_GL_OFFSET.OFFSET < p)))

/-- Field ranges of the timing registers that hold in every mode (R264, R278, R282 to R285). -/
def timingFieldsOk (rd : Nat → Word) : Bool :=
  decide (2 ≤ rdFld rd FT_TERRACE.RATIO) && decide (rdFld rd FT_TERRACE.RATIO ≤ 256) &&
    decide (1 ≤ rdFld rd FT_TERRACE.SLICES) && decide (rdFld rd FT_CFG.TIMING ≠ 3) &&
    decide (96000 ≤ rdFld rd FT_TRIG.LATENCY) && decide (1 ≤ rdFld rd FT_BURST.FRAMES) &&
    decide (160000 ≤ rdFld rd FT_PERIOD.PERIOD) && winsOk (winsOf rd)

/-- The transition from the frame before the first frame that a change applies to (R276): its LAST lies before the new
frame's GRST, and its nodes are free at the new frame's first transfer. -/
def transitionOk (s : Block) (rd : Nat → Word) : Bool :=
  if !s.running || s.ft.table.isEmpty then true
  else
    let e := extentOf s.ft.table
    let p := s.ft.period
    let free := (planNow s s.eff).tfree
    (decide (p = e) || decide (e + 400 ≤ p)) && decide (free + e ≤ p + width0 (tableOf rd))

/-- A schedule and its transition pass the check of R276. -/
def timingOk (s : Block) (rd : Nat → Word) : Bool := timingFieldsOk rd && scheduleOk s rd && transitionOk s rd

/-- The values in force break R274 under the plan (R277). -/
def planBroken (s : Block) : Bool :=
  let v := planNow s s.eff
  let t := tableOf s.eff
  !periodOk (s.effFld FT_PERIOD.PERIOD) (extentOf t) (width0 t) v.tro v.tfree v.ping

/-- FT_PLAN_* words, as read (R273, R289). -/
def planWord (s : Block) (i : Nat) : Word :=
  let v := planNow s s.reg
  BitVec.ofNat 32 (match i with | 0 => v.tro | 1 => v.tfree | 2 => v.ping | 3 => v.pmin | _ => v.span)

end Sys2Proof.Machine
end

