-- ==== Sys2Proof/Machine/Stats.lean ====
section
/-! DEFINITION. Statistics (R426 to R434) and the automatic exposure and white-balance loops (R435 to R441). -/

namespace Sys2Proof.Machine

/-! ### The STATISTICS sink (R228, R431) -/

/-- The frame of a status word: the newest frame with those low 6 bits whose LAST has fired. -/
def frameOfLow6 (s : Block) (w : Nat) : Option Nat :=
  (s.ft.frames.find? (fun f => decide (f.num % 64 = w) && f.last.isSome)).map (fun f => f.num)

/-- Are the statistics of frame `n` stopped (R434)? -/
def statsStopped (s : Block) (n : Nat) : Bool := s.stat.stopped.contains n

/-- The saturation map gathered for frame `n`. -/
def mapOf (s : Block) (n : Nat) : List (Nat × Nat) := smGet [] s.stat.mapNow n

/-- Put counts of units into the map of frame `n`. -/
def putCounts (n : Nat) (l : List (Nat × Nat)) (s : Block) : Block :=
  { s with stat := { s.stat with mapNow := smPut s.stat.mapNow n (l.foldl (fun m e => smPut m e.1 e.2) (mapOf s n)) } }

/-- The active unit of index `i` (0–287) in the pair of cluster `c` and channel `k` (R234): first course, then second. -/
def pairUnit (c k i : Nat) : Nat := unitAt (c % 16 * 144 + i % 144 + 32) (c / 16 * 128 + 2 * k + i / 144)

/-- The node that the statistics take in a frame (R426): the terrace of STAT_CFG.TERRACE in a frame of two nodes. The long
terrace of a SHAPED table is the node with the greater total width (R374). -/
def statNode (f : FrameRec) : Bool :=
  if f.two then
    let long := if f.fld FT_CFG.EXPO = 3 then decide (widthInto f.table false < widthInto f.table true)
      else decide (f.fld FT_TERRACE.LONG_NODE = 1)
    long != decide (f.fld STAT_CFG.TERRACE = 1)
  else f.table.any (fun e => e.node)

/-- A word reaches the STATISTICS sink from channel `ch` of mason `e` (R228, R431): a status word, or the next four counts
after one. A word of a frame whose statistics are stopped is discarded (R434). -/
def statWord (e ch : Nat) (w : Word) (s : Block) : Block :=
  let key := e * 128 + ch
  let c := if ch < 64 then e else s.fld (ENG_STAT.PARTNER e)
  let k := ch % 64
  let setW (v : Option (Word × Nat)) (t : Block) : Block :=
    { t with stat := { t.stat with words := match v with | some x => smPut t.stat.words key x | none => smDel t.stat.words key } }
  let wanted (st : Word) : Option Nat :=
    match frameOfLow6 s (wfield st 26 6) with
    | some n =>
      (match s.frame? n with
        | some f => if statNode f == st.getLsbD 19 && !st.getLsbD 18 && !statsStopped s n then some n else none
        | none => none)
    | none => none
  match smGet (0, 0) s.stat.words key with
  | (_, 0) =>
    let sat := wfield w 3 15
    if sat ≠ 0 ∧ w.getLsbD 18 = false then setW (some (w, 72)) s
    else
      (match wanted w with
        | some n => putCounts n ((List.range 288).map (fun i => (pairUnit c k i, 0))) s
        | none => s)
  | (st, m + 1) =>
    let s1 := match wanted st with
      | some n => putCounts n ((List.range 4).map (fun j => (pairUnit c k ((71 - m) * 4 + j), wfield w (8 * j) 8))) s
      | none => s
    setW (if m = 0 then none else some (st, m)) s1

/-- Every mason word of the frame has arrived: each converted active unit has its count (R432). -/
def mapComplete (s : Block) (f : FrameRec) : Bool :=
  let m := mapOf s f.num
  f.wins.all (fun w => (List.range (w.v1 + 1 - w.v0)).all (fun dv => (List.range (w.u1 + 1 - w.u0)).all (fun du =>
    smHas m (unitAt (w.u0 + du + 32) (w.v0 + dv)))))

/-- Was active unit `u` converted in the frame (R431)? -/
def wasConverted (f : FrameRec) (u : Nat) : Bool :=
  let (ue, ve) := unitXY u
  f.wins.any (fun w => decide (w.u0 + 32 ≤ ue) && decide (ue ≤ w.u1 + 32) && decide (w.v0 ≤ ve) && decide (ve ≤ w.v1))

/-- The saturation map of a frame (R431): the counts of the units converted; any other unit holds 0xFF. -/
def satMap (s : Block) (f : FrameRec) : List (Nat × Nat) := (mapOf s f.num).filter (fun e => wasConverted f e.1)

/-! ### The statistics area (R426 to R430) -/

/-- A counted output: its place on the output grid, linear value, saturation and GF. -/
structure Counted where
  x : Nat
  y : Nat
  lin : Nat
  sat : Bool
  gf : Bool
  deriving DecidableEq, Repr

/-- The counted outputs of a whole frame (R426). -/
def countedOf (f : FrameRec) (g : Ingest) : List Counted :=
  let k := binEdge f.bin
  let part := if f.two then b2n (statNode f) else 0
  ((outCoords f).zip g.final).filterMap (fun c =>
    let v := c.2
    if decide (c.1.1 ≠ part) || decide (mkFilled ≤ v) then none
    else
      let u := unitAt (c.1.2.1 / k + 32) (c.1.2.2 / k)
      some ⟨c.1.2.1, c.1.2.2, (linear2048 f u v / 2048).toNat, decide (v % 16384 = 16383), decide (v / 16384 % 2 = 1)⟩)

/-- The bin of a linear value (R429): floor(16 log2 L) is the greatest n with 2^n ≤ L^16. -/
def binOf (l : Nat) (sat : Bool) : Nat := if sat then 255 else if l = 0 then 0 else min 254 (1 + Nat.log2 (l ^ 16))

/-- Tally of a list of keys. -/
def tally (l : List Nat) : List (Nat × Nat) := l.foldl (fun m k => smPut m k (smGet 0 m k + 1)) []

/-- A 256-bin histogram as bytes. -/
def histBytes (l : List Nat) : List Byte := let t := tally l; (List.range 256).flatMap (fun b => leBytes 4 (smGet 0 t b))

/-- Luminance bins: one per quad of four counted outputs (R429). -/
def quadBins (l : List Counted) : List Nat :=
  let m : List (Nat × Counted) := l.foldl (fun acc c => smPut acc (c.y * 65536 + c.x) c) []
  let at_ (x y : Nat) : Option Counted := (m.find? (fun e => decide (e.1 = y * 65536 + x))).map (fun e => e.2)
  (l.filter (fun c => decide (c.x % 2 = 0) && decide (c.y % 2 = 0))).filterMap (fun r =>
    match at_ (r.x + 1) r.y, at_ r.x (r.y + 1), at_ (r.x + 1) (r.y + 1) with
    | some gr, some gb, some b =>
      some (binOf ((2 * r.lin + 5 * ((gr.lin + gb.lin) / 2) + b.lin) / 8) (r.sat || gr.sat || gb.sat || b.sat))
    | _, _, _ => none)

/-- Zone entries: zone × 4 + colour to floor(mean L), held at 65,534 (R430). -/
def zoneMeans (k : Nat) (l : List Counted) : List (Nat × Nat) :=
  let sums : List (Nat × (Nat × Nat)) := l.foldl (fun m c =>
    let z := (c.y / k / 32 * 64 + c.x / k / 36) * 4 + colourOf c.x c.y
    let (a, n) := smGet (0, 0) m z
    smPut m z (a + c.lin, n + 1)) []
  sums.map (fun e => (e.1, min 65534 (e.2.1 / e.2.2)))

/-- Valid zones as (R, G, B, Y) (R430, R436). -/
def validZones (m : List (Nat × Nat)) : List (Nat × Nat × Nat × Nat) :=
  (List.range 2048).filterMap (fun z =>
    if (List.range 4).all (fun c => smHas m (z * 4 + c)) then
      let r := smGet 0 m (z * 4)
      let g := (smGet 0 m (z * 4 + 1) + smGet 0 m (z * 4 + 2)) / 2
      let b := smGet 0 m (z * 4 + 3)
      some (r, g, b, (2 * r + 5 * g + b) / 8)
    else none)

/-- The statistics area of a whole frame, published at `t` (R428). -/
def statArea (f : FrameRec) (g : Ingest) (t : Tick) (mapBad : Bool) : StatArea :=
  let k := binEdge f.bin
  let l := countedOf f g
  let col (c : Nat) : List Nat := (l.filter (fun o =>
    if c = 1 then decide (colourOf o.x o.y = 1) || decide (colourOf o.x o.y = 2) else decide (colourOf o.x o.y = c))).map
      (fun o => binOf o.lin o.sat)
  let zm := zoneMeans k l
  let satC := tally ((l.filter (fun o => o.sat)).map (fun o => clusterOf (unitAt (o.x / k + 32) (o.y / k))))
  let input := g.cflags.any (fun e => e.2.getLsbD cFilled)
  let short := f.two && (statNode f != (if f.fld FT_CFG.EXPO = 3 then
    decide (widthInto f.table false < widthInto f.table true) else decide (f.fld FT_TERRACE.LONG_NODE = 1)))
  let fl := b2n mapBad + 2 * b2n input + 4 * b2n short
  let bytes := layOut 0x4000 [
    (0x4000, histBytes (quadBins l)), (0x4400, histBytes (col 0)), (0x4800, histBytes (col 1)), (0x4C00, histBytes (col 3)),
    (0x5000, (List.range 128).flatMap (fun c => leBytes 4 (smGet 0 satC c))),
    (0x5200, leBytes 4 (l.filter (fun o => o.gf)).length ++ leBytes 4 l.length ++ leBytes 4 fl),
    (0x5210, leBytes 8 t.toNat),
    (0x6000, (List.range 8192).flatMap (fun z => leBytes 2 (smGet 0xFFFF zm z))),
    (0xA000, [])]
  ⟨f.num, bytes, validZones zm, fl, t⟩

/-- Publish the statistics of frame `f` (R432, R433). -/
def publish (f : FrameRec) (g : Ingest) (mapBad : Bool) (s : Block) : Block :=
  let a := statArea f g s.now mapBad
  let m := satMap s f
  let s1 := s.onIngest f.num (fun i => { i with stats := some a.bytes })
  let st := { s1.stat with
    kept := (a :: s1.stat.kept).take 16, maps := ((f.num, m) :: s1.stat.maps).take 2, mapNow := smDel s1.stat.mapNow f.num }
  let s2 := ({ s1 with stat := st }.setFld STAT_LAST.FRAME f.num).raise 992
  let s3 := if mapBad then s2.setFlag STAT_STAT.MAP_INCOMPLETE true else s2
  let s4 := if a.flags / 2 % 2 = 1 then s3.setFlag STAT_STAT.INPUT_INCOMPLETE true else s3
  if a.flags % 4 = 0 then s4 else s4.raise 993

/-- STATS_PUBLISH (R432): frame `n` is whole and every mason word has arrived. -/
def execStatsPublish (n : BitVec 32) (s : State) : Host.Outcome State Fault Refusal :=
  s.onBlock fun s =>
  match s.frame? n.toNat, s.ingest? n.toNat with
  | some f, some g =>
    if g.whole.isSome && g.stats.isNone && !statsStopped s f.num && mapComplete s f then .next (publish f g false s) else .next s
  | _, _ => .next s

/-- STATS_MAP_TIMEOUT (R432): published with MAP_INCOMPLETE. -/
def execStatsMapTimeout (n : BitVec 32) (s : State) : Host.Outcome State Fault Refusal :=
  s.onBlock fun s =>
  match s.frame? n.toNat, s.ingest? n.toNat with
  | some f, some g =>
    if g.whole.isSome && g.stats.isNone && !statsStopped s f.num then .next (publish f g (!mapComplete s f) s) else .next s
  | _, _ => .next s

/-! ### The loops (R435 to R440) -/

/-- Round half up. -/
def ratRound (x : Rat) : Int := (x + 1 / 2).floor

/-- Hold a rational between two bounds. -/
def clampRat (lo hi x : Rat) : Rat := if x < lo then lo else if hi < x then hi else x

/-- Set a HOLD field; a change from 0 raises its event (R440). -/
def setHold (f : RF) (e v : Nat) (s : Block) : Block :=
  let old := s.fld f
  let s1 := s.setFld f v
  if old = 0 ∧ v ≠ 0 then s1.raise e else s1

/-- The statistics a loop may use: the last published, unless statistics are stopped or a later frame has none (R440). -/
def loopArea (s : Block) : Option StatArea :=
  match s.stat.kept with
  | [] => none
  | a :: _ =>
    if s.th.shedStats || !s.effFlag STAT_CFG.EN ||
        s.ft.frames.any (fun f => decide (a.frame < f.num) && f.flags.getLsbD fStatsAbsent) then none
    else some a

/-- Has the loop waited long enough after its last update (R435)? -/
def loopDue (first : Option Nat) (interval frame : Nat) : Bool :=
  match first with | none => true | some f => decide (f + interval ≤ frame + 1)

/-- Frame that a change accepted now first applies to (R2, R78). -/
def appliesTo (s : Block) : Nat := if s.running then firstFrame s else s.ft.nextNum

/-- White-balance gain of a factor and a ratio (R439). -/
def gainOf (k w : Rat) : Nat := (clampInt 0x100 0xFFFF (ratRound (4096 * k * w))).toNat

/-- Write WB0 and WB1 of context `x` from the loops' last values, as `code` (R439). -/
def writeGains (code x : Nat) (s : Block) : Block :=
  let r := gainOf s.stat.kAe s.stat.wR
  let g := gainOf s.stat.kAe 1
  let b := gainOf s.stat.kAe s.stat.wB
  let s1 := s.policy code
  (s1.regCairn (oPolicy code) (MON_CTX_WB0.addr x) (BitVec.ofNat 32 (r + 65536 * g))).regCairn (oPolicy code)
    (MON_CTX_WB1.addr x) (BitVec.ofNat 32 (g + 65536 * b))

/-- Does a context take gains from the loops (R440 CTX)? -/
def ctxTakesGains (s : Block) (x : Nat) : Bool := s.flag (MON_CTX_CFG.EN x) && s.flag (MON_CTX_CFG.AWB x)

/-- AE's metric M (R436). -/
def aeMetric (a : StatArea) : Nat := (a.zones.map (fun z => z.2.2.2)).sum / max 1 a.zones.length

/-- AE's ratio r (R437). -/
def aeRatio (s : Block) (m : Nat) : Rat :=
  if m = 0 then 2 else ((s.fld AE_CFG.TARGET : Nat) : Rat) / ((m : Nat) : Rat)

/-- AE holds, acts or writes nothing on area `a` in MONITOR mode: the new factor, if one is to be written (R437). -/
def aeMonitor (a : StatArea) (s : Block) : Option Rat × Block :=
  let m := aeMetric a
  let r := aeRatio s m
  let s1 := s.setFld AE_STAT.METRIC m
  if 15 / 16 ≤ r ∧ r ≤ 17 / 16 then (none, setHold AE_STAT.HOLD 994 0 s1)
  else
    let k := s.stat.kAe
    let k1 := clampRat (1 / 16) 16 (clampRat (k / 2) (2 * k) (k * r))
    if k1 = k then (none, setHold AE_STAT.HOLD 994 5 s1) else (some k1, setHold AE_STAT.HOLD 994 0 s1)

/-- AWB's new ratio for one colour: the previous one may change by at most 1.25 (R438). A quotient of zero by zero is a
free value inside that bound. -/
def awbRatio (old : Rat) (g c : Nat) (fr : Word) : Rat :=
  let q : Rat :=
    if c = 0 then (if g = 0 then old * (4 / 5 + ((fr.toNat : Nat) : Rat) * (9 / 20) / 4294967296) else old * (5 / 4))
    else ((g : Nat) : Rat) / ((c : Nat) : Rat)
  clampRat (old * (4 / 5)) (old * (5 / 4)) q

/-- AWB's zones in an area (R436). -/
def awbZones (s : Block) (a : StatArea) : List (Nat × Nat × Nat × Nat) :=
  a.zones.filter (fun z => decide (s.fld AWB_RANGE.LOW ≤ z.2.2.2) && decide (z.2.2.2 ≤ s.fld AWB_RANGE.HIGH))

/-- AWB acts on area `a` (R438). -/
def awbAct (a : StatArea) (s : Block) : Block :=
  let zs := awbZones s a
  let sr := (zs.map (fun z => z.1)).sum
  let sg := (zs.map (fun z => z.2.1)).sum
  let sb := (zs.map (fun z => z.2.2.1)).sum
  let s1 := (s.draw.setFld AWB_STAT.ZONES zs.length).setFld AWB_STAT.HOLD 0
  { s1 with stat := { s1.stat with wR := awbRatio s.stat.wR sg sr s.drawn, wB := awbRatio s.stat.wB sg sb s.drawn } }

/-- Why AE holds in MONITOR mode or WITNESS mode on area `a`; 0 if it acts (R440). -/
def aeHold (s : Block) (a : StatArea) : Nat :=
  if a.flags / 2 % 2 = 1 then 2
  else if a.zones.length < 64 then 3
  else if s.fld AE_CFG.MODE = 1 then (if s.fld FT_CFG.EXPO ≠ 0 ∨ s.fld FT_CFG.TIMING = 2 then 4 else 0)
  else if ctxTakesGains s (s.fld AE_CFG.CTX) then 0 else 6

/-- Why AWB holds on area `a`; 0 if it acts (R440). -/
def awbHold (s : Block) (a : StatArea) : Nat :=
  if a.flags / 2 % 2 = 1 then 2
  else if (awbZones s a).length < 64 then 3
  else if ctxTakesGains s (s.fld AWB_CFG.CTX) then 0 else 6

/-- AE in MONITOR mode, AWB, or both on one context: each acts on the same area, and the gains are written once (R439). -/
def monLoops (ae awb : Bool) (a : StatArea) (s : Block) : Block :=
  let x := if ae then s.fld AE_CFG.CTX else s.fld AWB_CFG.CTX
  let aeGo := ae && loopDue s.stat.aeFirst (s.fld AE_CFG.INTERVAL) a.frame
  let awbGo := awb && loopDue s.stat.awbFirst (s.fld AWB_CFG.INTERVAL) a.frame
  let (aeNew, s1) : Option Rat × Block :=
    if aeGo then (let h := aeHold s a; if h = 0 then aeMonitor a s else (none, setHold AE_STAT.HOLD 994 h s)) else (none, s)
  let hb := awbHold s1 a
  let awbActs := awbGo && decide (hb = 0)
  let s2 := if awbGo && decide (hb ≠ 0) then setHold AWB_STAT.HOLD 995 hb s1 else s1
  let s3 := match aeNew with
    | some k => { s2.setFld AE_FRAME.FRAME a.frame with
        stat := { s2.stat with kAe := k, aeFirst := some (appliesTo s2) } }
    | none => s2
  let s4 := if awbActs then awbAct a s3 else s3
  let s5 := if awbActs then { s4 with stat := { s4.stat with awbFirst := some (appliesTo s4) } } else s4
  if aeNew.isSome || awbActs then writeGains (if aeNew.isSome then 0x701 else 0x702) x s5 else s5

/-- AE in WITNESS mode on area `a` (R437). -/
def aeWitness (a : StatArea) (s : Block) : Block :=
  let m := aeMetric a
  let r := aeRatio s m
  let s1 := s.setFld AE_STAT.METRIC m
  if 15 / 16 ≤ r ∧ r ≤ 17 / 16 then setHold AE_STAT.HOLD 994 0 s1
  else
    let v := s.fld FT_EXPOSURE.EXPOSURE
    let p := s.fld FT_PERIOD.PERIOD
    let n0 := (ratRound (((v : Nat) : Rat) * r)).toNat
    let n1 := min (2 * v) (max (ceilDiv v 2) n0)
    let n2 := min (s.fld AE_MAX.MAX) (max (s.fld AE_MIN.MIN) n1)
    let n3 := if p ≤ n2 then p else if p < n2 + 400 then p - 400 else n2
    let w : Word := BitVec.ofNat 32 n3
    if n3 = v ∨ timingOk s (fun ad => if ad = FT_EXPOSURE.addr then w else s.reg ad) = false then
      setHold AE_STAT.HOLD 994 5 s1
    else
      let s2 := (setHold AE_STAT.HOLD 994 0 s1).setFld AE_FRAME.FRAME a.frame
      let s3 := { s2 with stat := { s2.stat with aeFirst := some (appliesTo s2) } }
      (s3.policy 0x703).regCairn (oPolicy 0x703) FT_EXPOSURE.addr w

/-- Do both loops serve one context (R439)? -/
def loopsShare (s : Block) : Bool :=
  s.flag AE_CFG.EN && decide (s.fld AE_CFG.MODE = 0) && s.flag AWB_CFG.EN && decide (s.fld AE_CFG.CTX = s.fld AWB_CFG.CTX)

/-- AE_UPDATE (R435 to R440): the loop acts on the last published statistics. -/
def execAeUpdate (s : State) : Host.Outcome State Fault Refusal :=
  s.onBlock fun s =>
  if s.pwr.coreDown then .next s else
  if !s.flag AE_CFG.EN then .next s
  else
    match loopArea s with
    | none => .next (setHold AE_STAT.HOLD 994 1 s)
    | some a =>
      if s.fld AE_CFG.MODE = 0 then .next (monLoops true (loopsShare s) a s)
      else if !loopDue s.stat.aeFirst (s.fld AE_CFG.INTERVAL) a.frame then .next s
      else
        let h := aeHold s a
        .next (if h = 0 then aeWitness a s else setHold AE_STAT.HOLD 994 h s)

/-- AWB_UPDATE (R435, R436, R438 to R440). -/
def execAwbUpdate (s : State) : Host.Outcome State Fault Refusal :=
  s.onBlock fun s =>
  if s.pwr.coreDown then .next s else
  if !s.flag AWB_CFG.EN then .next s
  else
    match loopArea s with
    | none => .next (setHold AWB_STAT.HOLD 995 1 s)
    | some a => .next (monLoops (loopsShare s) true a s)

end Sys2Proof.Machine
end

