-- ==== Sys2Proof/Machine/Passes.lean ====
section
/-! DEFINITION. The passes of the fabric (chapter 16) below the link ports: their state (R521, R542), REPORT (R522, R524), the
time parent (R531), and the landing of a peer's frames (R538, R539). -/

namespace Sys2Proof.Machine

/-! ### Passes (R521) -/

/-- The port of pass `d`. -/
def passPort (d : Nat) : Nat := d + 3

/-- The opposite pass: N to S, E to W. -/
def opposite (d : Nat) : Nat := if d ≤ 2 then d + 2 else d - 2

/-- The passes in the order of their codes. -/
def passes : List Nat := [1, 2, 3, 4]

/-- Is pass `d` usable (R521)? -/
def passUsable (s : Block) (d : Nat) : Bool := decide (s.fld (FB_PASS.STATE d) = 1) && portUp s (passPort d)

/-- This unit's own report (R522). -/
def ownReport (s : Block) : Report :=
  ⟨Config.serial.toNat, passes.map (fun d =>
    if passUsable s d then (true, smGet 0 s.fb.neighbours d, s.fld (FB_PASS.NBR_PASS d)) else (false, 0, 0)), 0⟩

/-- A report as bytes (R522). -/
def reportBytes (r : Report) : List Byte :=
  leBytes 2 0x0AF1 ++ leBytes 8 r.serial ++ r.passes.flatMap (fun p => leBytes 1 (b2n p.1) ++ leBytes 8 p.2.1 ++ leBytes 1 p.2.2)

/-- Tell the root of this unit's passes: a REPORT towards the parent, or, at the root itself, news that a new generation
follows (R524, R542). -/
def report (s : Block) : Block :=
  if s.fb.declared then { s with fb := { s.fb with reportAt := some s.now } }
  else if s.fb.parent = 0 then s
  else sendMsg (passPort s.fb.parent) 0 0 (s.fld FB_STAT.NODE) (reportBytes (ownReport s)) s

/-- The node of a serial number in the list. -/
def nodeOf (l : List Node) (serial : Nat) : Option Nat := l.findIdx? (fun n => decide (n.serial = serial))

/-- The root's node. -/
def rootNode (s : Block) : Option Nat := s.fb.nodes.findIdx? (fun n => n.root)

/-- Set TIME_LOCKED; a change raises event 830 (R529). -/
def setTimeLocked (b : Bool) (s : Block) : Block :=
  if s.flag FB_STAT.TIME_LOCKED = b then s else (s.setFlag FB_STAT.TIME_LOCKED b).raise 830

/-- The time parent is lost (R531): the unit on ALT takes its place, or the trim is held and event 831 is raised. -/
def parentLost (s : Block) : Block :=
  let p := match rootNode s with | some n => s.fld (FB_ROUTE.PRIMARY n) | none => 7
  let s1 := { s with fb := { s.fb with ex := { s.fb.ex with waiting := false, prev := none } } }
  if p ≠ 7 ∧ p ≠ 0 then s1.setFld FB_POS.PARENT p else (setTimeLocked false (s1.setFld FB_POS.PARENT 7)).raise 831

/-- Routes that use pass `d` change to ALT (R542). -/
def detour (d : Nat) (s : Block) : Block :=
  (List.range 256).foldl (fun (a : Block) n =>
    if a.fld (FB_ROUTE.PRIMARY n) = d then
      (a.setFld (FB_ROUTE.PRIMARY n) (a.fld (FB_ROUTE.ALT n))).setFld (FB_ROUTE.ALT n) 7
    else if a.fld (FB_ROUTE.ALT n) = d then a.setFld (FB_ROUTE.ALT n) 7 else a) s

/-- Send again the messages of the frame on its way to the peer that have not landed (R542). -/
def resendPeer (d : Nat) (s : Block) : Block :=
  match s.fb.peerOut with
  | some p =>
    if p.frame.isNone then s
    else
      let me := s.fld FB_STAT.NODE
      let s1 := s.setPort (passPort d) (let x := s.port (passPort d); { x with
        dataq := x.dataq.filter (fun k => !(decide (k.vc = 2) && decide (k.src = me) && decide (k.dst = p.node))) })
      (p.messages.drop p.landed).foldl (fun a m => fabBulk p.node m.1 m.2 a) s1
  | none => s

/-- Pass `d` goes down (R542); `fault` marks a port fault, which raises event 828 and writes the FB_DETOUR cairn. -/
def passDown (d : Nat) (fault : Bool) (s : Block) : Block :=
  let was := s.fld (FB_PASS.STATE d)
  let used := (List.range 256).any (fun n => decide (s.fld (FB_ROUTE.PRIMARY n) = d))
  let s1 := s.setReg (FB_PASS.addr d) 0
  let s2 := { s1 with fb := { s1.fb with
    neighbours := smDel s1.fb.neighbours d, nbrArray := s1.fb.nbrArray.filter (fun x => decide (x ≠ d)) } }
  let s3 := detour d s2
  let s4 := if fault && decide (was = 1) then ((s3.policyCairn 0xA01 0x0A06 (FB_PASS.addr d) was 0).raise 828).contain 8 else s3
  let s5 := if s4.flag FB_STAT.READY && !s4.flag FB_STAT.ROOT && decide (s4.fld FB_POS.PARENT = d) then parentLost s4 else s4
  report (if used then resendPeer d s5 else s5)

/-! ### A peer's frames (R538, R539) -/

/-- The format of a guest's take, from the settings pairs of its TAKE_OPEN extent (R379, R503). -/
def guestFormat (o : List Byte) : Nat :=
  match (List.range 32).find? (fun i => decide (leAt o (228 + 8 * i) 4 = REC_CFG.addr)) with
  | some i => bitsOf (leAt o (232 + 8 * i) 4) REC_CFG.FORMAT.lo REC_CFG.FORMAT.width
  | none => 0

/-- The take table entry of a guest's part (R500): role 2, the sender's serial and take number; part number, mode, format, the
stamp of the opening and the chain values as the extents it sent hold them. -/
def guestEntry (p : PeerIn) : List Byte :=
  let o := p.opened
  let c := p.sealed
  let number := leAt o 6 1
  let fs := p.frames.map (fun f => f.frame)
  let count (b : Nat) : List Byte := leBytes 4 (p.frames.filter (fun f => f.flags.getLsbD b)).length
  let body := leBytes 4 0x454B4154 ++ leBytes 4 p.sequence ++ leBytes 8 p.serial ++ leBytes 2 p.take ++ leBytes 1 number ++
    leBytes 1 p.state ++ leBytes 1 (leAt o 225 1) ++ leBytes 1 2 ++ leBytes 1 (guestFormat o) ++
    leBytes 1 (if c.isEmpty then 0xFF else leAt c 71 1) ++ leBytes 8 (leAt o 24 8) ++ leBytes 8 (leAt c 24 8) ++ leBytes 8 p.first ++
    leBytes 8 p.endBlock ++ leBytes 4 (fs.headD (Config.emptyFirst p.take number).toNat) ++
    leBytes 4 (fs.getLastD (Config.emptyLast p.take number).toNat) ++ leBytes 4 fs.length ++ count fNoSlot ++ count fIncomplete ++
    count fDamaged ++ leBytes 8 p.lastIndex ++ leBytes 8 p.sealRec ++ ((if c.isEmpty then o.drop 192 else c.drop 96) ++ zeros 32).take 32 ++
    (p.chainAfter ++ zeros 32).take 32 ++ leBytes 4 p.cairnFirst ++ leBytes 4 p.cairnLast ++ zeros 84
  body ++ wordBytes (crc32 body)

/-- Change the reservation granted to a peer. -/
def Block.onGuest (s : Block) (g : PeerIn → PeerIn) : Block := { s with fb := { s.fb with peerIn := s.fb.peerIn.map g } }

/-- Rewrite the guest's entry (R500). -/
def writeGuest (s : Block) : Block :=
  let s1 := s.onGuest (fun p => { p with sequence := p.sequence + 1 })
  match s1.fb.peerIn with
  | some p => magDo p.mag [writeCmd (32 + 2 * p.entry + p.sequence % 2) (guestEntry p) .other] s1
  | none => s

/-- Answer the sender of guest frames (R539). -/
def answerPeer (sub : Nat) (p : PeerIn) (s : Block) : Block :=
  fabSend p.node 0 0x0AF4 (leBytes 1 sub ++ leBytes 1 p.mag ++ zeros 2 ++ leBytes 2 p.rate ++ leBytes 2 p.slots ++
    leBytes 8 p.serial ++ leBytes 2 p.take) s

/-- Write an extent of the guest (R538): a metadata extent that it sent, or its INDEX. The opening extents end with CAIRNS: a FLUSH, the
entry and the superblock follow (R507). -/
def guestExtent (kind : Nat) (img : List Byte) (s : Block) : Block :=
  match s.fb.peerIn with
  | none => s
  | some p =>
    let b := (s.mag p.mag).sb.alloc
    let n := unitBlocks img.length
    let body := (img.drop 64).take (leAt img 20 4)
    let s1 := (allocBlocks p.mag n s).onGuest (fun x => { x with
      endBlock := b + n, lastIndex := if kind = 5 then b else x.lastIndex, sealRec := if kind = 6 then b else x.sealRec,
      opened := if kind = 1 then img else x.opened, sealed := if kind = 6 then img else x.sealed,
      chainAfter := if kind = 1 then (img.drop 192).take 32 else x.chainAfter,
      cairnFirst := if kind = 4 ∧ x.sequence = 0 then leAt body 0 4 else x.cairnFirst,
      cairnLast := if kind = 4 then leAt body (body.length - 32) 4 else x.cairnLast })
    let s2 := magDo p.mag (splitWrite (extentLimit (s.mag p.mag)) b (.metaExt kind) (.metaExt kind) (img.length / 4096 + 1) (padTo 65536 img)) s1
    if kind = 4 ∧ p.sequence = 0 then writeSuper p.mag .superblock (writeGuest (magDo p.mag [flushCmd .other] s2)) else s2

/-- The guest's part closes (R539): its INDEX, then the seal record that the sender computed. -/
def guestSeal (img : List Byte) (s : Block) : Block :=
  match s.fb.peerIn with
  | none => s
  | some p =>
    let body := indexBody p.frames
    let h := leBytes 4 0x4154454D ++ leBytes 2 5 ++ leBytes 1 (leAt p.opened 6 1) ++ [0] ++ leBytes 8 p.serial ++ leBytes 2 p.take ++ zeros 2 ++
      leBytes 4 body.length ++ leBytes 8 s.now.toNat ++ zeros 8 ++ wordBytes (crc32 body) ++ zeros 16
    let s1 := guestExtent 6 img (guestExtent 5 (padTo 65536 (h ++ wordBytes (crc32 h) ++ body)) s)
    let s2 := writeGuest (s1.onGuest (fun x => { x with state := 3 }))
    let s3 := magDo p.mag [flushCmd .other] s2
    { s3 with fb := { s3.fb with peerIn := none } }

/-- A guest frame's header has landed (R539): the frame takes a slot and goes to the magazine as an ashlar (R506). -/
def guestFrame (p : PeerIn) (hdr : List Byte) (s : Block) : Block :=
  let n := leAt hdr 8 4
  let key := 2 ^ 33 + n
  let blocks := 16 + unitBlocks p.data.length
  let b := (s.mag p.mag).sb.alloc
  let sl : Slot := { frame := key, stub := false, index := (freeIndex s).getD 0, take := 2 ^ 20 + p.take, drains := [],
                     draining := [20 + p.mag], claims := [], damaged := [], damageCount := 0, remapped := false, lost := [],
                     header := some hdr, headerAt := s.now, guest := some p.node }
  let s1 := syncFill { s with rcd := { s.rcd with slots := s.rcd.slots ++ [sl] } }
  let s2 := (allocBlocks p.mag blocks s1).onGuest (fun x => { x with
    data := [], endBlock := b + blocks, chainAfter := hdr.drop 65504, frames := x.frames ++ [⟨n, BitVec.ofNat 32 (leAt hdr 32 4), b, blocks, (hdr.drop 65504).take 8⟩] })
  let pay := splitWrite (extentLimit (s.mag p.mag)) (b + 16) .other .other (p.data.length / 4096 + 1) (padTo 65536 p.data)
  magDo p.mag (pay ++ [writeCmd b hdr .other, flushCmd (.ashlar key)]) s2

/-- Would another guest frame leave fewer than OWN_RESERVE slots free (R539)? -/
def guestFull (s : Block) : Bool := decide (s.rcd.depth < heldSlots s + 1 + s.fld FB_CFG.OWN_RESERVE)

/-- A whole bulk message of the guest has arrived (R538, R539): it is acknowledged end to end, or the frame is refused with
BUSY. -/
def guestMessage (msg : Nat) (body : List Byte) (s : Block) : Block :=
  match s.fb.peerIn with
  | none => s
  | some p =>
    if msg = peerMeta 6 then answerPeer peerLanded p (guestSeal body s)
    else if peerMeta 0 ≤ msg ∧ msg < peerHeader then answerPeer peerLanded p (guestExtent (msg - peerMeta 0) body s)
    else if p.data.isEmpty && guestFull s then answerPeer peerBusy p s
    else if msg = peerHeader then answerPeer peerLanded p (guestFrame p body s)
    else answerPeer peerLanded p (s.onGuest (fun x => { x with data := x.data ++ body }))

/-- Take the bytes of a whole message out of the data that port `t` has delivered. -/
def takeBulk (t msg src : Nat) (s : Block) : List Byte × Block :=
  let p := s.port t
  let mine (k : Pkt) : Bool := decide (k.msg = msg) && decide (k.src = src)
  ((p.bulk.filter mine).flatMap (fun k => k.payload), s.setPort t { p with bulk := p.bulk.filter (fun k => !mine k) })

/-- Data of VC 2 arrive on port `t` (R463, R539): a fabric port's consumer is the peer store, which takes a message once its
last packet has arrived. -/
def bulkArrives (t : Nat) (k : Pkt) (s : Block) : Block :=
  let p := s.port t
  let s1 := s.setPort t { p with bulk := p.bulk ++ [k] }
  match s1.fb.peerIn with
  | some g =>
    if 4 ≤ t ∧ k.last = true ∧ k.src = g.node then
      let (body, s2) := takeBulk t k.msg k.src s1
      guestMessage k.msg body s2
    else s1
  | none => s1

end Sys2Proof.Machine
end

