-- ==== Sys2Proof/Machine/Links.lean ====
section
/-! DEFINITION. Link lanes and ports (chapter 14): lock and slip (R457, R458), markers (R460, R461), PRBS (R462), packets
(R463 to R469), bring-up (R472, R473), re-striping (R475 to R478) and port faults (R479). -/

namespace Sys2Proof.Machine

/-! ### Numbering (R452) -/

/-- Lanes of port `t`. -/
def portWidth (t : Nat) : Nat := if t < 2 then 8 else 4

/-- First lane of port `t`. -/
def laneBase (t : Nat) : Nat := if t < 2 then 8 * t else 16 + 4 * (t - 2)

/-- Port of lane `l`. -/
def portOf (l : Nat) : Nat := if l < 16 then l / 8 else 2 + (l - 16) / 4

/-- Physical lane of lane `l` in its port. -/
def physOf (l : Nat) : Nat := l - laneBase (portOf l)

/-- A lane at reset. -/
def Lane.reset : Lane :=
  { markerMiss := 0, bip := [], cleanSince := none, readmittedAt := none, barred := false, byCommand := false, margin := 0,
    prbsErr := 0, prbsBits := 0, prbsGood := 0, count := 0, preset := 2, outSince := 0 }

/-- Lane `l`. -/
def Block.lane (s : Block) (l : Nat) : Lane := smGet Lane.reset s.lk.lanes l

/-- Set lane `l`. -/
def Block.setLane (s : Block) (l : Nat) (x : Lane) : Block :=
  { s with lk := { s.lk with lanes := smSet Lane.reset s.lk.lanes l x } }

/-- Change lane `l`. -/
def Block.onLane (s : Block) (l : Nat) (g : Lane → Lane) : Block := s.setLane l (g (s.lane l))

/-- Change port `t`. -/
def Block.onPort (s : Block) (t : Nat) (g : Port → Port) : Block := s.setPort t (g (s.port t))

/-- Is port `t`'s power domain on (R49)? -/
def portPowered (s : Block) (t : Nat) : Bool :=
  if t = 0 then s.flag SYS_DOMAIN.MA_ON else if t = 1 then s.flag SYS_DOMAIN.MB_ON else if t = 2 then s.flag SYS_DOMAIN.MN_ON
  else if t = 3 then s.flag SYS_DOMAIN.HP_ON else s.flag SYS_DOMAIN.FX_ON

/-- Number of bits set among the low 8. -/
def popcount8 (n : Nat) : Nat := ((List.range 8).map (fun i => n / 2 ^ i % 2)).sum

/-- Lowest-first physical lanes of a set. -/
def lanesOf (set : Nat) : List Nat := (List.range 8).filter (fun i => set.testBit i)

/-- Does an open take record through port `t` (R482, R488)? -/
def takeUses (s : Block) (t : Nat) : Bool :=
  match s.rcd.take with
  | some k => decide (t < 2) && k.parts.any (fun p => decide (p.mag = t) && decide (p.state < 3))
  | none => false

/-! ### Lanes in service (R459, R471, R480) -/

/-- Put the lanes `set` into service on port `t`: LANES_IN, WIDTH, PAYLOAD, the lanes' LOGICAL numbers, and what follows
from the drain rate. -/
def setLanesIn (t set : Nat) (s : Block) : Block :=
  let n := popcount8 set
  let s1 := ((s.setFld (PT_STAT.LANES_IN t) set).setFld (PT_STAT.WIDTH t) n).setFld (PT_STAT.PAYLOAD t) (payloadRate n)
  let s2 := (List.range (portWidth t)).foldl (fun (a : Block) i =>
    let l := laneBase t + i
    let on := set.testBit i
    let was := a.flag (LN_STAT.IN_SERVICE l)
    let a1 := a.setFlag (LN_STAT.IN_SERVICE l) on
    let a2 := if on then a1.setFld (LN_STAT.LOGICAL l) ((lanesOf set).idxOf i) else a1
    if was && !on then a2.onLane l (fun x => { x with outSince := a2.now, bip := [], cleanSince := none }) else a2) s1
  if t < 2 then updateDrain (s2.setFld (MG_STAT.RATE t) (magRate s2 t)) else s2

/-- RATE_WARN after a change of width that leaves an open take's schedule short (R480). -/
def rateWarn (t : Nat) (s : Block) : Block :=
  if takeUses s t && s.running && decide (s.fld REC_DRAIN.FPS * s.fld FT_PERIOD.PERIOD < 8000000000) then s.raise (735 + 8 * t)
  else s

/-! ### Link-layer packets (R464, R466, R468, R470) -/

/-- Queue a packet other than DATA. -/
def sendLink (t type seq : Nat) (payload : List Byte) (s : Block) : Block :=
  s.onPort t (fun p => { p with linkq := p.linkq ++ [⟨type, 0, false, false, seq, 0, 0, 0, payload⟩] })

/-- Queue an ACK up to the packet before the one expected (R466). -/
def sendAck (t : Nat) (s : Block) : Block :=
  sendLink t 0xC2 ((s.fld (PT_SEQ_RX.SEQ t) + (2 ^ 32 - 1)) % 2 ^ 32) [] s

/-- Queue a NAK with the expected SEQ, at most one per microsecond (R466). -/
def sendNak (t : Nat) (s : Block) : Block :=
  let p := s.port t
  let due := match p.lastNak with | some k => decide (usT ≤ s.sinceT k) | none => true
  let s1 := s.setPort t { p with discarding := true, lastNak := if due then some s.now else p.lastNak }
  if due then sendLink t 0xC3 (s1.fld (PT_SEQ_RX.SEQ t)) [] s1 else s1

/-- Queue a CREDIT packet with the limits granted (R468). -/
def sendCredit (t : Nat) (s : Block) : Block :=
  let p := s.port t
  sendLink t 0xC4 0 (p.granted.flatMap (leBytes 4)) (s.setPort t { p with creditAt := s.now })

/-- Queue a LINKCTL packet (R470). -/
def sendCtl (t a b c : Nat) (s : Block) : Block := sendLink t 0xC5 0 (leBytes 1 a ++ leBytes 1 b ++ leBytes 1 c ++ [0]) s

/-! ### Port states (R472) -/

/-- Set PT_STAT.STATE; into ACTIVE and from ACTIVE into RECOVER a cairn is written (R472, R490). -/
def setPortState (t v : Nat) (s : Block) : Block :=
  let old := s.fld (PT_STAT.STATE t)
  let s1 := (s.setFld (PT_STAT.STATE t) v).onPort t (fun p => { p with since := s.now })
  if (v = 5 ∧ old ≠ 6) ∨ (v = 7 ∧ (old = 5 ∨ old = 6)) then s1.cairnN oFirmware 0x0902 (PT_STAT.addr t) old v else s1

/-- Enter DETECT (R472). -/
def enterDetect (t : Nat) (s : Block) : Block :=
  (setPortState t 1 s).onPort t (fun p => { p with
    detectAt := s.now, waiting := false, seen := [], go := 0, goSent := 0, set := 0, partnerSet := 0 })

/-- A magazine port has come up (R512, R513, R517): a magazine in a take after an LREFCLK loss rewrites what was not
acknowledged, from its start; any other is identified afresh. -/
def magPortUp (m : Nat) (s : Block) : Block :=
  if magInTake s m then
    let slots := s.rcd.slots.map (fun l =>
      if l.draining.any (fun d => decide (d % 10 = m)) then
        { l with draining := l.draining.filter (fun d => decide (d % 10 ≠ m)), drains := l.drains ++ [m] }
      else l)
    let g := s.mag m
    ({ s with rcd := { s.rcd with slots := slots, lrefLostAt := none } }).setMag m { g with todo := [], out := [], busy := none }
  else
    let g := s.mag m
    magDo m [cmdOf 1 0 0 .identify] (setMagState m 2 (s.setMag m { g with todo := [], out := [], busy := none }))

/-- A magazine port has gone down (R512, R513): a fault fails the magazine. -/
def magPortDown (m : Nat) (fault : Bool) (s : Block) : Block :=
  let st := s.magState m
  if fault && decide (2 ≤ st) && decide (st ≠ 6) then magFail m false s
  else if magInTake s m then s
  else setMagState m 1 s

/-- Port `t` goes down: MAINTAIN ends for the origins whose carrier's link it was (R126). -/
def linkLost (t : Nat) (s : Block) : Block :=
  endMaintain false (fun m =>
    (decide (t = 3) && decide (m.origin / 4096 = 1)) ||
      (decide (4 ≤ t) && decide (m.origin / 4096 = 3) && decide (routePort s (m.origin % 256) = some t))) s

/-- Enter RECOVER (R472): replay buffer and unacknowledged DATA are discarded, the lanes leave service. `fault` tells the
port's users to take their fault paths (R479, R512). -/
def enterRecover (t : Nat) (fault : Bool) (s : Block) : Block :=
  let old := s.fld (PT_STAT.STATE t)
  let s1 := setPortState t 7 (if old = 5 ∨ old = 6 then linkLost t s else s)
  let s2 := s1.onPort t (fun p => { p with
    replay := [], resend := [], linkq := [], restripe := none, creditSeen := false, stallSince := [], noAck := 0,
    discarding := false })
  let s3 := setLanesIn t 0 s2
  let s4 := if old = 5 ∨ old = 6 then s3.raise (729 + 8 * t) else s3
  let s5 := if t < 2 ∧ (old = 5 ∨ old = 6) then magPortDown t fault s4
    else if 4 ≤ t ∧ (old = 5 ∨ old = 6) then passDown (t - 3) fault s4 else s4
  let s6 := if fault && decide (t < 4) && (decide (old = 5) || decide (old = 6)) then s5.contain 2 else s5
  let down := (List.range 4).filter (fun x => (s6.ctx x).sending.isSome &&
    (monPort s6 (s6.effFld (MON_CTX_CFG.DEST x)) (s6.effFld (MON_CTX_NODE.NODE x))).isNone)
  down.foldl (fun (a : Block) x => a.onCtx x (fun c => { c with sending := none, waiting := none })) s6

/-- A port fault (R479): PARTNER_TIMEOUT or REPLAY_LIMIT, RECOVER, event 729 + 8t. -/
def portFault (t : Nat) (replay : Bool) (s : Block) : Block :=
  enterRecover t true (s.setFlag (if replay then PT_ERR.REPLAY_LIMIT t else PT_ERR.PARTNER_TIMEOUT t) true)

/-- Enter ACTIVE (R466, R468, R473): SEQ starts at 0, the first CREDIT is sent, event 728 + 8t. -/
def enterActive (t : Nat) (s : Block) : Block :=
  let set := (s.port t).set
  let s1 := setPortState t 5 (setLanesIn t set s)
  let s2 := ((s1.setFld (PT_SEQ_TX.SEQ t) 0).setFld (PT_SEQ_RX.SEQ t) 0).onPort t (fun p => { p with
    replay := [], resend := [], spent := [0, 0, 0], limit := [0, 0, 0], granted := [1024, 128, 16384], creditSeen := false,
    noAck := 0, discarding := false, lastNak := none, epoch := 0, restripe := none, stallSince := [] })
  let s3 := (List.range (portWidth t)).foldl (fun (a : Block) i =>
    a.onLane (laneBase t + i) (fun x => { x with barred := false, bip := [], markerMiss := 0 })) s2
  let s4 := (sendCredit t s3).raise (728 + 8 * t)
  if t < 2 then magPortUp t s4 else s4

/-! ### Re-striping (R475 to R480) -/

/-- Start re-striping port `t` to the lanes `set` (R475, R476 steps 1 and 2). With no lane left, the port faults. -/
def startRestripe (t set origin : Nat) (s : Block) : Block :=
  if set = 0 then portFault t false s
  else
    let p := s.port t
    let old := match p.restripe with | some r => r.old | none => s.fld (PT_STAT.LANES_IN t)
    let ep := (p.epoch + 1) % 256
    let s1 := (setPortState t 6 s).onPort t (fun q => { q with
      epoch := ep, restripe := some ⟨set, ep, old, s.now, origin, 0, false⟩ })
    sendCtl t 1 set ep ((setLanesIn t (set &&& s.fld (PT_STAT.LANES_IN t)) s1).setFlag (PT_ERR.RESTRIPED t) true)

/-- The re-striping ends once the partner has answered and every lane of the set has been followed (R476 steps 4, 5). -/
def endRestripe (t : Nat) (s : Block) : Block :=
  match (s.port t).restripe with
  | none => s
  | some r =>
    if r.answered && decide (r.followed &&& r.set = r.set) then
      let s1 := setLanesIn t r.set (s.onPort t (fun p => { p with restripe := none }))
      let s2 := sendNak t (s1.setFld (PT_STAT.STATE t) 5)
      let s3 := if r.origin / 4096 = 4 then (s2.policyCairn (r.origin % 4096) 0x0901 (PT_CFG.addr t) r.old r.set).contain 1
        else s2.cairnN r.origin 0x0901 (PT_CFG.addr t) r.old r.set
      rateWarn t (s3.raise (730 + 8 * t))
    else s

/-- Lane `l` leaves service and its port re-stripes (R475). A lane lost within 60 s of its readmission is barred until the
port retrains (R478). -/
def laneOut (l origin : Nat) (s : Block) : Block :=
  let t := portOf l
  let bad := match (s.lane l).readmittedAt with | some k => decide (s.sinceT k < 60 * secT) | none => false
  let s1 := s.onLane l (fun x => { x with barred := x.barred || bad })
  let set := (match (s1.port t).restripe with | some r => r.set | none => s1.fld (PT_STAT.LANES_IN t))
  startRestripe t (set &&& (255 - 2 ^ physOf l)) origin s1

/-- LANE_LOCK (R457, R472): in ALIGN, the first lane's lock starts the 2 ms window. -/
def execLaneLock (l : BitVec 6) (s : State) : Host.Outcome State Fault Refusal :=
  s.onBlock fun s =>
  let n := l.toNat
  if 40 ≤ n then .fault .noSuchLane
  else
    let t := portOf n
    let first := !(List.range (portWidth t)).any (fun i => s.flag (LN_STAT.LOCK (laneBase t + i)))
    let s1 := (s.setFlag (LN_STAT.LOCK n) true).onLane n (fun x => { x with cleanSince := some s.now, markerMiss := 0 })
    .next (if first && decide (s.fld (PT_STAT.STATE t) = 2) then s1.onPort t (fun p => { p with since := s1.now }) else s1)

/-- LANE_LOCK_LOST (R457, R475). -/
def execLaneLockLost (l : BitVec 6) (s : State) : Host.Outcome State Fault Refusal :=
  s.onBlock fun s =>
  let n := l.toNat
  if 40 ≤ n then .fault .noSuchLane
  else
    let s1 := ((s.setFlag (LN_STAT.LOCK n) false).setFlag (LN_STAT.READY n) false).onLane n (fun x =>
      { x with cleanSince := none })
    if s1.flag (LN_STAT.IN_SERVICE n) then .next (laneOut n (oPolicy 0x901) (s1.raise (608 + 3 * n))) else .next s1

/-- Slip lane `l` by `k` positions (R458). -/
def slipLane (l k : Nat) (s : Block) : Block := s.incFld (LN_STAT.SLIPS l) k

/-- BIT_SLIP_SWEEP (R458): automatic alignment slips a lane without lock once. -/
def execBitSlipSweep (l : BitVec 6) (s : State) : Host.Outcome State Fault Refusal :=
  s.onBlock fun s =>
  let n := l.toNat
  if 40 ≤ n then .fault .noSuchLane
  else if s.flag (PT_CFG.AUTO_ALIGN (portOf n)) && !s.flag (LN_STAT.LOCK n) then .next (slipLane n 1 s)
  else .next s

/-- The lanes of port `t` that are locked and allowed. -/
def lockedSet (s : Block) (t : Nat) : Nat :=
  ((List.range (portWidth t)).map (fun i => if s.flag (LN_STAT.LOCK (laneBase t + i)) then 2 ^ i else 0)).sum &&&
    s.fld (PT_CFG.LANES_ALLOWED t)

/-- MARKER_RX (R460, R461, R475, R481): BIP, skew, and the preset that waits for a marker; in DESKEW the port trains once
the markers of every locked lane have been seen. -/
def execMarkerRx (l : BitVec 6) (_body : List Byte) (bipOk : Bool) (skew : Byte) (s : State) : Host.Outcome State Fault Refusal :=
  s.onBlock fun s =>
  let n := l.toNat
  if 40 ≤ n then .fault .noSuchLane
  else
    let t := portOf n
    let st := s.fld (PT_STAT.STATE t)
    let bip := ((!bipOk) :: (s.lane n).bip).take 16
    let bad := (bip.filter (fun b => b)).length
    let pre := match (s.port t).preset with | some p => if st = 6 then (s.lane n).preset else p | none => (s.lane n).preset
    let clean := if bipOk then (s.lane n).cleanSince else some s.now
    let s1 := s.onLane n (fun x => { x with
      bip := bip, markerMiss := 0, preset := pre, cleanSince := clean, count := (x.count + 1) % 2 ^ 32 })
    let s2 := (s1.setFld (LN_STAT.BIP_MARKERS n) bad).setFld (LN_STAT.SKEW n) skew.toNat
    if st = 3 then
      let p := s2.port t
      let seen := if skew.toNat ≤ 48 then p.go ||| 2 ^ physOf n else p.go
      let set := if skew.toNat ≤ 48 then p.set else p.set &&& (255 - 2 ^ physOf n)
      let s3 := s2.setPort t { p with go := seen, set := set }
      .next (if set ≠ 0 ∧ seen &&& set = set then
          (setPortState t 4 s3).onPort t (fun q => { q with go := 0, goSent := 0, seen := [] }) else s3)
    else if s2.flag (LN_STAT.IN_SERVICE n) && decide (8 ≤ bad) then .next (laneOut n (oPolicy 0x901) (s2.raise (609 + 3 * n)))
    else .next s2

/-- SWITCH_BLOCK_RX (R476 steps 3, 4). -/
def execSwitchBlockRx (t : BitVec 3) (lanes : Byte) (s : State) : Host.Outcome State Fault Refusal :=
  s.onBlock fun s =>
  let k := t.toNat
  .next (endRestripe k (s.onPort k (fun p => { p with restripe := p.restripe.map (fun r => { r with
    followed := r.followed ||| lanes.toNat }) })))

/-- RESTRIPE_RX (R476, R477): answered with the same set and epoch; two different sets become their AND with the higher
epoch plus 1; ignored outside ACTIVE and RESTRIPE. -/
def execRestripeRx (t : BitVec 3) (set : Byte) (epoch : Byte) (s : State) : Host.Outcome State Fault Refusal :=
  s.onBlock fun s =>
  let k := t.toNat
  let st := s.fld (PT_STAT.STATE k)
  let p := s.port k
  if st = 5 then
    if set.toNat = 0 then .next (portFault k false s)
    else
      let old := s.fld (PT_STAT.LANES_IN k)
      let s1 := (setPortState k 6 s).onPort k (fun q => { q with
        epoch := epoch.toNat, restripe := some ⟨set.toNat, epoch.toNat, old, s.now, oPolicy 0x901, 0, true⟩ })
      .next (sendCtl k 1 set.toNat epoch.toNat ((setLanesIn k (set.toNat &&& old) s1).setFlag (PT_ERR.RESTRIPED k) true))
  else if st = 6 then
    match p.restripe with
    | none => .next s
    | some r =>
      if r.set = set.toNat ∧ r.epoch = epoch.toNat then
        .next (endRestripe k (s.setPort k { p with restripe := some { r with answered := true } }))
      else
        let s2 := r.set &&& set.toNat
        if s2 = 0 then .next (portFault k false s)
        else
          let ep := (max r.epoch epoch.toNat + 1) % 256
          .next (sendCtl k 1 s2 ep (s.setPort k { p with
            epoch := ep, restripe := some { r with set := s2, epoch := ep, since := s.now, followed := 0, answered := false } }))
  else .next s

/-- RESTRIPE_TIMEOUT (R479): no answer within 5 µs is a port fault. -/
def execRestripeTimeout (t : BitVec 3) (s : State) : Host.Outcome State Fault Refusal :=
  s.onBlock fun s =>
  let k := t.toNat
  match (s.port k).restripe with
  | some r => if r.answered then .next s else .next (portFault k false s)
  | none => .next s

/-- LINK_DOWN_RX (R470, R512): the port enters RECOVER at once; a magazine port's target fails. -/
def execLinkDownRx (t : BitVec 3) (_reason : Byte) (s : State) : Host.Outcome State Fault Refusal :=
  s.onBlock fun s =>
  let k := t.toNat
  let st := s.fld (PT_STAT.STATE k)
  if st = 0 ∨ st = 7 then .next s else .next (enterRecover k true s)

/-- LANE_READMIT (R478): READY is set; with READMIT the lane is taken back. -/
def execLaneReadmit (l : BitVec 6) (s : State) : Host.Outcome State Fault Refusal :=
  s.onBlock fun s =>
  let n := l.toNat
  if 40 ≤ n then .fault .noSuchLane
  else
    let t := portOf n
    if !s.flag (LN_STAT.LOCK n) || s.flag (LN_STAT.IN_SERVICE n) then .next s
    else
      let s1 := s.setFlag (LN_STAT.READY n) true
      let x := s1.lane n
      let ok := s1.flag (PT_CFG.READMIT t) && !x.barred && !x.byCommand && decide (s1.fld (PT_STAT.STATE t) = 5) &&
        (s1.fld (PT_CFG.LANES_ALLOWED t)).testBit (physOf n)
      .next (if ok then
          startRestripe t (s1.fld (PT_STAT.LANES_IN t) ||| 2 ^ physOf n) (oPolicy 0x901)
            (s1.setLane n { x with readmittedAt := some s1.now })
        else s1)

/-! ### Bring-up (R472 to R474) -/

/-- PORT_DOMAIN_ON (R472): from start-up step 8 on (R60). -/
def execPortDomainOn (t : BitVec 3) (s : State) : Host.Outcome State Fault Refusal :=
  s.onBlock fun s =>
  let k := t.toNat
  if portPowered s k && decide (s.fld (PT_STAT.STATE k) = 0) && decide (7 ≤ s.fld SYS_BOOT.STAGE) &&
      decide (s.fld SYS_BOOT.STAGE ≤ 9) then .next (enterDetect k s) else .next s

/-- Has LREF_OK been 1 for 100 µs (R474)? -/
def lrefStable (s : Block) : Bool :=
  s.flag SYS_CLK.LREF_OK && (match s.pwr.lrefValidAt with | some k => decide (80000 ≤ s.sinceT k) | none => true)

/-- PORT_PLL_LOCK (R472, R474): DETECT ends when the PLL is locked and a signal is present on an allowed lane. -/
def execPortPllLock (t : BitVec 3) (signal : Byte) (s : State) : Host.Outcome State Fault Refusal :=
  s.onBlock fun s =>
  let k := t.toNat
  if decide (s.fld (PT_STAT.STATE k) = 1) && !(s.port k).waiting && lrefStable s &&
      decide (signal.toNat &&& s.fld (PT_CFG.LANES_ALLOWED k) ≠ 0) then .next (setPortState k 2 s)
  else .next s

/-- ALIGN_WINDOW_END (R472): on to DESKEW with the lanes that are locked. -/
def execAlignWindowEnd (t : BitVec 3) (s : State) : Host.Outcome State Fault Refusal :=
  s.onBlock fun s =>
  let k := t.toNat
  let set := lockedSet s k
  if s.fld (PT_STAT.STATE k) = 2 ∧ set ≠ 0 then
    .next ((setPortState k 3 s).onPort k (fun p => { p with set := set, go := 0 }))
  else .next s

/-- TRAINING_BLOCK_RX (R473): the partner's words, SEEN, the lane set, GO, and ACTIVE. -/
def execTrainingBlockRx (l : BitVec 6) (body : List Byte) (s : State) : Host.Outcome State Fault Refusal :=
  s.onBlock fun s =>
  let n := l.toNat
  if 40 ≤ n then .fault .noSuchLane
  else
    let t := portOf n
    if s.fld (PT_STAT.STATE t) ≠ 4 then .next s
    else
      let s1 := ((((s.setFld (PT_PARTNER.KIND t) (leAt body 2 1)).setFld (PT_PARTNER.VERSION t) (leAt body 5 1)).setFld
        (PT_PARTNER.LANES t) (leAt body 6 1)).setFld (PT_PARTNER_SN_LO.SN t) (leAt body 8 4)).setFld
          (PT_PARTNER_SN_HI.SN t) (leAt body 12 4)
      if leAt body 5 1 / 16 ≠ 1 then .next (s1.setFlag (PT_ERR.VERSION t) true)
      else
        let p := s1.port t
        let theirs := leAt body 3 1
        let set := lockedSet s1 t &&& theirs &&& (if p.set = 0 then 255 else p.set)
        let changed := decide (set ≠ p.set) || decide (theirs ≠ p.partnerSet)
        let run := smGet 0 p.seen (physOf n) + 1
        let seen := smPut p.seen (physOf n) (min 16 run)
        let go0 := if changed then 0 else p.go
        let go := if (leAt body 4 1).testBit 1 then go0 ||| 2 ^ physOf n else go0
        let ready := set ≠ 0 ∧ ((lanesOf set).all (fun i => decide (16 ≤ smGet 0 seen i))) = true
        let sent := (if changed then 0 else p.goSent) + (if ready then 1 else 0)
        let s2 := s1.setPort t { p with set := set, partnerSet := theirs, seen := seen, go := go, goSent := min 16 sent }
        .next (if ready ∧ 16 ≤ sent ∧ go &&& set = set then enterActive t s2 else s2)

/-- PORT_RECOVER_END (R472): to DETECT, or to DISABLED with its domain off. -/
def execPortRecoverEnd (t : BitVec 3) (s : State) : Host.Outcome State Fault Refusal :=
  s.onBlock fun s =>
  let k := t.toNat
  if s.fld (PT_STAT.STATE k) ≠ 7 then .next s
  else .next (if portPowered s k then enterDetect k s else setPortState k 0 s)

/-- PORT_TRAIN_TIMEOUT (R472): TRAIN_FAIL, event 734 + 8t, and a wait of 100 ms. -/
def execPortTrainTimeout (t : BitVec 3) (s : State) : Host.Outcome State Fault Refusal :=
  s.onBlock fun s =>
  let k := t.toNat
  let st := s.fld (PT_STAT.STATE k)
  if 1 ≤ st ∧ st ≤ 4 ∧ (s.port k).waiting = false then
    .next (((setPortState k 1 (s.setFlag (PT_ERR.TRAIN_FAIL k) true)).onPort k (fun p => { p with waiting := true })).raise
      (734 + 8 * k))
  else .next s

/-- PORT_RETRY_WAIT_END (R472). -/
def execPortRetryWaitEnd (t : BitVec 3) (s : State) : Host.Outcome State Fault Refusal :=
  s.onBlock fun s =>
  if (s.port t.toNat).waiting then .next (enterDetect t.toNat s) else .next s

/-! ### Packets (R463 to R469) -/

/-- Modular order of SEQ values: `a` is later than `b` (R466). -/
def seqLater (a b : Nat) : Bool :=
  let d := (a + 2 ^ 32 - b) % 2 ^ 32
  decide (1 ≤ d) && decide (d < 2 ^ 31)

/-- First CRC or framing error after the event's status bit was last cleared (R489). -/
def linkError (t : Nat) (framing : Bool) (s : Block) : Block :=
  let s1 := (s.setFlag (if framing then PT_ERR.FRAMING t else PT_ERR.CRC t) true).incFld (PT_COUNT.CRC_ERRS t) 1
  sendNak t (s1.raiseFirst (732 + 8 * t))

/-- A request in a packet's payload (R71, R75). -/
def parseReq (c : Carrier) (p : List Byte) : Nat × Req :=
  (leAt p 0 2, ⟨c, BitVec.ofNat 8 (leAt p 2 1), BitVec.ofNat 8 (leAt p 3 1), BitVec.ofNat 16 (leAt p 4 2), p.drop 8⟩)

/-- Deliver an accepted DATA packet (R75, R469, R491, R527, R540): commands of the host and of other nodes enter the
execution sequence, a fabric packet for another node goes on (HELLO, REPORT and TABLE pass hop by hop, R522), bulk data reach
the port's consumer. The other payloads of VC 0 and VC 1 are the message rows' own commands. -/
def deliverPkt (t : Nat) (k : Pkt) (s : Block) : Block :=
  let hop := decide (k.vc = 0) && decide (0x0AF0 ≤ leAt k.payload 0 2) && decide (leAt k.payload 0 2 ≤ 0x0AF2)
  if 4 ≤ t ∧ k.dst ≠ s.fld FB_STAT.NODE ∧ hop = false then
    match routePort s k.dst with
    | some o => s.onPort o (fun p => { p with dataq := p.dataq ++ [k] })
    | none => s.satFld FB_STAT.DROPS 1
  else if k.vc = 2 then bulkArrives t k s
  else if k.vc = 0 ∧ 8 ≤ k.payload.length ∧ leAt k.payload 3 1 / 64 = 0 then
    if t = 3 then let (op, q) := parseReq .host k.payload; acceptReq op q s
    else if 4 ≤ t ∧ ¬ (0x0AF0 ≤ leAt k.payload 0 2 ∧ leAt k.payload 0 2 ≤ 0x0AFF) then
      let c := Carrier.fabric (BitVec.ofNat 8 k.src) (BitVec.ofNat 4 (leAt k.payload 6 2 / 4096))
      let (op, q) := parseReq c k.payload
      acceptReq op q s
    else s
  else s

/-- DATA_PACKET_RX (R463, R465, R466, R468). -/
def execDataPacketRx (t : BitVec 3) (good : Bool) (framing : Bool) (hdr : List Byte) (payload : List Byte) (s : State) :
    Host.Outcome State Fault Refusal :=
  s.onBlock fun s =>
  let k := t.toNat
  if !portUp s k then .next s
  else if framing then .next (linkError k true s)
  else if !good then .next (linkError k false s)
  else
    let seq := leAt hdr 4 4
    let want := s.fld (PT_SEQ_RX.SEQ k)
    if seq = want then
      let b1 := leAt hdr 1 1
      let vc := b1 % 4
      let pkt : Pkt := ⟨0xC1, vc, b1.testBit 2, b1.testBit 3, seq, leAt hdr 8 2, leAt hdr 12 1, leAt hdr 13 1, payload⟩
      let s1 := (s.setFld (PT_SEQ_RX.SEQ k) (seq + 1)).onPort k (fun p => { p with
        discarding := false, granted := p.granted.set vc ((p.granted.getD vc 0 + ceilDiv payload.length 16) % 2 ^ 32) })
      .next (deliverPkt k pkt (sendCredit k (sendAck k s1)))
    else if seqLater want seq then .next (sendAck k s)
    else .next (sendNak k s)

/-- Release the replay buffer up to and with `seq` (R466, R467). -/
def ackUpTo (t seq : Nat) (s : Block) : Block :=
  let p := s.port t
  let keep := p.replay.filter (fun x => seqLater x.seq seq)
  if keep.length = p.replay.length then s
  else s.setPort t { p with
    replay := keep, resend := p.resend.filter (fun x => seqLater x.seq seq), noAck := 0, sentAt := s.now }

/-- Replay the held packets (R467); three replays in a row without an acknowledgement are a port fault. -/
def replay (t : Nat) (s : Block) : Block :=
  let p := s.port t
  let s1 := ((s.setFlag (PT_ERR.REPLAY t) true).incFld (PT_COUNT.REPLAYS t) 1).raiseFirst (731 + 8 * t)
  let n := p.noAck + 1
  let s2 := s1.setPort t { p with resend := p.replay, noAck := n, sentAt := s.now }
  if 3 ≤ n then portFault t true s2 else s2

/-- ACK_RX (R466). -/
def execAckRx (t : BitVec 3) (seq : Word) (s : State) : Host.Outcome State Fault Refusal :=
  s.onBlock fun s =>
  .next (ackUpTo t.toNat seq.toNat s)

/-- NAK_RX (R466, R467). -/
def execNakRx (t : BitVec 3) (seq : Word) (s : State) : Host.Outcome State Fault Refusal :=
  s.onBlock fun s =>
  let k := t.toNat
  if !portUp s k then .next s
  else
    let s1 := ackUpTo k ((seq.toNat + (2 ^ 32 - 1)) % 2 ^ 32) s
    .next (if (s1.port k).replay.isEmpty then s1 else replay k s1)

/-- CREDIT_RX (R468). -/
def execCreditRx (t : BitVec 3) (l0 : Word) (l1 : Word) (l2 : Word) (s : State) : Host.Outcome State Fault Refusal :=
  s.onBlock fun s =>
  .next (s.onPort t.toNat (fun p => { p with limit := [l0.toNat, l1.toNat, l2.toNat], creditSeen := true, stallSince := [] }))

/-- Bytes held for replay. -/
def heldBytes (p : Port) : Nat := (p.replay.map (fun x => x.payload.length)).sum

/-- May DATA packet `x` be sent: credit and replay room (R467, R468)? -/
def mayData (p : Port) (x : Pkt) : Bool :=
  let spent := (p.spent.getD x.vc 0 + ceilDiv x.payload.length 16) % 2 ^ 32
  p.creditSeen && !seqLater spent (p.limit.getD x.vc 0) && decide (heldBytes p + x.payload.length ≤ 524288)

/-- The next new DATA packet: VC 1, then VC 0, then VC 2, in order within a VC (R469). -/
def nextData (p : Port) : Option Pkt :=
  ([1, 0, 2].filterMap (fun v => p.dataq.find? (fun x => decide (x.vc = v)))).find? (fun x => mayData p x)

/-- VCs with DATA waiting without credit, first seen now (R468). -/
def noteStalls (s : Block) (p : Port) : Port :=
  { p with stallSince := [0, 1, 2].foldl (fun l v =>
      match p.dataq.find? (fun x => decide (x.vc = v)) with
      | some x =>
        if p.creditSeen && seqLater ((p.spent.getD v 0 + ceilDiv x.payload.length 16) % 2 ^ 32) (p.limit.getD v 0) then
          (if smHas l v then l else smPut l v s.now)
        else smDel l v
      | none => smDel l v) p.stallSince }

/-- PACKET_TRANSMIT (R466 to R469): link-layer packets first, then packets to be sent again, then new DATA. -/
def execPacketTransmit (t : BitVec 3) (s : State) : Host.Outcome State Fault Refusal :=
  s.onBlock fun s =>
  let k := t.toNat
  let p := s.port k
  if !portUp s k then .next s
  else
    match p.linkq with
    | x :: rest => .next (s.setPort k { p with linkq := rest, sent := some x })
    | [] =>
      if s.fld (PT_STAT.STATE k) = 6 then .next s
      else
        match p.resend with
        | x :: rest => .next (s.setPort k { p with resend := rest, sent := some x, sentAt := s.now })
        | [] =>
          match nextData p with
          | none => .next (s.setPort k (noteStalls s p))
          | some x =>
            let seq := s.fld (PT_SEQ_TX.SEQ k)
            let y := { x with seq := seq }
            let p1 := { p with
              dataq := p.dataq.erase x, replay := p.replay ++ [y], sent := some y,
              spent := p.spent.set x.vc ((p.spent.getD x.vc 0 + ceilDiv x.payload.length 16) % 2 ^ 32),
              sentAt := if p.replay.isEmpty then s.now else p.sentAt }
            .next ((s.setFld (PT_SEQ_TX.SEQ k) (seq + 1)).setPort k (noteStalls s p1))

/-- REPLAY_TIMEOUT (R467): paused during a re-striping (R476). -/
def execReplayTimeout (t : BitVec 3) (s : State) : Host.Outcome State Fault Refusal :=
  s.onBlock fun s =>
  let k := t.toNat
  if s.fld (PT_STAT.STATE k) = 5 ∧ (s.port k).replay.isEmpty = false then .next (replay k s) else .next s

/-- CREDIT_UPDATE_TIMER (R468). -/
def execCreditUpdateTimer (t : BitVec 3) (s : State) : Host.Outcome State Fault Refusal :=
  s.onBlock fun s =>
  if portUp s t.toNat then .next (sendCredit t.toNat s) else .next s

/-- CREDIT_STALL (R468): DATA has waited without credit for 10 ms. -/
def execCreditStall (t : BitVec 3) (_vc : BitVec 2) (s : State) : Host.Outcome State Fault Refusal :=
  s.onBlock fun s =>
  let k := t.toNat
  if portUp s k then .next ((s.setFlag (PT_ERR.CREDIT_STALL k) true).raise (733 + 8 * k)) else .next s

/-! ### PRBS and eye margins (R462, R487, R572) -/

/-- Measured eye margins of lanes; one below 16 raises event 1011 (R572). -/
def takeMargins (l : List (Nat × Nat)) (s : Block) : Block :=
  l.foldl (fun (a : Block) e =>
    let a1 := a.onLane e.1 (fun x => { x with margin := e.2 })
    if e.2 < 16 then a1.raise 1011 else a1) s

/-- EYE_SWEEP (R572): the lanes that have been out of service for at least 1 s take their margin. -/
def execEyeSweep (margins : List (BitVec 6 × Byte)) (s : State) : Host.Outcome State Fault Refusal :=
  s.onBlock fun s =>
  .next (takeMargins ((margins.map (fun e => (e.1.toNat, e.2.toNat))).filter (fun e =>
    decide (e.1 < 40) && !s.flag (LN_STAT.IN_SERVICE e.1) && decide (secT ≤ s.sinceT (s.lane e.1).outSince))) s)

/-- PRBS_PATTERN_RX (R462): `run` error-free bits lock the checker; once locked, `bits` are counted, `errs` of them wrong. -/
def execPrbsPatternRx (l : BitVec 6) (bits : BitVec 32) (errs : BitVec 32) (run : BitVec 32) (s : State) :
    Host.Outcome State Fault Refusal :=
  s.onBlock fun s =>
  let n := l.toNat
  if 40 ≤ n then .fault .noSuchLane
  else if !s.flag (LN_CTL.PRBS_RX n) || s.flag (LN_STAT.IN_SERVICE n) then .next s
  else
    let x := s.lane n
    let lock := s.flag (LN_STAT.PRBS_LOCK n) || decide (64 ≤ run.toNat)
    let s1 := s.setFlag (LN_STAT.PRBS_LOCK n) lock
    if !lock then .next s1
    else
      let e := satAdd (2 ^ 48 - 1) x.prbsErr errs.toNat
      let s2 := (s1.setLane n { x with prbsErr := e, prbsBits := satAdd (2 ^ 48 - 1) x.prbsBits bits.toNat }).setFld
        (LN_PRBS_ERR_LO.ERR n) e
      .next (if x.prbsErr = 0 ∧ 0 < e then s2.raise (610 + 3 * n) else s2)

/-- Latch the other three PRBS words (R462, R487). -/
def latchPrbs (n : Nat) (s : Block) : Block :=
  let x := s.lane n
  ((s.setFld (LN_PRBS_ERR_HI.ERR n) (x.prbsErr / 2 ^ 32)).setFld (LN_PRBS_BITS_LO.BITS n) x.prbsBits).setFld
    (LN_PRBS_BITS_HI.BITS n) (x.prbsBits / 2 ^ 32)

/-- LN_PRBS_ERR_LATCH (R487). -/
def execLnPrbsErrLatch (l : BitVec 6) (s : State) : Host.Outcome State Fault Refusal :=
  s.onBlock fun s =>
  if 40 ≤ l.toNat then .fault .noSuchLane else .next (latchPrbs l.toNat s)

/-- Does LN_CTL.SLIP act on lane `n` (R458, R486)? -/
def mayslip (s : Block) (n : Nat) : Bool := !s.flag (PT_CFG.AUTO_ALIGN (portOf n)) && !s.flag (LN_STAT.IN_SERVICE n)

/-! ### Lanes by command (R475, R482, R488) -/

/-- Write LANES_ALLOWED of port `t` from origin `o` (R475, R478, R482): lanes removed leave service by command; lanes
allowed again may come back by command. -/
def allowLanes (t mask o : Nat) (s : Block) : Block :=
  let m := mask % 2 ^ portWidth t
  let w := wsetField (s.reg (PT_CFG.addr t)) 0 8 m
  let s1 := if s.reg (PT_CFG.addr t) = w then s else (s.cairn o 0x0001 (PT_CFG.addr t) (s.reg (PT_CFG.addr t)) w).setReg (PT_CFG.addr t) w
  let now_ := s1.fld (PT_STAT.LANES_IN t)
  let s2 := (List.range (portWidth t)).foldl (fun (a : Block) i =>
    a.onLane (laneBase t + i) (fun x => { x with byCommand := if m.testBit i then false else x.byCommand || now_.testBit i })) s1
  let back := ((List.range (portWidth t)).filter (fun i => m.testBit i && !now_.testBit i &&
    s2.flag (LN_STAT.READY (laneBase t + i)) && (s.lane (laneBase t + i)).byCommand)).map (fun i => 2 ^ i)
  let set := (now_ &&& m) + back.sum
  if portUp s2 t && decide (set ≠ now_) then startRestripe t set o s2 else s2

/-- LK_GET_PORT (R488): the port's words and the LN_STAT of its lanes. -/
def execLkGetPort (q : Req) (s : State) : Host.Outcome State Fault Refusal :=
  s.onBlock fun s =>
  runReq 0x0900 0 68 q (fun _ => [shape q 4 [1, 2, 3], (decide (8 ≤ pByte q 0), stBadParam)])
    (fun a =>
      let t := pByte q 0
      a.reply q 0x0900 stOk (wordsFrom a (PT_CFG.addr t) 9 ++
        (List.range (portWidth t)).flatMap (fun i => wordBytes (a.reg (LN_STAT.addr (laneBase t + i)))))) s

/-- LK_RETRAIN (R488): DOWN with reason 0x02, then RECOVER; an open take that uses the port is closed first with FORCE. -/
def execLkRetrain (q : Req) (s : State) : Host.Outcome State Fault Refusal :=
  s.onBlock fun s =>
  let t := pByte q 0
  runReq 0x0901 2 0 q (fun a => [shape q 4 [1, 2, 3], (decide (8 ≤ t), stBadParam), (!portPowered a t, stNotPresent),
      (takeUses a t && !forced q, stRecording), (takeUses a t && a.rsv.closeOut.isSome, stBusy)])
    (fun a => if takeUses a t then forceClose 0x0901 q a
      else enterRecover t false (sendCtl t 2 2 0 (a.reply q 0x0901 stOk []))) s

/-- LK_SET_LANES (R475, R482, R488): with FORCE, a lane leaves service during the take under R476. -/
def execLkSetLanes (q : Req) (s : State) : Host.Outcome State Fault Refusal :=
  s.onBlock fun s =>
  let t := pByte q 0
  let m := pByte q 1 % 2 ^ portWidth t
  runReq 0x0902 2 4 q (fun a => [shape q 4 [2, 3], (decide (8 ≤ t) || decide (m = 0), stBadParam), (!portPowered a t, stNotPresent),
      (takeUses a t && decide (a.fld (PT_STAT.LANES_IN t) &&& m ≠ a.fld (PT_STAT.LANES_IN t)) && !forced q, stRecording)])
    (fun a =>
      let a1 := allowLanes t m (originOf q.carrier) a
      a1.reply q 0x0902 stOk (leBytes 1 (a1.fld (PT_STAT.LANES_IN t)) ++ zeros 3)) s

/-- LK_SLIP (R458, R488). -/
def execLkSlip (q : Req) (s : State) : Host.Outcome State Fault Refusal :=
  s.onBlock fun s =>
  let l := pByte q 0
  let k := pByte q 1
  runReq 0x0903 2 4 q (fun a => [shape q 4 [2, 3], (decide (40 ≤ l) || decide (k = 0) || decide (129 < k), stBadParam),
      (!portPowered a (portOf l), stNotPresent), (!mayslip a l, stBusy)])
    (fun a =>
      let a1 := slipLane l k a
      a1.reply q 0x0903 stOk (wordBytes (a1.reg (LN_STAT.addr l)))) s

/-- Set the PRBS generator and checker of lane `l` (R462): the checker locks afresh. -/
def setPrbs (l tx rx : Nat) (s : Block) : Block :=
  let was := s.flag (LN_CTL.PRBS_RX l)
  let s1 := (s.setFld (LN_CTL.PRBS_TX l) tx).setFld (LN_CTL.PRBS_RX l) rx
  if rx = 1 ∧ was = false then s1.setFlag (LN_STAT.PRBS_LOCK l) false
  else if rx = 0 then s1.setFlag (LN_STAT.PRBS_LOCK l) false else s1

/-- LK_PRBS (R462, R488). -/
def execLkPrbs (q : Req) (s : State) : Host.Outcome State Fault Refusal :=
  s.onBlock fun s =>
  let l := pByte q 0
  let act := pByte q 1
  runReq 0x0904 2 0 q (fun a => [shape q 4 [2, 3], (decide (40 ≤ l) || decide (3 < act), stBadParam),
      (!portPowered a (portOf l), stNotPresent), (a.flag (LN_STAT.IN_SERVICE l), stBusy)])
    (fun a => (setPrbs l (act % 2) (act / 2) a).reply q 0x0904 stOk []) s

/-- LK_PRBS_READ (R488). -/
def execLkPrbsRead (q : Req) (s : State) : Host.Outcome State Fault Refusal :=
  s.onBlock fun s =>
  let l := pByte q 0
  runReq 0x0905 0 16 q (fun a => [shape q 4 [2, 3], (decide (40 ≤ l) || decide (1 < pByte q 1), stBadParam),
      (!portPowered a (portOf l), stNotPresent)])
    (fun a =>
      let x := a.lane l
      let a1 := if pByte q 1 = 1 then (a.setLane l { x with prbsErr := 0, prbsBits := 0 }).setFld (LN_PRBS_ERR_LO.ERR l) 0 else a
      a1.reply q 0x0905 stOk (leBytes 8 x.prbsErr ++ leBytes 8 x.prbsBits)) s

/-- LN_SLIP_WRITE (R458, R486): one slip; ignored unless AUTO_ALIGN is 0 and the lane is out of service. -/
def execLnSlipWrite (_c : Carrier) (l : BitVec 6) (s : State) : Host.Outcome State Fault Refusal :=
  s.onBlock fun s =>
  let n := l.toNat
  if 40 ≤ n then .fault .noSuchLane
  else .next (if mayslip s n then slipLane n 1 s else s)

end Sys2Proof.Machine
end

