-- ==== Sys2Proof/Machine/Pixel.lean ====
section
/-! DEFINITION. The unit converters (R173 to R182), node charge and course pairs (R156, R159), and the calibration
table, ratio epochs and defect list (R183 to R195). -/

namespace Sys2Proof.Machine

/-! ### Calibration entries (R185, R186) -/

/-- Frames that have not been corrected keep the entry that was in force for them (R186). -/
def keepOld (u : Nat) (old : BitVec 64) (s : Block) : Block :=
  let open_ (f : FrameRec) : Bool := match s.ingest? f.num with | some g => g.whole.isNone | none => decide (s.ft.frames.head?.map (fun h => h.num) = some f.num) || f.last.isNone
  { s with ft := { s.ft with frames := s.ft.frames.map (fun f =>
      if open_ f && !smHas f.calOld u then { f with calOld := smPut f.calOld u old } else f) } }

/-- Change an entry of the working copy: in force from the next FCP, or at once while no schedule runs (R186, R191). -/
def setEntry (u : Nat) (e : BitVec 64) (s : Block) : Block :=
  let old := s.calEntry u
  let s1 := if s.running then
      (if smHas s.cal.held u then s else { s with cal := { s.cal with held := smPut s.cal.held u old } })
    else keepOld u (smGet old s.cal.held u) s
  { s1 with cal := { s1.cal with entries := smPut s1.cal.entries u e, pendBg := smDel s1.cal.pendBg u } }

/-- At FCP the entries that waited come into force, and those of background calibration enter the working copy (R186). -/
def commitCal (s : Block) : Block :=
  let s1 := s.cal.held.foldl (fun t h => keepOld h.1 h.2 t) s
  let s2 := { s1 with cal := { s1.cal with held := [], defectsInForce := s1.cal.defects } }
  let s3 := s2.cal.pendBg.foldl (fun t h =>
    let t1 := keepOld h.1 (t.calEntry h.1) t
    { t1 with cal := { t1.cal with entries := smPut t1.cal.entries h.1 h.2 } }) s2
  { s3 with cal := { s3.cal with pendBg := [] } }

/-- RATIO of an entry (R188), and of unit `u` in the epoch in force (R185). -/
def ratioOf (e : BitVec 64) : Nat := bitsOf e.toNat 44 12
def epochRatio (s : Block) (u : Nat) : Nat := smGet (ratioOf (Config.calFactory u)) s.cal.epoch u

/-- Does some active unit's RATIO differ by 2 codes or more from the epoch in force (R185)? -/
def epochMoved (s : Block) : Bool :=
  s.cal.entries.any (fun e => unitActive e.1 && decide (2 ≤ max (ratioOf e.2) (epochRatio s e.1) - min (ratioOf e.2) (epochRatio s e.1)))

/-- Commit a new ratio epoch; while a take is open its table goes into the take's metadata (R185). -/
def commitEpoch (origin : Nat) (s : Block) : Block :=
  let old := s.fld CNV_STAT.EPOCH
  let new := (old + 1) % 65536
  let ep := s.cal.entries.foldl (fun m e => smPut m e.1 (ratioOf e.2)) s.cal.epoch
  let s1 := ({ s with cal := { s.cal with epoch := ep, lastCommit := s.now, passDone := false } }).setFld CNV_STAT.EPOCH new
  let s2 := s1.cairnN origin 0x0301 0x20C old new
  takeMeta 2 (epochBody s2) s2

/-- The epoch that a completed pass calls for, committed at an FCP; at most once every 10 s in a take (R185). A pass that moved no
RATIO by 2 codes calls for none. -/
def epochAtFcp (s : Block) : Block :=
  if s.pwr.coreDown || !s.cal.passDone then s
  else if !epochMoved s then { s with cal := { s.cal with passDone := false } }
  else if !s.takeOpen || decide (10 * secT ≤ s.sinceT s.cal.lastCommit) then commitEpoch (oPolicy 0x302) (s.policy 0x302)
  else s

/-! ### The defect list (R191, R192) -/

/-- UNIT, PIX, KIND of a defect entry (R191). -/
def dUnit (w : Word) : Nat := wfield w 0 22
def dPix (w : Word) : Nat := wfield w 22 6
def dKind (w : Word) : Nat := wfield w 28 2

/-- Insert in the order of R191: by U, then by p. -/
def defectInsert (w : Word) : List Word → List Word
  | [] => [w]
  | d :: t => if dUnit w * 64 + dPix w < dUnit d * 64 + dPix d then w :: d :: t else d :: defectInsert w t

/-- The working copy of the defect list changes: in force from the next FCP, or at once while no schedule runs; stored
unless the stored list is full (R191, R192). -/
def setDefects (l : List Word) (store : Bool) (s : Block) : Block :=
  let s1 := { s with cal := { s.cal with defects := l, defectsInForce := if s.running then s.cal.defectsInForce else l } }
  if store then { s1 with cal := { s1.cal with defectsStored := l, defectStores := s1.cal.defectStores + 1 } }
  else s1.setFlag CNV_STAT.LIST_FULL true

/-- Add a defect entry (R191, R192). -/
def addDefect (w : Word) (s : Block) : Block :=
  setDefects (defectInsert w s.cal.defects) (decide (s.cal.defects.length < 131056)) s

/-- Is the unit's whole-unit entry on the list? -/
def wholeListed (s : Block) (u : Nat) : Bool := s.cal.defects.any (fun d => decide (dUnit d = u) && decide (dKind d = 3))

/-- Retire a unit: UNIT_BAD, a whole-unit entry, event 3c + 2, a UNIT_RETIRED cairn (R176, R193). -/
def retireUnit (u cause origin : Nat) (s : Block) : Block :=
  if (s.calEntry u).getLsbD 63 then s
  else
    let s1 := setEntry u (s.calEntry u ||| (0xC000000000000000 : BitVec 64)) s
    let s2 := if wholeListed s1 u then s1 else addDefect (BitVec.ofNat 32 (u + 3 * 2 ^ 28 + 2 * 2 ^ 30)) s1
    let s3 := s2.raise (3 * clusterOf u + 2)
    let s4 := if origin = oPolicy 0x303 then s3.policy 0x303 else s3
    s4.cairnN origin 0x0302 u 0 cause

/-! ### Nodes and course pairs (R156, R159) -/

/-- Has course pair `p` of cluster `c` anything to convert in frame `f` (R231, R232)? -/
def pairPlanned (f : FrameRec) (c p : Nat) : Bool :=
  if 64 ≤ p then decide (c / 16 = 7)
  else decide (c % 16 = 0) || decide (c % 16 = 15) ||
    f.wins.any (fun w => decide (w.u0 ≤ c % 16 * 144 + 143) && decide (c % 16 * 144 ≤ w.u1) &&
      decide (w.v0 ≤ c / 16 * 128 + 2 * p + 1) && decide (c / 16 * 128 + 2 * p ≤ w.v1))

/-- Course pairs of cluster `c`: its 64, and the top optical-black ones in cluster row 7 (R15, R17). -/
def clusterPairs (c : Nat) : List Nat := List.range (if c / 16 = 7 then 72 else 64)

/-- Key of a converted node. -/
def nodeKey (c p : Nat) (node : Bool) : Nat := (c * 128 + p) * 2 + b2n node

/-- Has the node of a course pair been converted or flushed for frame `n`? -/
def nodeDone (s : Block) (c p : Nat) (node : Bool) (n : Nat) : Bool :=
  s.eng.convDone.any (fun e => decide (e.1 = nodeKey c p node) && decide (e.2 = n))

/-- Clusters whose `node` holds unconverted charge, with its frame (R156). -/
def busyOf (s : Block) (node : Bool) : List (Nat × Nat) := if node then s.pix.busyB else s.pix.busyA

def setBusy (node : Bool) (l : List (Nat × Nat)) (s : Block) : Block :=
  { s with pix := if node then { s.pix with busyB := l } else { s.pix with busyA := l } }

/-- Note a node converted or flushed for frame `n`; when every planned pair of the cluster is, the cluster's node is free
(R156). -/
def markConverted (c p : Nat) (node : Bool) (n : Nat) (s : Block) : Block :=
  let s1 := if nodeDone s c p node n then s
    else { s with eng := { s.eng with convDone := (nodeKey c p node, n) :: s.eng.convDone } }
  match s1.frame? n with
  | none => s1
  | some f =>
    if (clusterPairs c).all (fun q => !pairPlanned f c q || nodeDone s1 c q node n) then
      setBusy node ((busyOf s1 node).filter (fun e => decide (e ≠ (c, n)))) s1
    else s1

/-! ### Pixel words (R174, R177 to R182) -/

/-- The switch threshold T_u (R179). -/
def threshold (f : FrameRec) (e : BitVec 64) : Nat :=
  let g := (2048 + sgn 9 (bitsOf e.toNat 26 9)).toNat
  (bitsOf e.toNat 0 13 * g + 4 * f.fld CNV_THRESH.LEVEL * 2048) / (4 * g)

/-- The gain mode of an action: GAIN of its STROBE, or CNV_CFG.GAIN_MODE (R178, R220). -/
def Action.mode (a : Action) (f : FrameRec) : Nat := if a.gain = 0 then f.gain else a.gain

/-- Sun protection acts on a sample (R169). -/
def sunActs (f : FrameRec) (x : Sample) : Bool :=
  decide (f.fld PIX_CFG.SUN_PROT = 1) && decide (max 0x0A (f.fld PIX_CFG.SUN_THRESH) < x.sag.toNat)

/-- The pixel word of a sample, and whether the pixel is saturated (R169, R174, R178, R180). -/
def pixelWord (f : FrameRec) (mode tu : Nat) (x : Sample) : Nat × Bool :=
  let gf := if mode = 0 then 16384 else 0
  if sunActs f x then (gf + 16383, true)
  else if mode = 0 then
    if tu < x.h.toNat then (16384 + x.l.toNat, decide (x.l.toNat = 16383)) else (x.h.toNat, decide (x.h.toNat = 16383))
  else if mode = 1 then (x.h.toNat, decide (x.h.toNat = 16383))
  else (x.l.toNat, decide (x.l.toNat = 16383))

/-- The no-conversion marker (R174). -/
def noConv : Nat := 16384

/-- Pixels of output `i` of a binned unit (R181). -/
def binPixels (bin i : Nat) : List Nat :=
  if bin = 1 then
    let x := 4 * (i % 4 / 2) + i % 4 % 2
    let y := 4 * (i / 4 / 2) + i / 4 % 2
    [y * 8 + x, y * 8 + x + 2, (y + 2) * 8 + x, (y + 2) * 8 + x + 2]
  else (List.range 16).map (fun k => (i / 2 + 2 * (k / 4)) * 8 + i % 2 + 2 * (k % 4))

/-- What a unit hands on for its 64 pixel words (R181, R182): the words, or the binned outputs. -/
def unitOutputs (f : FrameRec) (u : Nat) (l : List (Nat × Bool)) : List Nat :=
  if f.bin = 0 then l.map (fun w => w.1)
  else
    let marker := l.any (fun w => decide (w.1 = noConv))
    (List.range (binEdge f.bin * binEdge f.bin)).map (fun i =>
      let ps := (binPixels f.bin i).filter (fun p => !onList f.defects false u p)
      let ws := ps.map (fun p => l.getD p (noConv, false))
      if marker || ps.isEmpty then noConv
      else if ws.any (fun w => w.2) then 16383
      else min 16383 ((2 * (ws.map (fun w => w.1)).sum + ws.length) / (2 * ws.length)))

/-- A unit's node is converted: its words wait in a buffer half, its saturated pixels are counted (R175, R180). -/
def bufferUnit (f : FrameRec) (a : Action) (u : Nat) (l : List (Nat × Bool)) (s : Block) : Block :=
  let sat := (l.filter (fun w => w.2)).length
  { s with pix := { s.pix with bufs := s.pix.bufs ++ [⟨u, a.node, f.num % 65536, unitOutputs f u l, sat⟩] } }

/-- Per-unit saturation counts of an action, for SATC: the first course's 144 active units, then the second's (R234). -/
def satcBytes (a : Action) : List Byte :=
  if 64 ≤ a.pair then []
  else (pairCourses a.cluster a.pair).flatMap (fun q =>
    (List.range 144).map (fun x => BitVec.ofNat 8 (smGet 0 a.sats (unitAt (a.cluster % 16 * 144 + x + 32) q))))

/-- An action ends (R230): DONE returns, and a node conversion or flush is noted. -/
def endAction (a : Action) (s : Block) : Block :=
  let prev := lastAction s a.cluster a.pair
  let kept := match prev with | some p => p.sats | none => []
  let a1 := if a.action = 0 ∧ a.gated = false ∧ a.dup = false then a else { a with sats := kept }
  let same (b : Action) : Bool := decide (b.cluster = a.cluster) && decide (b.pair = a.pair)
  let s1 := { s with eng := { s.eng with
    actions := s.eng.actions.filter (fun b => !same b), converted := a1 :: s.eng.converted.filter (fun b => !same b) } }
  let s2 := if a.action = 0 then
      (s1.onChan (a.chan / 128) (a.chan % 128) (fun c => if a.gated || a.dup then c else { c with satc := satcBytes a }))
    else s1
  if a.action = 0 then (if a.dup then s2 else markConverted a.cluster a.pair a.node a.frame s2)
  else if a.action = 2 then
    [false, true].foldl (fun t nd =>
      match (busyOf t nd).find? (fun e => decide (e.1 = a.cluster)) with
      | some e => markConverted a.cluster a.pair nd e.2 t
      | none => markConverted a.cluster a.pair nd a.frame t) s2
  else s2

/-- A unit leaves an action; with none left the action ends. -/
def unitEnded (a : Action) (u sat : Nat) (tmo : Bool) (s : Block) : Block :=
  let a1 := { a with left := a.left.filter (fun x => decide (x ≠ u)), tmo := a.tmo || tmo, sats := smSet 0 a.sats u sat }
  if a1.left.isEmpty then endAction a1 s
  else { s with eng := { s.eng with
    actions := s.eng.actions.map (fun b => if decide (b.cluster = a.cluster) && decide (b.pair = a.pair) then a1 else b) } }

/-- The conversion in progress on a unit's node. -/
def convOf (s : Block) (u : Nat) (node : Bool) : Option Action :=
  s.eng.actions.find? (fun a => decide (a.action = 0) && (a.node == node) && a.left.contains u)

/-- CNV_RTIME: the slowest node conversion of the last frame (R177, R202). -/
def noteTime (r n t : Nat) (s : Block) : Block :=
  let (k, m) := smGet (n, 0) s.cal.slow r
  if k = n then { s with cal := { s.cal with slow := smPut s.cal.slow r (n, max m t) } }
  else
    let s1 := { s with
      cal := { s.cal with slow := smPut s.cal.slow r (n, t) },
      th := { s.th with slowHour := smSet 0 s.th.slowHour r (max (smGet 0 s.th.slowHour r) (min 65535 m)) } }
    s1.setFld (CNV_RTIME.SLOW_NODE r) (min 65535 m)

/-- Sun protection acted in region `r`: event 417 + 16r once per frame (R169). -/
def sunEvent (r n : Nat) (s : Block) : Block :=
  let k := n * 8 + r
  if s.pix.sunRaised.contains k then s
  else
    let l := s.pix.sunRaised.filter (fun j => decide (n < j / 8 + 8))
    ({ s with pix := { s.pix with sunRaised := k :: l } }).raise (417 + 16 * r)

/-- Free pixel words: the self-test pattern, which the spec does not state (R229). -/
def patternWords : Nat → Nat → List (Nat × Bool)
  | 0, _ => []
  | n + 1, k => ((Config.freeWord k).toNat % 32768, false) :: patternWords n (k + 1)

/-- NODE_CONVERSION_DONE (R173): a unit's node is converted within its slot times; `ns` is its time, `px` what each of
its 64 pixels gives. -/
def execNodeConversionDone (u : BitVec 22) (nodeB : Bool) (ns : BitVec 18) (px : List Sample) (s : State) :
    Host.Outcome State Fault Refusal :=
  s.onBlock fun s =>
  if 2462720 ≤ u.toNat then .fault .noSuchUnit
  else
    match convOf s u.toNat nodeB with
    | none => .next s
    | some a =>
      match s.frame? a.frame with
      | none => .next s
      | some f =>
        if px.length ≠ 64 then .next s
        else
          let r := regionOf a.cluster
          let tu := threshold f (calFor s f u.toNat)
          let s0 := if a.test then { s with free := s.free + 64 } else s
          let l := if a.test then patternWords 64 s.free else px.map (pixelWord f (a.mode f) tu)
          let sun := !a.test && px.any (sunActs f)
          let sat := (l.filter (fun w => w.2)).length
          let s1 := noteTime r f.num ((ns.toNat + 9) / 10) (bufferUnit f a u.toNat l s0)
          let s2 := withEdges (unitEnded a u.toNat sat false) s1
          .next (if sun then sunEvent r f.num s2 else s2)

/-- UNIT_TIMEOUT (R176): a unit not done after 200 µs is stopped, its unfinished words take the marker, the node is handed
on, and the unit is retired. `px` is what it had converted. -/
def execUnitTimeout (u : BitVec 22) (nodeB : Bool) (px : List Sample) (s : State) : Host.Outcome State Fault Refusal :=
  s.onBlock fun s =>
  if 2462720 ≤ u.toNat then .fault .noSuchUnit
  else
    match convOf s u.toNat nodeB with
    | none => .next s
    | some a =>
      match s.frame? a.frame with
      | none => .next s
      | some f =>
        let tu := threshold f (calFor s f u.toNat)
        let done := (px.take 63).map (pixelWord f (a.mode f) tu)
        let l := done ++ List.replicate (64 - done.length) (noConv, false)
        let sat := (l.filter (fun w => w.2)).length
        let sun := (px.take 63).any (sunActs f)
        let s1 := { (bufferUnit f a u.toNat l s) with cal := { s.cal with stoppedUnits := u.toNat :: s.cal.stoppedUnits } }
        let s2 := withEdges (unitEnded a u.toNat sat true) s1
        let s3 := if sun then sunEvent (regionOf a.cluster) f.num s2 else s2
        .next (retireUnit u.toNat 1 (oPolicy 0x303) s3)

/-! ### Background calibration (R193, R194) -/

/-- Course pairs of region `r` that a pass visits: cluster × 128 + pair. -/
def regionPairs (r : Nat) : List Nat := (clustersOf r).flatMap (fun c => (clusterPairs c).map (fun p => c * 128 + p))

/-- A quotient in entry codes whose rounding the spec does not give: its floor, or one more when it is not whole, by a
free bit (R193). -/
def divFree (a : Int) (n : Nat) (bit : Bool) : Int := a / (n : Int) + (if a % (n : Int) ≠ 0 ∧ bit = true then 1 else 0)

/-- Replace field [lo + width − 1 : lo] of an entry. -/
def entryField (e : BitVec 64) (lo width v : Nat) : BitVec 64 :=
  BitVec.ofNat 64 (e.toNat - bitsOf e.toNat lo width * 2 ^ lo + v % 2 ^ width * 2 ^ lo)

/-- A measurement is outside the limits of R193.6. -/
def measBad (e m : BitVec 64) : Bool :=
  let d (lo w : Nat) : Nat := max (bitsOf e.toNat lo w) (bitsOf m.toNat lo w) - min (bitsOf e.toNat lo w) (bitsOf m.toNat lo w)
  decide (256 < d 0 13) || decide (256 < d 13 13) || decide (3 * (8192 + ratioOf e) < 100 * d 44 12)

/-- The entry after one measurement (R193.5). -/
def tracked (e m : BitVec 64) (w : Word) : BitVec 64 :=
  let step (lo wd n : Nat) (b : Bool) : Nat :=
    let o : Int := bitsOf e.toNat lo wd
    (o + divFree ((bitsOf m.toNat lo wd : Int) - o) n b).toNat
  let e1 := entryField e 0 13 (step 0 13 8 (w.getLsbD 0))
  let e2 := entryField e1 13 13 (step 13 13 8 (w.getLsbD 1))
  let e3 := entryField e2 44 12 (step 44 12 16 (w.getLsbD 2))
  entryField e3 56 6 (bitsOf m.toNat 56 6)

/-- A tracked entry waits for the next FCP, or enters at once while no schedule runs (R186). -/
def setTracked (u : Nat) (e : BitVec 64) (s : Block) : Block :=
  if s.running then { s with cal := { s.cal with pendBg := smPut s.cal.pendBg u e } } else setEntry u e s

/-- One unit's measurement of a visit (R193, R194). -/
def visitUnit (ofs : Bool) (s : Block) (um : Nat × BitVec 64) : Block :=
  let (u, m) := um
  let e := smGet (s.calEntry u) s.cal.pendBg u
  if e.getLsbD 63 then s
  else if ofs then setTracked u (entryField (entryField e 0 13 (bitsOf m.toNat 0 13)) 13 13 (bitsOf m.toNat 13 13)) s
  else if measBad e m then
    let n := smGet 0 s.cal.badStreak u + 1
    let s1 := { s with cal := { s.cal with badStreak := smPut s.cal.badStreak u n } }
    if 3 ≤ n then retireUnit u 2 (oPolicy 0x303) s1 else s1
  else
    let s1 := setTracked u (tracked e m s.drawn) s.draw
    { s1 with cal := { s1.cal with badStreak := smDel s1.cal.badStreak u } }

/-- A visit of a course pair counts towards its region's pass, or towards its settling pass (R193.7, R194). -/
def visitCounted (r key : Nat) (ofs : Bool) (s : Block) : Block :=
  if ofs then
    let l := smGet [] s.cal.settling r
    let l1 := if l.contains key then l else key :: l
    let left := if (regionPairs r).length ≤ l1.length then smDel s.cal.settling r else smPut s.cal.settling r l1
    { s with cal := { s.cal with settling := left } }
  else
    let v := if s.cal.visited.contains key then s.cal.visited else key :: s.cal.visited
    let mine := v.filter (fun k => decide (regionOf (k / 128) = r))
    if (regionPairs r).length ≤ mine.length then
      ({ s with cal := { s.cal with visited := v.filter (fun k => decide (regionOf (k / 128) ≠ r)), passDone := true } }).incFld
        (CNV_RSTAT.PASSES r) 1
    else { s with cal := { s.cal with visited := v } }

/-- CAL_VISIT_DONE (R193): a visit ends; each unit's measurement updates its entry, or is discarded. -/
def execCalVisitDone (c : BitVec 7) (pair : BitVec 7) (meas : List (BitVec 22 × BitVec 64)) (s : State) :
    Host.Outcome State Fault Refusal :=
  s.onBlock fun s =>
  match actionOn s c.toNat pair.toNat with
  | some a =>
    if a.action = 1 then
      let l := (meas.map (fun m => (m.1.toNat, m.2))).filter (fun m => a.units.contains m.1)
      let s1 := l.foldl (visitUnit a.ofs) (withEdges (endAction a) s)
      let s2 := visitCounted (regionOf c.toNat) (c.toNat * 128 + pair.toNat) a.ofs s1
      .next (if s2.running then s2 else epochAtFcp s2)
    else .next s
  | none => .next s

/-- BGCAL_PASS_LATE (R193.7): a region without a completed pass within 4 × INTERVAL. -/
def execBgcalPassLate (r : BitVec 3) (s : State) : Host.Outcome State Fault Refusal :=
  s.onBlock fun s =>
  let since := smGet 0 s.cal.passStart r.toNat
  if s.flag CNV_CFG.BGCAL_EN && decide (4 * s.fld CNV_BGCAL.INTERVAL * msT ≤ s.sinceT since) then
    .next ((s.setFlag CNV_STAT.PASS_LATE true).raise (419 + 16 * r.toNat))
  else .next s

/-- CAL_WRITEBACK (R190): the blocks whose entries have changed are written to NVM; one cairn. -/
def execCalWriteback (s : State) : Host.Outcome State Fault Refusal :=
  s.onBlock fun s =>
  if s.pwr.coreDown then .next s else
  if s.rsv.closeOut.isSome then .next s
  else
    let changed := (s.cal.entries.filter (fun e => !s.cal.stored.any (fun o => decide (o = e)))).map (fun e => e.1 / 4096)
    let blocks := changed.eraseDups.length
    let s1 := { s with cal := { s.cal with stored := s.cal.entries, writtenEpoch := s.fld CNV_STAT.EPOCH } }
    .next (s1.policyCairn 0x304 0x0306 0 0 blocks)

/-- CAL_PACKET_RX (R361, R364): a packet among a frame's courses is discarded and counted; between frames it is taken (its
results are those of CAL_VISIT_DONE). -/
def execCalPacketRx (r : BitVec 3) (_hdr : BitVec 64) (_c : BitVec 7) (_pair : BitVec 7)
    (_meas : List (BitVec 22 × BitVec 64)) (s : State) : Host.Outcome State Fault Refusal :=
  s.onBlock fun s =>
  match s.rcd.openFrame.find? (fun e => decide (e.1 = r.toNat)) with
  | some (_, n) => .next (dropSegment (some n) r.toNat s)
  | none => .next s

end Sys2Proof.Machine
end

