-- ==== Sys2Proof/Machine/Engines.lean ====
section
/-! DEFINITION. Masons and pin engines (R206 to R228, R236 to R240): the scheduler, the instructions, queues and sinks,
waits and delays, pins, program errors and swaps. -/

namespace Sys2Proof.Machine

/-! ### The scheduler (R208, R243) -/

/-- Channels of an engine's own group. -/
def ownChans (e : Nat) : Nat := if e < 128 then 64 else 16

/-- The turn of engine `e`; before its first, channel 0 is next. -/
def turnOf (s : Block) (e : Nat) : Turn := smGet ⟨0, 0, false, ownChans e - 1, 127⟩ s.eng.turns e

/-- Set a turn. -/
def setTurn (e : Nat) (t : Turn) (s : Block) : Block := { s with eng := { s.eng with turns := smPut s.eng.turns e t } }

/-- Is the channel ready (R208)? -/
def chanReady (s : Block) (e ch : Nat) : Bool := s.chanOn e ch && decide ((s.chan e ch).state = 0)

/-- The first ready channel of a group of `n` from base `b`, after channel `last`, wrapping. -/
def nextReady (s : Block) (e b n last : Nat) : Option Nat :=
  ((List.range n).map (fun i => b + (last - b + 1 + i) % n)).find? (chanReady s e)

/-- The channel that engine `e` runs next (R208): the one that holds it, else the next ready one; while it serves a
partner, turns alternate between the two groups (R243). -/
def scheduled (s : Block) (e : Nat) : Option Nat :=
  let t := turnOf s e
  if t.holds && chanReady s e t.chan && decide (t.count < s.fld (ENG_CTL.QUANTUM e)) then some t.chan
  else
    let own := nextReady s e 0 (ownChans e) t.lastOwn
    let ad := if s.flag (ENG_STAT.SERVING e) && decide (e < 128) then nextReady s e 64 64 t.lastAdopted else none
    match own, ad with
    | some a, some b => if 64 ≤ t.chan then some a else some b
    | some a, none => some a
    | none, b => b

/-- Channel `ch` runs one more instruction. -/
def takeTurn (e ch : Nat) (s : Block) : Block :=
  let t := turnOf s e
  let n := if t.holds ∧ t.chan = ch ∧ t.count < s.fld (ENG_CTL.QUANTUM e) then t.count + 1 else 1
  setTurn e ⟨ch, n, true, if ch < 64 then ch else t.lastOwn, if 64 ≤ ch then ch else t.lastAdopted⟩ s

/-- The running channel gives up the engine (R208). -/
def giveUp (e : Nat) (s : Block) : Block := setTurn e { turnOf s e with holds := false } s

/-! ### Events and program errors (R240, R255) -/

/-- The engine's notice event (R255). -/
def engNotice (e : Nat) (s : Block) : Block := s.raise (engNoticeEvt e)

/-- A program error stops its channel in ERROR (R240). -/
def progErr (code e ch : Nat) (s : Block) : Block :=
  let c := s.chan e ch
  let s1 := giveUp e (s.setChan e ch { c with state := 6 })
  let s2 := ((s1.setFld (ENG_ERRINFO.PC e) c.pc).setFld (ENG_ERRINFO.CHAN e) ch).setFld (ENG_ERRINFO.CODE e) code
  (engNotice e (s2.setFlag (ENG_ERR.PROG_ERR e) true)).cairnN oFirmware 0x0406 (engBase e) (ch * 65536 + c.pc) code

/-- The instruction word at `pc` of the active bank (R237, R251). -/
def fetchInstr (s : Block) (e pc : Nat) : Word := s.reg (engBase e + 0x4000 + 4 * pc)

/-- A stop asked for takes effect at the instruction boundary (R254). -/
def boundary (e ch : Nat) (s : Block) : Block :=
  let c := s.chan e ch
  if c.stopReq && decide (c.state = 0) then giveUp e (s.setChan e ch c.wake) else s

/-- One instruction of channel `ch` of engine `e` with opcode `op` (R208, R209): run when the engine is RUNNING, the
scheduler has chosen the channel and the word at its PC has that opcode. A word of an undefined opcode is a program
error. The body gets the word, the context with PC advanced, and the state. -/
def runInstr (op e ch : Nat) (body : Word → Chan → Block → Block) (s : Block) : Host.Outcome Block Fault Refusal :=
  if 144 ≤ e ∨ (128 ≤ e ∧ 16 ≤ ch) then .fault .noSuchEngine
  else if s.fld (ENG_STAT.STATE e) ≠ 1 ∨ scheduled s e ≠ some ch then .next s
  else
    let c := s.chan e ch
    let w := fetchInstr s e c.pc
    let opc := wfield w 28 4
    if 14 ≤ opc then .next (progErr 1 e ch (takeTurn e ch s))
    else if opc ≠ op then .next s
    else .next (boundary e ch (body w { c with pc := (c.pc + 1) % 1024 } (takeTurn e ch s)))

/-! ### Queues (R226, R227) -/

/-- Depths of a channel's in-queue and out-queue (R226). -/
def queueDepths (s : Block) (e ch : Nat) : Nat × Nat :=
  let x := s.cfgEng e ch
  let k := ch % 64
  let mode := s.fld (CH_CFG.QMODE x k)
  let even := if k % 2 = 1 then s.fld (CH_CFG.QMODE x (k - 1)) else 0
  if even = 3 ∨ even = 4 then (0, 0)
  else if mode = 0 then (4, 4)
  else if mode = 1 then (8, 0)
  else if mode = 2 then (0, 8)
  else if mode = 3 ∧ k % 2 = 0 then (16, 0)
  else if mode = 4 ∧ k % 2 = 0 then (0, 16)
  else (0, 0)

/-- Dispatcher words that wait move into the in-queue while there is room (R227). -/
def Chan.flow (depth : Nat) (c : Chan) : Chan :=
  let n := min c.backlog.length (depth - c.inq.length)
  { c with inq := c.inq ++ c.backlog.take n, backlog := c.backlog.drop n }

/-- Words of the dispatcher enter a channel's in-queue, waiting when it is full (R227). -/
def dispatch (e ch : Nat) (l : List Word) (s : Block) : Block :=
  s.onChan e ch (fun c => ({ c with backlog := c.backlog ++ l } : Chan).flow (queueDepths s e ch).1)

/-- A word is posted into an in-queue by a compare channel or a command; when it is full the word is dropped and counted
(R227). -/
def postWord (e ch : Nat) (w : Word) (s : Block) : Bool × Block :=
  let c := s.chan e ch
  if c.inq.length < (queueDepths s e ch).1 then (true, s.setChan e ch { c with inq := c.inq ++ [w] })
  else (false, engNotice e ((s.incFld (ENG_QDROP.COUNT e) 1).setFlag (ENG_ERR.QDROP e) true))

/-- The dispatcher's record of a word that the converter die never sees ends when the channel takes it: SWAPPT, or a START
with SKIP (R232). -/
def wordTaken (e ch : Nat) (w : Word) (s : Block) : Block :=
  let c := s.cfgEng e ch
  if wfield w 28 4 = 1 ∧ w.getLsbD 26 = true then
    match s.eng.posted.find? (fun p => decide (p.cluster = c) && decide (p.chan = ch % 64) && decide (p.word = w)) with
    | some p => { s with eng := { s.eng with posted := s.eng.posted.erase p } }
    | none => s
  else s

/-- Take the oldest word of the in-queue. -/
def pullWord (e ch : Nat) (c : Chan) (s : Block) : Option (Word × Chan × Block) :=
  match c.inq with
  | [] => none
  | w :: t => some (w, ({ c with inq := t } : Chan).flow (queueDepths s e ch).1, wordTaken e ch w s)

/-! ### Sinks (R228) -/

/-- A COMMAND sink's words make one request, submitted once 8 + PLEN bytes are there (R228). -/
def cmdWhole (b : List Byte) : Bool := decide (8 ≤ b.length) && decide (8 + leAt b 4 2 ≤ b.length)

/-- Submit the request that a COMMAND sink has gathered, if the executor takes it (R76, R228). -/
def cmdSubmit (e ch : Nat) (s : Block) : Block :=
  let key := chanKey e ch
  let b := smGet [] s.eng.cmdBuf key
  let c := Carrier.pin (BitVec.ofNat 4 (e - 128)) (BitVec.ofNat 5 (s.fld (CH_CFG.CMD_PIN e ch)))
  if cmdWhole b && decide (s.outstanding c < queueLimit c) then
    let (op, q) := parseReq c (b.take (8 + leAt b 4 2))
    acceptReq op q { s with eng := { s.eng with cmdBuf := smDel s.eng.cmdBuf key } }
  else s

/-- The COMMAND sink takes words of the out-queue until a request is whole and cannot be submitted. -/
def cmdDrain : Nat → Nat → Nat → Block → Block
  | 0, _, _, s => s
  | fuel + 1, e, ch, s =>
    let s1 := cmdSubmit e ch s
    let key := chanKey e ch
    let b := smGet [] s1.eng.cmdBuf key
    let c := s1.chan e ch
    match c.outq with
    | [] => s1
    | w :: t =>
      if cmdWhole b then s1
      else
        let s2 := s1.setChan e ch { c with outq := t }
        cmdDrain fuel e ch { s2 with eng := { s2.eng with cmdBuf := smPut s2.eng.cmdBuf key (b ++ wordBytes w) } }

/-- A word reaches a sink that never makes PUSH stall (R228). -/
def sinkWord (sink e ch : Nat) (w : Word) (s : Block) : Block :=
  if sink = 1 ∧ e < 128 then statWord e ch w s
  else if sink = 2 then recordWord e ch w s
  else if (sink = 3 ∨ sink = 5) ∧ 128 ≤ e then { s with eng := { s.eng with sunk := s.eng.sunk ++ [⟨sink, e, ch, w⟩] } }
  else s

/-- The consumer of a sink takes its oldest word. -/
def popSunk (sink : Nat) (s : Block) : Block :=
  match s.eng.sunk.find? (fun k => decide (k.sink = sink)) with
  | some k => { s with eng := { s.eng with sunk := s.eng.sunk.erase k } }
  | none => s

/-- Place a word on the out-queue for its sink; none when that stalls (R214, R228). The channel `c` becomes the present
context. -/
def pushWord (e ch : Nat) (w : Word) (c : Chan) (s : Block) : Option Block :=
  let sink := s.fld (CH_CFG.QSINK (s.cfgEng e ch) (ch % 64))
  let depth := (queueDepths s e ch).2
  if sink = 0 then (if c.outq.length < depth then some (s.setChan e ch { c with outq := c.outq ++ [w] }) else none)
  else if sink = 4 ∧ 128 ≤ e then
    let s1 := cmdDrain 20 e ch (s.setChan e ch c)
    let c1 := s1.chan e ch
    if c1.outq.length < depth then some (cmdDrain 20 e ch (s1.setChan e ch { c1 with outq := c1.outq ++ [w] })) else none
  else some (sinkWord sink e ch w (s.setChan e ch c))

/-! ### Pins (R225, R236) -/

/-- Pins that engine `e` owns (R236, R252). -/
def ownedPins (s : Block) (e : Nat) : Word :=
  (List.range 32).foldl (fun (w : Word) n =>
    wput w n (s.flag (PE_PAD.OWN_EN n) && decide (128 + s.fld (PE_PAD.OWNER n) = e))) 0

/-- Change pin outputs or directions under a mask; the edges they make are registered (R224, R236). -/
def applyPins (isDir : Bool) (mask value : Word) (s : Block) : Block :=
  withEdges (fun t => { t with eng :=
    if isDir then { t.eng with pinDir := (t.eng.pinDir &&& ~~~ mask) ||| (value &&& mask) }
    else { t.eng with pinOut := (t.eng.pinOut &&& ~~~ mask) ||| (value &&& mask) } }) s

/-- A SET, OUT or MOV to pins (R225, R236): pins not owned stay and set PIN_DENIED; a timed output waits for tick E + 64,
or is late. -/
def drivePins (e ch : Nat) (isDir timed : Bool) (mask value : Word) (s : Block) : Block :=
  let own := ownedPins s e
  let s1 := if mask &&& ~~~ own = 0 then s else s.setFlag (ENG_ERR.PIN_DENIED e) true
  let m := mask &&& own
  match (if timed then (s1.chan e ch).timedFrom else none) with
  | none => applyPins isDir m value s1
  | some t =>
    let at_ := t + 64
    if laterThan s1.now at_ then
      applyPins isDir m value (((s1.onChan e ch (fun c => { c with flags := c.flags ||| 0x20 })).setFlag
        (ENG_ERR.TIMED_LATE e) true).raise (engNoticeEvt e))
    else if s1.now = at_ then applyPins isDir m value s1
    else { s1 with eng := { s1.eng with timed := s1.eng.timed ++ [⟨e, at_, isDir, m, value⟩] } }

/-- Each pin that engine `e` owns takes its FAULT_STATE (R236). -/
def pinFaults (e : Nat) (s : Block) : Block :=
  (List.range 32).foldl (fun t n =>
    if (ownedPins t e).getLsbD n then
      let m : Word := BitVec.ofNat 32 (2 ^ n)
      match t.fld (PE_PAD.FAULT_STATE n) with
      | 0 => applyPins true m 0 t
      | 1 => applyPins true m m (applyPins false m 0 t)
      | 2 => applyPins true m m (applyPins false m m t)
      | _ => t
    else t) { s with eng := { s.eng with timed := s.eng.timed.filter (fun p => decide (p.engine ≠ e)) } }

/-! ### Instructions (R210 to R221) -/

/-- HALT (R210). -/
def execHalt (e : BitVec 8) (ch : BitVec 7) (s : State) : Host.Outcome State Fault Refusal :=
  s.onBlock fun s =>
  runInstr 0 e.toNat ch.toNat (fun w c t =>
    if w ≠ 0 then progErr 2 e.toNat ch.toNat t
    else giveUp e.toNat (t.setChan e.toNat ch.toNat { c with state := 5 })) s

/-- YIELD (R210): only gives up the engine. -/
def execYield (e : BitVec 8) (ch : BitVec 7) (s : State) : Host.Outcome State Fault Refusal :=
  s.onBlock fun s =>
  runInstr 13 e.toNat ch.toNat (fun w c t =>
    if wfield w 0 28 ≠ 0 then progErr 2 e.toNat ch.toNat t
    else giveUp e.toNat (t.setChan e.toNat ch.toNat c)) s

/-- A channel writes `value` under `mask` to LINES: OL on a mason, the pins on a pin engine (R211). -/
def writeLines (e ch : Nat) (timed : Bool) (mask value : Word) (c : Chan) (s : Block) : Block :=
  if e < 128 then s.setChan e ch { c with ol := (c.ol &&& ~~~ mask) ||| (value &&& mask) }
  else drivePins e ch false timed mask value (s.setChan e ch c)

/-- SET (R211). -/
def execSetImm (e : BitVec 8) (ch : BitVec 7) (s : State) : Host.Outcome State Fault Refusal :=
  s.onBlock fun s =>
  let en := e.toNat
  let k := ch.toNat
  runInstr 1 en k (fun w c t =>
    let pos := wfield w 23 5
    let n := wfield w 18 5 + 1
    let dest := wfield w 16 2
    let timed := w.getLsbD 15
    if dest = 3 ∨ (timed = true ∧ dest = 2) then progErr 2 en k t
    else if 32 < pos + n then progErr 3 en k t
    else if en < 128 ∧ (dest = 1 ∨ timed = true) then progErr 4 en k t
    else
      let mask := wmask pos n
      let v : Word := BitVec.ofNat 32 (wfield w 0 15 % 2 ^ n * 2 ^ pos)
      if dest = 2 then
        let m8 := mask.setWidth 8
        t.setChan en k { c with flags := (c.flags &&& ~~~ m8) ||| (v.setWidth 8 &&& m8) }
      else if dest = 1 then drivePins en k true timed mask v (t.setChan en k c)
      else writeLines en k timed mask v c t) s

/-- The channel stalls on its queue or on the converter, its instruction to be completed (R208). -/
def stallOn (e ch pc : Nat) (kind : Stall) (c : Chan) (s : Block) : Block :=
  giveUp e (s.setChan e ch { c with pc := pc, state := 3, stall := kind })

/-- The PC of the instruction whose successor `c` points to. -/
def Chan.pcOf (c : Chan) : Nat := (c.pc + 1023) % 1024

/-- OUT delivers `v` of `n` bits to its destination (R212, R233). -/
def outDeliver (e ch dest pos n : Nat) (timed : Bool) (v : Nat) (c : Chan) (s : Block) : Block :=
  let w : Word := BitVec.ofNat 32 v
  let mask := wmask pos n
  let val : Word := BitVec.ofNat 32 (v % 2 ^ n * 2 ^ pos)
  match dest with
  | 0 => writeLines e ch timed mask val c s
  | 1 => drivePins e ch true timed mask val (s.setChan e ch c)
  | 2 => s.setChan e ch { c with x := w }
  | 3 => s.setChan e ch { c with y := w }
  | 5 =>
    let key := rangeKey (s.cfgEng e ch) (ch % 64) (wfield w 16 1) (wfield w 17 2)
    { (s.setChan e ch c) with eng := { (s.setChan e ch c).eng with ranges := smPut s.eng.ranges key w } }
  | _ => s.setChan e ch c

/-- OUT (R212): a field of SO, over two queue words with REFILL. -/
def execOutBits (e : BitVec 8) (ch : BitVec 7) (s : State) : Host.Outcome State Fault Refusal :=
  s.onBlock fun s =>
  let en := e.toNat
  let k := ch.toNat
  runInstr 2 en k (fun w c t =>
    let dest := wfield w 25 3
    let pos := wfield w 20 5
    let n := wfield w 15 5 + 1
    let refill := w.getLsbD 14
    let timed := w.getLsbD 13
    if wfield w 0 13 ≠ 0 ∨ 6 ≤ dest ∨ (2 ≤ dest ∧ (pos ≠ 0 ∨ timed = true)) then progErr 2 en k t
    else if 32 < pos + n ∨ (dest = 5 ∧ n ≠ 32) then progErr 3 en k t
    else if (en < 128 ∧ (dest = 1 ∨ timed = true)) ∨ (128 ≤ en ∧ dest = 5) then progErr 4 en k t
    else
      let have_ := 32 - c.consumed
      if n ≤ have_ then
        outDeliver en k dest pos n timed (wfield c.so c.consumed n) { c with consumed := c.consumed + n } t
      else
        let low := c.part.toNat + wfield c.so c.consumed have_ * 2 ^ c.partN
        let lowN := c.partN + have_
        if !refill then
          outDeliver en k dest pos n timed low { c with consumed := 32, flags := c.flags ||| 0x10 } t
        else if (queueDepths t en k).1 = 0 then progErr 5 en k t
        else
          match pullWord en k c t with
          | none => stallOn en k c.pcOf .onQueue { c with consumed := 32, part := BitVec.ofNat 32 low, partN := lowN } t
          | some (q, c1, t1) =>
            let v := low + wfield q 0 (n - lowN) * 2 ^ lowN
            outDeliver en k dest pos n timed v
              { c1 with so := q, consumed := n - lowN, part := 0, partN := 0, stall := .none } t1) s

/-- The source value of an IN (R213): lines or pins, X, Y, zero, or the next four SATC counts (R234). -/
def inSource (s : Block) (e ch src : Nat) (c : Chan) : Word × Chan :=
  match src with
  | 0 => (lineWord s e ch, c)
  | 1 => (c.x, c)
  | 2 => (c.y, c)
  | 4 => (BitVec.ofNat 32 (leVal (c.satc.take 4)), { c with satc := c.satc.drop 4 })
  | _ => (0, c)

/-- Push SI and let `rest` bits of value `v` start the next word; stall when the out-queue is full (R213, R214). -/
def spill (e ch : Nat) (v rest : Nat) (c : Chan) (s : Block) : Block :=
  let next (c1 : Chan) : Chan :=
    { c1 with si := BitVec.ofNat 32 v, filled := rest, part := 0, partN := 0, stall := .none }
  match pushWord e ch c.si c s with
  | some s1 => s1.setChan e ch (next (s1.chan e ch))
  | none => stallOn e ch c.pcOf .onQueue { c with filled := 32, part := BitVec.ofNat 32 v, partN := rest } s

/-- IN (R213): a field into SI, spilling to the out-queue with SPILL. -/
def execInBits (e : BitVec 8) (ch : BitVec 7) (s : State) : Host.Outcome State Fault Refusal :=
  s.onBlock fun s =>
  let en := e.toNat
  let k := ch.toNat
  runInstr 3 en k (fun w c t =>
    let src := wfield w 25 3
    let pos := wfield w 20 5
    let n := wfield w 15 5 + 1
    let sp := w.getLsbD 14
    if wfield w 0 14 ≠ 0 ∨ 5 ≤ src then progErr 2 en k t
    else if 32 < pos + n then progErr 3 en k t
    else if 128 ≤ en ∧ src = 4 then progErr 4 en k t
    else if c.stall = .onQueue then spill en k c.part.toNat c.partN c t
    else
      let (v, c1) := inSource t en k src c
      let bits := wfield v pos n
      let fits := min n (32 - c1.filled)
      let si : Word := c1.si ||| BitVec.ofNat 32 (bits % 2 ^ fits * 2 ^ c1.filled)
      if sp && decide (32 ≤ c1.filled + n) then
        if (queueDepths t en k).2 = 0 then progErr 5 en k t
        else spill en k (bits / 2 ^ fits) (n - fits) { c1 with si := si, filled := 32 } t
      else if 32 < c1.filled + n then t.setChan en k { c1 with si := si, filled := 32, flags := c1.flags ||| 0x10 }
      else t.setChan en k { c1 with si := si, filled := c1.filled + n }) s

/-- PULL (R214). -/
def execPull (e : BitVec 8) (ch : BitVec 7) (s : State) : Host.Outcome State Fault Refusal :=
  s.onBlock fun s =>
  let en := e.toNat
  let k := ch.toNat
  runInstr 4 en k (fun w c t =>
    if wfield w 0 27 ≠ 0 then progErr 2 en k t
    else if (queueDepths t en k).1 = 0 then progErr 5 en k t
    else
      match pullWord en k c t with
      | some (q, c1, t1) => t1.setChan en k { c1 with so := q, consumed := 0, stall := .none }
      | none =>
        if w.getLsbD 27 then t.setChan en k { c with flags := c.flags ||| 0x02 }
        else stallOn en k c.pcOf .onQueue c t) s

/-- PUSH (R214). -/
def execPush (e : BitVec 8) (ch : BitVec 7) (s : State) : Host.Outcome State Fault Refusal :=
  s.onBlock fun s =>
  let en := e.toNat
  let k := ch.toNat
  runInstr 5 en k (fun w c t =>
    if wfield w 0 27 ≠ 0 then progErr 2 en k t
    else if (queueDepths t en k).2 = 0 then progErr 5 en k t
    else
      match pushWord en k c.si c t with
      | some t1 => t1.onChan en k (fun c1 => { c1 with si := 0, filled := 0, stall := .none })
      | none =>
        if w.getLsbD 27 then t.setChan en k { c with si := 0, filled := 0, flags := c.flags ||| 0x04 }
        else stallOn en k c.pcOf .onQueue c t) s

/-- The source value of a MOV (R215); CHAN marks an adopted channel in bit 6, ENGINE is the cluster whose lines the channel
drives. -/
def movSource (s : Block) (e ch src : Nat) (c : Chan) : Word :=
  match src with
  | 0 => c.x
  | 1 => c.y
  | 2 => c.so
  | 3 => c.si
  | 4 => lineWord s e ch
  | 5 => c.flags.setWidth 32
  | 7 => BitVec.ofNat 32 ch
  | 8 => BitVec.ofNat 32 (s.cfgEng e ch)
  | 9 => BitVec.ofNat 32 c.consumed
  | 10 => BitVec.ofNat 32 c.filled
  | _ => 0

/-- The operation of a MOV (R215). -/
def movOp (op : Nat) (v : Word) : Word :=
  match op with
  | 1 => ~~~ v
  | 2 => - v
  | 3 => (v >>> 16) ||| (v <<< 16)
  | _ => v

/-- MOV (R215). -/
def execMov (e : BitVec 8) (ch : BitVec 7) (s : State) : Host.Outcome State Fault Refusal :=
  s.onBlock fun s =>
  let en := e.toNat
  let k := ch.toNat
  runInstr 6 en k (fun w c t =>
    let dest := wfield w 24 4
    let src := wfield w 20 4
    if wfield w 0 18 ≠ 0 ∨ 7 ≤ dest ∨ 11 ≤ src then progErr 2 en k t
    else
      let v := movOp (wfield w 18 2) (movSource t en k src c)
      match dest with
      | 0 => t.setChan en k { c with x := v }
      | 1 => t.setChan en k { c with y := v }
      | 2 => t.setChan en k { c with so := v, consumed := 0 }
      | 3 => t.setChan en k { c with si := v, filled := 0 }
      | 4 => writeLines en k false 0xFFFFFFFF v c t
      | 5 => t.setChan en k { c with pc := wfield v 0 10 }
      | _ => t.setChan en k { c with flags := v.setWidth 8 }) s

/-- ADD (R216): modulo 2^32, C takes the carry out. -/
def execAdd (e : BitVec 8) (ch : BitVec 7) (s : State) : Host.Outcome State Fault Refusal :=
  s.onBlock fun s =>
  let en := e.toNat
  let k := ch.toNat
  runInstr 7 en k (fun w c t =>
    if wfield w 16 10 ≠ 0 then progErr 2 en k t
    else
      let a := if w.getLsbD 27 then c.y else c.x
      let b : Word := if w.getLsbD 26 then (if w.getLsbD 27 then c.x else c.y) else (w.setWidth 16).signExtend 32
      let f := if 2 ^ 32 ≤ a.toNat + b.toNat then c.flags ||| 0x01 else c.flags &&& 0xFE
      t.setChan en k (if w.getLsbD 27 then { c with y := a + b, flags := f } else { c with x := a + b, flags := f })) s

/-- The condition of a JMP (R217), with X and Y as XDEC and YDEC leave them. -/
def jumpCond (s : Block) (e ch cond bit : Nat) (c : Chan) : Bool :=
  match cond with
  | 0 => true
  | 1 => decide (c.x = 0)
  | 2 => decide (c.x ≠ 0)
  | 3 => decide (c.y = 0)
  | 4 => decide (c.y ≠ 0)
  | 5 => decide (c.x = c.y)
  | 6 => decide (c.x ≠ c.y)
  | 7 => decide (c.x ≠ 0)
  | 8 => decide (c.y ≠ 0)
  | 9 => c.x.getLsbD bit
  | 10 => !c.x.getLsbD bit
  | 11 => (lineWord s e ch).getLsbD bit
  | 12 => !(lineWord s e ch).getLsbD bit
  | 13 => decide (c.consumed = 32)
  | 14 => !c.inq.isEmpty
  | _ => c.flags.getLsbD bit

/-- JMP (R217). -/
def execJmp (e : BitVec 8) (ch : BitVec 7) (s : State) : Host.Outcome State Fault Refusal :=
  s.onBlock fun s =>
  let en := e.toNat
  let k := ch.toNat
  runInstr 8 en k (fun w c t =>
    let cond := wfield w 24 4
    let bit := wfield w 19 5
    if wfield w 10 9 ≠ 0 ∨ (cond = 15 ∧ 8 ≤ bit) then progErr 2 en k t
    else
      let c1 := if cond = 7 then { c with x := c.x - 1 } else if cond = 8 then { c with y := c.y - 1 } else c
      t.setChan en k (if jumpCond t en k cond bit c1 then { c1 with pc := wfield w 0 10 } else c1)) s

/-- DELAY (R218): from the tick at which it is registered. -/
def execDelay (e : BitVec 8) (ch : BitVec 7) (s : State) : Host.Outcome State Fault Refusal :=
  s.onBlock fun s =>
  let en := e.toNat
  let k := ch.toNat
  runInstr 9 en k (fun w c t =>
    let src := w.getLsbD 27
    if wfield w 20 7 ≠ 0 ∨ (src = true ∧ wfield w 0 20 ≠ 0) then progErr 2 en k t
    else
      let n := if src then max 1 (min 1048576 c.x.toNat) else wfield w 0 20 + 1
      let ov := src && decide (n ≠ c.x.toNat)
      giveUp en (t.setChan en k { c with
        state := 1, delayEnd := some (t.now + BitVec.ofNat 64 n), timedFrom := none,
        flags := if ov then c.flags ||| 0x10 else c.flags })) s

/-! ### WAIT (R219, R222, R223) -/

/-- The source that a WAIT names; none if its codes are reserved (R219). -/
def waitSrc (w : Word) : Option Src :=
  let sel := wfield w 0 8
  if wfield w 23 2 = 3 ∨ wfield w 8 15 ≠ 0 then none
  else
    match wfield w 25 3 with
    | 0 => if sel < 64 then some (.compare sel) else none
    | 1 => if sel < 4 then some (.strobe sel) else none
    | 2 => if sel < 16 then some (.sync sel) else none
    | 3 => if sel / 32 ≤ 4 then some (.line (sel % 32) (sel / 32)) else none
    | 4 => if sel = 0 then some .queue else none
    | _ => none

/-- Key of a source, for the stamps of STAMP 0b10. -/
def srcKey : Src → Nat
  | .compare i => i
  | .strobe k => 64 + k
  | .sync b => 80 + b
  | .line b m => 128 + 8 * b + m
  | .queue => 512

/-- Is a level condition true now (R219)? -/
def levelHolds (s : Block) (e ch : Nat) (src : Src) : Bool :=
  match src with
  | .line b 0 => !(lineWord s e ch).getLsbD b
  | .line b 1 => (lineWord s e ch).getLsbD b
  | .queue => !(s.chan e ch).inq.isEmpty
  | _ => false

/-- Does the source have the armed latch of R223? -/
def Src.armedKind : Src → Bool
  | .compare _ => true
  | .sync _ => true
  | .line _ m => decide (2 ≤ m)
  | _ => false

/-- A WAIT is satisfied by an occurrence at `t` (R219): the stamp goes to X as STAMP says. The ticks from a previous WAIT
that there was not are a free value. -/
def satisfyWait (e ch stamp : Nat) (src : Src) (t : Tick) (c : Chan) (s : Block) : Block :=
  let prev := c.lastWait.find? (fun k => decide (k.1 = srcKey src))
  let x : Word :=
    if stamp = 1 then t.setWidth 32
    else if stamp = 2 then
      (match prev with
        | some p => BitVec.ofNat 32 (min 0xFFFFFFFF (t - p.2).toNat)
        | none => s.drawn)
    else c.x
  let s1 := if stamp = 2 ∧ prev.isNone = true then s.draw else s
  s1.setChan e ch { c with
    x := x, lastWait := smPut c.lastWait (srcKey src) t, waitOn := none, wokeAt := none, timedFrom := none }

/-- WAIT (R219): satisfied at once by a set latch, a held occurrence or a level that holds; else the channel waits. -/
def execWait (e : BitVec 8) (ch : BitVec 7) (s : State) : Host.Outcome State Fault Refusal :=
  s.onBlock fun s =>
  let en := e.toNat
  let k := ch.toNat
  runInstr 10 en k (fun w c t =>
    match waitSrc w with
    | none => progErr 2 en k t
    | some src =>
      let stamp := wfield w 23 2
      let c0 := if src.armedKind && decide (c.armed ≠ some src) then { c with armed := some src, heldAt := none } else c
      let hit : Option (Tick × Chan) :=
        match src with
        | .strobe kind =>
          (c0.latches.find? (fun l => decide (l.1 = kind))).map (fun l => (l.2.stamp, { c0 with latches := smDel c0.latches kind }))
        | _ =>
          if src.armedKind then c0.heldAt.map (fun h => (h, { c0 with heldAt := none }))
          else if levelHolds t en k src then some (t.now, c0) else none
      match hit with
      | some (at_, c1) => giveUp en (satisfyWait en k stamp src at_ c1 t)
      | none => giveUp en (t.setChan en k { c0 with
          state := 2, waitOn := some src, waitStamp := stamp, wokeAt := none, timedFrom := none })) s

/-- WAIT_SATISFIED (R223): the condition of a waiting channel has occurred. -/
def execWaitSatisfied (e : BitVec 8) (ch : BitVec 7) (s : State) : Host.Outcome State Fault Refusal :=
  s.onBlock fun s =>
  let en := e.toNat
  let k := ch.toNat
  if 144 ≤ en ∨ (128 ≤ en ∧ 16 ≤ k) then .fault .noSuchEngine
  else
    let c := s.chan en k
    match c.waitOn with
    | none => .next s
    | some src =>
      let at_ : Option Tick := match c.wokeAt with
        | some t => some t
        | none => if levelHolds s en k src then some s.now else none
      match at_ with
      | some t => if c.state = 2 then .next (satisfyWait en k c.waitStamp src t c.wake s) else .next s
      | none => .next s

/-- DELAY_EXPIRE (R218): a delay of n ticks has run; a timed output may follow it (R225). -/
def execDelayExpire (e : BitVec 8) (ch : BitVec 7) (s : State) : Host.Outcome State Fault Refusal :=
  s.onBlock fun s =>
  let en := e.toNat
  let k := ch.toNat
  if 144 ≤ en ∨ (128 ≤ en ∧ 16 ≤ k) then .fault .noSuchEngine
  else
    let c := s.chan en k
    match c.delayEnd with
    | some t =>
      if c.state = 1 ∧ laterThan t s.now = false then .next (s.setChan en k { c.wake with delayEnd := none, timedFrom := some t })
      else .next s
    | none => .next s

/-- TIMED_OUTPUT_APPLY (R225): the outputs of an engine whose tick has come change together. -/
def execTimedOutputApply (e : BitVec 8) (s : State) : Host.Outcome State Fault Refusal :=
  s.onBlock fun s =>
  if 144 ≤ e.toNat then .fault .noSuchEngine
  else
    let due := s.eng.timed.filter (fun p => decide (p.engine = e.toNat) && !laterThan p.at_ s.now)
    let s1 := { s with eng := { s.eng with timed := s.eng.timed.filter (fun p => !due.contains p) } }
    .next (withEdges (fun t => due.foldl (fun t1 p => applyPins p.isDir p.mask p.value t1) t) s1)

/-- PIN_EDGE (R224): the outside changes a pin's level. -/
def execPinEdge (pin : BitVec 5) (level : Bool) (s : State) : Host.Outcome State Fault Refusal :=
  s.onBlock fun s =>
  .next (withEdges (fun t => { t with eng := { t.eng with pinLevel := wput t.eng.pinLevel pin.toNat level } }) s)

/-- QUANTUM_EXPIRE (R208): after QUANTUM instructions in a row the running channel gives up the engine. -/
def execQuantumExpire (e : BitVec 8) (s : State) : Host.Outcome State Fault Refusal :=
  s.onBlock fun s =>
  if 144 ≤ e.toNat then .fault .noSuchEngine
  else if s.fld (ENG_CTL.QUANTUM e.toNat) ≤ (turnOf s e.toNat).count then .next (giveUp e.toNat s)
  else .next s

/-! ### STROBE (R220, R229, R230) -/

/-- The dispatcher's START or CAL word that an accepted action answers is no longer waiting (R242). -/
def wordAccepted (c ch pair action : Nat) (node : Bool) (s : Block) : Block :=
  let match_ (p : Posted) : Bool :=
    let w := p.word
    let wp := if w.getLsbD 19 then 64 + wfield w 16 3 else p.chan
    let cp := if w.getLsbD 3 then 64 + wfield w 0 3 else p.chan
    decide (p.cluster = c) && decide (p.chan = ch % 64) &&
      ((decide (action = 0) && decide (wfield w 28 4 = 1) && !w.getLsbD 26 && decide (wp = pair) && (w.getLsbD 20 == node)) ||
       (decide (action = 1) && decide (wfield w 28 4 = 4) && decide (cp = pair)))
  match s.eng.posted.find? match_ with
  | some p => { s with eng := { s.eng with posted := s.eng.posted.erase p } }
  | none => s

/-- The frame whose charge a CONVERT finds in a node, with GATED and DUP (R156, R230): the earlier frame that a closed gate
kept in it, else the newest frame transferred. -/
def convFrame (s : Block) (c p : Nat) (node : Bool) : Option (Nat × Bool × Bool) :=
  match s.ft.frames.find? (fun f => f.last.isSome && f.nodes.contains node) with
  | none => none
  | some f =>
    if f.gated.contains (c, node) then
      match (busyOf s node).find? (fun e => decide (e.1 = c)) with
      | some e => if nodeDone s c p node e.2 then some (f.num, true, false) else some (e.2, false, false)
      | none => some (f.num, true, false)
    else some (f.num, false, nodeDone s c p node f.num)

/-- The converter die accepts an action (R220): a conversion of the units enabled, a calibration visit, or a flush. -/
def acceptAction (a0 : Action) (win : Bool) (s : Block) : Block :=
  let s1 := wordAccepted a0.cluster (a0.chan % 128) a0.pair a0.action a0.node s
  if a0.action = 0 then
    match convFrame s1 a0.cluster a0.pair a0.node with
    | none => endAction { a0 with dup := true } s1
    | some (n, gated, dup) =>
      let a1 := { a0 with frame := n, gated := gated, dup := dup }
      if gated || dup then endAction a1 s1
      else
        let us := enabledUnits s1 a0.cluster a0.pair win
        let a2 := { a1 with units := us, left := us }
        if us.isEmpty then endAction a2 s1
        else
          let s2 := { s1 with eng := { s1.eng with actions := s1.eng.actions ++ [a2] } }
          (us.filter (fun u => s.cal.stoppedUnits.contains u)).foldl (fun t u =>
            match actionOn t a2.cluster a2.pair, t.frame? n with
            | some a3, some f => unitEnded a3 u 0 false (bufferUnit f a3 u (List.replicate 64 (noConv, false)) t)
            | _, _ => t) s2
  else if a0.action = 1 then
    let us := enabledUnits s1 a0.cluster a0.pair false
    { s1 with eng := { s1.eng with actions := s1.eng.actions ++ [{ a0 with units := us, left := us }] } }
  else endAction { a0 with units := enabledUnits s1 a0.cluster a0.pair false } s1

/-- STROBE (R220): accepted when DONE and FREE are both 1; until then the channel stalls. -/
def execStrobe (e : BitVec 8) (ch : BitVec 7) (s : State) : Host.Outcome State Fault Refusal :=
  s.onBlock fun s =>
  let en := e.toNat
  let k := ch.toNat
  runInstr 11 en k (fun w c t =>
    let action := wfield w 26 2
    let gain := wfield w 23 2
    let win := w.getLsbD 22
    let cl := t.cfgEng en k
    let ob := c.ol.getLsbD 3
    if action = 3 ∨ gain = 3 ∨ wfield w 0 22 ≠ 0 then progErr 2 en k t
    else if 128 ≤ en then progErr 4 en k t
    else if ob = true ∧ ¬ (k % 64 = 63 ∧ 112 ≤ cl) then progErr 7 en k t
    else
      let pair := if ob then 64 + wfield c.ol 0 3 else k % 64
      let us := enabledUnits t cl pair win
      if (actionOn t cl pair).isSome || !allFree t us then
        stallOn en k c.pcOf .onConverter { c with pairNo := pair } t
      else
        let a : Action :=
          { cluster := cl, pair := pair, action := action, node := w.getLsbD 25, frame := 0, chan := chanKey en k,
            gain := gain, test := c.ol.getLsbD 11, ofs := c.ol.getLsbD 10, units := us, left := [], tmo := false,
            gated := false, dup := false, sats := [] }
        withEdges (acceptAction a win) (t.setChan en k { c with pairNo := pair, stall := .none })) s

/-- QUEUE_STALL_RESUME (R214, R220): what a stalled channel waits for is there; its instruction can complete. -/
def execQueueStallResume (e : BitVec 8) (ch : BitVec 7) (s : State) : Host.Outcome State Fault Refusal :=
  s.onBlock fun s =>
  let en := e.toNat
  let k := ch.toNat
  if 144 ≤ en ∨ (128 ≤ en ∧ 16 ≤ k) then .fault .noSuchEngine
  else if (s.chan en k).state ≠ 3 then .next s
  else
    let s1 := if s.fld (CH_CFG.QSINK (s.cfgEng en k) (k % 64)) = 4 ∧ 128 ≤ en then cmdDrain 20 en k s else s
    let c := s1.chan en k
    let w := fetchInstr s1 en c.pc
    let op := wfield w 28 4
    let go :=
      if c.stall = .onConverter then
        let cl := s1.cfgEng en k
        (actionOn s1 cl c.pairNo).isNone && allFree s1 (enabledUnits s1 cl c.pairNo (w.getLsbD 22))
      else if op = 2 ∨ op = 4 then !c.inq.isEmpty
      else decide (c.outq.length < (queueDepths s1 en k).2)
    .next (if go then s1.setChan en k { c with state := 0 } else s1)

/-! ### SYNC and barriers (R221) -/

/-- SYNC (R221): the channel waits at its barrier, as a swap point if asked. -/
def execSync (e : BitVec 8) (ch : BitVec 7) (s : State) : Host.Outcome State Fault Refusal :=
  s.onBlock fun s =>
  let en := e.toNat
  let k := ch.toNat
  runInstr 12 en k (fun w c t =>
    let b := wfield w 24 4
    if wfield w 0 23 ≠ 0 then progErr 2 en k t
    else if t.fld (ENG_SYNC.NEED (t.cfgEng en k) b) = 0 then progErr 6 en k t
    else giveUp en (t.setChan en k { c with state := 4, barrier := some (b, w.getLsbD 23) })) s

/-- The channels that stand for engine `x`: its own, or those its partner adopted (R242). -/
def groupOf (s : Block) (x : Nat) : List (Nat × Nat) :=
  if s.flag (ENG_STAT.TAKEN_OVER x) then (List.range 64).map (fun k => (s.fld (ENG_STAT.PARTNER x), 64 + k))
  else (List.range (ownChans x)).map (fun k => (x, k))

/-- Channels of engine `x`'s group that wait at barrier `b`. -/
def atBarrier (s : Block) (x b : Nat) : List (Nat × Nat) :=
  (groupOf s x).filter (fun ec =>
    let c := s.chan ec.1 ec.2
    decide (c.state = 4) && decide ((c.barrier.map (fun p => p.1)) = some b))

/-- The engines that take part in barrier `b` with engine `x` (R221). -/
def barrierGroup (s : Block) (x b : Nat) : List Nat :=
  if s.flag (ENG_SYNC.SCOPE x b) then
    (List.range 144).filter (fun y => s.flag (ENG_SYNC.SCOPE y b) && decide (s.fld (ENG_SYNC.NEED y b) ≠ 0))
  else [x]

/-- Barrier `b` of engine `x`'s settings releases when each engine taking part has NEED channels waiting (R221). -/
def releaseBarrier (x b : Nat) (s : Block) : Block :=
  let g := barrierGroup s x b
  if s.fld (ENG_SYNC.NEED x b) ≠ 0 ∧ g.all (fun y => decide (s.fld (ENG_SYNC.NEED y b) ≤ (atBarrier s y b).length)) = true then
    let l := g.flatMap (fun y => atBarrier s y b)
    let s1 := l.foldl (fun t ec => t.onChan ec.1 ec.2 (fun c => { c.wake with barrier := none })) s
    (g.flatMap (groupOf s)).foldl (fun t ec => occur ec.1 ec.2 (.sync b) s.now t) s1
  else s

/-- BARRIER_RELEASE (R221). While the engine serves a partner, the partner's group is one of its own (R242). -/
def execBarrierRelease (e : BitVec 8) (b : BitVec 4) (s : State) : Host.Outcome State Fault Refusal :=
  s.onBlock fun s =>
  let en := e.toNat
  if 144 ≤ en then .fault .noSuchEngine
  else
    let s1 := releaseBarrier en b.toNat s
    .next (if s1.flag (ENG_STAT.SERVING en) then releaseBarrier (s1.fld (ENG_STAT.PARTNER en)) b.toNat s1 else s1)

end Sys2Proof.Machine
end

