-- ==== Sys2Proof/Machine/Programs.lean ====
section
/-! DEFINITION. Program banks, swaps and their checks (R237 to R239), engine faults and takeover (R241, R242), restoring a
mason (R243), the course dispatcher (R231 to R235), and the 0x04xx opcodes (R254). -/

namespace Sys2Proof.Machine

/-! ### Banks (R251, R254) -/

/-- Base of a program bank's window: the active one, or the staging one (R251). -/
def bankBase (e : Nat) (staging : Bool) : Nat := engBase e + (if staging then 0x8000 else 0x4000)

/-- Word `i` of a bank; a word that no load has written is zero (R254). -/
def bankWord (s : Block) (e : Nat) (staging : Bool) (i : Nat) : Word := smGet 0 s.regs (bankBase e staging + 4 * i)

/-- CRC-32 over the 1,024 words of a bank (R254). -/
def bankCrc (s : Block) (e : Nat) (staging : Bool) : Word :=
  crc32 ((List.range 1024).flatMap (fun i => wordBytes (bankWord s e staging i)))

/-- Write words of the staging bank from word `i`. -/
def loadWords (e i : Nat) (l : List Word) (s : Block) : Block :=
  { s with regs := l.zipIdx.foldl (fun m (wi : Word × Nat) => smSet 0 m (bankBase e true + 4 * (i + wi.2)) wi.1) s.regs }

/-- The banks exchange (R237). -/
def swapBanks (e : Nat) (s : Block) : Block :=
  let a := bankBase e false
  let b := bankBase e true
  let inA (k : Nat) : Bool := decide (a ≤ k) && decide (k < a + 0x1000)
  let inB (k : Nat) : Bool := decide (b ≤ k) && decide (k < b + 0x1000)
  let rest := s.regs.filter (fun r => !inA r.1 && !inB r.1)
  let moved := (s.regs.filter (fun r => inA r.1 || inB r.1)).map (fun r => (if inA r.1 then r.1 + 0x4000 else r.1 - 0x4000, r.2))
  { s with regs := moved.foldl (fun m r => smPut m r.1 r.2) rest }

/-! ### Starting channels (R207, R238, R251) -/

/-- A channel starts at its ENTRY with the context of R207; queues are kept, and strobe latches too when asked (R237). -/
def startChan (latches : Bool) (e ch : Nat) (s : Block) : Block :=
  let c := s.chan e ch
  s.setChan e ch { Chan.start (s.fld (CH_CFG.ENTRY (s.cfgEng e ch) (ch % 64))) with
    inq := c.inq, outq := c.outq, backlog := c.backlog, latches := if latches then c.latches else [] }

/-- Every channel of an engine, adopted ones included. -/
def allChans (s : Block) (e : Nat) : List Nat :=
  List.range (ownChans e) ++ (if s.flag (ENG_STAT.SERVING e) then (List.range 64).map (fun k => 64 + k) else [])

/-- The enabled channels. -/
def onChans (s : Block) (e : Nat) : List Nat := (allChans s e).filter (s.chanOn e)

/-- Does a channel stand at a swap point (R237)? -/
def atSwapPoint (s : Block) (e ch : Nat) : Bool :=
  let c := s.chan e ch
  decide (c.state = 5) || decide (c.state = 6) || (decide (c.state = 4) && (match c.barrier with | some (_, sw) => sw | none => false))

/-- Is the engine a broadcast member that a broadcast reaches (R251)? -/
def bcastMasons (s : Block) : List Nat :=
  (List.range 128).filter (fun e => s.flag (ENG_CTL.BCAST e) && decide (s.fld (ENG_STAT.STATE e) ≠ 2))

/-- The engines that a request names (R254): one, or by 0xFFFF every mason of the broadcast. -/
def engTargets (s : Block) (e : Nat) : List Nat := if e = 0xFFFF then bcastMasons s else [e]

/-- Banks exchange and every enabled channel restarts at ENTRY; queues and strobe latches are kept (R237, R238). A forced
swap makes the pins take their FAULT_STATE (R236). -/
def doSwap (forcedSwap : Bool) (origin e : Nat) (s : Block) : Block :=
  let old := bankCrc s e false
  let s1 := swapBanks e s
  let s2 := (onChans s1 e).foldl (fun t ch => startChan true e ch t) s1
  let s3 := giveUp e (s2.setFlag (ENG_CTL.SWAP_REQ e) false)
  let s4 := if forcedSwap then (if 128 ≤ e then pinFaults e s3 else s3).setFlag (ENG_ERR.FORCED_SWAP e) true else s3
  let s5 := (engNotice e s4).cairn origin (if forcedSwap then 0x0403 else 0x0402) (engBase e) old (bankCrc s4 e false)
  let s6 := s5.release (fun w => decide (w = .swap e)) id
  let s7 := if (bcastMasons s6).any (fun x => s6.flag (ENG_CTL.SWAP_REQ x)) then s6
    else s6.release (fun w => decide (w = .swap 0xFFFF)) id
  if e < 128 then { s7 with th := { s7.th with swapPlans := s7.th.swapPlans ++ [s7.ft.nextNum + 16] } } else s7

/-- ENGINE_SWAP (R237): a pending swap takes place once every enabled channel stands at a swap point. -/
def execEngineSwap (e : BitVec 8) (s : State) : Host.Outcome State Fault Refusal :=
  s.onBlock fun s =>
  let en := e.toNat
  if 144 ≤ en then .fault .noSuchEngine
  else if s.flag (ENG_CTL.SWAP_REQ en) && (onChans s en).all (atSwapPoint s en) && decide (s.fld (ENG_STAT.STATE en) ≠ 2) then
    .next (doSwap false (smGet oHost s.eng.swapOrigin en) en s)
  else .next s

/-- Ask for a swap at the swap point (R237). -/
def askSwap (origin e : Nat) (s : Block) : Block :=
  ({ s with eng := { s.eng with swapOrigin := smPut s.eng.swapOrigin e origin } }).setFlag (ENG_CTL.SWAP_REQ e) true

/-- The checks of R239 on a swap of the engines `l`. -/
def swapChecks (l : List Nat) (q : Req) (s : Block) : List Check :=
  [(s.takeOpen && l.any (fun e => decide (e < 128)) && !forced q, stRecording),
   (s.takeOpen && l.any (fun e => decide (e < 128)) && s.rsv.closeOut.isSome, stBusy),
   (s.running && decide (s.effFld FT_CFG.TIMING ≠ 0) && l.any (fun e => decide (128 ≤ e) && decide (e < 144) &&
      (List.range 16).any (fun k => decide (s.fld (CH_CFG.QSINK e k) = 3))), stConflict),
   (l.any (fun e => decide (s.fld (ENG_STAT.STATE e) = 2)), stFault)]

/-- The reply to a change that awaits a swap point (R78, R79). -/
def replySwap (op e : Nat) (q : Req) (pre : List Byte) (s : Block) : Block :=
  if wantsComplete q then s.replyLater q op stOk (pre ++ stampFrame s 0xFFFFFFFF) (.swap e)
  else s.reply q op stDeferred (pre ++ stampFrame s 0xFFFFFFFF)

/-- Is `e` an engine, or the broadcast? -/
def engOk (e : Nat) (bcast : Bool) : Bool := decide (e < 144) || (bcast && decide (e = 0xFFFF))

/-! ### RUN (R236, R239, R246) -/

/-- ENG_CTL.RUN is written: the engine runs, or stops at instruction boundaries; a faulted one stays FAULTED (R246, R247). -/
def setRun (e : Nat) (run : Bool) (s : Block) : Block :=
  let s1 := s.setFlag (ENG_CTL.RUN e) run
  if s1.fld (ENG_STAT.STATE e) = 2 then s1 else s1.setFld (ENG_STAT.STATE e) (b2n run)

/-! ### Faults and takeover (R241, R242) -/

/-- A margin-plan computation starts, unless one is under way (R575). -/
def startPlan (s : Block) : Block :=
  if s.th.planRun.isSome then s
  else (({ s with th := { s.th with planRun := some s.now } } : Block)).setFlag AG_STAT.RUNNING true

/-- The clusters served through partners, region by region: DSP_STAT.TAKEOVER (R253). -/
def syncTakeover (r : Nat) (s : Block) : Block :=
  s.setFlag (DSP_STAT.TAKEOVER r) ((clustersOf r).any (fun c => s.flag (ENG_STAT.TAKEN_OVER c)))

/-- A mason eligible to serve cluster `c` (R242). -/
def eligible (s : Block) (c p : Nat) : Bool :=
  decide (s.fld (ENG_STAT.STATE p) = 1) && !s.flag (ENG_STAT.SERVING p) && decide (bankCrc s p false = bankCrc s c false)

/-- The partner of mason `c`: c XOR 1, else c XOR 16 (R31). -/
def partnerOf (s : Block) (c : Nat) : Option Nat := [c ^^^ 1, c ^^^ 16].find? (eligible s c)

/-- A START as re-posted (R242): FIRST only on the first START of its frame re-posted to its channel, and only if the
frame's LAST has not fired. -/
def repost (s : Block) : List (Nat × Nat) → List Posted → List Posted
  | _, [] => []
  | seen, p :: t =>
    if wfield p.word 28 4 = 1 then
      let n := wfield p.word 0 16
      let fired := s.ft.frames.any (fun f => decide (f.num % 65536 = n) && f.last.isSome)
      { p with word := wput p.word 27 (!fired && !seen.contains (p.chan, n)) } :: repost s ((p.chan, n) :: seen) t
    else p :: repost s seen t

/-- Takeover of cluster `c` (R242), or, with no partner, its nodes are flushed once and its gates stay closed (R31). -/
def takeover (c : Nat) (s : Block) : Block :=
  let mine := s.eng.posted.filter (fun p => decide (p.cluster = c))
  match partnerOf s c with
  | some p =>
    let s1 := (((s.setFlag (ENG_STAT.SERVING p) true).setFld (ENG_STAT.PARTNER p) c).setFlag (ENG_STAT.TAKEN_OVER c) true).setFld
      (ENG_STAT.PARTNER c) p
    let s2 := (List.range 64).foldl (fun t k =>
      let t1 := t.setChan p (64 + k) Chan.reset
      if t1.chanOn p (64 + k) then startChan false p (64 + k) t1 else t1) s1
    let again := repost s2 [] (mine.filter (fun x => decide (wfield x.word 28 4 = 1) || decide (wfield x.word 28 4 = 4)))
    let s3 := { s2 with eng := { s2.eng with posted := s2.eng.posted.filter (fun x => decide (x.cluster ≠ c)) ++ again } }
    let s4 := again.foldl (fun t x => dispatch p (64 + x.chan) (x.word :: x.ranges) t) s3
    startPlan (syncTakeover (regionOf c) ((engNotice p s4).policyCairn 0x401 0x0404 (engBase c) c p))
  | none =>
    let keep (l : List (Nat × Nat)) := l.filter (fun e => decide (e.1 ≠ c))
    { s with
      pix := { s.pix with
        busyA := keep s.pix.busyA, busyB := keep s.pix.busyB,
        unserved := if s.pix.unserved.contains c then s.pix.unserved else s.pix.unserved ++ [c] },
      eng := { s.eng with posted := s.eng.posted.filter (fun x => decide (x.cluster ≠ c)) } }

/-- An engine's channels are gone: their contexts and queues. -/
def dropChans (e lo hi : Nat) (s : Block) : Block :=
  { s with eng := { s.eng with chans := s.eng.chans.filter (fun k => !(decide (k.1 / 128 = e) && decide (lo ≤ k.1 % 128) && decide (k.1 % 128 < hi))) } }

/-- A mason faults (R241 to R243): its cluster, and the cluster it served, choose a partner. -/
def masonFault (c cause : Nat) (s : Block) : Block :=
  let served := s.flag (ENG_STAT.SERVING c)
  let d := s.fld (ENG_STAT.PARTNER c)
  let s1 := ((s.setFld (ENG_STAT.STATE c) 2).setFld (ENG_STAT.CAUSE c) cause).setFlag (ENG_STAT.SERVING c) false
  let s2 := (dropChans c 0 128 (s1.setFld (ENG_STAT.PARTNER c) 0)).raise (engFaultEvt c)
  let s3 := takeover c s2
  let s4 := if served then syncTakeover (regionOf d) (takeover d ((s3.setFlag (ENG_STAT.TAKEN_OVER d) false).setFld (ENG_STAT.PARTNER d) 0)) else s3
  s4.contain 4

/-- A pin engine faults (R241). -/
def pinFault (e cause : Nat) (s : Block) : Block :=
  (pinFaults e ((s.setFld (ENG_STAT.STATE e) 2).setFld (ENG_STAT.CAUSE e) cause)).raise (engFaultEvt e)

/-! ### Restoring a mason (R243) -/

/-- Does the dispatcher hold no START of the cluster that has not ended (R243)? -/
def clusterIdle (s : Block) (c : Nat) : Bool :=
  !s.eng.posted.any (fun p => decide (p.cluster = c) && decide (wfield p.word 28 4 = 1) && !p.word.getLsbD 26) &&
    !s.eng.actions.any (fun a => decide (a.cluster = c) && decide (a.action = 0))

/-- The channels of mason `c` are handed back (R243). -/
def handOver (origin c : Nat) (s : Block) : Block :=
  let taken := s.flag (ENG_STAT.TAKEN_OVER c)
  let p := s.fld (ENG_STAT.PARTNER c)
  let s1 := if taken then (dropChans p 64 128 ((s.setFlag (ENG_STAT.SERVING p) false).setFld (ENG_STAT.PARTNER p) 0)) else s
  let s2 := (((s1.setFlag (ENG_STAT.TAKEN_OVER c) false).setFld (ENG_STAT.PARTNER c) 0).setFld (ENG_STAT.CAUSE c) 0).setFld
    (ENG_STAT.STATE c) (s1.fld (ENG_CTL.RUN c))
  let s3 := (onChans s2 c).foldl (fun t k => startChan false c k t) s2
  let s4 := { s3 with
    pix := { s3.pix with unserved := s3.pix.unserved.filter (fun x => decide (x ≠ c)) },
    eng := { s3.eng with
      restorePending := s3.eng.restorePending.filter (fun x => decide (x ≠ c)), restoreSince := smDel s3.eng.restoreSince c } }
  let s5 := (if taken then s4 else s4.draw).cairn origin 0x0405 (engBase c)
    (if taken then BitVec.ofNat 32 p else s4.drawn) (BitVec.ofNat 32 c)
  startPlan (syncTakeover (regionOf c) (s5.release (fun w => decide (w = .restore c)) id))

/-- ENG_RESTORE_HANDOVER (R243): at the first tick with no START of the cluster in progress. -/
def execEngRestoreHandover (c : BitVec 7) (s : State) : Host.Outcome State Fault Refusal :=
  s.onBlock fun s =>
  if s.eng.restorePending.contains c.toNat && clusterIdle s c.toNat then
    .next (handOver (smGet oHost s.eng.swapOrigin (1000 + c.toNat)) c.toNat s)
  else .next s

/-- ENG_RESTORE_TIMEOUT (R243): no such tick within 2 s; the hand-over stays pending. -/
def execEngRestoreTimeout (c : BitVec 7) (s : State) : Host.Outcome State Fault Refusal :=
  s.onBlock fun s =>
  match s.eng.restoreSince.find? (fun e => decide (e.1 = c.toNat)) with
  | some (_, t) =>
    if 2 * secT ≤ s.sinceT t then .next (s.release (fun w => decide (w = .restore c.toNat)) (fun r => { r with status := stTimeout }))
    else .next s
  | none => .next s

/-! ### The course dispatcher (R231 to R235) -/

/-- The channel that serves a course pair: its own, or 63 for the top optical-black ones (R231). -/
def pairChan (p : Nat) : Nat := if 64 ≤ p then 63 else p

/-- Where the dispatcher sends cluster `c`'s words: its mason, its partner's adopted channels, or nowhere (R31, R242). -/
def dispTo (s : Block) (c k : Nat) : Option (Nat × Nat) :=
  if s.fld (ENG_STAT.STATE c) = 2 then
    (if s.flag (ENG_STAT.TAKEN_OVER c) then some (s.fld (ENG_STAT.PARTNER c), 64 + k) else none)
  else some (c, k)

/-- RANGE words of a course pair (R232): the part of each window that lies in the cluster's columns of each course. -/
def rangeWords (f : FrameRec) (c p : Nat) : List Word :=
  let x0 := c % 16 * 144
  (pairCourses c p).zipIdx.flatMap (fun (qk : Nat × Nat) => f.wins.zipIdx.filterMap (fun (wi : Win × Nat) =>
    let w := wi.1
    if w.u0 ≤ x0 + 143 ∧ x0 ≤ w.u1 ∧ w.v0 ≤ qk.1 ∧ qk.1 ≤ w.v1 then
      some (BitVec.ofNat 32 (2 * 2 ^ 28 + 2 ^ 19 + wi.2 % 4 * 2 ^ 17 + qk.2 * 2 ^ 16 + (min w.u1 (x0 + 143) - x0) * 256 +
        (max w.u0 x0 - x0)))
    else none))

/-- Every active unit of the pair lies in a window. -/
def pairWhole (f : FrameRec) (c p : Nat) : Bool :=
  let x0 := c % 16 * 144
  f.wins.any (fun w => decide (w.u0 ≤ x0) && decide (x0 + 143 ≤ w.u1) &&
    (pairCourses c p).all (fun q => decide (w.v0 ≤ q) && decide (q ≤ w.v1)))

/-- Does a window touch the pair's active units? -/
def pairTouched (f : FrameRec) (c p : Nat) : Bool := decide (64 ≤ p) || !(rangeWords f c p).isEmpty

/-- The START of a course pair with its RANGE words (R232). -/
def startWord (f : FrameRec) (c p : Nat) (first : Bool) : Word × List Word :=
  let ob := decide (64 ≤ p)
  let side := decide (c % 16 = 0) || decide (c % 16 = 15)
  let skip := !pairTouched f c p && !side
  let win := !ob && !skip && !pairWhole f c p
  let rs := if win then rangeWords f c p else []
  (BitVec.ofNat 32 (2 ^ 28 + f.num % 65536 + (if ob then (p - 64) * 2 ^ 16 + 2 ^ 19 else 0) + b2n (f.nodes.contains true) * 2 ^ 20 +
    b2n win * 2 ^ 21 + rs.length * 2 ^ 22 + b2n skip * 2 ^ 26 + b2n first * 2 ^ 27), rs)

/-- The gated course pairs of region `r` in conversion order, as (cluster row, pair) (R159, R231). -/
def gatedOrder (f : FrameRec) (r : Nat) : List (Nat × Nat) :=
  (if 4 ≤ r then (List.range 8).map (fun j => (7, 64 + j)) else []) ++
    (List.range 4).flatMap (fun i => ((List.range 64).filter (fun k =>
      (List.range 4).any (fun j => pairTouched f ((r / 4 * 4 + i) * 16 + r % 4 * 4 + j) k))).map (fun k => (r / 4 * 4 + i, k)))

/-- Has the mortar bus taken frame `n` of region `r`? -/
def busDone (s : Block) (r n : Nat) : Bool :=
  match s.ingest? n with
  | some g => g.ended.contains r || g.whole.isSome
  | none => match s.frame? n with | some f => f.last.isSome | none => true

/-- The frame whose START comes next on a course pair: the oldest one not yet posted and still to be read out. -/
def nextStart (s : Block) (c p : Nat) : Option FrameRec :=
  (s.ft.frames.reverse).find? (fun f =>
    decide (smGet 0 s.eng.lastPost (c * 128 + p) < f.num + 1) &&
      (match s.ingest? f.num with | some g => !g.ended.contains (regionOf c) | none => f.last.isNone))

/-- The gate of R231: the region's previous frame has left the bus, and so has the pair AHEAD places before. -/
def gateOpen (s : Block) (f : FrameRec) (c p : Nat) : Bool :=
  let r := regionOf c
  let prev := s.ft.frames.filter (fun g => decide (g.num < f.num))
  prev.all (fun g => busDone s r g.num) &&
    (if pairTouched f c p then
      let order := gatedOrder f r
      let i := order.idxOf (c / 16, p)
      let ahead := s.fld (DSP_CFG.AHEAD r)
      if i < ahead then true
      else
        let b := order.getD (i - ahead) (0, 0)
        let qs := pairCourses (b.1 * 16) b.2
        (s.ingest? f.num).isSome && !(missingCourses s f f.num r).any (fun q => qs.contains q)
    else true)

/-- Post a word and its RANGE words to a channel (R231, R232). -/
def postDisp (c k : Nat) (w : Word) (rs : List Word) (s : Block) : Block :=
  match dispTo s c k with
  | none => s
  | some (e, ch) =>
    dispatch e ch (w :: rs) { s with eng := { s.eng with posted := s.eng.posted ++ [⟨c, k, w, rs⟩] } }

/-- The channel has taken every dispatcher word it was given room for. -/
def roomFor (s : Block) (c k : Nat) : Bool :=
  match dispTo s c k with | some (e, ch) => (s.chan e ch).backlog.isEmpty | none => false

/-- Post the START of a course pair (R231). The range entries that an earlier frame left for the pair no longer hold. -/
def postStart (c p : Nat) (f : FrameRec) (s : Block) : Block :=
  let k := pairChan p
  let first := decide (smGet 0 s.eng.lastFirst (c * 64 + k) ≠ f.num + 1)
  let (w, rs) := startWord f c p first
  let clear (m : List (Nat × Word)) := m.filter (fun e => !(decide (rangeKey c p 0 0 ≤ e.1) && decide (e.1 < rangeKey c p 0 0 + 8)))
  let s1 := { s with eng := { s.eng with
    lastPost := smPut s.eng.lastPost (c * 128 + p) (f.num + 1), lastFirst := smPut s.eng.lastFirst (c * 64 + k) (f.num + 1),
    gapVisits := smDel s.eng.gapVisits c, ranges := if p < 64 then clear s.eng.ranges else s.eng.ranges } }
  postDisp c k w rs s1

/-- A calibration visit may start on a course pair (R193, R194): the cluster is in the gap after its conversions, and the
visit ends 20 µs before the next planned node start. -/
def visitOk (s : Block) (c p : Nat) : Bool :=
  let r := regionOf c
  let settling := smHas s.cal.settling r
  let gap := (busyOf s false).all (fun e => decide (e.1 ≠ c)) && (busyOf s true).all (fun e => decide (e.1 ≠ c)) &&
    clusterIdle s c && (actionOn s c p).isNone
  let clearOf := s.ft.sched.all (fun m => match m.mark with
    | .gtx _ _ _ true => laterThan s.now m.tick || decide (24000 ≤ (m.tick - s.now).toNat)
    | _ => true)
  let key := c * 128 + p
  let pass := if settling then !(smGet [] s.cal.settling r).contains key
    else !s.cal.visited.contains key &&
      (s.cal.visited.any (fun k => decide (regionOf (k / 128) = r)) || !smHas s.cal.passStart r ||
        decide (s.fld CNV_BGCAL.INTERVAL * msT ≤ s.sinceT (smGet 0 s.cal.passStart r)))
  s.flag CNV_CFG.BGCAL_EN && gap && clearOf && pass && decide (smGet 0 s.eng.gapVisits c < s.fld CNV_BGCAL.VISITS_PER_GAP)

/-- Post a CAL word (R232): visit k of a unit uses pixel k mod 64; offset-only while the region settles (R194). -/
def postCal (c p : Nat) (s : Block) : Block :=
  let r := regionOf c
  let ofs := smHas s.cal.settling r
  let pix := s.fld (CNV_RSTAT.PASSES r) % 64
  let w : Word := BitVec.ofNat 32 (4 * 2 ^ 28 + (if 64 ≤ p then (p - 64) + 8 else 0) + pix * 16 + b2n ofs * 1024)
  let fresh := !ofs && !s.cal.visited.any (fun k => decide (regionOf (k / 128) = r))
  let s1 := if fresh then { s with cal := { s.cal with passStart := smPut s.cal.passStart r s.now } } else s
  let s2 := { s1 with eng := { s1.eng with gapVisits := smPut s1.eng.gapVisits c (smGet 0 s1.eng.gapVisits c + 1) } }
  postDisp c (pairChan p) w [] s2

/-- SWAPPT may go to a channel (R232): once per frame, after the mason's last course pair, while a swap is pending. -/
def swapptOk (s : Block) (c k : Nat) : Bool :=
  match dispTo s c k, s.ft.frames.find? (fun f => f.last.isSome) with
  | some (e, _), some f =>
    s.flag (ENG_CTL.SWAP_REQ e) && decide (smGet 0 s.eng.lastSwap (c * 64 + k) ≠ f.num + 1) &&
      (clusterPairs c).all (fun p => decide (f.num + 1 ≤ smGet 0 s.eng.lastPost (c * 128 + p)))
  | _, _ => false

/-- DISPATCHER_POST (R231): the dispatcher posts a word when its condition is met. -/
def execDispatcherPost (c : BitVec 7) (kind : DispKind) (pair : BitVec 7) (nodeB : Bool) (s : State) :
    Host.Outcome State Fault Refusal :=
  s.onBlock fun s =>
  let cl := c.toNat
  let p := pair.toNat
  if !(clusterPairs cl).contains p || !roomFor s cl (pairChan p) then .next s
  else
    match kind with
    | .start =>
      (match nextStart s cl p with
        | some f => if gateOpen s f cl p && (f.nodes.contains true == nodeB) then .next (postStart cl p f s) else .next s
        | none => .next s)
    | .cal => if visitOk s cl p then .next (postCal cl p s) else .next s
    | .swappt =>
      if p < 64 ∧ swapptOk s cl p = true then
        (match dispTo s cl p, s.ft.frames.find? (fun f => f.last.isSome) with
          | some (e, ch), some f => .next (dispatch e ch [0x30000000]
              { s with eng := { s.eng with lastSwap := smPut s.eng.lastSwap (cl * 64 + p) (f.num + 1) } })
          | _, _ => .next s)
      else .next s

/-- The course pairs of frame `n` not handed to the mortar bus by the first GTX of frame n + 2 (R235): flushed, filled,
flagged COURSE_LATE and counted. -/
def courseLate (n : Nat) (s : Block) : Block :=
  match s.frame? n, s.ingest? n with
  | some f, some g =>
    let regions := (List.range 8).filter (fun r => !g.ended.contains r)
    regions.foldl (fun t r =>
      let qs := missingCourses t f n r
      if qs.isEmpty then t
      else
        let cols := (List.range 4).map (fun j => r % 4 * 4 + j)
        let pairOf (q : Nat) : Nat × Nat := if 1024 ≤ q then (7, 64 + (q - 1024) / 2) else (q / 128, q % 128 / 2)
        let pairs := (qs.map pairOf).eraseDups
        let t1 := pairs.foldl (fun a rp => cols.foldl (fun b col =>
          let c := rp.1 * 16 + col
          let b1 := { b with
            eng := { b.eng with actions := b.eng.actions.filter (fun x =>
              !(decide (x.cluster = c) && decide (x.pair = rp.2) && decide (x.frame = n) && decide (x.action = 0))) },
            pix := { b.pix with bufs := b.pix.bufs.filter (fun x => !(decide (x.frame = n % 65536) &&
              (pairCourses c rp.2).any (fun q => (courseUnits c q).contains x.unit))) } }
          f.nodes.foldl (fun d nd => markConverted c rp.2 nd n d) b1) a) t
        let t2 := (fillCourses n r qs (bit8 cCourseLate) t1).marks n [fCourseLate, fIncomplete]
        (t2.incFld (DSP_STAT.LATE r) pairs.length).raise (421 + 16 * r)) s
  | _, _ => s

/-! ### Commands to the engines (R227, R237, R251, R254) -/

/-- ENG_SWAP_REQ (R237, R239, R246): writing 1 to SWAP_REQ. -/
def execEngSwapReq (c : Carrier) (e : BitVec 8) (s : State) : Host.Outcome State Fault Refusal :=
  s.onBlock fun s =>
  let en := e.toNat
  if 144 ≤ en then .fault .noSuchEngine
  else
    let q : Req := ⟨c, 0, 0, 0, []⟩
    match firstFail ((decide (classOf s c < 2), stDenied) :: swapChecks [en] q s) with
    | some st => .next (if st = stDenied then s.raise 968 else if st = stConflict then s.raise 969 else s)
    | none => .next (askSwap (originOf c) en s)

/-- Is enabling channel `k` of engine `e` refused (R226)? BUSY while its even neighbour holds its queues. -/
def enBusy (s : Block) (e k : Nat) : Bool :=
  (decide (k % 2 = 1) && s.flag (CH_CFG.EN e (k - 1)) &&
    (decide (s.fld (CH_CFG.QMODE e (k - 1)) = 3) || decide (s.fld (CH_CFG.QMODE e (k - 1)) = 4))) ||
  (decide (k % 2 = 0) && s.flag (CH_CFG.EN e (k + 1)) &&
    (decide (s.fld (CH_CFG.QMODE e k) = 3) || decide (s.fld (CH_CFG.QMODE e k) = 4)))

/-- CH_CFG_EN_START (R251): a 0-to-1 write of EN starts the channel at ENTRY, with a REGISTER cairn (R649). -/
def execChCfgEnStart (c : Carrier) (e : BitVec 8) (k : BitVec 6) (s : State) : Host.Outcome State Fault Refusal :=
  s.onBlock fun s =>
  let en := e.toNat
  let ch := k.toNat
  if 144 ≤ en ∨ (128 ≤ en ∧ 16 ≤ ch) then .fault .noSuchEngine
  else if s.flag (CH_CFG.EN en ch) then .next s
  else
    match firstFail [(decide (classOf s c < 2), stDenied), (enBusy s en ch, stBusy)] with
    | some st => .next (if st = stDenied then s.raise 968 else s)
    | none =>
      let a := CH_CFG.addr en ch
      .next (startChan false en ch (s.regCairn (originOf c) a (wsetField (s.reg a) 10 1 1)))

/-- ENG_IN_POST (R227, R251): a write posts its word into the in-queue; a full queue drops and counts it. -/
def execEngInPost (c : Carrier) (e : BitVec 8) (k : BitVec 6) (w : Word) (s : State) : Host.Outcome State Fault Refusal :=
  s.onBlock fun s =>
  let en := e.toNat
  let ch := k.toNat
  if 144 ≤ en ∨ (128 ≤ en ∧ 16 ≤ ch) then .fault .noSuchEngine
  else if classOf s c < 2 then .next (s.raise 968)
  else .next (postWord en ch w s).2

/-- The cairn of a load: staging CRC-32 before and after, on one engine or on the broadcast (R256). -/
def loadCairn (origin target : Nat) (old new : List Word) (s : Block) : Block :=
  let one (l : List Word) (t : Block) : Word × Block :=
    match l with
    | [] => (t.drawn, t.draw)
    | w :: r => if r.all (fun x => decide (x = w)) then (w, t) else (t.drawn, t.draw)
  let (a, s1) := one old s
  let (b, s2) := one new s1
  s2.cairn origin 0x0401 target a b

/-- Load words into the staging banks of the targets, with the cairn (R237, R256). -/
def loadAll (origin e first : Nat) (l : List Word) (s : Block) : Block :=
  let ts := engTargets s e
  let s1 := ts.foldl (fun t x => loadWords x first l t) s
  loadCairn origin (if e = 0xFFFF then 0x0010A000 else engBase e) (ts.map (fun x => bankCrc s x true))
    (ts.map (fun x => bankCrc s1 x true)) s1

/-- ENG_BCAST_WRITE (R251): a word of the broadcast window goes into the staging bank of every eligible mason; BUSY, and no
mason written, if one has a swap pending. -/
def execEngBcastWrite (c : Carrier) (i : BitVec 10) (w : Word) (s : State) : Host.Outcome State Fault Refusal :=
  s.onBlock fun s =>
  if classOf s c < 2 then .next (s.raise 968)
  else if (bcastMasons s).any (fun e => s.flag (ENG_CTL.SWAP_REQ e)) then .next s
  else .next (loadAll (originOf c) 0xFFFF i.toNat [w] s)

/-- ENG_GET_STATE (R254). -/
def execEngGetState (q : Req) (s : State) : Host.Outcome State Fault Refusal :=
  s.onBlock fun s =>
  let e := pNat q 0 2
  runReq 0x0400 0 20 q (fun _ => [shape q 4 [2, 3], bad (!engOk e false)])
    (fun a => a.reply q 0x0400 stOk (wordsFrom a (ENG_STAT.addr e) 3 ++ wordBytes (bankCrc a e false) ++ wordBytes (bankCrc a e true))) s

/-- ENG_LOAD (R237, R239, R254). -/
def execEngLoad (q : Req) (s : State) : Host.Outcome State Fault Refusal :=
  s.onBlock fun s =>
  let e := pNat q 0 2
  let first := pNat q 2 2
  let n := pNat q 4 2
  let swap := (pNat q 6 2).testBit 0
  let lim := match q.carrier with | .twoWire _ _ => 122 | _ => 1020
  runReq 0x0401 2 16 q (fun a =>
    let ts := engTargets a e
    [bad (decide (q.params.length ≠ 8 + 4 * n)), bad (!engOk e true), bad (decide (pNat q 6 2 / 2 ≠ 0)), bad (decide (lim < n) || decide (n = 0)),
     bad (decide (1024 < first + n)), (ts.any (fun x => decide (x < 144) && a.flag (ENG_CTL.SWAP_REQ x)), stBusy),
     (ts.any (fun x => decide (x < 144) && decide (a.fld (ENG_STAT.STATE x) = 2)), stFault)] ++
     (if swap then swapChecks ts q a else []))
    (fun a =>
      let ts := engTargets a e
      if swap && a.takeOpen && ts.any (fun x => decide (x < 128)) then forceClose 0x0401 q a
      else
        let a1 := loadAll (originOf q.carrier) e first (wordsOf n (q.params.drop 8)) a
        let crc := match ts with | x :: _ => bankCrc a1 x true | [] => a1.drawn
        let same := ts.all (fun x => decide (bankCrc a1 x true = crc))
        let res := wordBytes (if same then crc else a1.drawn)
        let a2 := if same && !ts.isEmpty then a1 else a1.draw
        if swap then replySwap 0x0401 e q res (ts.foldl (fun t x => askSwap (originOf q.carrier) x t) a2)
        else a2.reply q 0x0401 stOk res) s

/-- ENG_SWAP (R238, R239, R254): at the swap point, or forced. -/
def execEngSwap (q : Req) (s : State) : Host.Outcome State Fault Refusal :=
  s.onBlock fun s =>
  let e := pNat q 0 2
  let mode := pByte q 2
  runReq 0x0402 2 12 q (fun a => [shape q 4 [3], bad (!engOk e true), bad (decide (1 < mode))] ++ swapChecks (engTargets a e) q a)
    (fun a =>
      let ts := engTargets a e
      if a.takeOpen && ts.any (fun x => decide (x < 128)) then forceClose 0x0402 q a
      else if mode = 1 then (ts.foldl (fun t x => doSwap true (originOf q.carrier) x t) a).reply q 0x0402 stOk []
      else replySwap 0x0402 e q [] (ts.foldl (fun t x => askSwap (originOf q.carrier) x t) a)) s

/-- Stop a channel at its next boundary (R254). -/
def stopChan (e ch : Nat) (s : Block) : Block :=
  let c := s.chan e ch
  if c.state = 0 then s.setChan e ch { c with state := 5 }
  else if c.state = 5 ∨ c.state = 6 then s
  else s.setChan e ch { c with stopReq := true }

/-- Start a channel at ENTRY; a channel that is not enabled becomes enabled (R251, R254). -/
def startByCommand (origin e ch : Nat) (s : Block) : Block :=
  let a := CH_CFG.addr e ch
  startChan false e ch (s.regCairn origin a (wsetField (s.reg a) 10 1 1))

/-- ENG_CHAN (R254). -/
def execEngChan (q : Req) (s : State) : Host.Outcome State Fault Refusal :=
  s.onBlock fun s =>
  let e := pNat q 0 2
  let ch := pByte q 2
  let act := pByte q 3
  runReq 0x0403 2 0 q (fun a =>
    let ts := engTargets a e
    [shape q 4 [], bad (!engOk e true), bad (decide (1 < act)), bad (ts.any (fun x => decide (ownChans x ≤ ch))),
     (decide (act = 1) && ts.any (fun x => enBusy a x ch && !a.flag (CH_CFG.EN x ch)), stBusy),
     (a.takeOpen && ts.any (fun x => decide (x < 128)), stRecording),
     (ts.any (fun x => decide (a.fld (ENG_STAT.STATE x) = 2)), stFault)])
    (fun a =>
      ((engTargets a e).foldl (fun t x => if act = 0 then stopChan x ch t else startByCommand (originOf q.carrier) x ch t) a).reply
        q 0x0403 stOk []) s

/-- Post words until one is dropped; the number accepted (R227). -/
def postAll (e ch : Nat) (l : List Word) (s : Block) : Nat × Block :=
  l.foldl (fun (nt : Nat × Block) w => let (ok, t1) := postWord e ch w nt.2; (nt.1 + b2n ok, t1)) (0, s)

/-- ENG_QUEUE_POST (R227, R254): BUSY with the number of words accepted when some were dropped. -/
def execEngQueuePost (q : Req) (s : State) : Host.Outcome State Fault Refusal :=
  s.onBlock fun s =>
  let e := pNat q 0 2
  let ch := pByte q 2
  let n := pNat q 4 2
  runReq 0x0404 1 2 q (fun a =>
    [bad (decide (q.params.length ≠ 8 + 4 * n)), bad (decide (pByte q 3 ≠ 0) || decide (pNat q 6 2 ≠ 0)), bad (decide (n = 0) || decide (16 < n)),
     bad (!engOk e false), bad (decide (ownChans e ≤ ch)), (decide (a.fld (ENG_STAT.STATE e) = 2), stFault)])
    (fun a =>
      let (k, a1) := postAll e ch (wordsOf n (q.params.drop 8)) a
      a1.reply q 0x0404 (if k = n then stOk else stBusy) (leBytes 2 k)) s

/-- ENG_QUEUE_READ (R254): words popped from a CORE-sink out-queue. -/
def execEngQueueRead (q : Req) (s : State) : Host.Outcome State Fault Refusal :=
  s.onBlock fun s =>
  let e := pNat q 0 2
  let ch := pByte q 2
  let n := pNat q 4 2
  runReq 0x0405 0 (4 * n) q (fun a =>
    [shape q 8 [3, 6, 7], bad (decide (n = 0) || decide (16 < n)), bad (!engOk e false), bad (decide (ownChans e ≤ ch)),
     bad (decide (a.fld (CH_CFG.QSINK e ch) ≠ 0))])
    (fun a =>
      let c := a.chan e ch
      (a.setChan e ch { c with outq := c.outq.drop n }).reply q 0x0405 stOk ((c.outq.take n).flatMap wordBytes)) s

/-- ENG_READ_PROG (R254). -/
def execEngReadProg (q : Req) (s : State) : Host.Outcome State Fault Refusal :=
  s.onBlock fun s =>
  let e := pNat q 0 2
  let bank := pByte q 2
  let first := pNat q 4 2
  let n := pNat q 6 2
  let lim := match q.carrier with | .twoWire _ _ => 124 | _ => 1022
  runReq 0x0406 0 (4 * n) q (fun _ =>
    [shape q 8 [3], bad (!engOk e false), bad (decide (1 < bank)), bad (decide (n = 0) || decide (lim < n)), bad (decide (1024 < first + n))])
    (fun a => a.reply q 0x0406 stOk ((List.range n).flatMap (fun i => wordBytes (bankWord a e (decide (bank = 1)) (first + i))))) s

/-- ENG_RESTORE (R243, R254): self-test of a faulted mason, whose outcome is a free value, then the hand-over, at once when
the cluster has no START in progress. -/
def execEngRestore (q : Req) (s : State) : Host.Outcome State Fault Refusal :=
  s.onBlock fun s =>
  let c := pNat q 0 2
  runReq 0x0407 3 0 q (fun a =>
    [shape q 4 [2, 3], bad (decide (128 ≤ c)), bad (decide (c < 128) && decide (a.fld (ENG_STAT.STATE c) ≠ 2)), (a.takeOpen, stRecording)])
    (fun a =>
      let fail := a.drawn.getLsbD 0
      let a1 := a.draw
      if fail then a1.reply q 0x0407 stFault []
      else
        let a2 := { a1 with eng := { a1.eng with
          restorePending := if a1.eng.restorePending.contains c then a1.eng.restorePending else a1.eng.restorePending ++ [c],
          restoreSince := smPut a1.eng.restoreSince c a1.now,
          swapOrigin := smPut a1.eng.swapOrigin (1000 + c) (originOf q.carrier) } }
        if clusterIdle a2 c then (handOver (originOf q.carrier) c a2).reply q 0x0407 stOk []
        else a2.replyLater q 0x0407 stOk [] (.restore c)) s

end Sys2Proof.Machine
end

