-- ==== Sys2Proof/Machine/Keystone.lean ====
section
/-! DEFINITION. The keystone: its counter, trim and slew (R293 to R303), the arming of compare channels (R304, R306,
R309, R311), and the 0x05xx opcodes (R318). -/

namespace Sys2Proof.Machine

/-! ### Trim and slew (R298 to R300) -/

/-- The clamp of R298 and the slew component of R300, in units of 2^-32. -/
def trimMax : Int := 858993
def slewRate : Int := 214748

/-- KS_TRIM as a signed number. -/
def trimOf (s : Block) : Int := sgn 32 (s.fld KS_TRIM.TRIM)

/-- The slew component in force (R300): what remains, when less than a tick's gain at 50 ppm remains. -/
def slewPart (s : Block) : Int := clampInt (-slewRate) slewRate s.ks.slew

/-- The slew remainder in ticks, rounded towards zero (R300). -/
def slewTicks (s : Block) : Int := Int.tdiv s.ks.slew 4294967296

/-- KS_TRIM_EFF and TRIM_LIMIT follow the trim and the slew; a change of TRIM_LIMIT is reported (R298). -/
def retrim (s : Block) : Block :=
  let sum := trimOf s + slewPart s
  let e := clampInt (-trimMax) trimMax sum
  let limit := decide (e ≠ sum)
  let was := s.flag KS_STAT.TRIM_LIMIT
  let s1 := (s.setFld KS_TRIM_EFF.EFF (unsgn 32 e)).setFlag KS_STAT.TRIM_LIMIT limit
  if limit = was then s1 else (s1.policyCairn 0x501 0x0509 KS_STAT.addr (b2n was) (b2n limit)).raise 1022

/-- Set the slew remainder, in units of 2^-32 tick; KS_SLEW and SLEWING follow (R300). -/
def setSlew (v : Int) (s : Block) : Block :=
  let s1 := { s with ks := { s.ks with slew := v } }
  retrim ((s1.setFld KS_SLEW.REMAIN (unsgn 32 (slewTicks s1))).setFlag KS_STAT.SLEWING (decide (v ≠ 0)))

/-- Set KS_TRIM (R298). -/
def setTrim (v : Int) (s : Block) : Block := retrim (s.setFld KS_TRIM.TRIM (unsgn 32 v))

/-- A trim written by the NA-6510's own loop: a POLICY act without a cairn (R299, R444). The loops wait while the core is down (R618). -/
def loopTrim (v : Int) (s : Block) : Block :=
  if s.pwr.coreDown then s else setTrim (clampInt (-trimMax) trimMax v) (s.policy 0x501)

/-- The counter wraps to 0 (R294). -/
def wrapKs (s : Block) : Block :=
  ((({ s with ks := { s.ks with now := 0 } } : Block).setFlag KS_STAT.WRAPPED true).raise 1022).cairnN oFirmware 0x0508
    (KS_NOW.addr 1) 0xFFFFFFFF 0

/-- One tick of the counter (R293, R300). -/
def tickKs (s : Block) : Block :=
  if s.ks.stopped then s
  else
    let s1 := if s.ks.slew = 0 then s else setSlew (s.ks.slew - slewPart s) s
    if s1.now = BitVec.ofNat 64 (2 ^ 64 - 1) then wrapKs s1
    else { s1 with ks := { s1.ks with now := s1.ks.now + 1 } }

/-- KEYSTONE_WRAP (R294): the counter stands at all ones and wraps. -/
def execKeystoneWrap (s : State) : Host.Outcome State Fault Refusal :=
  s.onBlock fun s =>
  .next (if s.now = BitVec.ofNat 64 (2 ^ 64 - 1) && !s.ks.stopped then wrapKs s else s)

/-- SLEW_END (R300): what remains of the slew is applied; SLEWING clears. -/
def execSlewEnd (s : State) : Host.Outcome State Fault Refusal :=
  s.onBlock fun s =>
  .next (if s.ks.slew ≠ 0 ∧ s.ks.slew = slewPart s then setSlew 0 s else s)

/-! ### Compare channels (R304 to R309) -/

/-- Bit `i` of a pair of words at `a`. -/
def setPairBit (a i : Nat) (b : Bool) (s : Block) : Block :=
  s.setReg (a + 4 * (i / 32)) (wput (s.reg (a + 4 * (i / 32))) (i % 32) b)

/-- Is channel `i` armed? -/
def armedCh (s : Block) (i : Nat) : Bool := s.flag (KS_CH_CTL.ARMED i)

/-- ARMED and its bit of KS_ARMED (R315, R316). -/
def setArmed (i : Nat) (b : Bool) (s : Block) : Block := setPairBit (KS_ARMED.addr 0) i b (s.setFlag (KS_CH_CTL.ARMED i) b)

/-- LATE and its bit of KS_LATE, which are one bit (R315, R317). -/
def setLate (i : Nat) (b : Bool) (s : Block) : Block := setPairBit (KS_LATE.addr 0) i b (s.setFlag (KS_CH_STAT.LATE i) b)

/-- C of channel `i`. -/
def cmpOf (s : Block) (i : Nat) : Tick := BitVec.ofNat 64 (s.fld (KS_CH_CMP_LO.CMP i) + 2 ^ 32 * s.fld (KS_CH_CMP_HI.CMP i))

/-- Write C of channel `i`. -/
def setCmp (i : Nat) (t : Tick) (s : Block) : Block :=
  (s.setFld (KS_CH_CMP_LO.CMP i) (t.toNat % 2 ^ 32)).setFld (KS_CH_CMP_HI.CMP i) (t.toNat / 2 ^ 32)

/-- MATCH of channel `i`, and its record. -/
def matchOf (s : Block) (i : Nat) : Nat := s.fld (KS_CH_MATCH_LO.MATCH i) + 2 ^ 32 * s.fld (KS_CH_MATCH_HI.MATCH i)
def setMatch (i : Nat) (t : Tick) (s : Block) : Block :=
  (s.setFld (KS_CH_MATCH_LO.MATCH i) (t.toNat % 2 ^ 32)).setFld (KS_CH_MATCH_HI.MATCH i) (t.toNat / 2 ^ 32)

/-- P of channel `i` as a tick count. -/
def perOf (s : Block) (i : Nat) : Nat := s.fld (KS_CH_PERIOD.PERIOD i)

/-- The point at which channel `i` fires next (R304, R305): C, or the last scheduled point plus P. -/
def pointOf (s : Block) (i : Nat) : Tick :=
  let b := smGet 0 s.ks.base i
  if s.ks.fired.contains i then b + BitVec.ofNat 64 (perOf s i) else b

/-- Arm channel `i` now, from its own settings; `a` is the tick that REL counts from (R304). A past point makes it fire
late at the next tick (R306). -/
def armChan (i : Nat) (a : Tick) (s : Block) : Block :=
  let c := if s.flag (KS_CH_CTL.REL i) then a + BitVec.ofNat 64 (perOf s i) else cmpOf s i
  let s1 := setArmed i true (setCmp i c s)
  { s1 with ks := { s1.ks with
      base := smPut s1.ks.base i c, fired := s1.ks.fired.filter (fun j => decide (j ≠ i)),
      armedAt := smPut s1.ks.armedAt i s.now,
      late := if laterThan c s.now then smDel s1.ks.late i else smPut s1.ks.late i s.now } }

/-- Disarm channel `i`. -/
def disarmChan (i : Nat) (s : Block) : Block :=
  let s1 := setArmed i false s
  { s1 with ks := { s1.ks with late := smDel s1.ks.late i } }

/-- Disarm every channel (R311). -/
def disarmAll (s : Block) : Block :=
  let s1 := (List.range 64).foldl (fun t i => if armedCh t i then disarmChan i t else t) s
  { s1 with ks := { s1.ks with chains := [] } }

/-- A CTL word that a write or KS_ARM may not give channel `i` (R309, R316). -/
def ctlBad (i : Nat) (w : Word) : Bool :=
  let e := wfield w 8 8
  decide (144 ≤ e) || (decide (128 ≤ e) && decide (16 ≤ wfield w 16 6)) ||
    (decide (4 ≤ i) && w.getLsbD 22 && decide (wfield w 23 6 < 4))

/-- A CTL word that conflicts with exposure timing on channels 4 to 63 (R309). -/
def ctlConflicts (i : Nat) (w : Word) : Bool :=
  decide (4 ≤ i) && (decide (wfield w 3 2 ≠ 0) || (w.getLsbD 7 && decide (wfield w 8 8 < 128)))

/-- Is a channel with such a CTL armed (R309)? -/
def conflictArmed (s : Block) : Bool :=
  (List.range 64).any (fun i => armedCh s i && ctlConflicts i (s.reg (KS_CH_CTL.addr i)))

/-- Channels 0 to 3 belong to the frame schedule (R259, R309). -/
def chanOwned (s : Block) (i : Nat) : Bool := s.running && decide (i < 4)

/-- CTL bits that KS_ARM takes: ARMED and LAST are ignored, reserved bits read as 0 (R316, R318). -/
def ctlTaken (w : Word) : Word := w &&& 0x3FFFFFDE

/-- CHAIN_ARM (R307, R308): a chain target is armed at the tick after its source fired. -/
def execChainArm (i : BitVec 6) (s : State) : Host.Outcome State Fault Refusal :=
  s.onBlock fun s =>
  match s.ks.chains.find? (fun e => decide (e.1 = i.toNat)) with
  | some (_, t) =>
    if s.now = t + 1 then
      let s1 := { s with ks := { s.ks with chains := smDel s.ks.chains i.toNat } }
      .next (armChan i.toNat t (if armedCh s i.toNat then s1 else s1.setFld (KS_CH_STAT.MISSED i.toNat) 0))
    else .next s
  | none => .next s

/-! ### The opcodes (R318) -/

/-- KS_GET_STATE. -/
def execKsGetState (q : Req) (s : State) : Host.Outcome State Fault Refusal :=
  s.onBlock fun s =>
  runReq 0x0500 0 44 q (fun _ => [shape q 0 []])
    (fun a => a.reply q 0x0500 stOk (leBytes 8 a.now.toNat ++ wordsFrom a KS_CFG.addr 5 ++ wordsFrom a (KS_ARMED.addr 0) 4)) s

/-- The checks of KS_ARM on its parameters `p` (R309, R316, R318). -/
def armChecks (p : List Byte) (a : Block) : List Check :=
  let i := leAt p 0 1
  let w := ctlTaken (BitVec.ofNat 32 (leAt p 16 4))
  [bad (decide (63 < i) || decide (leAt p 12 4 = 0) || ctlBad i w || decide (leAt p 1 3 ≠ 0)),
    (decide (i < 64) && (armedCh a i || chanOwned a i), stBusy), (decide (i < 64) && a.running && ctlConflicts i w, stConflict)]

/-- KS_ARM's effect: all the channel's words in one tick, MISSED and LATE cleared, the channel armed (R304, R318). -/
def armBy (origin : Nat) (p : List Byte) (a : Block) : Block :=
  let i := leAt p 0 1
  let w := ctlTaken (BitVec.ofNat 32 (leAt p 16 4))
  let old := a.reg (KS_CH_CTL.addr i)
  let a1 := ((((a.setReg (KS_CH_CTL.addr i) w).setFld (KS_CH_CMP_LO.CMP i) (leAt p 4 4)).setFld (KS_CH_CMP_HI.CMP i)
    (leAt p 8 4)).setFld (KS_CH_PERIOD.PERIOD i) (leAt p 12 4)).setFld (KS_CH_POST.WORD i) (leAt p 20 4)
  let a2 := armChan i a.now (setLate i false (a1.setFld (KS_CH_STAT.MISSED i) 0))
  a2.cairn origin 0x0501 (KS_CH_CTL.addr i) old (a2.reg (KS_CH_CTL.addr i))

/-- KS_ARM (R304, R309, R318). -/
def execKsArm (q : Req) (s : State) : Host.Outcome State Fault Refusal :=
  s.onBlock fun s =>
  runReq 0x0501 1 12 q (fun a => shape q 24 [] :: armChecks q.params a)
    (fun a =>
      let a3 := armBy (originOf q.carrier) q.params a
      a3.reply q 0x0501 stOk (leBytes 8 a.now.toNat ++ leBytes 1 (b2n (smHas a3.ks.late (pByte q 0))) ++ zeros 3)) s

/-- Disarm a channel by command, with its cairn (R309, R318, R320). -/
def disarmBy (origin i : Nat) (s : Block) : Block :=
  if armedCh s i then
    let old := s.reg (KS_CH_CTL.addr i)
    let s1 := disarmChan i s
    s1.cairn origin 0x0502 (KS_CH_CTL.addr i) old (s1.reg (KS_CH_CTL.addr i))
  else s

/-- KS_DISARM (R309, R318). -/
def execKsDisarm (q : Req) (s : State) : Host.Outcome State Fault Refusal :=
  s.onBlock fun s =>
  let i := pByte q 0
  runReq 0x0502 1 12 q (fun a => [shape q 4 [1, 2, 3], bad (decide (63 < i)), (chanOwned a i, stBusy)])
    (fun a =>
      (disarmBy (originOf q.carrier) i a).reply q 0x0502 stOk
        (leBytes 8 (matchOf a i) ++ leBytes 2 (a.fld (KS_CH_STAT.MISSED i)) ++ zeros 2)) s

/-- KS_SET_TRIM (R299, R313). -/
def execKsSetTrim (q : Req) (s : State) : Host.Outcome State Fault Refusal :=
  s.onBlock fun s =>
  let v := sgn 32 (pNat q 0 4)
  runReq 0x0503 2 0 q (fun a => [shape q 4 [], bad (decide (v < -trimMax) || decide (trimMax < v)),
      (decide (a.fld KS_CFG.DISC ≠ 0), stBusy)])
    (fun a =>
      let a1 := setTrim v a
      (a1.cairn (originOf q.carrier) 0x0503 KS_TRIM.addr (a.reg KS_TRIM.addr) (a1.reg KS_TRIM.addr)).reply q 0x0503 stOk []) s

/-- KS_SLEW (R299, R300). -/
def execKsSlew (q : Req) (s : State) : Host.Outcome State Fault Refusal :=
  s.onBlock fun s =>
  let d := sgn 32 (pNat q 0 4) * 4294967296
  runReq 0x0504 2 4 q (fun a => [shape q 4 [],
      bad (decide (a.ks.slew + d < -(2147483648 * 4294967296)) || decide (2147483647 * 4294967296 < a.ks.slew + d)),
      (decide (a.fld KS_CFG.DISC ≠ 0), stBusy)])
    (fun a =>
      let a1 := setSlew (a.ks.slew + d) a
      (a1.cairn (originOf q.carrier) 0x0507 KS_SLEW.addr (a.reg KS_SLEW.addr) (a1.reg KS_SLEW.addr)).reply q 0x0504 stOk
        (wordBytes (a1.reg KS_SLEW.addr))) s

/-- Elapsed-time counts keep their length over a step of `d` ticks (R303): delays and timed outputs, and the waits of the
command core. -/
def shiftTicks (d : Tick) (s : Block) : Block :=
  { s with
    eng := { s.eng with
      chans := s.eng.chans.map (fun k => (k.1, { k.2 with delayEnd := k.2.delayEnd.map (· + d), timedFrom := k.2.timedFrom.map (· + d) })),
      timed := s.eng.timed.map (fun p => { p with at_ := p.at_ + d }),
      restoreSince := s.eng.restoreSince.map (fun r => (r.1, r.2 + d)) },
    cmd := { s.cmd with replies := s.cmd.replies.map (fun r => { r with since := r.since + d }) },
    acc := { s.acc with
      maintain := s.acc.maintain.map (fun m => { m with last := m.last + d }),
      nonces := s.acc.nonces.map (fun n => { n with since := n.since + d }),
      wrong := s.acc.wrong.map (· + d), lockUntil := s.acc.lockUntil.map (· + d) },
    nvm := { s.nvm with stageSince := s.nvm.stageSince + d },
    fb := { s.fb with
      bestSince := s.fb.bestSince + d, beatAt := s.fb.beatAt + d, reportAt := s.fb.reportAt.map (· + d), stageAt := s.fb.stageAt + d,
      remotes := s.fb.remotes.map (fun r => { r with since := r.since + d }),
      array := s.fb.array.map (fun x => { x with since := x.since + d }),
      openWait := s.fb.openWait.map (fun w => (w.1 + d, w.2)) } }

/-- ALIGN (R302, R303): the counter reads the new value at this tick. -/
def alignKs (origin : Nat) (v : Tick) (s : Block) : Block :=
  let old := s.now
  let s1 := shiftTicks (v - old) { s with ks := { s.ks with now := v } }
  let s2 := (s1.setFlag KS_STAT.ALIGNED true).raise 1022
  (s2.cairnN origin 0x0505 (KS_NOW.addr 0) (old.toNat % 2 ^ 32) (v.toNat % 2 ^ 32)).cairnN origin 0x0506 (KS_NOW.addr 1)
    (old.toNat / 2 ^ 32) (v.toNat / 2 ^ 32)

/-- Is any compare channel armed? -/
def anyArmed (s : Block) : Bool := decide (s.fld (KS_ARMED.ARMED 0) ≠ 0) || decide (s.fld (KS_ARMED.ARMED 1) ≠ 0)

/-- KS_ALIGN (R302). -/
def execKsAlign (q : Req) (s : State) : Host.Outcome State Fault Refusal :=
  s.onBlock fun s =>
  runReq 0x0505 2 16 q (fun a => [shape q 12 [1, 2, 3], bad (decide (1 < pByte q 0)),
      (anyArmed a || decide (a.fld KS_CFG.DISC ≠ 0), stBusy), (a.takeOpen, stRecording)])
    (fun a =>
      let v := BitVec.ofNat 64 (pNat q 4 8)
      let new := if pByte q 0 = 0 then v else a.now + v
      (alignKs (originOf q.carrier) new a).reply q 0x0505 stOk (leBytes 8 a.now.toNat ++ leBytes 8 new.toNat)) s

/-- May an operator set DISC to `v` (R299, R313)? FABRIC is refused on a root and on a unit whose FX domain is off. -/
def discBad (s : Block) (v : Nat) : Bool :=
  decide (2 < v) || (decide (v = 2) && (s.flag FB_STAT.ROOT || !s.flag SYS_DOMAIN.FX_ON))

/-- DISC changes (R299): KS_TRIM is kept, a slew not yet done is discarded. -/
def discEffect (s : Block) : Block := setSlew 0 s

/-- Change DISC with its cairn (R299, R320). -/
def setDisc (origin v : Nat) (s : Block) : Block :=
  if s.fld KS_CFG.DISC = v then s
  else
    let s1 := discEffect (s.setFld KS_CFG.DISC v)
    s1.cairn origin 0x0504 KS_CFG.addr (s.reg KS_CFG.addr) (s1.reg KS_CFG.addr)

/-- A unit of a fabric that is not its root keeps DISC at FABRIC and may not be genlocked (R530). -/
def fabricBound (s : Block) : Bool := s.flag FB_STAT.READY && !s.flag FB_STAT.ROOT && decide (1 < s.fld FB_STAT.NODES)

/-- KS_SET_DISC (R299, R530). -/
def execKsSetDisc (q : Req) (s : State) : Host.Outcome State Fault Refusal :=
  s.onBlock fun s =>
  let v := pByte q 0
  runReq 0x0506 2 0 q (fun a => [shape q 4 [1, 2, 3], bad (discBad a v),
      (fabricBound a && decide (v ≠ 2), stConflict)])
    (fun a => (setDisc (originOf q.carrier) v a).reply q 0x0506 stOk []) s

end Sys2Proof.Machine
end

