-- ==== Sys2Proof/Machine/RegWrite.lean ====
section
/-! DEFINITION. Register access by command (R82, R89, R649): the blocks, what each chapter refuses to a write, what a write
sets off, and the write itself, of one or more words in one tick (R78). -/

namespace Sys2Proof.Machine

/-! ### Blocks and domains (R82, R89) -/

/-- Is the address inside a block of the register map (R89)? -/
def inBlock (a : Nat) : Bool :=
  decide (a < 0x900000) || (decide (0x1000000 ≤ a) && decide (a < 0x1800000)) || (decide (0x2000000 ≤ a) && decide (a < 0x2A00000)) ||
    (decide (0x3000000 ≤ a) && decide (a < 0x3100000))

/-- Number of the block that an address lies in (R89): two addresses are in one block when these agree. -/
def blockNo (a : Nat) : Nat :=
  if a < 0x10000 then 0 else if a < 0x100000 then 1 else if a < 0x900000 then 2 + (a - 0x100000) / 0x10000
  else if a < 0x1800000 then 200 + (a - 0x1000000) / 0x100000 else if a < 0x2A00000 then 300 + (a - 0x2000000) / 0x100000
  else 400 + (a - 0x3000000) / 0x10000

/-- The switched domain, as its bit of SYS_DOMAIN, that an address needs (R82 rule 7): ports and lanes with their port's
domain, the fabric with FX, the monitor with DV. -/
def domainOf (a : Nat) : Option Nat :=
  let ofPort (t : Nat) : Option Nat := if t = 0 then some 17 else if t = 1 then some 18 else if t = 2 then some 19 else if t = 3 then none else some 21
  if 0x2200000 ≤ a ∧ a < 0x2208000 then ofPort ((a - 0x2200000) / 0x1000)
  else if 0x2210000 ≤ a ∧ a < 0x2212800 then ofPort (portOf ((a - 0x2210000) / 0x100))
  else if 0x2300000 ≤ a ∧ a < 0x2400000 then some 21
  else if 0x2400000 ≤ a ∧ a < 0x2420000 then some 16
  else none

/-- Is the word's domain powered, or among the bits `on`, which count as powered (R82, R650)? -/
def wordPowered (s : Block) (on : Nat) (a : Nat) : Bool :=
  match domainOf a with
  | none => true
  | some b => (s.reg SYS_DOMAIN.addr).getLsbD b || on.testBit b

/-! ### Words to write -/

/-- One word of a write: address, value and mask of the bits written. -/
structure WordW where
  addr : Nat
  value : Word
  mask : Word
  deriving DecidableEq, Repr

/-- Masks of an address: RW and RWS bits, W1C bits, WO bits. -/
def cfgMask (a : Nat) : Word := BitVec.ofNat 32 (match regRow? a with | some r => r.rw ||| r.rws | none => 0)
def rwsMask (a : Nat) : Word := BitVec.ofNat 32 (match regRow? a with | some r => r.rws | none => 0)
def w1cMask (a : Nat) : Word := BitVec.ofNat 32 (match regRow? a with | some r => r.w1c | none => 0)
def woMask (a : Nat) : Word := BitVec.ofNat 32 (match regRow? a with | some r => r.wo | none => 0)

/-- TW_CFG takes no refused value: the field keeps its value (R99). ADDR_OUT is high while IND_VALID is 1 (R101). -/
def twCfgTaken (old new : Word) : Word :=
  let badAddr (v : Nat) : Bool := decide (v < 8) || decide (0x78 ≤ v) || decide (v = 0x3A)
  let w1 := if badAddr (wfield new 0 7) then wsetField new 0 7 (wfield old 0 7) else new
  let w2 := if badAddr (wfield w1 8 7) then wsetField w1 8 7 (wfield old 8 7) else w1
  let w3 := if 2 ≤ wfield w2 24 2 then wsetField w2 24 2 (wfield old 24 2) else w2
  let w4 := if wfield w3 26 2 = 3 then wsetField w3 26 2 (wfield old 26 2) else w3
  wput w4 28 (w4.getLsbD 7)

/-- The word that a write leaves at its address (R82 rule 5): RW and RWS bits under the mask, W1C bits cleared. -/
def mergeWord (old : Word) (w : WordW) : Word :=
  let m := cfgMask w.addr &&& w.mask
  let n := ((old &&& ~~~ m) ||| (w.value &&& m)) &&& ~~~ (w.value &&& w.mask &&& w1cMask w.addr)
  if w.addr = 0x2900000 then twCfgTaken old n else n

/-- The words that a write leaves pending, over the register file. -/
def candidate? (s : Block) (l : List WordW) (a : Nat) : Word :=
  match l.find? (fun w => decide (w.addr = a)) with
  | some w => mergeWord (s.reg a) w
  | none => s.reg a

/-! ### What a write is refused for -/

/-- Does the write change the value of a field? -/
def changes (old new : Word) (f : RF) : Bool := decide (wfield old f.lo f.width ≠ wfield new f.lo f.width)

/-- A field of a word. -/
def fieldIn (w : Word) (f : RF) : Nat := wfield w f.lo f.width

/-- A field out of its range. -/
def outside (w : Word) (f : RF) (lo hi : Nat) : Check := bad (decide (fieldIn w f < lo) || decide (hi < fieldIn w f))

/-- A change of a field that needs MAINTAIN (R82 rule 8). -/
def needsMaintain (cls : Nat) (c : Bool) : Check := (c && decide (cls < 3), stDenied)

/-- Writes to the system block (R50, R64, R163 to R166, R178, R182, R198 to R200, R236, R282 to R286). -/
def sysChecks (s : Block) (cls a : Nat) (old new : Word) : List Check :=
  let c (f : RF) : Bool := changes old new f
  let n (f : RF) : Nat := fieldIn new f
  let b := (a - 0x110) / 8
  if a = SYS_DOMAIN_REQ.addr then
    [((c SYS_DOMAIN_REQ.MA_EN && decide (n SYS_DOMAIN_REQ.MA_EN = 0) && takeUses s 0) ||
      (c SYS_DOMAIN_REQ.MB_EN && decide (n SYS_DOMAIN_REQ.MB_EN = 0) && takeUses s 1) ||
      (c SYS_DOMAIN_REQ.FX_EN && decide (n SYS_DOMAIN_REQ.FX_EN = 0) && s.flag FB_STAT.IN_ARRAY) ||
      (c SYS_DOMAIN_REQ.DV_EN && decide (n SYS_DOMAIN_REQ.DV_EN = 1) && decide (3 ≤ s.fld TH_STAT.SHED_STEP)), stConflict)]
  else if a = SYS_VID.addr then [needsMaintain cls (c SYS_VID.MIN_CODE)]
  else if a = PIX_CFG.addr then
    [needsMaintain cls (c PIX_CFG.FORCE_EN || c PIX_CFG.FORCE_SET), outside new PIX_CFG.FORCE_SET 0 5]
  else if 0x110 ≤ a ∧ a < 0x140 then
    if (a - 0x110) % 8 = 0 then
      [needsMaintain cls (old != new), outside new (PIX_BAND0.TTX b) 160 640, outside new (PIX_BAND0.TX_HIGH b) 60 170,
        outside new (PIX_BAND0.TX_LOW b) 0 80]
    else [needsMaintain cls (old != new), outside new (PIX_BAND1.AB_EXP b) 40 140]
  else if a = CNV_THRESH.addr then [outside new CNV_THRESH.LEVEL 2048 14336]
  else if a = CNV_BGCAL.addr then [outside new CNV_BGCAL.INTERVAL 100 60000, outside new CNV_BGCAL.VISITS_PER_GAP 1 15]
  else if 0x300 ≤ a ∧ a < 0x380 then
    let p := (a - 0x300) / 4
    let owner (w : Word) : Bool := decide (fieldIn w (PE_PAD.OWN_EN p) = 1) && s.flag (ENG_CTL.RUN (128 + fieldIn w (PE_PAD.OWNER p)))
    [((c (PE_PAD.OWNER p) || c (PE_PAD.OWN_EN p)) && (owner old || owner new), stBusy)]
  else if a = FT_CFG.addr then
    [(c FT_CFG.TIMING && s.running, stBusy), (c FT_CFG.TIMING && decide (n FT_CFG.TIMING = 1) && fabricBound s, stConflict)]
  else if a = FT_GENLOCK.addr ∨ a = FT_GL_REF.addr ∨ a = FT_GL_OFFSET.addr then [(s.running, stBusy)]
  else []

/-- Is some channel of engine `e` at barrier `b`? -/
def waitsAt (s : Block) (e b : Nat) : Bool :=
  (allChans s e).any (fun ch => decide ((s.chan e ch).state = 4) && (match (s.chan e ch).barrier with | some (x, _) => decide (x = b) | none => false))

/-- Writes to an engine's block (R226, R237, R246, R250, R251, R256). -/
def engChecks (s : Block) (e o : Nat) (old new : Word) (value : Word) : List Check :=
  if o = 0 then
    let ask := value.getLsbD 1
    outside new (ENG_CTL.QUANTUM e) 8 255 ::
      (if ask && !old.getLsbD 1 then swapChecks [e] ⟨.host, 0, 0, 0, []⟩ s else [])
  else if 0x40 ≤ o ∧ o < 0x80 then [(waitsAt s e ((o - 0x40) / 4), stBusy)]
  else if 0x80 ≤ o ∧ o < 0x180 then
    let k := (o - 0x80) / 4
    let q := fieldIn new (CH_CFG.QMODE e k)
    [bad (decide (5 ≤ q) || (decide (k % 2 = 1) && decide (3 ≤ q))),
      (changes old new (CH_CFG.QMODE e k) && (s.flag (CH_CFG.EN e k) || s.flag (CH_CFG.EN e (k / 2 * 2 + 1))), stBusy),
      (changes old new (CH_CFG.EN e k) && new.getLsbD 10 && enBusy s e k, stBusy)]
  else if 0x8000 ≤ o ∧ o < 0x9000 then [(s.flag (ENG_CTL.SWAP_REQ e), stBusy)]
  else if e = 0 ∧ 0xA000 ≤ o ∧ o < 0xB000 then [((bcastMasons s).any (fun x => s.flag (ENG_CTL.SWAP_REQ x)), stBusy)]
  else []

/-- Writes to the keystone block (R299, R309, R313, R316, R317, R530). -/
def ksChecks (s : Block) (a : Nat) (old new : Word) : List Check :=
  if a = KS_CFG.addr then
    let v := fieldIn new KS_CFG.DISC
    [bad (decide (v = 3)), (bad (changes old new KS_CFG.DISC && discBad s v)),
      (changes old new KS_CFG.DISC && fabricBound s && decide (v ≠ 2), stConflict)]
  else if a = KS_TRIM.addr then
    let v := sgn 32 new.toNat
    [bad (decide (v < -trimMax) || decide (trimMax < v)), (decide (s.fld KS_CFG.DISC ≠ 0), stBusy)]
  else if 0x2000100 ≤ a ∧ a < 0x2000900 then
    let i := (a - 0x2000100) / 0x20
    let o := (a - 0x2000100) % 0x20
    if o = 0 then [bad (ctlBad i new), (armedCh s i || chanOwned s i, stBusy)]
    else if o = 4 ∨ o = 8 then [(armedCh s i || chanOwned s i, stBusy)]
    else if o = 0xC then [bad (decide (new = 0)), (chanOwned s i, stBusy)]
    else if o = 0x10 then [(chanOwned s i, stBusy)]
    else []
  else []

/-- Writes to the frame memory block (R332, R348, R350, R351). -/
def mcChecks (s : Block) (cls a : Nat) (cand : Nat → Word) (old new : Word) : List Check :=
  if a = MC_CFG.addr then
    [bad (decide (1 ≤ fieldIn new MC_CFG.PAGE_IDLE) && decide (fieldIn new MC_CFG.PAGE_IDLE ≤ 3)), outside new MC_CFG.NBR_K 8 14,
      needsMaintain cls (changes old new MC_CFG.FORCE_5600)]
  else if 0x2100010 ≤ a ∧ a < 0x2100024 then [(true, stBusy)]
  else if 0x2100100 ≤ a ∧ a < 0x2100158 ∧ (a - 0x2100100) % 8 = 0 then
    let q := (a - 0x2100100) / 8
    let sum := ((List.range 11).map (fun i => fieldIn (cand (MC_REG0.addr i)) (MC_REG0.GUAR i))).sum
    [bad (decide (fieldIn new (MC_REG0.CEIL q) < fieldIn new (MC_REG0.GUAR q))),
      bad (changes old new (MC_REG0.GUAR q) && (match worstChannel s with | some (_, u) => decide (u < sum) | none => false))]
  else if 0x2100100 ≤ a ∧ a < 0x2100158 then [outside new (MC_REG1.BURST ((a - 0x2100100) / 8)) 16 65535]
  else []

/-- Writes to the links block (R475, R482, R486). -/
def lkChecks (s : Block) (a : Nat) (old new value : Word) : List Check :=
  if 0x2200000 ≤ a ∧ a < 0x2208000 ∧ a % 0x1000 = 0 then
    let t := (a - 0x2200000) / 0x1000
    let m := fieldIn new (PT_CFG.LANES_ALLOWED t)
    [bad (decide (m % 2 ^ portWidth t = 0)),
      (changes old new (PT_CFG.LANES_ALLOWED t) && takeUses s t &&
        decide (s.fld (PT_STAT.LANES_IN t) &&& (255 - m) ≠ 0), stRecording)]
  else if 0x2210000 ≤ a ∧ a < 0x2212800 ∧ a % 0x100 = 0 then
    let l := (a - 0x2210000) / 0x100
    [(value.getLsbD 0 && !mayslip s l, stBusy), (old != new && s.flag (LN_STAT.IN_SERVICE l), stBusy)]
  else []

/-- The crop and raster of an enabled context hold R395 under the words `rd`. -/
def monOk (rd : Nat → Word) (x : Nat) : Bool :=
  if rdFld rd (MON_CTX_CFG.EN x) = 0 then true
  else
    let k := binEdge (rdFld rd CNV_CFG.BIN)
    let u0 := rdFld rd (MON_CTX_CROP0.U0 x)
    let u1 := rdFld rd (MON_CTX_CROP0.U1 x)
    let v0 := rdFld rd (MON_CTX_CROP1.V0 x)
    let v1 := rdFld rd (MON_CTX_CROP1.V1 x)
    let w := rdFld rd (MON_CTX_OUT.WIDTH x)
    let h := rdFld rd (MON_CTX_OUT.HEIGHT x)
    let wi := (u1 + 1 - u0) * k
    let hi := (v1 + 1 - v0) * k
    decide (u0 ≤ u1) && decide (u1 ≤ 2303) && decide (v0 ≤ v1) && decide (w % 16 = 0) && decide (256 ≤ w) && decide (w ≤ 8192) &&
      decide (h % 2 = 0) && decide (144 ≤ h) && decide (h ≤ 3640) && decide (w ≤ wi) && decide (wi ≤ 16 * w) &&
      decide (h ≤ hi) && decide (hi ≤ 16 * h)

/-- Writes to the monitor and statistics block (R399, R420 to R422, R446, R447); `pol` when the writer is POLICY. -/
def monChecks (s : Block) (pol : Bool) (a : Nat) (cand : Nat → Word) (old new : Word) : List Check :=
  if 0x2400100 ≤ a ∧ a < 0x2400500 then
    let x := (a - 0x2400100) / 0x100
    let o := (a - 0x2400100) % 0x100
    if o = 0 then
      [bad (decide (fieldIn new (MON_CTX_CFG.DEST x) = 3) || decide (fieldIn new (MON_CTX_CFG.SOURCE x) = 3) ||
        decide (fieldIn new (MON_CTX_CFG.DIV x) = 0) || decide (fieldIn new (MON_CTX_CFG.DIV x) ≤ fieldIn new (MON_CTX_CFG.PHASE x)))]
    else if o = 0x1C ∨ o = 0x20 then [(s.flag (MON_CTX_CFG.AWB x) && !pol && old != new, stBusy)]
    else if o = 0x38 then [outside new (MON_CTX_OVL.TONE_SHIFT x) 6 10]
    else []
  else if 0x2410000 ≤ a ∧ a < 0x2418000 then
    let x := (a - 0x2410000) / 0x2000
    let b := (a - 0x2410000) % 0x2000 / 0x1000
    [(decide (s.fld (MON_CTX_CFG.TONE_BANK x) = b) || decide (s.effFld (MON_CTX_CFG.TONE_BANK x) = b), stBusy)]
  else if a = AE_CFG.addr then
    [outside new AE_CFG.INTERVAL 1 255, outside new AE_CFG.TARGET 64 65534]
  else if a = AE_MIN.addr ∨ a = AE_MAX.addr then
    [bad (decide ((cand AE_MIN.addr).toNat < 800) || decide ((cand AE_MAX.addr).toNat < (cand AE_MIN.addr).toNat))]
  else if a = AWB_CFG.addr then [outside new AWB_CFG.INTERVAL 1 255]
  else if a = AWB_RANGE.addr then [bad (decide (fieldIn new AWB_RANGE.HIGH < fieldIn new AWB_RANGE.LOW))]
  else []

/-- Writes to the record block (R383 to R387, R515). -/
def recChecks (s : Block) (a : Nat) (new : Word) : List Check :=
  if a = REC_CFG.addr then
    [bad (decide (fieldIn new REC_CFG.FORMAT = 3) || (decide (fieldIn new REC_CFG.STRENGTH = 0) && decide (fieldIn new REC_CFG.TNR_EN = 1)))]
  else if a = REC_BLACK.addr then [outside new REC_BLACK.TARGET 256 4096]
  else if a = REC_DEPTH.addr then [bad (decide (fieldIn new REC_DEPTH.DEPTH_MAX = 0))]
  else if a = REC_TC.addr then [bad (decide (fieldIn new REC_TC.STALE_MS = 0))]
  else if a = TK_CFG.addr then [bad (decide (fieldIn new TK_CFG.MODE = 3)), (s.takeOpen, stRecording)]
  else []

/-- Writes to the fabric, thermal, reserve and event blocks (R547, R579 to R583, R602, R620). -/
def miscChecks (s : Block) (cls a : Nat) (old new : Word) : List Check :=
  let c (f : RF) : Bool := changes old new f
  let n (f : RF) : Nat := fieldIn new f
  if a = FB_CFG.addr then [(c FB_CFG.REMOTE_REC && s.takeOpen, stRecording)]
  else if a = FB_LEAD.addr then [bad (decide (new.toNat < 800000))]
  else if a = TH_CFG.addr then
    [bad (decide (n TH_CFG.RISE_ALERT = 0) || decide (n TH_CFG.RISE_ACT ≤ n TH_CFG.RISE_ALERT)), bad (decide (40 < n TH_CFG.RISE_ACT))]
  else if a = TH_SHED.addr then
    [bad (decide (n TH_SHED.S2 ≤ n TH_SHED.S1) || decide (n TH_SHED.S3 ≤ n TH_SHED.S2) || decide (n TH_SHED.S4 ≤ n TH_SHED.S3) ||
      decide (138 < n TH_SHED.S4))]
  else if a = TH_TEC.addr then
    [bad (decide (sgn 8 (n TH_TEC.TARGET) < -10) || decide (60 < sgn 8 (n TH_TEC.TARGET))), outside new TH_TEC.MAX_NORMAL 10 100,
      outside new TH_TEC.FAN_MIN 0 100]
  else if a = TH_VID_TGT.addr then
    [bad (decide (n TH_VID_TGT.DLY_RAISE < n TH_VID_TGT.DLY_LOWER + 100)), needsMaintain cls (old != new)]
  else if 0x2600200 ≤ a ∧ a < 0x2600220 ∧ a % 8 = 0 then
    let i := (a - 0x2600200) / 8
    [bad (decide (n (TH_TD0.TYPE i) = 3) || decide (n (TH_TD0.BETA i) < 2000))]
  else if a = RSV_CFG.addr then
    [outside new RSV_CFG.P_CLOSE 8 100, outside new RSV_CFG.ICHG_MAX 1 50,
      (s.takeOpen && (c RSV_CFG.CAP_MWH || c RSV_CFG.P_CLOSE), stRecording)]
  else if a = RSV_VIN_CFG.addr then
    [bad (decide (n RSV_VIN_CFG.VIN_FAIL < 80) || decide (n RSV_VIN_CFG.VIN_OK < n RSV_VIN_CFG.VIN_FAIL + 5) || decide (200 < n RSV_VIN_CFG.VIN_OK))]
  else if a = WDG_CFG.addr then [outside new WDG_CFG.PERIOD 5 1000, needsMaintain cls (old != new)]
  else if 0x1000200 ≤ a ∧ a < 0x1800000 ∧ a % 0x100000 = 0x200 then
    let r := (a - 0x1000200) / 0x100000
    [outside new (DSP_CFG.AHEAD r) 4 31, needsMaintain cls (old != new)]
  else []

/-- What the chapters refuse to one word of a write. -/
def wordChecks (s : Block) (cls : Nat) (pol : Bool) (cand : Nat → Word) (w : WordW) : List Check :=
  let a := w.addr
  let old := s.reg a
  let new := mergeWord old w
  let v := w.value &&& w.mask
  if a < 0x10000 then sysChecks s cls a old new
  else if 0x100000 ≤ a ∧ a < 0x900000 then engChecks s ((a - 0x100000) / 0x10000) (a % 0x10000) old new v
  else if 0x3000000 ≤ a then engChecks s (128 + (a - 0x3000000) / 0x10000) (a % 0x10000) old new v
  else if 0x2000000 ≤ a ∧ a < 0x2100000 then ksChecks s a old new
  else if 0x2100000 ≤ a ∧ a < 0x2200000 then mcChecks s cls a cand old new
  else if 0x2200000 ≤ a ∧ a < 0x2300000 then lkChecks s a old new v
  else if 0x2400000 ≤ a ∧ a < 0x2500000 then monChecks s pol a cand old new
  else if 0x2500000 ≤ a ∧ a < 0x2600000 then recChecks s a new
  else miscChecks s cls a old new

/-- Words whose change is checked with the schedule (R264, R276, R278). -/
def isTiming (a : Nat) : Bool := (decide (0x400 ≤ a) && decide (a < 0x700)) || decide (a = CNV_CFG.addr)

/-- Gain mode, binning and format agree (R178, R182). -/
def formatOk (rd : Nat → Word) : Bool :=
  let g := rdFld rd CNV_CFG.GAIN_MODE
  let b := rdFld rd CNV_CFG.BIN
  decide (g ≠ 3) && decide (b ≠ 3) && (decide (g ≠ 0) || decide (b = 0)) && (decide (g = 0) == decide (rdFld rd REC_CFG.FORMAT = 2))

/-- Every check of a write (R77, R82): addresses, domains, the words of each chapter, and the combined values. -/
def writeChecks (s : Block) (cls : Nat) (pol : Bool) (on : Nat) (l : List WordW) : List Check :=
  let cand := candidate? s l
  let ch (w : WordW) : Bool := cand w.addr != s.reg w.addr
  let changed := l.filter ch
  [bad (l.any (fun w => decide (w.addr % 4 ≠ 0) || !inBlock w.addr)), (l.any (fun w => !wordPowered s on w.addr), stNotPresent)] ++
    l.flatMap (fun w => if (regRow? w.addr).isNone then [] else wordChecks s cls pol cand w) ++
    [bad (changed.any (fun w => isTiming w.addr) && !timingOk s cand),
      bad (changed.any (fun w => decide (w.addr = CNV_CFG.addr) || decide (w.addr = REC_CFG.addr)) && !formatOk cand),
      bad (changed.any (fun w => (decide (0x2400100 ≤ w.addr) && decide (w.addr < 0x2400500)) || isTiming w.addr) &&
        !(List.range 4).all (monOk cand))]

/-! ### What a write sets off -/

/-- A port's domain goes off (R49, R472): the port is DISABLED, its magazine's commands fail. -/
def portOff (t : Nat) (s : Block) : Block :=
  let s1 := if t < 2 then magPortDown t false s else if 4 ≤ t then passDown (t - 3) false s else s
  setPortState t 0 (setLanesIn t 0 ((linkLost t s1).setPort t Port.reset))

/-- Ports of a domain bit. -/
def portsOfDomain (b : Nat) : List Nat := if b = 17 then [0] else if b = 18 then [1] else if b = 19 then [2] else if b = 20 then [3] else if b = 21 then [4, 5, 6, 7] else []

/-- A domain goes off now. -/
def domainOff (b : Nat) (s : Block) : Block :=
  let s1 := s.setReg SYS_DOMAIN.addr (wput (s.reg SYS_DOMAIN.addr) b false)
  (portsOfDomain b).foldl (fun t p => portOff p t) { s1 with pwr := { s1.pwr with switching := s1.pwr.switching.filter (fun x => decide (x ≠ b)) } }

/-- The code under which `pwr.switching` holds DV's switch-off at the next frame boundary (R50 rule 3). -/
def dvOffDue : Nat := 116

/-- A request for a domain (R49, R50): its switch closes, and it is powered within 200 µs; or it goes off, DV at the next
frame boundary, after every monitor context is disabled. -/
def domainReq (b : Nat) (on : Bool) (s : Block) : Block :=
  let isOn := (s.reg SYS_DOMAIN.addr).getLsbD b
  if on then
    let l := s.pwr.switching.filter (fun x => decide (x ≠ b) && decide (b ≠ 16 ∨ x ≠ dvOffDue))
    if isOn then { s with pwr := { s.pwr with switching := l } } else { s with pwr := { s.pwr with switching := l ++ [b] } }
  else if b = 16 ∧ isOn = true then
    let s1 := (List.range 4).foldl (fun (t : Block) x => t.shadowSet (MON_CTX_CFG.addr x) (wput (t.reg (MON_CTX_CFG.addr x)) 0 false)) s
    if s.running then { s1 with pwr := { s1.pwr with switching := s1.pwr.switching ++ [dvOffDue] } } else syncMon (domainOff 16 s1)
  else domainOff b s

/-- The drive set that applies under the words in force and the hottest band (R162, R163): SET, and FORCED. -/
def driveWanted (s : Block) : Nat × Bool :=
  if s.effFlag PIX_CFG.FORCE_EN then (s.effFld PIX_CFG.FORCE_SET, true) else (s.fld SYS_STATE.BAND, false)

/-- A drive set comes into force with frame `n` (R162): PIX_DRIVE_STAT, with its cairn. -/
def putDrive (set : Nat) (forced_ : Bool) (n : Nat) (s : Block) : Block :=
  let a := PIX_DRIVE_STAT.addr
  let w := wsetField (wsetField (wput (s.reg a) 3 forced_) 0 3 set) 8 24 n
  if s.fld PIX_DRIVE_STAT.SET = set ∧ s.flag PIX_DRIVE_STAT.FORCED = forced_ then s
  else ((s.policy 0x301).cairn (oPolicy 0x301) 0x0001 a (s.reg a) w).setReg a w

/-- While no schedule runs, a new drive set applies at once (R162 rule 6). -/
def driveNow (s : Block) : Block :=
  if s.running then s else putDrive (driveWanted s).1 (driveWanted s).2 s.ft.nextNum s

/-- An operator write of the exposure while AE works in WITNESS mode turns AE off (R441). -/
def loopOff (origin : Nat) (s : Block) : Block :=
  if s.flag AE_CFG.EN && decide (s.fld AE_CFG.MODE = 1) then
    let w := wput (s.reg AE_CFG.addr) 0 false
    ((s.cairn origin 0x0710 AE_CFG.addr (s.reg AE_CFG.addr) w).setReg AE_CFG.addr w).raise 996
  else s

/-- A new PERIOD on an armed repeat channel moves its next point, and fires it late when that is past (R306). -/
def periodEffect (i : Nat) (s : Block) : Block :=
  if armedCh s i && s.flag (KS_CH_CTL.REPEAT i) && s.ks.fired.contains i && !laterThan (pointOf s i) s.now then
    { s with ks := { s.ks with late := smPut s.ks.late i s.now } }
  else s

/-- Effects of a word of an engine's block. -/
def engEffect (origin e o : Nat) (old new v : Word) (s : Block) : Block :=
  if o = 0 then
    let s1 := if old.getLsbD 0 != new.getLsbD 0 then setRun e (new.getLsbD 0) s else s
    if v.getLsbD 1 && !old.getLsbD 1 then askSwap origin e s1
    else if old.getLsbD 1 then s1.setFlag (ENG_CTL.SWAP_REQ e) true else s1
  else if 0x80 ≤ o ∧ o < 0x180 then
    let k := (o - 0x80) / 4
    let s1 := if changes old new (CH_CFG.QMODE e k) then
        [k, k / 2 * 2 + 1].foldl (fun (t : Block) c => t.onChan e c (fun x => { x with inq := [], outq := [] })) s
      else s
    if !old.getLsbD 10 && new.getLsbD 10 then startChan false e k s1
    else if old.getLsbD 10 && !new.getLsbD 10 then s1.onChan e k (fun x => { x with state := 5, stopReq := false })
    else s1
  else if 0x280 ≤ o ∧ o < 0x380 then (postWord e ((o - 0x280) / 4) v s).2
  else if e = 0 ∧ 0xA000 ≤ o ∧ o < 0xB000 then loadAll origin 0xFFFF ((o - 0xA000) / 4) [v] s
  else s

/-- Effects of the other blocks. -/
def otherEffect (origin a : Nat) (old new v : Word) (s : Block) : Block :=
  if a = SYS_DOMAIN_REQ.addr then
    [16, 17, 18, 19, 20, 21].foldl (fun t b => if old.getLsbD b != new.getLsbD b then domainReq b (new.getLsbD b) t else t) s
  else if a = SYS_VID.addr then { s with pwr := { s.pwr with vidTarget := max s.pwr.vidTarget (s.fld SYS_VID.MIN_CODE) } }
  else if a = PIX_CFG.addr then driveNow s
  else if a = KS_CFG.addr ∧ old ≠ new then (discEffect s).cairn origin 0x0504 a old new
  else if a = KS_TRIM.addr ∧ old ≠ new then (retrim s).cairn origin 0x0503 a old new
  else if a = KS_LATE.addr 0 ∨ a = KS_LATE.addr 1 then
    (List.range 32).foldl (fun (t : Block) j => if v.getLsbD j then t.setFlag (KS_CH_STAT.LATE (j + 32 * ((a - KS_LATE.addr 0) / 4))) false else t) s
  else if 0x2000100 ≤ a ∧ a < 0x2000900 then
    let i := (a - 0x2000100) / 0x20
    if (a - 0x2000100) % 0x20 = 0xC then periodEffect i s
    else if (a - 0x2000100) % 0x20 = 0x14 ∧ v.getLsbD 16 = true then setLate i false s
    else s
  else if a = MC_CFG.addr then
    if changes old new MC_CFG.FORCE_5600 then
      (List.range 8).foldl (fun t r => wantRate r (if new.getLsbD 12 || decide (t.fld (MC_CH_STAT.RBAND r) = 2) then 1 else 2) origin t) s
    else s
  else if 0x2100100 ≤ a ∧ a < 0x2100158 then regrant s
  else if 0x2200000 ≤ a ∧ a < 0x2208000 ∧ a % 0x1000 = 0 then
    let t := (a - 0x2200000) / 0x1000
    if changes old new (PT_CFG.LANES_ALLOWED t) then allowLanes t (fieldIn new (PT_CFG.LANES_ALLOWED t)) origin s else s
  else if 0x2210000 ≤ a ∧ a < 0x2212800 ∧ a % 0x100 = 0 then
    let l := (a - 0x2210000) / 0x100
    let s1 := if old != new then setPrbs l (fieldIn new (LN_CTL.PRBS_TX l)) (fieldIn new (LN_CTL.PRBS_RX l)) (s.setReg a old) else s
    if v.getLsbD 0 then slipLane l 1 s1 else s1
  else if 0x2400100 ≤ a ∧ a < 0x2400500 then syncMon s
  else if a = AE_CFG.addr ∧ old ≠ new then { s with stat := { s.stat with aeFirst := none } }
  else if a = AWB_CFG.addr ∧ old ≠ new then { s with stat := { s.stat with awbFirst := none } }
  else if a = FT_EXPOSURE.addr then (if origin / 0x1000 = 5 then s else loopOff origin s)
  else if a = REC_DEPTH.addr then updateDepth (some origin) s
  else if a = TK_CFG.addr then updateDrain s
  else if 0x2800000 ≤ a ∧ a < 0x2800080 then
    (List.range 32).foldl (fun (t : Block) j => if v.getLsbD j then t.clearEvt ((a - 0x2800000) / 4 * 32 + j) else t) s
  else if 0x2800100 ≤ a ∧ a < 0x2800180 then
    (List.range 32).foldl (fun (t : Block) j =>
      let e := (a - 0x2800100) / 4 * 32 + j
      if old.getLsbD j && !new.getLsbD j && t.evtStatus e then t.notify e else t) s
  else if a = FLT_INTR.addr ∧ v.getLsbD 16 = true then s.setFld FLT_INTR.MAX 0
  else s

/-- Words that reshape the frames held (R326, R349, R358). -/
def isShape (a : Nat) : Bool := isTiming a || decide (a = REC_CFG.addr)

/-- Write one word (R78, R82, R649): the cairn of a changed RW or RWS field, the word, and what it sets off. -/
def writeWord (origin : Nat) (cairns : Bool) (w : WordW) (s : Block) : Block :=
  if (regRow? w.addr).isNone then s
  else
    let a := w.addr
    let old := s.reg a
    let new := mergeWord old w
    let v := w.value &&& w.mask
    let s0 := if cairns && decide ((old ^^^ new) &&& cfgMask a ≠ 0) then s.cairn origin 0x0001 a old new else s
    let s1 := s0.shadowSet a new
    let s2 := if a = 0x2900000 ∧ ((old &&& ~~~ (cfgMask a &&& w.mask)) ||| (w.value &&& cfgMask a &&& w.mask)) &&& cfgMask a ≠ new &&& cfgMask a then s1.setFlag TW_ERR.BAD_ADDR true else s1
    if 0x100000 ≤ a ∧ a < 0x900000 then engEffect origin ((a - 0x100000) / 0x10000) (a % 0x10000) old new v s2
    else if 0x3000000 ≤ a then engEffect origin (128 + (a - 0x3000000) / 0x10000) (a % 0x10000) old new v s2
    else otherEffect origin a old new v s2

/-- Does a write change a shadowed field while a schedule runs (R78)? -/
def writeDefers (s : Block) (l : List WordW) : Bool :=
  s.running && l.any (fun w => decide ((candidate? s l w.addr ^^^ s.reg w.addr) &&& rwsMask w.addr ≠ 0))

/-- Write words in one tick. -/
def writeWords (origin : Nat) (cairns : Bool) (l : List WordW) (s : Block) : Block :=
  let s1 := l.foldl (fun t w => writeWord origin cairns w t) s
  if l.any (fun w => isShape w.addr && candidate? s l w.addr != s.reg w.addr) then updateDrain (updateDepth (some origin) s1) else s1

end Sys2Proof.Machine
end

