-- ==== Sys2Proof/Machine/Profiles.lean ====
section
/-! DEFINITION. Event routes (R87), MAINTAIN (R125, R126), profiles (R116 to R122, R650), the cairn log as read (R131,
R132), NVM word writes (R113, R115), firmware images (R135 to R138), and the 0x01xx opcodes (R139). -/

namespace Sys2Proof.Machine

/-! ### Event routes (R87) -/

/-- The four route bytes of group `g` as a word. -/
def routeWord (s : Block) (g : Nat) : Word :=
  BitVec.ofNat 32 (leVal ((List.range 4).map (fun i => s.evtRoute (4 * g + i))))

/-- Give route bytes to events from `e` on: one EVT_ROUTE cairn for each group of four that changes (R87). -/
def setRoutes (origin e : Nat) (bs : List Byte) (s : Block) : Block :=
  let s1 := { s with evt := { s.evt with
    route := bs.zipIdx.foldl (fun m (bi : Byte × Nat) => smSet (routeReset (e + bi.2)) m (e + bi.2) bi.1) s.evt.route } }
  (List.range (ceilDiv (e % 4 + bs.length) 4)).foldl (fun t i =>
    let g := e / 4 + i
    if routeWord s g = routeWord s1 g then t else t.cairn origin 0x0002 (4 * g) (routeWord s g) (routeWord s1 g)) s1

/-- SET_EVENT_ROUTE (R87). -/
def execSetEventRoute (q : Req) (s : State) : Host.Outcome State Fault Refusal :=
  s.onBlock fun s =>
  let e := pNat q 0 2
  let n := pNat q 2 2
  runReq 0x0020 2 0 q (fun _ => [shape q 8 [5, 7], bad (decide (1023 < e) || decide (n = 0) || decide (1024 < e + n)),
      bad (decide (16 ≤ pByte q 4))])
    (fun a =>
      let a1 := setRoutes (originOf q.carrier) e (List.replicate n (BitVec.ofNat 8 (pByte q 4))) a
      let a2 := { a1 with evt := { a1.evt with
        dest := (List.range n).foldl (fun m i => smSet 0 m (e + i) (BitVec.ofNat 8 (pByte q 6))) a1.evt.dest } }
      a2.reply q 0x0020 stOk []) s

/-- GET_EVENT_ROUTE (R87). -/
def execGetEventRoute (q : Req) (s : State) : Host.Outcome State Fault Refusal :=
  s.onBlock fun s =>
  let e := pNat q 0 2
  let n := pNat q 2 2
  runReq 0x0021 0 n q (fun _ => [shape q 4 [], bad (decide (1023 < e) || decide (n = 0) || decide (1024 < e + n))])
    (fun a => a.reply q 0x0021 stOk ((List.range n).map (fun i => a.evtRoute (e + i)))) s

/-! ### MAINTAIN (R125, R126) -/

/-- GET_CHALLENGE (R125): a nonce of 16 random bytes. -/
def execGetChallenge (q : Req) (s : State) : Host.Outcome State Fault Refusal :=
  s.onBlock fun s =>
  runReq 0x0110 0 16 q (fun a => [shape q 0 [],
      ((match a.acc.lockUntil with | some t => laterThan t a.now | none => false), stBusy)])
    (fun a =>
      let n := (List.range 16).map (fun i => Config.random (16 * a.free + i))
      let o := originOf q.carrier
      let a1 := { a.draw with acc := { a.acc with
        nonces := a.acc.nonces.filter (fun (x : Nonce) => decide (x.origin ≠ o)) ++ [(⟨o, n, a.now⟩ : Nonce)] } }
      a1.reply q 0x0110 stOk n) s

/-- The maintenance key in force. -/
def maintKey (s : Block) : List Byte := s.acc.key.getD ((List.range 32).map Config.factoryKey)

/-- The right answer to a nonce (R125). -/
def maintAnswer (s : Block) (origin : Nat) (nonce : List Byte) : List Byte :=
  (hmac256 (maintKey s) (nonce ++ leBytes 8 Config.serial.toNat ++ leBytes 2 origin)).take 16

/-- ANSWER_CHALLENGE (R125); a wrong answer is a DENIED refusal too (R77). -/
def execAnswerChallenge (q : Req) (s : State) : Host.Outcome State Fault Refusal :=
  s.onBlock fun s =>
  runReq 0x0111 0 0 q (fun _ => [shape q 16 []])
    (fun a =>
      let o := originOf q.carrier
      let ok := a.acc.nonces.any (fun x => decide (x.origin = o) && decide (a.sinceT x.since ≤ 60 * secT) &&
        decide (q.params = maintAnswer a o x.nonce))
      let a1 := { a with acc := { a.acc with nonces := a.acc.nonces.filter (fun x => decide (x.origin ≠ o)) } }
      if ok then
        let a2 := { a1 with acc := { a1.acc with
          maintain := a1.acc.maintain.filter (fun (m : Maint) => decide (m.origin ≠ o)) ++ [(⟨o, a1.now⟩ : Maint)] } }
        (((a2.cairnN o 0x0110 0 0 3).raise 974).reply q 0x0111 stOk [])
      else
        let w := a1.acc.wrong.filter (fun t => decide (a1.sinceT t ≤ 60 * secT)) ++ [a1.now]
        let lock := if 3 ≤ w.length then some (a1.now + BitVec.ofNat 64 (60 * secT)) else a1.acc.lockUntil
        ((({ a1 with acc := { a1.acc with wrong := w, lockUntil := lock } } : Block).reply q 0x0111 stDenied []).raise 968).raise 976) s

/-- LEAVE_MAINTAIN (R126). -/
def execLeaveMaintain (q : Req) (s : State) : Host.Outcome State Fault Refusal :=
  s.onBlock fun s =>
  runReq 0x0112 0 0 q (fun _ => [shape q 0 []])
    (fun a => (endMaintain true (fun m => decide (m.origin = originOf q.carrier)) a).reply q 0x0112 stOk []) s

/-- NVM offset at which the model keeps the maintenance key in the identity area (R112). -/
def keyOffset : Nat := 0x2C80000

/-- SET_MAINT_KEY (R125): the key is replaced once its NVM word is written. -/
def execSetMaintKey (q : Req) (s : State) : Host.Outcome State Fault Refusal :=
  s.onBlock fun s =>
  runReq 0x0113 3 0 q (fun _ => [shape q 32 []])
    (fun a => (a.nvmWord ⟨keyOffset, padTo 64 q.params, .key⟩).replyLater q 0x0113 stOk [] .nvm) s

/-- MAINTAIN_TIMEOUT (R126): 15 minutes without a command from its origin end MAINTAIN. -/
def execMaintainTimeout (s : State) : Host.Outcome State Fault Refusal :=
  s.onBlock fun s =>
  .next (endMaintain false (fun m => decide (900 * secT ≤ s.sinceT m.last)) s)

/-- CHALLENGE_LOCKOUT_END (R125): 60 s after the third wrong answer, challenges are given again. -/
def execChallengeLockoutEnd (s : State) : Host.Outcome State Fault Refusal :=
  s.onBlock fun s =>
  .next (match s.acc.lockUntil with
    | some t => if laterThan t s.now then s else { s with acc := { s.acc with lockUntil := none } }
    | none => s)

/-! ### Applying a profile (R119, R121, R650) -/

/-- The words of a profile in body order; a word given twice keeps its last place and value. -/
def profWords (recs : List ProfRec) : List WordW :=
  (recs.flatMap (fun r => match r with
    | .words a ws => ws.zipIdx.map (fun wi => (⟨a + 4 * wi.2, wi.1, 0xFFFFFFFF⟩ : WordW))
    | .route _ _ => [])).foldr (fun w l => if l.any (fun x => decide (x.addr = w.addr)) then l else w :: l) []

/-- Domain bits that a profile's words switch on (R650). -/
def profOn (l : List WordW) : Nat :=
  match l.find? (fun w => decide (w.addr = SYS_DOMAIN_REQ.addr)) with
  | some w => (w.value &&& 0x003F0000).toNat
  | none => 0

/-- The status with which some word of a profile would be refused now, whatever the class of its caller (R650). -/
def profRefused (s : Block) (recs : List ProfRec) : Option Nat :=
  firstFail (writeChecks s 3 false (profOn (profWords recs)) (profWords recs))

/-- The access table and permissions of an image take force (R116). -/
def profAccess (img : List Byte) (s : Block) : Block :=
  { s with acc := { s.acc with table := (List.range 5).map (fun i => leAt img (48 + i) 1), perms := leAt img 56 4 % 8 } }

/-- The records of a profile are written with origin PROFILE; words to a domain being switched on wait for it (R650). -/
def profWrite (n : Nat) (recs : List ProfRec) (s : Block) : Block :=
  let l := profWords recs
  let ready (w : WordW) : Bool := wordPowered s 0 w.addr
  let s1 := (l.filter (fun w => !ready w)).foldl (fun (t : Block) w =>
    let new := mergeWord (t.reg w.addr) w
    let t1 := { t with pwr := { t.pwr with domainWords := t.pwr.domainWords ++ [(w.addr, w.value)] } }
    if (t.reg w.addr ^^^ new) &&& cfgMask w.addr = 0 then t1 else t1.cairn (oProfile n) 0x0001 w.addr (t.reg w.addr) new) s
  let s2 := writeWords (oProfile n) true (l.filter ready) s1
  recs.foldl (fun t r => match r with
    | .route e bs => setRoutes (oProfile n) e bs t
    | .words _ _ => t) s2

/-- Profile `n` applies with frame `frame` first (R119, R121), or, refused now, nothing of it does (R650). -/
def applyProfile (n frame : Nat) (s : Block) : Block :=
  let s0 := { (s.setFlag PRF_STATE.PENDING false).setFld PRF_STATE.PENDING_NUM 0 with nvm := { s.nvm with pendProfile := none } }
  let img := profileImage s n
  let old := s.fld PRF_STATE.ACTIVE
  match recordsOf img with
  | some recs =>
    if profileValid s n && (profRefused s recs).isNone then
      let s1 := s0.cairnN (oProfile n) 0x0102 PRF_STATE.addr old n
      let s2 := profWrite n recs (profAccess img s1)
      let s3 := ((s2.setFld PRF_STATE.ACTIVE n).setFlag PRF_STATE.DEFAULTS false).setFlag SYS_BOOT.DEFAULTS false
      let s4 := { s3 with stat := { s3.stat with aeFirst := some frame, awbFirst := some frame } }
      endMaintain false (fun _ => true) (s4.raise 971)
    else profNot old s0
  | none => profNot old s0
where
  profNot (old : Nat) (t : Block) : Block :=
    let t1 := (t.cairnN (oProfile n) 0x0102 PRF_STATE.addr old 0xFFFFFFFF).raise 973
    t1.release (fun w => decide (w = .fcp frame))
      (fun r => if r.opcode = 0x0101 then { r with status := stFault, result := [] } else r)

/-! ### The opcodes -/

/-- GET_PROFILE_INFO (R139). -/
def execGetProfileInfo (q : Req) (s : State) : Host.Outcome State Fault Refusal :=
  s.onBlock fun s =>
  let n := pByte q 0
  runReq 0x0100 0 68 q (fun _ => [shape q 4 [1, 2, 3], bad (decide (7 < n))])
    (fun a => a.reply q 0x0100 stOk (leBytes 4 (b2n (profileValid a n)) ++ a.nvmBytes (profileBase n) 64)) s

/-- SELECT_PROFILE (R119, R120, R650). -/
def execSelectProfile (q : Req) (s : State) : Host.Outcome State Fault Refusal :=
  s.onBlock fun s =>
  let n := pByte q 0
  let o := originOf q.carrier
  runReq 0x0101 2 12 q (fun a => [shape q 4 [1, 2, 3], bad (decide (7 < n)), (a.takeOpen && !forced q, stRecording),
      (a.takeOpen && a.rsv.closeOut.isSome, stBusy)] ++
      (if profileValid a n && !a.takeOpen then
        (match (recordsOf (profileImage a n)).bind (profRefused a) with | some st => [(true, st)] | none => [])
      else []))
    (fun a =>
      if a.takeOpen then forceClose 0x0101 q a
      else if !profileValid a n then (a.raise 973).reply q 0x0101 stFault []
      else
        let a1 := a.cairnN o 0x0101 PRF_STATE.addr (a.fld PRF_STATE.ACTIVE) n
        if a.running then
          let a2 := { (a1.setFlag PRF_STATE.PENDING true).setFld PRF_STATE.PENDING_NUM n with
            nvm := { a1.nvm with pendProfile := some ⟨n, firstFrame a, o⟩ } }
          replyDeferred 0x0101 q true [] a2
        else replyDeferred 0x0101 q false [] (applyProfile n a1.ft.nextNum a1)) s

/-- READ_PROFILE (R139). -/
def execReadProfile (q : Req) (s : State) : Host.Outcome State Fault Refusal :=
  s.onBlock fun s =>
  let n := pByte q 0
  let o := pNat q 4 4
  let len := pNat q 8 2
  runReq 0x0102 0 len q (fun _ => [shape q 12 [1, 2, 3, 10, 11], bad (decide (7 < n) || decide (262144 < o + len) || decide (len = 0))])
    (fun a => a.reply q 0x0102 stOk (a.nvmBytes (profileBase n + o) len)) s

/-- STAGE_PROFILE (R122): the staging buffer belongs to the first origin that writes it. -/
def execStageProfile (q : Req) (s : State) : Host.Outcome State Fault Refusal :=
  s.onBlock fun s =>
  let o := pNat q 0 4
  let len := pNat q 4 2
  let me := originOf q.carrier
  runReq 0x0103 2 0 q (fun a => [shape q (8 + len) [6, 7], bad (decide (262144 < o + len)),
      ((match a.nvm.stageOwner with | some x => decide (x ≠ me) | none => false), stBusy)])
    (fun a =>
      let a1 := { a with nvm := { a.nvm with
        staging := (q.params.drop 8).zipIdx.foldl (fun m (bi : Byte × Nat) => smSet 0 m (o + bi.2) bi.1) a.nvm.staging,
        stageOwner := some me, stageSince := a.now } }
      a1.reply q 0x0103 stOk []) s

/-- The staged image: its header and body. -/
def stagedImage (s : Block) : List Byte :=
  let b (o n : Nat) : List Byte := (List.range n).map (fun i => smGet (0 : Byte) s.nvm.staging (o + i))
  b 0 64 ++ b 64 (min 262080 (leVal (b 8 4)))

/-- Would a record be refused on its words alone (R117)? The words are held against the part at reset, every domain powered. -/
def wordsRefused (img : List Byte) : Bool :=
  match recordsOf img with
  | some recs => (writeChecks Block.reset 3 false 0x3F0000 (profWords recs)).any (fun c => c.1 && decide (c.2 = stBadParam))
  | none => true

/-- The image as stored: store count, stamp and CRC are the part's own (R116). -/
def storedImage (s : Block) (count : Nat) (img : List Byte) : List Byte :=
  let h := img.take 12 ++ leBytes 4 count ++ leBytes 8 s.now.toNat ++ (img.drop 24).take 36
  h ++ wordBytes (crc32 (h ++ bodyOf img)) ++ bodyOf img

/-- COMMIT_PROFILE (R122): the header with its magic zeroed, the body, and last the full header, whose word answers. -/
def execCommitProfile (q : Req) (s : State) : Host.Outcome State Fault Refusal :=
  s.onBlock fun s =>
  let n := pByte q 0
  runReq 0x0104 2 4 q (fun a =>
      [shape q 4 [1, 2, 3], bad (decide (7 < n) || !imageOk n (stagedImage a) || wordsRefused (stagedImage a)),
        (decide (((stagedImage a).drop 48).take 5 ≠ a.nvmBytes (profileBase n + 48) 5) && decide (classOf a q.carrier < 3), stDenied)])
    (fun a =>
      let old := leVal (a.nvmBytes (profileBase n + 12) 4)
      let img := storedImage a ((old + 1) % 2 ^ 32) (stagedImage a)
      let a1 := a.nvmPut (profileBase n) (zeros 4 ++ img.drop 4)
      let a2 := { a1 with nvm := { a1.nvm with staging := [], stageOwner := none } }
      (a2.nvmWord ⟨profileBase n, img.take 64, .profile n (originOf q.carrier) old⟩).replyLater q 0x0104 stOk
        (leBytes 4 ((old + 1) % 2 ^ 32)) .nvm) s

/-- STAGING_RELEASE (R122): 60 s without a write release the staging buffer. -/
def execStagingRelease (s : State) : Host.Outcome State Fault Refusal :=
  s.onBlock fun s =>
  .next (if s.nvm.stageOwner.isSome && decide (60 * secT ≤ s.sinceT s.nvm.stageSince) then
      { s with nvm := { s.nvm with stageOwner := none } } else s)

/-! ### The log (R131, R132) -/

/-- Sequence of the last entry written. -/
def logHead (s : Block) : Nat := (nextSeq s.log.entries + (2 ^ 32 - 1)) % 2 ^ 32

/-- READ_LOG (R132). -/
def execReadLog (q : Req) (s : State) : Host.Outcome State Fault Refusal :=
  s.onBlock fun s =>
  let first := pNat q 0 4
  let n := pNat q 4 2
  runReq 0x0120 0 (32 * n) q (fun a => [shape q 8 [6, 7], bad (decide (n = 0) || decide (127 < n)),
      bad (decide (a.log.entries.length ≤ (logHead a + 2 ^ 32 - first) % 2 ^ 32))])
    (fun a =>
      let d := (logHead a + 2 ^ 32 - first) % 2 ^ 32
      a.reply q 0x0120 stOk (((a.log.entries.take (d + 1)).reverse.take n).flatMap entryBytes)) s

/-- GET_LOG_STATE (R139). -/
def execGetLogState (q : Req) (s : State) : Host.Outcome State Fault Refusal :=
  s.onBlock fun s =>
  runReq 0x0121 0 12 q (fun _ => [shape q 0 []])
    (fun a =>
      let oldest := if a.log.entries.length < 262144 then 0 else (logHead a + 2 ^ 32 - 262143) % 2 ^ 32
      a.reply q 0x0121 stOk (leBytes 4 (logHead a) ++ leBytes 4 oldest ++ wordBytes (a.reg LOG_STAT.addr))) s

/-- CAIRN_FLUSH (R131): the queue reaches NVM; entries lost to a full queue are then recorded. -/
def execCairnFlush (s : State) : Host.Outcome State Fault Refusal :=
  s.onBlock fun s =>
  let s1 := ({ s with log := storeQueue s.log } : Block).syncLog
  .next (if s.log.lost = 0 then s1
    else
      let s2 := ({ s1 with log := { s1.log with lost := 0 } } : Block).setFlag LOG_STAT.GAP true
      (s2.cairnN oFirmware 0x0121 0 0 s.log.lost).raise 978)

/-! ### NVM word writes (R113, R115) -/

/-- What follows once a word is read back right. -/
def nvmOwner (o : NvmApply) (w : NvmWrite) (s : Block) : Block :=
  match o with
  | .bytes => s
  | .cal u e origin =>
    let old := s.calEntry u
    let s1 := setEntry u e { s with cal := { s.cal with stored := smPut s.cal.stored u e } }
    s1.cairn origin 0x0307 u (old.setWidth 32) (e.setWidth 32)
  | .profile n origin old =>
    let s1 := { s with th := { s.th with adv := s.th.adv.filter (fun e => decide (e.1 / 6 ≠ n)) } }
    (s1.cairnN origin 0x0103 (profileBase n) old ((old + 1) % 2 ^ 32)).raise 972
  | .key => { s with acc := { s.acc with key := some (w.data.take 32) } }

/-- A word that could not be written keeps bytes that nothing states (R115). -/
def nvmSpoil (w : NvmWrite) (s : Block) : Block :=
  (List.range 16).foldl (fun (t : Block) i => (t.nvmPut (w.offset + 4 * i) (wordBytes t.drawn)).draw) s

/-- An NVM write fault (R115): event 983 and its cairn; the command that wrote the word fails. -/
def nvmFault (offset cause : Nat) (s : Block) : Block :=
  (s.raise 983).cairnN oFirmware 0x0123 offset 0 cause

/-- The oldest reply that waits for NVM is CAL_WRITE_ENTRY's (R203): the entry is deferred to an FCP while a schedule runs
(R78, R79). Its status so far says whether COMPLETE was set. -/
def calWritten (s : Block) : Block :=
  let n := firstFrame s
  if s.running then
    match s.cmd.replies.find? (fun r => decide (r.wait = .nvm)) with
    | some r =>
      if r.status = stOk then
        let waiting := s.cmd.replies.map (fun x => if x = r then { x with wait := .fcp n, result := stampFrame s n } else x)
        { s with cmd := { s.cmd with replies := waiting } }
      else s.releaseFirst .nvm (fun x => { x with result := stampFrame s n })
    | none => s
  else s.releaseFirst .nvm (fun x => { x with status := stOk, result := stampFrame s 0xFFFFFFFF })

/-- NVM_WORD_WRITE (R113, R115): the word in the journal slot is written and read back, twice at most. -/
def execNvmWordWrite (ok1 : Bool) (ok2 : Bool) (s : State) : Host.Outcome State Fault Refusal :=
  s.onBlock fun s =>
  match s.nvm.journal with
  | w :: rest =>
    let s0 := { s with nvm := { s.nvm with journal := rest } }
    let late := match w.owner with | .bytes => false | _ => true
    if ok1 || ok2 then
      let s1 := nvmOwner w.owner w (s0.nvmPut w.offset w.data)
      .next (match w.owner with
        | .bytes => s1
        | .cal _ _ _ => calWritten s1
        | _ => s1.releaseFirst .nvm id)
    else
      let s1 := nvmFault w.offset 1 (nvmSpoil w s0)
      .next (if late then s1.releaseFirst .nvm (fun r => { r with status := stFault, result := [] }) else s1)
  | [] => .next s

/-! ### Firmware (R135 to R138) -/

/-- NVM offset of firmware image `i` (R112). -/
def fwBase (i : Nat) : Nat := 0x2280000 + 0x400000 * i

/-- FW_STATE follows the images (R138). -/
def syncFw (s : Block) : Block :=
  ((((s.setFlag FW_STATE.VALID0 s.nvm.fw0.valid).setFlag FW_STATE.VALID1 s.nvm.fw1.valid).setFlag FW_STATE.UPDATING
    s.nvm.updating.isSome).setFld FW_STATE.ROLLBACK s.nvm.rollback)

/-- Image `i`, and a change of it. -/
def fwImage (s : Block) (i : Nat) : FwImage := if i = 0 then s.nvm.fw0 else s.nvm.fw1
def setFw (i : Nat) (x : FwImage) (s : Block) : Block :=
  syncFw (if i = 0 then { s with nvm := { s.nvm with fw0 := x } } else { s with nvm := { s.nvm with fw1 := x } })

/-- The firmware-load opcodes during a take (R137). -/
def fwTake (a : Block) : Check := (a.takeOpen, stRecording)

/-- FW_BEGIN (R137): the image is invalid at once. -/
def execFwBegin (q : Req) (s : State) : Host.Outcome State Fault Refusal :=
  s.onBlock fun s =>
  let i := pByte q 0
  let len := pNat q 4 4
  runReq 0x0130 3 0 q (fun a => [shape q 8 [1, 2, 3], bad (decide (1 < i) || decide (len < 128) || decide (4194304 < len)),
      bad (decide (a.fld SYS_BOOT.STAGE ≠ 10) && decide (i = a.fld SYS_BOOT.IMAGE)), fwTake a])
    (fun a =>
      let a1 := { a with nvm := { a.nvm with updating := some i, updateLen := len } }
      (setFw i { fwImage a i with valid := false } a1).reply q 0x0130 stOk []) s

/-- FW_WRITE (R137). -/
def execFwWrite (q : Req) (s : State) : Host.Outcome State Fault Refusal :=
  s.onBlock fun s =>
  let o := pNat q 0 4
  let len := pNat q 4 2
  let top := match q.carrier with | .twoWire _ _ => 448 | _ => 4032
  runReq 0x0131 3 0 q (fun a => [shape q (8 + len) [6, 7],
      bad (a.nvm.updating.isNone || decide (o % 64 ≠ 0) || decide (len % 64 ≠ 0) || decide (len = 0) || decide (top < len) ||
        decide (a.nvm.updateLen < o + len)), fwTake a])
    (fun a => (a.nvmPut (fwBase (a.nvm.updating.getD 0) + o) (q.params.drop 8)).reply q 0x0131 stOk []) s

/-- Does the image stored at `i` verify (R136)? -/
def fwVerifies (s : Block) (i : Nat) : Bool :=
  let h := s.nvmBytes (fwBase i) 128
  let n := leAt h 8 4
  decide (leAt h 0 4 = 0x46574E41) && decide (n ≤ 4194176) && Config.fwSignatureOk h &&
    decide (sha256 (s.nvmBytes (fwBase i + 128) (min 4194176 n)) = (h.drop 32).take 32) &&
    decide (leAt h 12 1 ≤ Config.siliconRev.toNat) && decide (s.nvm.rollback ≤ leAt h 16 4)

/-- FW_FINISH (R137). -/
def execFwFinish (q : Req) (s : State) : Host.Outcome State Fault Refusal :=
  s.onBlock fun s =>
  runReq 0x0132 3 4 q (fun a => [shape q 0 [], bad a.nvm.updating.isNone, fwTake a])
    (fun a =>
      let i := a.nvm.updating.getD 0
      let a1 := syncFw { a with nvm := { a.nvm with updating := none, updateLen := 0 } }
      if fwVerifies a i then
        let h := a.nvmBytes (fwBase i) 128
        let v := BitVec.ofNat 32 (leAt h 4 4)
        let a2 := (setFw i ⟨v, leAt h 16 4, true⟩ a1).cairn (originOf q.carrier) 0x0130 i (fwImage a i).version v
        (a2.raise 980).reply q 0x0132 stOk (wordBytes v)
      else (a1.raise 981).reply q 0x0132 stFault []) s

/-- FW_SET_BOOT (R137). An image that is not valid cannot be preferred. -/
def execFwSetBoot (q : Req) (s : State) : Host.Outcome State Fault Refusal :=
  s.onBlock fun s =>
  let i := pByte q 0
  runReq 0x0133 3 0 q (fun a => [shape q 4 [1, 2, 3], bad (decide (1 < i)), fwTake a])
    (fun a =>
      if (fwImage a i).valid then
        let a1 := syncFw { a with nvm := { a.nvm with rollback := max a.nvm.rollback (fwImage a i).rollback } }
        let a2 := (a1.setFld FW_STATE.PREFERRED i).cairnN (originOf q.carrier) 0x0131 FW_STATE.addr (a.fld FW_STATE.PREFERRED) i
        (a2.raise 982).reply q 0x0133 stOk []
      else a.reply q 0x0133 stFault []) s

end Sys2Proof.Machine
end

