-- ==== Sys2Proof/Machine/Ageing.lean ====
section
/-! DEFINITION. The margin plan in force: its publication at an FCP, the advertised maxima (R575 to R578), and what follows
when its values break the schedule in force (R277). -/

namespace Sys2Proof.Machine

/-- Key of the built-in defaults among the advertised maxima, beside profiles 0 to 7. -/
def advDefaults : Nat := 8

/-- The settings of profile `p` as a reader; of the built-in defaults for their key. -/
def advRd (s : Block) (p : Nat) : Option (Nat → Word) :=
  if p = advDefaults then some regReset
  else if profileValid s p then (recordsOf (profileImage s p)).map profileReg else none

/-- Key of the active profile. -/
def advActive (s : Block) : Nat := if s.flag PRF_STATE.DEFAULTS then advDefaults else s.fld PRF_STATE.ACTIVE

/-- The advertised maximum that the plan gives settings at band `b`, in 0.1 fps (R578). -/
def advOf (m : PlanModel) (rd : Nat → Word) (b : Nat) : Nat := 8000000000 / (planVals m rd (fun _ => b)).pmin

/-- The advertised maximum of profile `p` at band `b` (R578): as last published, or fresh where none has been. -/
def advRate (s : Block) (p b : Nat) : Nat :=
  match s.th.adv.find? (fun e => decide (e.1 = p * 6 + b)) with
  | some e => e.2
  | none => match advRd s p with | some rd => min 65535 (advOf s.th.plan rd b) | none => 0

/-- MON_PLAN.RATE (R406, R577). -/
def monPlanRate (s : Block) : Nat :=
  let k := (List.range 8).foldl (fun (m : Rat) r => max m (scaleOf s.th.plan r (bandNow s r))) (1 / 1000)
  ((12000 : Rat) / k).floor.toNat

/-- Note an advertised maximum. -/
def setAdv (k v : Nat) (s : Block) : Block := { s with th := { s.th with adv := smPut s.th.adv k v } }

/-- The advertised maxima follow a publication (R578): lowered with event 1008 and a cairn each; raised only by the plan made
after READY. -/
def publishAdv (s : Block) : Block :=
  let fresh := s.th.afterReady
  let one (t : Block) (p b : Nat) : Block :=
    match advRd t p with
    | none => { t with th := { t.th with adv := smDel t.th.adv (p * 6 + b) } }
    | some rd =>
      let v := min 65535 (advOf t.th.plan rd b)
      match t.th.adv.find? (fun e => decide (e.1 = p * 6 + b)) with
      | some e =>
        if v < e.2 then
          setAdv (p * 6 + b) v ((t.policyCairn 0xB04 0x0B06 (AG_ADV.addr b) e.2 v).raise 1008)
        else if fresh then setAdv (p * 6 + b) v t else t
      | none => setAdv (p * 6 + b) v t
  let s1 := (List.range 9).foldl (fun t p => (List.range 6).foldl (fun u b => one u p b) t) s
  { s1 with th := { s1.th with afterReady := false } }

/-- A plan computed is published, in one tick (R575): its values are in force from here. AG_RECOMPUTE is answered by the
publication of its own plan. -/
def publishPlan (s : Block) : Block :=
  match s.th.planNext with
  | none => s
  | some m =>
    let old := s.fld AG_STAT.PLANS
    let s1 := { s with th := { s.th with plan := m, planNext := none } }
    let s2 := (s1.setFld AG_STAT.PLANS (old + 1)).setFld AG_STAT.ETA (m.eta * 1024).floor.toNat
    let s3 := (List.range 8).foldl (fun (t : Block) r =>
      (t.setFld (AG_REGION.INDEX r) (smGet 1 m.a r * 32768).floor.toNat).setFld (AG_REGION.GUARD r)
        (min 65535 (smGet (1 / 10) m.g r * 65536).floor.toNat)) s2
    let s4 := (s3.cairnN oFirmware 0x0B05 AG_STAT.addr old ((old + 1) % 65536)).raise 1009
    let s5 := publishAdv (regrant s4)
    if s5.th.planRun.isSome then s5
    else s5.release (fun w => decide (w = .plan)) (fun r => { r with result := leBytes 4 ((old + 1) % 65536) })

/-- RATE_OVER follows the plan's values against the schedule in force (R277). -/
def rateCheck (s : Block) : Block :=
  if !s.running then s
  else if planBroken s then
    if s.flag FT_STAT.RATE_OVER then s
    else ((s.setFlag FT_STAT.RATE_OVER true).setFlag FT_ERR.RATE_OVER true).raise 1020
  else s.setFlag FT_STAT.RATE_OVER false

/-- The shortest period that the plan allows the table in force (R274, R277). -/
def yieldTo (s : Block) : Nat :=
  let t := tableOf s.eff
  let e := extentOf t
  let v := planNow s s.eff
  let m := pMin t v.tro v.tfree v.ping
  if s.fld FT_CFG.TIMING = 1 then
    let p := s.effFld FT_PERIOD.PERIOD
    let k := ceilDiv m p
    if k * p = e ∨ e + 400 ≤ k * p then k * p else (k + 1) * p
  else if m = e ∨ e + 400 ≤ m then m else e + 400

/-- With THERMAL_YIELD, a schedule that the plan has broken changes its period at an FCP (R277.3, R277.4); in TRIGGERED mode
only the spacing of bursts grows. -/
def yieldRate (s : Block) : Block :=
  if s.flag FT_STAT.RATE_OVER && permYield s && planBroken s then
    let old := s.fld FT_PERIOD.PERIOD
    let p := min 0xFFFFFFFF (yieldTo s)
    if s.fld FT_CFG.TIMING = 2 ∧ s.ft.yieldPeriod = some p then s
    else
      let s1 := s.policyCairn 0x201 0x0201 FT_PERIOD.addr old p
      let s2 := { (s1.setFlag FT_STAT.YIELDED true) with ft := { s1.ft with yieldPeriod := some p } }
      if s.fld FT_CFG.TIMING = 2 then s2
      else { (s2.setFld FT_PERIOD.PERIOD p) with held := smDel s2.held FT_PERIOD.addr }
  else s

end Sys2Proof.Machine
end

