-- ==== Sys2Proof/Machine/Registers.lean ====
section
/-! DEFINITION. Registers as read (R82, R89): the words whose value is live, and the opcodes and rows that read and write
registers (R81, R82, R306, R50). -/

namespace Sys2Proof.Machine

/-- CH_STAT of channel `k` of engine `e` (R251). -/
def chStatWord (s : Block) (e k : Nat) : Word :=
  let c := s.chan e k
  BitVec.ofNat 32 (c.pc % 1024 + 1024 * (c.state % 8) + 8192 * (min 31 c.inq.length) + 262144 * (min 31 c.outq.length) +
    16777216 * c.flags.toNat)

/-- Units of region `r` with UNIT_BAD set (R201). -/
def unitsBad (s : Block) (r : Nat) : Nat :=
  ((List.range 2462720).filter (fun u => decide (regionOf (clusterOf u) = r) && (s.calEntry u).getLsbD 63)).length

/-- The largest sum of granted guarantees in a channel (R350). -/
def grantSum (s : Block) : Nat := ((List.range 11).map (fun q => s.fld (MC_REG1.GRANTED q))).sum

/-- A register word as read: the register file, and the words whose value is live (R82, R89). -/
def readWord (s : Block) (a : Nat) : Word :=
  let w := s.reg a
  if a = SYS_ID.addr then wsetField w 16 8 Config.siliconRev.toNat
  else if a = SYS_SERIAL.addr 0 then Config.serial.setWidth 32
  else if a = SYS_SERIAL.addr 1 then (Config.serial >>> 32).setWidth 32
  else if a = PRF_STATE.addr then wsetField w 8 8 (profileValids s)
  else if a = FT_PLAN.addr 0 ∨ a = FT_PLAN.addr 1 ∨ a = FT_PLAN.addr 2 ∨ a = FT_PLAN.addr 3 ∨ a = FT_PLAN.addr 4 then
    planWord s ((a - FT_PLAN.addr 0) / 4)
  else if a = KS_NOW.addr 0 then s.now.setWidth 32
  else if a = KS_NOW.addr 1 then (s.now >>> 32).setWidth 32
  else if 0x1000000 ≤ a ∧ a < 0x1800000 ∧ a % 0x100000 = 0x100 then wsetField w 0 20 (unitsBad s ((a - 0x1000000) / 0x100000))
  else if a = MC_SLOTS.addr then wsetField (wsetField w 0 16 (slotCap s)) 16 12 (extentUnits s)
  else if a = MC_PLAN_USABLE.addr then
    wsetField (wsetField w 0 16 (match worstChannel s with | some (_, u) => u | none => 0)) 16 16 (grantSum s)
  else if a = MON_PLAN.addr then wsetField w 0 16 (monPlanRate s)
  else if AG_ADV.addr 0 ≤ a ∧ a ≤ AG_ADV.addr 5 then wsetField w 0 16 (advRate s (advActive s) ((a - AG_ADV.addr 0) / 4))
  else if a = EVT_PENDING.addr then evtPendingWord s
  else if 0x100000 ≤ a ∧ a < 0x900000 ∧ 0x180 ≤ a % 0x10000 ∧ a % 0x10000 < 0x280 then
    chStatWord s ((a - 0x100000) / 0x10000) ((a % 0x10000 - 0x180) / 4)
  else if 0x3000000 ≤ a ∧ a < 0x3100000 ∧ 0x180 ≤ a % 0x10000 ∧ a % 0x10000 < 0x1C0 then
    chStatWord s (128 + (a - 0x3000000) / 0x10000) ((a % 0x10000 - 0x180) / 4)
  else if (0x100000 ≤ a ∧ a < 0x900000 ∨ 0x3000000 ≤ a ∧ a < 0x3100000) ∧
      (0x4000 ≤ a % 0x10000 ∧ a % 0x10000 < 0x5000 ∨ 0x8000 ≤ a % 0x10000 ∧ a % 0x10000 < 0x9000) then smGet 0 s.regs a
  else w

/-- Words as read, from address `a`. -/
def readFrom (s : Block) (a n : Nat) : List Byte := (List.range n).flatMap (fun i => wordBytes (readWord s (a + 4 * i)))

/-- Every word addressed lies in one block, at a multiple of 4 (R82). -/
def spanOk (a n : Nat) : Bool :=
  decide (a % 4 = 0) && decide (1 ≤ n) && decide (n ≤ 1021) && (List.range n).all (fun i => inBlock (a + 4 * i) && decide (blockNo (a + 4 * i) = blockNo a))

/-- A read of LN_PRBS_ERR_LO latches the lane's other three words (R462, R487). -/
def readLatch (a n : Nat) (s : Block) : Block :=
  (List.range 40).foldl (fun t l =>
    if a ≤ LN_PRBS_ERR_LO.addr l ∧ LN_PRBS_ERR_LO.addr l < a + 4 * n then latchPrbs l t else t) s

/-- READ_REG (R82). -/
def execReadReg (q : Req) (s : State) : Host.Outcome State Fault Refusal :=
  s.onBlock fun s =>
  let a := pNat q 0 4
  let n := pNat q 4 2
  runReq 0x0003 0 (4 * n) q (fun t => [shape q 8 [6, 7], bad (!spanOk a n),
      (match q.carrier with | .twoWire _ _ => bad (decide (124 < n)) | _ => bad false),
      ((List.range n).any (fun i => !wordPowered t 0 (a + 4 * i)), stNotPresent)])
    (fun t0 => let t := readLatch a n t0; t.reply q 0x0003 stOk (readFrom t a n)) s

/-- WRITE_REG (R82, R78). -/
def execWriteReg (q : Req) (s : State) : Host.Outcome State Fault Refusal :=
  s.onBlock fun s =>
  let a := pNat q 0 4
  let n := pNat q 4 2
  let l := (wordsOf n (q.params.drop 8)).zipIdx.map (fun wi => (⟨a + 4 * wi.2, wi.1, 0xFFFFFFFF⟩ : WordW))
  runReq 0x0004 2 12 q (fun t => [shape q (8 + 4 * n) [6, 7], bad (!spanOk a n),
      (match q.carrier with | .twoWire _ _ => bad (decide (124 < n)) | _ => bad false)] ++
      writeChecks t (classOf t q.carrier) false 0 l)
    (fun t => replyDeferred 0x0004 q (writeDefers t l) [] (writeWords (originOf q.carrier) true l t)) s

/-- MODIFY_REG (R81). -/
def execModifyReg (q : Req) (s : State) : Host.Outcome State Fault Refusal :=
  s.onBlock fun s =>
  let a := pNat q 0 4
  let l : List WordW := [⟨a, BitVec.ofNat 32 (pNat q 8 4), BitVec.ofNat 32 (pNat q 4 4)⟩]
  runReq 0x0005 2 16 q (fun t => [shape q 12 [], bad (!spanOk a 1)] ++ writeChecks t (classOf t q.carrier) false 0 l)
    (fun t => replyDeferred 0x0005 q (writeDefers t l) (wordBytes (readWord t a)) (writeWords (originOf q.carrier) true l t)) s

/-- A write of one word that reaches its register outside the request path: refused with its event, or carried out. -/
def directWrite (c : Carrier) (l : List WordW) (s : Block) : Block :=
  match firstFail ((decide (classOf s c < 2), stDenied) :: writeChecks s (classOf s c) false 0 l) with
  | some st => if st = stDenied then s.raise 968 else if st = stConflict then s.raise 969 else s
  | none => writeWords (originOf c) true l s

/-- REGISTER_WRITE (R82): a write of one word. -/
def execRegisterWrite (c : Carrier) (addr : BitVec 32) (w : Word) (s : State) : Host.Outcome State Fault Refusal :=
  s.onBlock fun s =>
  .next (directWrite c [⟨addr.toNat, w, 0xFFFFFFFF⟩] s)

/-- KS_PERIOD_WRITE (R306). -/
def execKsPeriodWrite (c : Carrier) (i : BitVec 6) (p : Word) (s : State) : Host.Outcome State Fault Refusal :=
  s.onBlock fun s =>
  .next (directWrite c [⟨KS_CH_PERIOD.addr i.toNat, p, 0xFFFFFFFF⟩] s)

/-- SYS_DOMAIN_REQ_WRITE (R50). -/
def execSysDomainReqWrite (c : Carrier) (w : Word) (s : State) : Host.Outcome State Fault Refusal :=
  s.onBlock fun s =>
  .next (directWrite c [⟨SYS_DOMAIN_REQ.addr, w, 0xFFFFFFFF⟩] s)

end Sys2Proof.Machine
end

