-- ==== Sys2Proof/Machine/Schedule.lean ====
section
/-! DEFINITION. The frame schedule: its marks and channels (R259), the frame commit point (R2, R280), the start and end of
capture (R265, R272, R85), triggers (R269 to R271), genlock (R267, R268, R301), and the 0x02xx opcodes (R291). -/

namespace Sys2Proof.Machine

/-! ### Marks (R259) -/

/-- The order of marks on one tick: transfers, resets, commit points. -/
def Mark.rank : Mark → Nat
  | .gtx _ _ _ _ => 0
  | .grst _ _ => 1
  | .fcp _ => 2

/-- The compare channel that carries a mark (R259). -/
def Mark.chan : Mark → Nat
  | .grst _ _ => 0
  | .gtx _ _ node _ => if node then 2 else 1
  | .fcp _ => 3

/-- Insert a mark at its place. -/
def addMark (m : MarkAt) : List MarkAt → List MarkAt
  | [] => [m]
  | x :: t => if laterThan x.tick m.tick || (decide (x.tick = m.tick) && decide (m.mark.rank < x.mark.rank)) then m :: x :: t else x :: addMark m t

/-- The strobes of a frame's table, from its GRST tick. -/
def frameMarks (n : Nat) (g : Tick) (t : List SubExp) : List MarkAt :=
  t.zipIdx.flatMap (fun (ek : SubExp × Nat) =>
    let a := g + BitVec.ofNat 64 ek.1.start
    [⟨a, .grst n ek.2⟩, ⟨a + BitVec.ofNat 64 ek.1.width, .gtx n ek.2 ek.1.node (decide (ek.2 + 1 = t.length))⟩])

/-- The GRST tick of the next frame scheduled (R288). -/
def nextGrst (s : Block) : Option Tick :=
  match s.ft.sched.find? (fun m => match m.mark with | .grst _ 0 => true | .fcp _ => true | _ => false) with
  | some ⟨t, .fcp _⟩ => some (t + 80000)
  | some m => some m.tick
  | none => none

/-- Channel `i` of 0 to 3 follows the schedule while it runs (R259). -/
def syncChan (s : Block) (i : Nat) : Block :=
  match s.ft.sched.find? (fun m => decide (m.mark.chan = i)) with
  | some m =>
    let last := match m.mark with | .gtx _ _ _ l => l | _ => false
    let s1 := s.setReg (KS_CH_CTL.addr i) (BitVec.ofNat 32 (8 * (if i = 3 then 0 else i + 1) + 32 * b2n last))
    let s2 := setArmed i true (setCmp i m.tick s1)
    { s2 with ks := { s2.ks with
        base := smPut s2.ks.base i m.tick, fired := s2.ks.fired.filter (fun j => decide (j ≠ i)), late := smDel s2.ks.late i } }
  | none => disarmChan i s

/-- The registers that show the schedule follow it (R287, R288). -/
def syncSched (s : Block) : Block :=
  let s1 := if s.running then [0, 1, 2, 3].foldl syncChan s else s
  let next := match nextGrst s1 with | some t => t.toNat | none => 2 ^ 64 - 1
  let s2 := (s1.setFld (FT_NEXT.NEXT 0) (next % 2 ^ 32)).setFld (FT_NEXT.NEXT 1) (next / 2 ^ 32)
  let busy := s.ft.sched.any (fun m => match m.mark with | .grst _ 0 => true | .fcp _ => true | _ => false)
  let trig := s.running && decide (s.fld FT_CFG.TIMING = 2)
  ((s2.setFlag FT_STAT.RUNNING s.running).setFlag FT_STAT.WAITING (trig && !busy)).setFlag FT_STAT.IN_BURST (trig && busy)

/-- Put marks into the schedule. -/
def addMarks (l : List MarkAt) (s : Block) : Block := { s with ft := { s.ft with sched := l.foldl (fun q m => addMark m q) s.ft.sched } }

/-! ### The frame commit point (R2, R280) -/

/-- Comparator bias by band, in hundredths of NOMINAL (R177). -/
def biasOf (b : Nat) : Nat := match b with | 0 => 130 | 1 => 115 | 4 => 90 | 5 => 90 | _ => 100

/-- Regions whose band changes the comparator bias start a settling pass (R177, R194). -/
def biasAtFcp (s : Block) : Block :=
  (List.range 8).foldl (fun (t : Block) r =>
    let was := s.cal.biasBand.getD r 2
    let now := bandNow t r
    if biasOf was = biasOf now then t
    else ({ t with cal := { t.cal with settling := smPut t.cal.settling r [] } }).raise (418 + 16 * r)) { s with cal := { s.cal with
      biasBand := (List.range 8).map (bandNow s) } }

/-- The drive set of the coming frame (R162): BAND_AT_FCP, and a set that differs waits for GRST. -/
def driveAtFcp (s : Block) : Block :=
  let s1 := s.setFld PIX_DRIVE_STAT.BAND_AT_FCP (s.fld SYS_STATE.BAND)
  let (set, f) := driveWanted s1
  { s1 with pix := { s1.pix with nextSet := if s1.fld PIX_DRIVE_STAT.SET = set ∧ s1.flag PIX_DRIVE_STAT.FORCED = f then none else some set } }

/-- Registers recorded with a frame: those that its header, its payload and its developments read (R379). -/
def frameSettings (s : Block) : List (Nat × Word) :=
  s.regs.filter (fun e => decide (e.1 < 0x10010) || (decide (0x2000000 ≤ e.1) && decide (e.1 < 0x2000100)) ||
    (decide (0x2400000 ≤ e.1) && decide (e.1 < 0x2410000)) || (decide (0x2420000 ≤ e.1) && decide (e.1 < 0x2500100)))

/-- The record of frame `n`, as its FCP fixes it. -/
def newFrame (n : Nat) (g : Tick) (late : Bool) (s : Block) : FrameRec :=
  let set := driveWanted s
  let fl : Word := 0
  let fl1 := wput fl fStatsAbsent (!s.flag STAT_CFG.EN || s.th.shedStats)
  let fl2 := wput (wput fl1 fFcpLate late) fRateYield (s.flag FT_STAT.YIELDED)
  { num := n, grst := g, fcp := s.now, last := none, te := if s.fld FT_CFG.TIMING = 2 then s.ft.te else 0, flags := fl2,
    period := s.fld FT_PERIOD.PERIOD, table := tableOf s.reg, fired := [], trim := 0, epoch := s.fld CNV_STAT.EPOCH,
    settings := frameSettings (putDrive set.1 set.2 n s), ratios := s.cal.epoch, calOld := [], defects := s.cal.defectsInForce,
    defectStores := s.cal.defectStores, bands := (List.range 8).map (bandNow s),
    profile := s.fld PRF_STATE.ACTIVE + 8 * s.fld PRF_STATE.DEFAULTS, tro := (planNow s s.reg).tro, gated := [],
    unserved := s.pix.unserved }

/-- Shadowed values come into force; DV goes off at the frame boundary when that is due, and the contexts follow the shedding in
force (R2, R50, R417). -/
def commitHeld (s : Block) : Block :=
  let s1 := { s with held := [] }
  if s1.pwr.switching.contains dvOffDue then
    applyShed true (syncMon (domainOff 16 { s1 with pwr := { s1.pwr with switching := s1.pwr.switching.filter (fun x => decide (x ≠ dvOffDue)) } }))
  else applyShed true (syncMon s1)

/-- FCP of frame `n`, whose GRST is `g` (R280). -/
def runFcp (n : Nat) (g : Tick) (late : Bool) (s : Block) : Block :=
  let s0 := match s.nvm.pendProfile with | some p => applyProfile p.num n s | none => s
  let s1 := yieldRate (commitHeld s0)
  let s2 := rateCheck (publishPlan s1)
  let s3 := epochAtFcp (commitCal (biasAtFcp (driveAtFcp s2)))
  let table := tableOf s3.reg
  let p := s3.fld FT_PERIOD.PERIOD
  let trig := decide (s3.fld FT_CFG.TIMING = 2)
  let s4 := { s3 with ft := { s3.ft with table := table, period := p } }
  let s5 := computeGuar (if trig then (planNow s4 s4.reg).pmin else p) (if s.fld FT_PERIOD.PERIOD = p then s4 else updateDeficit s4)
  let f := newFrame n g late s5
  let keep := s5.ft.frames.filter (fun x => decide ((n + 2 ^ 32 - x.num) % 2 ^ 32 < 256) || (s5.slot? x.num).isSome ||
    (match s5.ingest? x.num with | some i => i.whole.isNone | none => false))
  let more := !trig || decide (1 < s5.ft.burstLeft)
  let s6 := { s5 with ft := { s5.ft with
    frames := f :: keep, nextNum := (n + 1) % 2 ^ 32, lastGrst := some g,
    burstLeft := s5.ft.burstLeft - 1 } }
  let s7 := addMarks (frameMarks n g table ++ (if more then [⟨g + BitVec.ofNat 64 p - 80000, .fcp ((n + 1) % 2 ^ 32)⟩] else [])) s6
  let s8 := s7.setFld FT_STAT.NSUB_ACTIVE (table.length - 1)
  let s9 := defectsAtFcp n <| if s8.th.swapPlans.contains n then
      startPlan { s8 with th := { s8.th with swapPlans := s8.th.swapPlans.filter (fun x => decide (x ≠ n)) } } else s8
  syncSched (s9.release (fun w => decide (w = .fcp n)) id)

/-! ### Capture starts and stops (R85, R265, R272) -/

/-- GENLOCK state changes: its cairn, and event 1021 when holdover is entered or LOCKED changes (R268, R292). -/
def setGl (locked holdover : Bool) (s : Block) : Block :=
  let bits (t : Block) : Nat := t.fld FT_STAT.LOCKED + 2 * t.fld FT_STAT.HOLDOVER
  let s1 := (s.setFlag FT_STAT.LOCKED locked).setFlag FT_STAT.HOLDOVER holdover
  if bits s = bits s1 then s
  else
    let s2 := s1.policyCairn 0x202 0x0202 FT_STAT.addr (bits s) (bits s1)
    if s.flag FT_STAT.LOCKED != locked || (holdover && !s.flag FT_STAT.HOLDOVER) then s2.raise 1021 else s2

/-- FT_START (R286). -/
def startTick (s : Block) : Tick := BitVec.ofNat 64 (s.fld (FT_START.START 0) + 2 ^ 32 * s.fld (FT_START.START 1))

/-- START_AT names a tick too early (R265). -/
def startTooEarly (s : Block) : Bool := s.flag FT_CFG.START_AT && !laterThan (startTick s) (s.now + 399999)

/-- The next frame number (R265). -/
def nextFrameNo (s : Block) : Nat := (s.fld FT_FRAME_LAST.FRAME + 1) % 2 ^ 32

/-- The frame schedule starts, its first GRST at least `d` ticks from now (R265, R160); `at_` when FT_START may place it. -/
def startCaptureIn (origin d : Nat) (at_ : Bool) (s : Block) : Block :=
  let s0 := [0, 1, 2, 3].foldl (fun t i => disarmBy origin i t) s
  let s1 := (((s0.setFlag SYS_STATE.CAPTURE_EN true).setFlag SYS_STATE.SCHEDULE true).setFlag FT_STAT.YIELDED false).setFlag
    FT_STAT.RATE_OVER false
  let s2 := { s1 with
    ft := { s1.ft with
      sched := [], table := [], nextNum := nextFrameNo s1, lastGrst := none, burstLeft := 0, notBefore := s1.now + BitVec.ofNat 64 d,
      glStart := false, yieldPeriod := none },
    pix := { s1.pix with busyA := [], busyB := [], abOff := false, pulse := none, nextSet := none },
    rcd := { s1.rcd with deltaKey := none, deltaLast := [] } }
  let s3 := if s2.pwr.rcFault then { (s2.setFld SYS_DOMAIN.RC_ON 0xFF) with pwr := { s2.pwr with rcFault := false, rcValidAt := none } } else s2
  let s4 := { s3 with pwr := { s3.pwr with trefBlocked := false } }
  let n := s4.ft.nextNum
  let first (g : Tick) (t : Block) : Block := addMarks [⟨g - 80000, .fcp n⟩] t
  let s5 := if at_ && s4.flag FT_CFG.START_AT then first (startTick s4) { s4 with ft := { s4.ft with te := 0, burstLeft := s4.fld FT_BURST.FRAMES } }
    else match s4.fld FT_CFG.TIMING with
      | 0 => first (s4.now + BitVec.ofNat 64 d) s4
      | 1 => { setGl false false s4 with ft := { s4.ft with glStart := true } }
      | _ => s4
  updateDeficit (syncSched s5)

/-- SET_CAPTURE's start: the first GRST 400,000 ticks from now, or at FT_START (R265). -/
def startCapture (origin : Nat) (s : Block) : Block := startCaptureIn origin 400000 true s

/-- Frames whose GRST has not fired. -/
def unfired (s : Block) : List Nat :=
  s.ft.sched.filterMap (fun m => match m.mark with | .grst n 0 => some n | _ => none)

/-- The schedule ends (R272, R78): no further GRST of a new frame fires; the pending values take effect. -/
def stopCapture (s : Block) : Block :=
  if !s.running then s.setFlag SYS_STATE.CAPTURE_EN false
  else
    let gone := unfired s
    let of (m : Mark) : Option Nat := match m with | .fcp _ => none | .grst n _ => some n | .gtx n _ _ _ => some n
    let s1 := ((s.setFlag SYS_STATE.CAPTURE_EN false).setFlag SYS_STATE.SCHEDULE false).setFlag FT_STAT.RATE_OVER false
    let s2 := { s1 with ft := { s1.ft with
      sched := s1.ft.sched.filter (fun m => match of m.mark with | some n => !gone.contains n | none => false),
      frames := s1.ft.frames.filter (fun f => !gone.contains f.num), nextNum := nextFrameNo s1, burstLeft := 0, glStart := false } }
    let s3 := [0, 1, 2, 3].foldl (fun t i => disarmChan i t) s2
    let s4 := match s3.nvm.pendProfile with | some p => applyProfile p.num s3.ft.nextNum s3 | none => s3
    let s5 := updateDeficit (driveNow (commitCal (commitHeld s4)))
    let s6 := { s5 with pix := { s5.pix with nextSet := none } }
    closeSteps (syncSched (s6.release (fun w => match w with | .fcp _ => true | _ => false) id))

/-- Strobes end at once (R47, R56): the schedule ends, and the frame in flight goes to readout incomplete. -/
def abortCapture (s : Block) : Block :=
  let s1 := stopCapture s
  let s2 := { s1 with ft := { s1.ft with sched := [], inFlight := none }, pix := { s1.pix with abOff := false, pulse := none } }
  match s.ft.inFlight with
  | some n => (startReadout n (s2.onFrame n (fun f => { f with last := some s.now }))).mark n fIncomplete
  | none => s2

/-- Waits that hold off capture: 10 ms of a valid rail (R56), 100 µs of a stable TREFCLK (R47). -/
def captureWaits (s : Block) : Bool :=
  (s.pwr.rcFault && (match s.pwr.rcValidAt with | some t => decide (s.sinceT t < 10 * msT) | none => true)) ||
    (s.pwr.trefBlocked && (match s.pwr.trefValidAt with | some t => decide (s.sinceT t < 100 * usT) | none => true))

/-- SET_CAPTURE (R85, R265, R309). -/
def execSetCapture (q : Req) (s : State) : Host.Outcome State Fault Refusal :=
  s.onBlock fun s =>
  let on := pByte q 0
  runReq 0x0012 1 0 q (fun a => [shape q 4 [1, 2, 3], bad (decide (1 < on))] ++
      (if on = 1 then (if a.running then [] else
        [bad (startTooEarly a), (captureWaits a || a.rsv.closeOut.isSome || a.flag CNV_STAT.FULL_RUNNING, stBusy),
          (conflictArmed a, stConflict), (decide (inService a = []), stFault)])
      else [(a.takeOpen && !forced q, stRecording), (a.rsv.closeOut.isSome, stBusy)]))
    (fun a =>
      if on = 1 then (if a.running then a else startCapture (originOf q.carrier) a).reply q 0x0012 stOk []
      else if a.takeOpen then forceClose 0x0012 q a
      else (stopCapture a).reply q 0x0012 stOk []) s

/-- CAPTURE_AUTO_START (R60, R116): with the profile's permission, capture starts at READY. -/
def execCaptureAutoStart (s : State) : Host.Outcome State Fault Refusal :=
  s.onBlock fun s =>
  .next (if decide (s.fld SYS_BOOT.STAGE = 9) && permCapture s && !s.running && !startTooEarly s && !captureWaits s &&
      !conflictArmed s && decide (inService s ≠ []) && s.rsv.closeOut.isNone then
    startCapture (oProfile (s.fld PRF_STATE.ACTIVE)) s else s)

/-! ### Fabric messages -/

/-- A member bitmap of 32 bytes (R522). -/
def bitmap (l : List Nat) : List Byte := (List.range 32).map (fun i => BitVec.ofNat 8 ((List.range 8).map (fun b => if l.contains (8 * i + b) then 2 ^ b else 0)).sum)

/-- The nodes of a bitmap. -/
def bitmapNodes (l : List Byte) : List Nat := (List.range 256).filter (fun n => (l.getD (n / 8) 0).getLsbD (n % 8))

/-! ### Triggers (R269 to R271, R537) -/

/-- An accepted trigger goes on to the members of the last array take (R537). -/
def forwardTrigger (te : Tick) (s : Block) : Block :=
  if s.flag FB_CFG.TRIG_FWD then
    let me := s.fld FB_STAT.NODE
    (s.fb.lastMembers.filter (fun n => decide (n ≠ me))).foldl (fun t n =>
      fabSend n 1 0x0AF9 (leBytes 8 te.toNat ++ leBytes 1 me ++ zeros 3 ++ bitmap t.fb.lastMembers) t) s
  else s

/-- Is a trigger with stamp `te` missed now (R270, R271)? -/
def trigMissed (te : Tick) (s : Block) : Bool :=
  let g := te + BitVec.ofNat 64 (s.effFld FT_TRIG.LATENCY)
  let pmin := max (planNow s s.reg).pmin (s.ft.yieldPeriod.getD 0)
  !s.flag FT_STAT.WAITING || laterThan s.ft.notBefore g ||
    (match s.ft.lastGrst with | some l => laterThan (l + BitVec.ofNat 64 pmin) g | none => false) || laterThan s.now (g - 1600)

/-- A trigger stamped `te` arrives now (R269 to R271). -/
def takeTrigger (te : Tick) (s : Block) : Block :=
  let g := te + BitVec.ofNat 64 (s.effFld FT_TRIG.LATENCY)
  let late := laterThan s.now (g - 80000)
  if trigMissed te s then
    let s1 := (s.incFld FT_TRIG_CNT.MISSED 1).setFlag FT_ERR.TRIG_MISSED true
    (if late then s1.setFlag FT_ERR.TRIG_LATE true else s1).raiseAt 1020 te
  else
    let s1 := (({ s with ft := { s.ft with te := te, burstLeft := s.effFld FT_BURST.FRAMES } } : Block).incFld FT_TRIG_CNT.ACCEPTED 1)
    let s2 := forwardTrigger te s1
    if late then runFcp s2.ft.nextNum g true ((s2.setFlag FT_ERR.TRIG_LATE true).raiseAt 1020 te)
    else syncSched (addMarks [⟨g - 80000, .fcp s2.ft.nextNum⟩] s2)

/-- TRIGGERED mode runs. -/
def trigMode (s : Block) : Bool := s.running && decide (s.fld FT_CFG.TIMING = 2)

/-- TRIGGER_STAMP (R269): an edge stamp reaches the frame timing block through the TIMING sink. -/
def execTriggerStamp (t : Tick) (s : State) : Host.Outcome State Fault Refusal :=
  s.onBlock fun s =>
  let src := s.fld FT_TRIG.SRC
  let ok := match s.eng.sunk.find? (fun k => decide (k.sink = 3)) with
    | some k => decide (src = 2) || (decide (src < 2) && decide (k.chan % 64 = src))
    | none => decide (src ≠ 3)
  let s1 := popSunk 3 s
  .next (if trigMode s && ok then takeTrigger t s1 else s1)

/-- FT_TRIGGER (R269, R270). -/
def execFtTrigger (q : Req) (s : State) : Host.Outcome State Fault Refusal :=
  s.onBlock fun s =>
  runReq 0x0203 1 4 q (fun a => [shape q 0 [], (!trigMode a, stBusy)])
    (fun a =>
      let a1 := takeTrigger a.now a
      if trigMissed a.now a then a1.reply q 0x0203 stBusy []
      else a1.reply q 0x0203 stOk (leBytes 4 a.ft.nextNum)) s

/-! ### Genlock (R267, R268, R301) -/

/-- The expected tick nearest to an edge, T_r + k × FT_GL_REF (R301). -/
def glExpected (s : Block) (t : Tick) : Tick :=
  let r := s.fld FT_GL_REF.REF
  match s.ft.glTr with
  | some t0 => if r = 0 then t else t0 + BitVec.ofNat 64 (roundDiv (t - t0).toNat r * r)
  | none => t

/-- The reference edges count: a genlocked schedule, or a keystone disciplined by them. -/
def glOn (s : Block) : Bool := (s.running && decide (s.fld FT_CFG.TIMING = 1)) || decide (s.fld KS_CFG.DISC = 1)

/-- The keystone's loop at an accepted edge (R301): a step of at most 4,295 units towards the reference, whose size the spec
leaves open, and the phase error as a slew. -/
def glLoop (t : Tick) (s : Block) : Block :=
  if s.fld KS_CFG.DISC ≠ 1 then s
  else
    let l := s.ft.glIntervals
    let sum := l.sum
    let want := l.length * s.fld FT_GL_REF.REF
    let m : Int := 1 + (s.drawn.toNat % 4295 : Nat)
    let s1 := if sum = want then s else loopTrim (trimOf s + (if want < sum then -m else m)) s.draw
    setSlew (-((t - glExpected s t).toInt * 4294967296)) s1

/-- The first frame of a genlocked schedule starts from this edge (R267). -/
def glBegin (t : Tick) (s : Block) : Block :=
  let p := s.fld FT_PERIOD.PERIOD
  let g0 := t + BitVec.ofNat 64 (s.fld FT_GL_OFFSET.OFFSET)
  let g := if laterThan g0 s.now then g0 else g0 + BitVec.ofNat 64 (((s.now - g0).toNat / max 1 p + 1) * p)
  let s1 := { s with ft := { s.ft with glStart := false, glTr := some t } }
  if laterThan (g - 80000) s.now then syncSched (addMarks [⟨g - 80000, .fcp s1.ft.nextNum⟩] s1)
  else runFcp s1.ft.nextNum g false s1

/-- GENLOCK_EDGE (R267, R268, R301). -/
def execGenlockEdge (t : Tick) (s : State) : Host.Outcome State Fault Refusal :=
  s.onBlock fun s =>
  let s0 := popSunk 3 s
  if !glOn s0 then .next s0
  else
    let r := s0.fld FT_GL_REF.REF
    let d := match s0.ft.glLast with | some l => (t - l).toNat | none => 0
    let good := s0.ft.glLast.isSome && decide (99 * r ≤ 100 * d) && decide (100 * d ≤ 101 * r)
    let early := s0.ft.glLast.isSome && decide (100 * d < 99 * r)
    if early then .next { s0 with ft := { s0.ft with glGood := 0 } }
    else
      let s1 := { s0 with ft := { s0.ft with
        glLast := some t, glGood := if good then s0.ft.glGood + 1 else 0,
        glIntervals := if good then (d :: s0.ft.glIntervals).take 16 else s0.ft.glIntervals,
        glTr := if s0.ft.glTr.isNone then some t else s0.ft.glTr } }
      let s2 := if s1.ft.glStart && !laterThan s1.ft.notBefore t then glBegin t s1 else s1
      if s2.flag FT_STAT.HOLDOVER && decide (s2.ft.glGood < 3) then .next s2
      else if !good then .next s2
      else
        let err := ((t - glExpected s2 t).toInt).natAbs
        let s3 := glLoop t s2
        .next (setGl (decide (err ≤ 8) && !s3.flag KS_STAT.TRIM_LIMIT) false s3)

/-- Holdover begins (R268): the trim stays, a slew not yet done is discarded (R301). -/
def glHold (s : Block) : Block :=
  let s1 := setGl false true (s.setFlag FT_ERR.REF_LOST true)
  let s2 : Block := { s1 with ft := { s1.ft with glGood := 0, glIntervals := [] } }
  if s2.fld KS_CFG.DISC = 1 then setSlew 0 s2 else s2

/-- Two edges in a row are missing: 2 × 1.01 reference periods since the last one (R268). -/
def glMissed (s : Block) : Bool :=
  match s.ft.glLast with
  | some l => decide (s.fld FT_GL_REF.REF * 202 < s.sinceT l * 100)
  | none => false

/-- GENLOCK_REF_LOST (R268). -/
def execGenlockRefLost (s : State) : Host.Outcome State Fault Refusal :=
  s.onBlock fun s =>
  .next (if glOn s && !s.flag FT_STAT.HOLDOVER && glMissed s then glHold s else s)

/-! ### The opcodes (R291) -/

/-- Words of FT_SET_TIMING (R291). -/
def timingWords (s : Block) (q : Req) : List WordW :=
  let fl := pByte q 11
  let te := BitVec.ofNat 32 (pNat q 8 2 + 512 * pByte q 10 + 8192 * (fl % 4))
  [⟨FT_PERIOD.addr, BitVec.ofNat 32 (pNat q 0 4), 0xFFFFFFFF⟩, ⟨FT_EXPOSURE.addr, BitVec.ofNat 32 (pNat q 4 4), 0xFFFFFFFF⟩,
    ⟨FT_TERRACE.addr, te, 0x7FFF⟩, ⟨FT_CFG.addr, wsetField (s.reg FT_CFG.addr) 2 2 (fl / 4), 0xC⟩]

/-- Parameters of FT_SET_TIMING and FT_CHECK. -/
def timingShape (q : Req) : List Check :=
  [shape q 12 [], bad (decide (511 < pNat q 8 2) || decide (15 < pByte q 10) || decide (15 < pByte q 11))]

/-- FT_GET_SCHEDULE (R291). -/
def execFtGetSchedule (q : Req) (s : State) : Host.Outcome State Fault Refusal :=
  s.onBlock fun s =>
  let w := pByte q 0
  runReq 0x0200 0 412 q (fun _ => [shape q 4 [1, 2, 3], bad (decide (1 < w))])
    (fun a =>
      let live := decide (w = 0)
      let rd := if live then a.eff else a.reg
      let t := if live && a.running && !a.ft.table.isEmpty then a.ft.table else tableOf rd
      let p := if live && a.running && !a.ft.table.isEmpty then a.ft.period else rdFld rd FT_PERIOD.PERIOD
      let v := planNow a rd
      a.reply q 0x0200 stOk (leBytes 4 p ++ leBytes 4 t.length ++
        t.flatMap (fun e => leBytes 4 e.start ++ leBytes 4 e.width ++ leBytes 4 (b2n e.node)) ++
        leBytes 4 v.tro ++ leBytes 4 v.tfree ++ leBytes 4 v.ping ++ leBytes 4 v.pmin ++ leBytes 4 v.span)) s

/-- FT_SET_TIMING (R276, R291). -/
def execFtSetTiming (q : Req) (s : State) : Host.Outcome State Fault Refusal :=
  s.onBlock fun s =>
  runReq 0x0201 1 12 q (fun a => timingShape q ++ writeChecks a (classOf a q.carrier) false 0 (timingWords a q))
    (fun a =>
      let l := timingWords a q
      replyDeferred 0x0201 q (writeDefers a l) [] (writeWords (originOf q.carrier) true l a)) s

/-- Words of FT_SET_SHAPE (R291). -/
def shapeWords (s : Block) (q : Req) : List WordW :=
  let n := pByte q 0
  (List.range n).flatMap (fun k =>
    [⟨FT_SUB0.addr k, BitVec.ofNat 32 (pNat q (4 + 12 * k) 4), 0xFFFFFFFF⟩,
      ⟨FT_SUB1.addr k, BitVec.ofNat 32 (pNat q (8 + 12 * k) 4), 0xFFFFFFFF⟩,
      ⟨FT_SUB2.addr k, BitVec.ofNat 32 (pByte q (12 + 12 * k)), 1⟩]) ++
  [⟨FT_CFG.addr, wsetField (wsetField (s.reg FT_CFG.addr) 2 2 3) 4 5 (n - 1), 0x1FC⟩]

/-- FT_SET_SHAPE (R263, R276, R291). -/
def execFtSetShape (q : Req) (s : State) : Host.Outcome State Fault Refusal :=
  s.onBlock fun s =>
  let n := pByte q 0
  runReq 0x0202 1 12 q (fun a =>
      [shape q (4 + 12 * n) ([1, 2, 3] ++ (List.range (min n 32)).flatMap (fun k => [13 + 12 * k, 14 + 12 * k, 15 + 12 * k])),
        bad (decide (n = 0) || decide (32 < n)), bad ((List.range (min n 32)).any (fun k => decide (1 < pByte q (12 + 12 * k))))] ++
      (if n = 0 ∨ 32 < n then [] else writeChecks a (classOf a q.carrier) false 0 (shapeWords a q)))
    (fun a =>
      let l := shapeWords a q
      replyDeferred 0x0202 q (writeDefers a l) [] (writeWords (originOf q.carrier) true l a)) s

/-- FT_CHECK (R276, R291): the same check, nothing written. -/
def execFtCheck (q : Req) (s : State) : Host.Outcome State Fault Refusal :=
  s.onBlock fun s =>
  runReq 0x0204 0 8 q (fun a => timingShape q ++ (writeChecks a 3 false 0 (timingWords a q)).filter (fun c => decide (c.2 = stBadParam)) ++
      [bad (!timingOk a (candidate? a (timingWords a q)))])
    (fun a =>
      let v := planNow a (candidate? a (timingWords a q))
      a.reply q 0x0204 stOk (leBytes 4 v.pmin ++ leBytes 4 v.span)) s

/-- Header flags of timing: STROBE_RULE, HOLDOVER, FCP_LATE and RATE_YIELD. -/
def timingFlags (w : Word) : Word := w &&& 0x1C04

/-- Frame `n`, if it is among the last 256 (R291). -/
def frameKept (s : Block) (n : Nat) : Option FrameRec :=
  match s.ft.frames with
  | newest :: _ => if decide ((newest.num + 4294967296 - n) % 4294967296 < 256) then s.frame? n else none
  | [] => none

/-- The result of FT_GET_FRAME. -/
def frameInfo (f : FrameRec) : List Byte :=
  leBytes 8 f.grst.toNat ++ leBytes 8 (f.last.getD 0).toNat ++ leBytes 8 f.fcp.toNat ++ leBytes 8 f.te.toNat ++
    wordBytes (timingFlags f.flags)

/-- FT_GET_FRAME (R291): kept for the last 256 frames. -/
def execFtGetFrame (q : Req) (s : State) : Host.Outcome State Fault Refusal :=
  s.onBlock fun s =>
  let n := pNat q 0 4
  runReq 0x0205 0 36 q (fun a => [shape q 4 [], bad (frameKept a n).isNone])
    (fun a => match frameKept a n with
      | some f => a.reply q 0x0205 stOk (frameInfo f)
      | none => a) s

end Sys2Proof.Machine
end

