-- ==== Sys2Proof/Machine/Fire.lean ====
section
/-! DEFINITION. The strobe generator (R149 to R156), and the firing of compare channels (R305 to R310). -/

namespace Sys2Proof.Machine

/-! ### Strobes -/

/-- The frame whose exposure interval contains tick `t` (R154). -/
def frameAt (s : Block) (t : Tick) : Option FrameRec :=
  s.ft.frames.find? (fun f => !laterThan f.grst t && decide ((t - f.grst).toNat ≤ extentOf f.table))

/-- A strobe rule is broken (R154): the bit, event 1019, and the flag of the frame. -/
def strobeErr (bit : RF) (n : Option Nat) (s : Block) : Block :=
  let s1 := (s.setFlag bit true).raise 1019
  match n with | some k => s1.mark k fStrobeRule | none => s1

/-- Is a strobe of that kind (0 GRST, 1 GTX-A, 2 GTX-B) still to fire at this tick? -/
def strobeDue (s : Block) (kind : Nat) : Bool :=
  s.ft.sched.any (fun m => decide (m.tick = s.now) && decide (m.mark.chan = kind)) ||
    (List.range 64).any (fun i => armedCh s i && !chanOwned s i && decide (s.fld (KS_CH_CTL.STROBE i) = kind + 1) &&
      !smHas s.ks.late i && decide (pointOf s i = s.now))

/-- tTX of the drive set in force (R151, R161). -/
def ttx (s : Block) : Nat := s.fld (PIX_BAND0.TTX (s.fld PIX_DRIVE_STAT.SET))

/-- Note a strobe in the record of its frame. -/
def noteFired (n : Option Nat) (kind : Nat) (s : Block) : Block :=
  match n with | some k => s.onFrame k (fun f => { f with fired := f.fired ++ [⟨kind, s.now⟩] }) | none => s

/-- The number that a strobe's latch carries: its frame, or the last one. -/
def strobeNo (s : Block) (n : Option Nat) : Nat := n.getD (s.fld FT_FRAME_LAST.FRAME)

/-- GRST in frame `n` (R149, R152, R154). -/
def fireGrst (n : Option Nat) (s : Block) : Block :=
  let t := s.now
  if s.pix.lastGrst = some t then s
  else if s.pix.abOff && !(strobeDue s 1 || strobeDue s 2) then s.setFlag PIX_STROBE_ERR.GRST_REPEAT true
  else
    let gap := match s.pix.lastGtx with | some g => (t - g).toNat | none => 400
    let s1 := if 1 ≤ gap ∧ gap ≤ 399 ∧ s.pix.abOff = false then strobeErr PIX_STROBE_ERR.GAP_SHORT n s else s
    let s2 := match s1.pix.pulse with
      | some (nd, p) => if p ≠ t ∧ s1.pix.abOff = false then strobeErr PIX_STROBE_ERR.TX_SHORT n { s1 with pix := { s1.pix with pulse := some (nd, t) } } else s1
      | none => s1
    let s3 := { s2 with pix := { s2.pix with abOff := true, prevGrst := s2.pix.lastGrst, lastGrst := some t } }
    latchStrobe 0 (strobeNo s3 n) t (noteFired n 0 s3)

/-- Clusters that still hold unconverted charge of an earlier frame in a node; those without a mason are not checked. -/
def heldClusters (s : Block) (n : Nat) (node : Bool) : List Nat :=
  (((busyOf s node).filter (fun e => decide (e.2 ≠ n) && !s.pix.unserved.contains e.1)).map (fun e => e.1)).eraseDups

/-- The first transfer of frame `f` into a node (R156): clusters with charge of an earlier frame have their gate closed; every
other one holds charge of this frame. -/
def firstTransfer (f : FrameRec) (node : Bool) (s : Block) : Block :=
  let shut := heldClusters s f.num node
  let closed := shut ++ s.pix.unserved
  let s1 := s.onFrame f.num (fun g => { g with gated := g.gated ++ shut.map (fun c => (c, node)) })
  let s2 := if shut.isEmpty then s1 else s1.marks f.num [fNodeBusy, fIncomplete]
  let s3 := ((shut.map regionOf).eraseDups).foldl (fun t r => t.raise (416 + 16 * r)) s2
  let opened := (List.range 128).filter (fun c => !closed.contains c && (clusterPairs c).any (fun p => pairPlanned f c p))
  setBusy node (busyOf s3 node ++ opened.map (fun c => (c, f.num))) s3

/-- The transfer pulse is shorter than tTX (R154): armed at `armed`, or a GRST inside the lead. -/
def pulseShort (s : Block) (armed : Option Tick) : Bool :=
  let lead := s.now - BitVec.ofNat 64 (ttx s)
  (match armed with | some a => laterThan a lead | none => false) ||
    (match (if s.pix.lastGrst = some s.now then s.pix.prevGrst else s.pix.lastGrst) with
      | some g => laterThan g lead && s.pix.abOff
      | none => false)

/-- GTX-A or GTX-B in frame `n` (R149, R151, R153, R154, R156); `armed` is the arming tick of a channel of its own. -/
def fireGtx (node : Bool) (n : Option Nat) (armed : Option Tick) (s : Block) : Block :=
  let t := s.now
  let again := decide (s.pix.lastGtx = some t)
  if again && s.pix.lastNodeB == node then s
  else if node && ((again && !s.pix.lastNodeB) || strobeDue s 1) then strobeErr PIX_STROBE_ERR.GTX_COLLIDE n s
  else
    let from_ := if s.pix.lastGrst = some t then s.pix.prevGrst else s.pix.lastGrst
    let idle := !s.pix.abOff || (decide (s.pix.lastGrst = some t) && (match s.pix.prevGrst, s.pix.lastGtx with
      | none, _ => true
      | some g, some x => !laterThan g x && decide (g ≠ x)
      | some _, none => false))
    let s1 := if idle then s.setFlag PIX_STROBE_ERR.GTX_IDLE true
      else
        let a := if (match from_ with | some g => decide ((t - g).toNat < 800) | none => false) then strobeErr PIX_STROBE_ERR.SUB_SHORT n s else s
        if a.pix.pulse.isNone && pulseShort a armed then strobeErr PIX_STROBE_ERR.TX_SHORT n a else a
    let s2 := match n.bind s1.frame? with
      | some f =>
        let anyGtx := f.fired.any (fun x => decide (x.kind ≠ 0))
        let b := if anyGtx then s1 else courseLate ((f.num + 4294967294) % 4294967296) s1
        if f.fired.any (fun x => decide (x.kind = 1 + b2n node)) || idle then b else firstTransfer f node b
      | none => s1
    let s3 := { s2 with pix := { s2.pix with
      abOff := decide (s2.pix.lastGrst = some t), lastGtx := some t, lastNodeB := node, pulse := none } }
    latchStrobe (1 + b2n node) (strobeNo s3 n) t (noteFired n (1 + b2n node) s3)

/-- Strobes fire only while the keystone has its reference (R47). -/
def strobesOn (s : Block) : Bool := s.flag KS_STAT.LOCK && !s.pwr.rcFault

/-- The first GRST of frame `n` (R162, R268, R288): its drive set, its trim, and the counters. -/
def frameBegins (n : Nat) (s : Block) : Block :=
  let s1 := s.setFld FT_FRAME_LAST.FRAME n
  let s2 := match s1.pix.nextSet with
    | some set => { (putDrive set (driveWanted s1).2 n s1) with pix := { s1.pix with nextSet := none } }
    | none => s1
  let e := s2.reg KS_TRIM_EFF.addr
  let s3 := s2.onFrame n (fun f => { f with
    grst := s.now, trim := sgn 32 e.toNat, settings := smSet (regReset KS_TRIM_EFF.addr) f.settings KS_TRIM_EFF.addr e })
  let s4 := { s3 with ft := { s3.ft with inFlight := some n } }
  let s5 := if s4.flag FT_STAT.HOLDOVER && decide (s4.fld FT_CFG.TIMING = 1) then s4.mark n fHoldover else s4
  if s5.flag KS_STAT.LOCK then s5 else s5.mark n fKsUnlocked

/-- LAST of frame `n` (R259, R307): the masons take it, and the frame's readout begins. -/
def lastStrobe (n : Nat) (s : Block) : Block :=
  let s1 := (s.onFrame n (fun f => { f with last := some s.now }))
  let s2 := { s1 with ft := { s1.ft with inFlight := none } }
  monAtLast n (startReadout n (latchStrobe 3 n s2.now s2))

/-- A mark of the schedule fires on its channel. -/
def fireMark (m : MarkAt) (s : Block) : Block :=
  let i := m.mark.chan
  let s1 := { s with ft := { s.ft with sched := s.ft.sched.erase m } }
  let s2 := match m.mark with
    | .fcp n => runFcp n (m.tick + 80000) false s1
    | .grst n k =>
      if strobesOn s1 then (fireGrst (some n) (if k = 0 then frameBegins n s1 else s1)) else s1
    | .gtx n _ node last =>
      if strobesOn s1 then
        let a := fireGtx node (some n) none s1
        if last then lastStrobe n a else a
      else s1
  syncSched (occurAll (.compare i) s.now (setMatch i s.now s2))

/-! ### Compare channels of one's own (R305, R307, R310) -/

/-- The targets of channel `i` (R307). -/
def channelTargets (i : Nat) (late : Bool) (s : Block) : Block :=
  let t := s.now
  let w := s.reg (KS_CH_CTL.addr i)
  let st := wfield w 3 2
  let n := (frameAt s t).map (fun f => f.num)
  let armed := if late then none else s.ks.armedAt.find? (fun e => decide (e.1 = i)) |>.map (fun e => e.2)
  let s1 := if st = 0 || !strobesOn s then s
    else
      let a := if st = 1 then fireGrst n s else fireGtx (decide (st = 3)) n armed s
      if late then
        let b := (a.setFlag KS_STAT.STROBE_LATE true).raise 1019
        match n with | some k => b.mark k fStrobeRule | none => b
      else a
  let s2 := if w.getLsbD 7 then
      (postWord (wfield w 8 8) (wfield w 16 6) (if w.getLsbD 29 then t.setWidth 32 else s1.reg (KS_CH_POST.addr i)) s1).2 else s1
  let s3 := if w.getLsbD 22 then { s2 with ks := { s2.ks with chains := smPut s2.ks.chains (wfield w 23 6) t } } else s2
  let s4 := if w.getLsbD 6 || late then s3.raise (840 + i) else s3
  occurAll (.compare i) t (setMatch i t s4)

/-- Channel `i` fires at its point (R305). -/
def fireChannel (i : Nat) (s : Block) : Block :=
  let p := pointOf s i
  let s1 := channelTargets i false s
  if s.flag (KS_CH_CTL.REPEAT i) then
    { s1 with ks := { s1.ks with base := smPut s1.ks.base i p, fired := i :: s1.ks.fired.filter (fun j => decide (j ≠ i)) } }
  else disarmChan i s1

/-- Channel `i` fires late, one tick after the registration (R306). -/
def fireLate (i : Nat) (s : Block) : Block :=
  let s1 := channelTargets i true (setLate i true s)
  let s2 := { s1 with ks := { s1.ks with late := smDel s1.ks.late i } }
  if s.flag (KS_CH_CTL.REPEAT i) then
    let b := smGet 0 s.ks.base i
    let p := max 1 (perOf s i)
    let d := (s.now - b).toNat
    let s3 := s2.satFld (KS_CH_STAT.MISSED i) ((d - 1) / p)
    { s3 with ks := { s3.ks with
        base := smPut s3.ks.base i (b + BitVec.ofNat 64 (d / p * p)), fired := i :: s3.ks.fired.filter (fun j => decide (j ≠ i)) } }
  else disarmChan i s2

/-- COMPARE_FIRE (R305, R307): the keystone equals a channel's point. On channels 0 to 3 the marks of the frame schedule come
first. -/
def execCompareFire (i : BitVec 6) (s : State) : Host.Outcome State Fault Refusal :=
  s.onBlock fun s =>
  let k := i.toNat
  match s.ft.sched.find? (fun m => decide (m.tick = s.now) && decide (m.mark.chan = k)) with
  | some m => .next (fireMark m s)
  | none =>
    .next (if armedCh s k && !chanOwned s k && !smHas s.ks.late k && decide (pointOf s k = s.now) then fireChannel k s else s)

/-- COMPARE_LATE_FIRE (R306, R310). -/
def execCompareLateFire (i : BitVec 6) (s : State) : Host.Outcome State Fault Refusal :=
  s.onBlock fun s =>
  let k := i.toNat
  .next (if armedCh s k && (match s.ks.late.find? (fun e => decide (e.1 = k)) with
      | some e => decide (s.now = e.2 + 1)
      | none => false) then fireLate k s else s)

/-- TX_PULSE_LEAD (R151): the transfer pulse starts tTX ticks before its GTX tick. A GTX armed later than that starts its pulse
at the arming, shortened (R154). -/
def execTxPulseLead (nodeB : Bool) (s : State) : Host.Outcome State Fault Refusal :=
  s.onBlock fun s =>
  let lead := BitVec.ofNat 64 (ttx s)
  let mark := s.ft.sched.find? (fun m => decide (m.mark.chan = 1 + b2n nodeB) && decide (m.tick = s.now + lead))
  let own := (List.range 64).find? (fun i => armedCh s i && !chanOwned s i && decide (s.fld (KS_CH_CTL.STROBE i) = 2 + b2n nodeB) &&
    laterThan (pointOf s i) s.now && (decide (pointOf s i = s.now + lead) ||
      (decide ((pointOf s i - s.now).toNat < ttx s) && s.ks.armedAt.any (fun e => decide (e = (i, s.now))))))
  let start (t : Block) : Block := { t with pix := { t.pix with pulse := some (nodeB, t.now) } }
  .next (if s.pix.pulse.isSome then s
    else match mark, own with
      | some _, _ => start s
      | none, some i =>
        if pointOf s i = s.now + lead then start s
        else start (strobeErr PIX_STROBE_ERR.TX_SHORT ((frameAt s s.now).map (fun f => f.num)) s)
      | none, none => s)

end Sys2Proof.Machine
end

