-- ==== Sys2Proof/Machine/Calib.lean ====
section
/-! DEFINITION. Full calibration (R196, R197), and the 0x03xx opcodes (R203). -/

namespace Sys2Proof.Machine

/-- Units of the calibration table (R187). -/
def unitCount : Nat := 2462720

/-- The calibration table's header (R189). -/
def calHeader (s : Block) : List Byte :=
  let h := leBytes 4 0x4C41434E ++ leBytes 2 1 ++ leBytes 2 8 ++ leBytes 4 unitCount ++ leBytes 4 s.cal.fullCount ++
    leBytes 8 s.cal.fullStamp.toNat ++ leBytes 2 (unsgn 16 s.cal.fullTemp) ++ leBytes 2 s.cal.writtenEpoch ++ zeros 32
  h ++ wordBytes (crc32 h)

/-- CAL_GET_STATE (R203). -/
def execCalGetState (q : Req) (s : State) : Host.Outcome State Fault Refusal :=
  s.onBlock fun s =>
  runReq 0x0300 0 68 q (fun _ => [shape q 0 []])
    (fun a => a.reply q 0x0300 stOk (wordBytes (a.reg CNV_STAT.addr) ++ calHeader a)) s

/-- The result of CAL_FULL (R203). -/
def calResult (reason retired added ms : Nat) : List Byte := leBytes 4 reason ++ leBytes 4 retired ++ leBytes 4 added ++ leBytes 4 ms

/-- Every region lies in the NOMINAL band. -/
def allNominal (s : Block) : Bool := (List.range 8).all (fun r => decide (bandNow s r = 2))

/-- CAL_FULL (R196, R197): the schedule stops after the frame in flight, and the run begins. -/
def execCalFull (q : Req) (s : State) : Host.Outcome State Fault Refusal :=
  s.onBlock fun s =>
  runReq 0x0301 2 16 q (fun a => [shape q 0 [], (a.flag CNV_STAT.FULL_RUNNING || a.rsv.closeOut.isSome, stBusy),
      (a.takeOpen && !forced q, stRecording)])
    (fun a =>
      if a.takeOpen then forceClose 0x0301 q a
      else if !allNominal a then a.reply q 0x0301 stFault (calResult 2 0 0 0)
      else
        let a1 := stopCapture a
        let a2 := { (a1.setFlag CNV_STAT.FULL_RUNNING true) with
          cal := { a1.cal with full := some ⟨a.now, a.running, originOf q.carrier⟩ } }
        a2.replyLater q 0x0301 stOk [] .fullCal) s

/-- One entry that a full calibration measured: a unit that now fails is retired, one within limits is no longer (R195). -/
def fullEntry (origin : Nat) (s : Block) (ue : BitVec 22 × BitVec 64) : Block :=
  let u := ue.1.toNat
  let e := ue.2
  let was := (s.calEntry u).getLsbD 63
  let put (t : Block) : Block := { t with cal := { t.cal with entries := smPut t.cal.entries u e, stored := smPut t.cal.stored u e } }
  if e.getLsbD 63 && !was then put (retireUnit u 2 origin s)
  else if was && !e.getLsbD 63 then
    let t := put s
    let l := t.cal.defects.filter (fun d => !(decide (dUnit d = u) && decide (dKind d = 3) && (decide (wfield d 30 2 = 1) || decide (wfield d 30 2 = 2))))
    let t1 := { t with cal := { t.cal with stoppedUnits := t.cal.stoppedUnits.filter (fun x => decide (x ≠ u)) } }
    if l = t1.cal.defects then t1 else setDefects l true t1
  else put s

/-- FULL_CAL_DONE (R196): the run ends dark-limited, or its table, defects and header are stored and an epoch is committed. -/
def execFullCalDone (notDark : Bool) (entries : List (BitVec 22 × BitVec 64)) (defects : List Word) (temp : BitVec 16) (s : State) :
    Host.Outcome State Fault Refusal :=
  s.onBlock fun s =>
  match s.cal.full with
  | none => .next s
  | some run =>
    let ms := s.sinceT run.start / msT
    let done (t : Block) : Block := (List.range 8).foldl (fun u r => u.raise (420 + 16 * r))
      ({ (t.setFlag CNV_STAT.FULL_RUNNING false) with cal := { t.cal with full := none } })
    if notDark then
      .next ((done s).release (fun w => decide (w = .fullCal)) (fun r => { r with status := stFault, result := calResult 1 0 0 ms }))
    else if entries.any (fun e => decide (unitCount ≤ e.1.toNat)) then .fault .noSuchUnit
    else
      let bad0 := entries.filter (fun e => e.2.getLsbD 63 && !(s.calEntry e.1.toNat).getLsbD 63)
      let s1 := entries.foldl (fullEntry run.origin) s
      let fresh := defects.filter (fun d => !s1.cal.defects.any (fun x => decide (dUnit x = dUnit d) && decide (dPix x = dPix d)))
      let s2 := fresh.foldl (fun t d => addDefect (wsetField d 30 2 1) t) s1
      let s3 := { (s2.setFlag CNV_STAT.TABLE_DEGRADED false) with cal := { s2.cal with
        fullCount := (s2.cal.fullCount + 1) % 2 ^ 32, fullStamp := s2.now, fullTemp := temp.toInt, badBlocks := [], badStreak := [],
        pendBg := [] } }
      let s4 := commitEpoch run.origin s3
      let s5 : Block := { s4 with cal := { s4.cal with writtenEpoch := s4.fld CNV_STAT.EPOCH } }
      let s6 : Block := s5.cairnN run.origin 0x0305 0x20C s.cal.fullCount s5.cal.fullCount
      let full := decide (131056 ≤ s6.cal.defects.length)
      let s7 := (done s6).release (fun w => decide (w = .fullCal))
        (fun r => { r with result := calResult (if full then 3 else 0) bad0.length fresh.length ms })
      .next (if run.restart && !s7.running then startCaptureIn run.origin 88000000 false s7 else s7)

/-- CAL_READ_ENTRY (R203). -/
def execCalReadEntry (q : Req) (s : State) : Host.Outcome State Fault Refusal :=
  s.onBlock fun s =>
  let u := pNat q 0 4
  let n := pNat q 4 2
  runReq 0x0302 0 (8 * n) q (fun _ => [shape q 8 [6, 7], bad (decide (n = 0) || decide (500 < n) || decide (unitCount < u + n)),
      (match q.carrier with | .twoWire _ _ => bad (decide (62 < n)) | _ => bad false)])
    (fun a => a.reply q 0x0302 stOk ((List.range n).flatMap (fun i => leBytes 8 (a.calEntry (u + i)).toNat))) s

/-- The NVM word that holds entry `u`, with the entry replaced (R113, R187). -/
def calWord (s : Block) (u : Nat) (e : BitVec 64) : NvmWrite :=
  let b := u / 8 * 8
  ⟨0x1000 + 8 * b, (List.range 8).flatMap (fun i =>
    leBytes 8 (if b + i = u then e else smGet (Config.calFactory (b + i)) s.cal.stored (b + i)).toNat), .bytes⟩

/-- CAL_WRITE_ENTRY (R203): the entry goes to NVM, and from there into the working copy. -/
def execCalWriteEntry (q : Req) (s : State) : Host.Outcome State Fault Refusal :=
  s.onBlock fun s =>
  let u := pNat q 0 4
  let e := BitVec.ofNat 64 (pNat q 4 8)
  runReq 0x0303 3 12 q (fun a => [shape q 12 [], bad (decide (unitCount ≤ u)), (a.takeOpen && !forced q, stRecording),
      (a.takeOpen && a.rsv.closeOut.isSome, stBusy)])
    (fun a =>
      if a.takeOpen then forceClose 0x0303 q a
      else (a.nvmWord { calWord a u e with owner := .cal u e (originOf q.carrier) }).replyLater q 0x0303
        (if wantsComplete q || !a.running then stOk else stDeferred) [] .nvm) s

/-- DEFECT_READ (R203). -/
def execDefectRead (q : Req) (s : State) : Host.Outcome State Fault Refusal :=
  s.onBlock fun s =>
  let i := pNat q 0 4
  let n := pNat q 4 2
  runReq 0x0304 0 (4 * n) q (fun a => [shape q 8 [6, 7], bad (decide (n = 0) || decide (1000 < n) || decide (a.cal.defects.length < i + n)),
      (match q.carrier with | .twoWire _ _ => bad (decide (124 < n)) | _ => bad false)])
    (fun a => a.reply q 0x0304 stOk (((a.cal.defects.drop i).take n).flatMap wordBytes)) s

/-- A defect entry that DEFECT_ADD and DEFECT_REMOVE take (R203). -/
def defectBad (w : Word) : Bool := decide (unitCount ≤ dUnit w) || (decide (dKind w = 3) && decide (dPix w ≠ 0))

/-- Does the working copy cover the entry already (R203)? -/
def defectCovered (s : Block) (w : Word) : Bool :=
  s.cal.defects.any (fun d => decide (dUnit d = dUnit w) && (decide (dPix d = dPix w) || decide (dKind d = 3)))

/-- DEFECT_ADD (R203). -/
def execDefectAdd (q : Req) (s : State) : Host.Outcome State Fault Refusal :=
  s.onBlock fun s =>
  let w := BitVec.ofNat 32 (pNat q 0 4)
  runReq 0x0305 2 12 q (fun _ => [shape q 4 [], bad (defectBad w || decide (wfield w 30 2 ≠ 3))])
    (fun a =>
      if defectCovered a w then a.reply q 0x0305 stOk (stampFrame a 0xFFFFFFFF)
      else
        let a1 := (addDefect w a).cairn (originOf q.carrier) 0x0303 (dUnit w) 0 w
        replyDeferred 0x0305 q a.running [] a1) s

/-- DEFECT_REMOVE (R203). -/
def execDefectRemove (q : Req) (s : State) : Host.Outcome State Fault Refusal :=
  s.onBlock fun s =>
  let w := BitVec.ofNat 32 (pNat q 0 4)
  runReq 0x0306 3 12 q (fun a => [shape q 4 [], bad (defectBad w || !a.cal.defects.contains w)])
    (fun a =>
      let a1 := (setDefects (a.cal.defects.erase w) true a).cairn (originOf q.carrier) 0x0304 (dUnit w) w 0
      replyDeferred 0x0306 q a.running [] a1) s

/-- CAL_READ_EPOCH (R203). -/
def execCalReadEpoch (q : Req) (s : State) : Host.Outcome State Fault Refusal :=
  s.onBlock fun s =>
  let u := pNat q 0 4
  let n := pNat q 4 2
  runReq 0x0307 0 (2 * n) q (fun _ => [shape q 8 [6, 7], bad (decide (n = 0) || decide (2000 < n) || decide (unitCount < u + n)),
      (match q.carrier with | .twoWire _ _ => bad (decide (248 < n)) | _ => bad false)])
    (fun a => a.reply q 0x0307 stOk ((List.range n).flatMap (fun i => leBytes 2 (epochRatio a (u + i))))) s

end Sys2Proof.Machine
end

