-- ==== Sys2Proof/Machine/Magazine.lean ====
section
/-! DEFINITION. The magazine events and the take opcodes (chapter 15): responses and deadlines (R492 to R496), attachment
(R494, R498, R499, R517), draining (R505, R506, R508), periodic writes (R503, R508), closing (R510), clock loss (R513),
recovery (R514), and the opcodes of R518. -/

namespace Sys2Proof.Machine

/-! ### Attaching a magazine (R494, R497 to R499, R517) -/

/-- A superblock copy as read: valid when its magic, version and CRC are right (R498, R499). -/
def parseSuper (d : List Byte) : Superblock :=
  { valid := decide (leAt d 0 4 = 0x47414D52) && decide (leAt d 4 2 = 1) && decide (leAt d 124 4 = (crc32 (d.take 124)).toNat),
    generation := leAt d 8 8, volume := (d.drop 16).take 16, m := leAt d 32 8, alloc := leAt d 40 8, watermark := leAt d 48 8,
    serial := leAt d 56 8, formatAt := leAt d 64 8, used := leAt d 72 2, name := (d.drop 76).take 24 }

/-- M: the lesser of CAPACITY and 2^34, rounded down to a multiple of 16 (R497). -/
def managedBlocks (capacity : Nat) : Nat := min capacity (2 ^ 34) / 16 * 16

/-- Read one or more blocks of magazine `m`. -/
def readCmd (block count : Nat) (p : Purpose) : MagCmd := cmdOf 4 block count p

/-- The newer valid copy of two (R499). -/
def newerSuper (a b : Superblock) : Superblock :=
  if b.valid && (!a.valid || decide (a.generation < b.generation)) then b else a

/-- A take table slot is valid: magic and CRC (R500). -/
def slotValid (e : List Byte) : Bool :=
  decide (leAt e 0 4 = 0x454B4154) && decide (leAt e 252 4 = (crc32 (e.take 252)).toNat)

/-- The valid slot with the higher sequence of two (R500). -/
def newerEntry (a b : List Byte) : Option (List Byte) :=
  if slotValid a then (if slotValid b && decide (leAt a 4 4 < leAt b 4 4) then some b else some a)
  else if slotValid b then some b else none

/-- The entries of a take table as read, newer slots alone (R500). -/
def tableEntries (used : Nat) (d : List Byte) : List (List Byte) :=
  (List.range used).filterMap (fun e => newerEntry ((d.drop (8192 * e)).take 256) ((d.drop (8192 * e + 4096)).take 256))

/-- First blocks of the parts still OPEN or STANDBY (R500, R510). -/
def openFirsts (es : List (List Byte)) : List Nat :=
  (es.filter (fun e => decide (leAt e 19 1 = 1) || decide (leAt e 19 1 = 2))).map (fun e => leAt e 40 8)

/-- Both superblock copies have been read: READY or UNFORMATTED (R499, R517); the take table of a READY magazine follows. -/
def mountDone (m : Nat) (s : Block) : Block :=
  let g := s.mag m
  if g.sb.valid then
    updateDrain (syncFree m (magDo m [readCmd 32 8192 .table] (setMagState m 4 s)))
  else syncFree m (setMagState m 3 s)

/-! ### What a completed command was for (R492, R506, R507, R510) -/

/-- Is any command of magazine `m` with a purpose that satisfies `f` still to complete? -/
def magPending (s : Block) (m : Nat) (f : Purpose → Bool) : Bool :=
  (s.mag m).todo.any (fun c => f c.purpose) || (s.mag m).out.any (fun c => f c.purpose)

/-- The magazine number of a withheld reply and its requester (see `WaitOn.magazine`). -/
def magKey (key m : Nat) : Nat := 2 * key + m

/-- SEAL ended on magazine `m` (R510 steps 5 and 6): raised watermark, or SEAL_FAIL with event 814. -/
def sealEnded (m : Nat) (ok : Bool) (c : MagCmd) (s : Block) : Block :=
  let g := s.mag m
  let s1 :=
    if ok then s.setMag m { g with sb := { g.sb with watermark := max g.sb.watermark (c.block + c.count) } }
    else (s.setFlag TK_STAT.SEAL_FAIL true).raise 814
  writeSuper m (match c.purpose with | .sealRec key => .recover key | _ => .closeEnd) s1

/-- Is this command a SEAL (R510)? -/
def isSeal (p : Purpose) : Bool := match p with | .seal_ | .sealRec _ => true | _ => false

/-- Effect of command `c`, completed with status OK and result `r` and data `d` (R493 to R518). -/
def magDone (m : Nat) (c : MagCmd) (r d : List Byte) (s : Block) : Block :=
  let g := s.mag m
  match c.purpose with
  | .identify =>
    magDo m [cmdOf 2 0 0 .capacity] ((s.setMag m { g with ident := r.take 72 }).setFld (MG_STAT.VOLATILE m) (leAt r 18 1))
  | .capacity =>
    let b := managedBlocks (leAt r 0 8)
    magDo m [readCmd 0 1 .superblock, readCmd (b - 16) 1 .superblock]
      (s.setMag m { g with capacity := leAt r 0 8, sb := { g.sb with valid := false, m := b } })
  | .superblock =>
    if c.op = 4 then
      let copy := parseSuper d
      let m0 := g.sb.m
      let pick := if c.block = 0 then copy else newerSuper g.sb copy
      let raw := if c.block = 0 || (copy.valid && decide (pick = copy)) then d.take 128 else g.sbRaw
      let s1 := s.setMag m { g with sb := { pick with m := if pick.valid then pick.m else m0 }, sbRaw := raw }
      if c.block = 0 then s1 else mountDone m s1
    else s
  | .table => s.setMag m { g with openParts := openFirsts (tableEntries g.sb.used d) }
  | .opened => openedOn m s
  | .open_ =>
    if magPending s m (fun p => decide (p = .open_)) then s
    else syncTake (s.onTake (fun t => t.onPart m (fun p => { p with ready := true })))
  | .payload n => if magPending s m (fun p => decide (p = .payload n)) then s else payloadDone n m s
  | .ashlar n => if 2 ^ 33 ≤ n then guestAcked n s else ashlarAcked n m s
  | .seal_ | .sealRec _ => sealEnded m true c s
  | .formatEnd key =>
    let g1 := { g with openParts := [] }
    let v := leVal (g.sb.volume.take 4)
    let s1 := (setMagState m 4 (s.setMag m g1)).cairnN key 0x0613 (MG_STAT.addr m) 0 v
    (updateDrain (syncFree m s1)).release (fun w => decide (w = .magazine (magKey key m))) (fun x => { x with result := g.sb.volume })
  | .read o n key =>
    s.release (fun w => decide (w = .magazine (magKey key m))) (fun x => { x with result := (d.drop o).take n })
  | .recover key =>
    if magPending s m (fun p => decide (p = .recover key) || decide (p = .sealRec key)) then s
    else updateDrain ((setMagState m 4 s).release (fun w => decide (w = .magazine (magKey key m))) (fun x => x))
  | .metaExt _ | .entry _ | .header _ | .closeEnd | .format | .other => s

/-- The reply, if any, that waits for command `c`, answered FAULT. -/
def magRefused (m : Nat) (c : MagCmd) (s : Block) : Block :=
  match c.purpose with
  | .read _ _ key | .formatEnd key | .recover key =>
    s.release (fun w => decide (w = .magazine (magKey key m))) (fun x => { x with status := stFault, result := [] })
  | _ => s

/-- MAG_RESPONSE (R492, R494, R495, R512): the command with that CID completes. BUSY and NOT_READY are answered by sending the
command again. -/
def execMagResponse (m : Bool) (resp : List Byte) (data : List Byte) (s : State) : Host.Outcome State Fault Refusal :=
  s.onBlock fun s =>
  let k := b2n m
  let g := s.mag k
  match g.out.find? (fun c => decide (c.cid = leAt resp 2 2)) with
  | none => .next s
  | some c =>
    let st := leAt resp 4 2
    let s1 := s.setMag k { g with out := g.out.erase c }
    if st = 0 then
      let s2 := magDone k c (resp.drop 16) data s1
      .next (magPump ((s2.mag k).todo.length) k s2)
    else
      let s2 := (s1.incFld (MG_ERR.ERRORS k) 1).raise 813
      if isSeal c.purpose then .next (sealEnded k false c s2)
      else if st = 4 ∨ st = 7 ∨ st = 8 then .next ((magFail k false s2).contain 3)
      else if st = 5 ∨ st = 6 then
        let g2 := s2.mag k
        .next (magPump (g2.todo.length + 1) k (s2.setMag k { g2 with todo := c :: g2.todo }))
      else .next (magPump ((s2.mag k).todo.length) k (magRefused k c s2))

/-- MAG_DEADLINE_MISS (R496, R510, R512). -/
def execMagDeadlineMiss (m : Bool) (cid : BitVec 16) (s : State) : Host.Outcome State Fault Refusal :=
  s.onBlock fun s =>
  let k := b2n m
  let g := s.mag k
  match g.out.find? (fun c => decide (c.cid = cid.toNat)) with
  | none => .next s
  | some c =>
    let s1 := (s.setMag k { g with out := g.out.erase c }).incFld (MG_ERR.TIMEOUTS k) 1
    if isSeal c.purpose then .next (sealEnded k false c s1) else .next ((magFail k false s1).contain 3)

/-! ### Draining (R505, R506, R508) -/

/-- May magazine `m` begin an ashlar: its part is OPEN and its opening extents are written, its port up and free? -/
def magFree (s : Block) (m : Nat) : Bool :=
  decide (s.magState m = 5) && portUp s m && (s.mag m).busy.isNone &&
    (match s.rcd.take.bind (fun t => t.part? m) with | some p => p.ready && decide (p.state = 2) | none => false)

/-- Is frame `n` whole (R364)? -/
def isWhole (s : Block) (n : Nat) : Bool := match s.ingest? n with | some g => g.whole.isSome | none => false

/-- The frame that magazine `m` would drain next: the lowest whole frame it owes, or that any port may take (R505). -/
def nextDrain (s : Block) (m : Nat) : Option Nat :=
  match s.rcd.take with
  | none => none
  | some t =>
    let l := (s.rcd.slots.filter (fun sl => decide (sl.take = t.num) && (sl.drains.contains m || sl.drains.contains 3))).map
      (fun sl => sl.frame)
    match l with
    | [] => none
    | a :: rest =>
      let n := rest.foldl min a
      if isWhole s n then some n else none

/-- Bytes outstanding to magazine `m` (R505). -/
def bytesOut (s : Block) (m : Nat) : Nat :=
  ((s.mag m).out.map (fun c => c.data.length)).sum + ((s.mag m).todo.map (fun c => c.data.length)).sum

/-- The magazine and frame of the next ashlar (R505): frame order, then the port with fewer bytes outstanding, then A. -/
def pickDrain (s : Block) : Option (Nat × Nat) :=
  let a := if magFree s 0 then nextDrain s 0 else none
  let b := if magFree s 1 then nextDrain s 1 else none
  match a, b with
  | some x, some y =>
    if x < y then some (0, x) else if y < x then some (1, y)
    else if bytesOut s 1 < bytesOut s 0 then some (1, y) else some (0, x)
  | some x, none => some (0, x)
  | none, some y => some (1, y)
  | none, none => none

/-- Free blocks last less than 60 s at the schedule in force (R508): event 811, once in a take. -/
def checkNearFull (n m : Nat) (s : Block) : Block :=
  match s.rcd.take with
  | none => s
  | some t =>
    if !t.nearFull && s.running &&
        decide (freeBlocks s m * s.effFld FT_PERIOD.PERIOD < 60 * secT * ashlarBlocks s n) then
      (s.raise 811).onTake (fun k => { k with nearFull := true })
    else s

/-- Is magazine `m` full for an ashlar of `blocks` blocks: 65,536 blocks stay reserved for closing (R508)? -/
def magFull (s : Block) (m blocks : Nat) : Bool := decide (freeBlocks s m < blocks + 65536)

/-- DRAIN_ASHLAR_START (R505, R506, R508). -/
def execDrainAshlarStart (s : State) : Host.Outcome State Fault Refusal :=
  s.onBlock fun s =>
  match pickDrain s with
  | none => .next s
  | some (m, n) =>
    if magFull s m (ashlarBlocks s n) then .next ((magFail m true (s.raise 812)).contain 3)
    else .next (startAshlar n m (checkNearFull n m s))

/-! ### Periodic writes and the close (R503, R508, R510, R513) -/

/-- Magazines on which the open take has a part in service. -/
def liveMags (s : Block) : List Nat :=
  match s.rcd.take with
  | some t => (t.parts.filter (fun p => decide (p.state < 3) && decide (p.mag < 2))).map (fun p => p.mag)
  | none => []

/-- META_CAIRNS_WRITE (R503): the cairns written since the last copy, between ashlars. -/
def execMetaCairnsWrite (s : State) : Host.Outcome State Fault Refusal :=
  s.onBlock fun s =>
  if s.pwr.coreDown then .next s else
  let head := cairnHead s
  match s.rcd.take with
  | some t =>
    if head = s.rcd.metaSeq || t.closing.isSome || (liveMags s).any (fun m => (s.mag m).busy.isSome) then .next s
    else
      let n := (head + 2 ^ 32 - s.rcd.metaSeq) % 2 ^ 32
      let body := cairnsBody s ((s.rcd.metaSeq + 1) % 2 ^ 32) n
      let s1 := (liveMags s).foldl (fun (a : Block) m =>
        (writeMeta m 4 body a).onTake (fun t1 => t1.onPart m (fun p => { p with cairnLast := head }))) s
      .next { s1 with rcd := { s1.rcd with metaSeq := head, metaAt := s1.now } }
  | none => .next s

/-- TAKE_ENTRY_REWRITE (R508). -/
def execTakeEntryRewrite (s : State) : Host.Outcome State Fault Refusal :=
  s.onBlock fun s =>
  if s.pwr.coreDown then .next s else
  let s1 := (liveMags s).foldl (fun (a : Block) m => rewriteEntry m .other a) s
  .next (if s.takeOpen then { s1 with rcd := { s1.rcd with entryAt := s1.now } } else s)

/-- Have the close steps ended on every magazine of the take in service (R510)? -/
def closeEnded (s : Block) (t : Take) : Bool :=
  t.closing.isSome && (takeSlots s t.num).isEmpty && (takeFlying s).isEmpty &&
    t.parts.all (fun p => decide (p.state = 9) || decide (2 ≤ p.mag) || decide (s.magState p.mag = 6) ||
      (decide (p.state = 3) && (s.mag p.mag).todo.isEmpty && (s.mag p.mag).out.isEmpty))

/-- MAG_PORTS_DOWN_TIMEOUT (R513): every magazine port is still down 10 s after the loss of LREFCLK. -/
def execMagPortsDownTimeout (s : State) : Host.Outcome State Fault Refusal :=
  s.onBlock fun s =>
  if s.rcd.lrefLostAt.isSome && s.takeOpen && !(portUp s 0 || portUp s 1) then
    let s1 := (dropAllDrains s).onTake (fun t => { t with parts := t.parts.map (fun p => { p with state := 9 }) })
    .next (closeTake (oPolicy 0x603) 6 { s1 with rcd := { s1.rcd with lrefLostAt := none } })
  else .next s

/-! ### Recovery (R514) -/

/-- Is a found part an OPEN or STANDBY part of this unit (R514)? -/
def ownPart (f : FoundPart) : Bool :=
  (decide (leAt f.image 19 1 = 1) || decide (leAt f.image 19 1 = 2)) && decide (leAt f.image 8 8 = Config.serial.toNat)

/-- The found parts that a recovery closes (R514): this unit's own that are OPEN or STANDBY, but for those of the take that is
open. -/
def toRecover (s : Block) (found : List FoundPart) : List FoundPart :=
  found.filter (fun f => ownPart f && (match s.rcd.take with | some t => decide (leAt f.image 16 2 ≠ t.num) | none => true))

/-- The frames found in a part; a STANDBY part is recovered with none (R514). -/
def foundFrames (f : FoundPart) : List Nat := if leAt f.image 19 1 = 1 then [] else f.index.map (fun e => leAt e 0 4)

/-- Run of consecutive numbers of `l` from `n` on: the last one reached. -/
def runEnd : Nat → List Nat → Nat → Nat
  | 0, _, n => n
  | fuel + 1, l, n => if l.contains (n + 1) then runEnd fuel l (n + 1) else n

/-- The horizon H of a part: the highest frame up to which every frame of the take is found (R514); none without frames. -/
def horizon (f : FoundPart) : Option Nat :=
  let l := foundFrames f ++ f.others.map (fun x => x.toNat)
  match l with
  | [] => none
  | a :: rest => some (runEnd l.length l (rest.foldl min a))

/-- A metadata extent of a recovered part, as bytes (R502). -/
def recMeta (f : FoundPart) (kind prev : Nat) (at_ : Tick) (body : List Byte) : List Byte :=
  let h := leBytes 4 0x4154454D ++ leBytes 2 kind ++ leBytes 1 (leAt f.image 18 1) ++ [0] ++ leBytes 8 Config.serial.toNat ++
    leBytes 2 (leAt f.image 16 2) ++ zeros 2 ++ leBytes 4 body.length ++ leBytes 8 at_.toNat ++ leBytes 8 prev ++
    wordBytes (crc32 body) ++ zeros 16
  padTo 65536 (h ++ wordBytes (crc32 h) ++ body)

/-- The first and last frame of a recovered part (R500, R509). -/
def recFirst (f : FoundPart) : Nat := (foundFrames f).headD (Config.emptyFirst (leAt f.image 16 2) (leAt f.image 18 1)).toNat
def recLast (f : FoundPart) : Nat := (foundFrames f).getLastD (Config.emptyLast (leAt f.image 16 2) (leAt f.image 18 1)).toNat

/-- The end chain of a recovered part (R514 step 3). -/
def recChain (f : FoundPart) : List Byte :=
  if (foundFrames f).isEmpty then (f.image.drop 96).take 32 else (f.chainAfter ++ zeros 32).take 32

/-- The seal record of a recovered part, with cause RECOVERED (R509, R514). -/
def recSeal (f : FoundPart) : List Byte :=
  let fr := foundFrames f
  let b := leBytes 4 0x4C414553 ++ leBytes 2 1 ++ leBytes 1 (leAt f.image 18 1) ++ leBytes 1 9 ++ leBytes 8 Config.serial.toNat ++
    leBytes 2 (leAt f.image 16 2) ++ zeros 2 ++ leBytes 4 (recFirst f) ++ leBytes 4 (recLast f) ++ leBytes 4 fr.length ++
    (f.image.drop 96).take 32 ++ recChain f
  b ++ (List.range 64).map (Config.sign (sha256 b))

/-- Count of found INDEX entries whose frame flag `b` is set. -/
def foundFlag (f : FoundPart) (b : Nat) : Nat := (f.index.filter (fun e => (leAt e 4 4).testBit b)).length

/-- The entry of a recovered part: state RECOVERED and cause RECOVERED, the frames found, what was written (R500, R514). -/
def recEntry (f : FoundPart) (at_ : Tick) (endBlock index sealAt : Nat) : List Byte :=
  let fr := foundFrames f
  let i := f.image
  let n0 := decide (fr = [])
  let b := i.take 4 ++ leBytes 4 (leAt i 4 4 + 1) ++ (i.drop 8).take 11 ++ leBytes 1 4 ++ (i.drop 20).take 3 ++ leBytes 1 9 ++
    (i.drop 24).take 8 ++ leBytes 8 at_.toNat ++ (i.drop 40).take 8 ++ leBytes 8 endBlock ++ leBytes 4 (recFirst f) ++
    leBytes 4 (recLast f) ++ leBytes 4 fr.length ++
    leBytes 4 (if n0 then 0 else foundFlag f fNoSlot) ++ leBytes 4 (if n0 then 0 else foundFlag f fIncomplete) ++
    leBytes 4 (if n0 then 0 else foundFlag f fDamaged) ++ leBytes 8 index ++ leBytes 8 sealAt ++ (i.drop 96).take 32 ++
    recChain f ++ (i.drop 160).take 92
  b ++ wordBytes (crc32 b)

/-- Recover one part (R514 steps 2 to 5). H of a part without frames, and the RECOVERY extent's reason byte, are free
values. -/
def recoverPart (m key : Nat) (s : Block) (f : FoundPart) : Block :=
  let g := s.mag m
  let lim := extentLimit g
  let h := (horizon f).getD s.drawn.toNat
  let why := s.draw.drawn
  let fr := foundFrames f
  let b0 := g.sb.alloc
  let e1 := recMeta f 7 0 s.now (leBytes 4 h ++ leBytes 4 fr.length ++ leBytes 1 why.toNat ++ zeros 3)
  let e2 := recMeta f 5 (leAt f.image 80 8) s.now (if fr.isEmpty then [] else f.index.flatten)
  let b1 := b0 + unitBlocks e1.length
  let e3 := recMeta f 6 (leAt f.image 88 8) s.now (recSeal f)
  let b2 := b1 + unitBlocks e2.length
  let b3 := b2 + unitBlocks e3.length
  let p := Purpose.recover key
  let opens := g.openParts.erase (leAt f.image 40 8)
  let top := opens.foldl min b3
  let slot := 32 + 2 * f.entry.toNat + (leAt f.image 4 4 + 1) % 2
  let cmds := splitWrite lim b0 p p (e1.length / 4096 + 1) e1 ++ splitWrite lim b1 p p (e2.length / 4096 + 1) e2 ++
    splitWrite lim b2 p p (e3.length / 4096 + 1) e3 ++ [flushCmd p, writeCmd slot (recEntry f s.now b3 b1 b2) p, flushCmd p,
      { cmdOf 6 g.sb.watermark (top - g.sb.watermark) (.sealRec key) with data := recSeal f }]
  let s1 := allocBlocks m (b3 - b0) s.draw.draw
  let g1 := s1.mag m
  let s2 := magDo m cmds (s1.setMag m { g1 with openParts := opens })
  (s2.cairnN oFirmware 0x0614 (MG_STAT.addr m) (leAt f.image 16 2) fr.length).raise 807

/-- Recover the parts found on magazine `m` (R514). Nothing that the walk found is written over: the allocation pointer of the
superblock may lie before it, since ashlars do not move it. -/
def recoverMag (m key : Nat) (found : List FoundPart) (s : Block) : Block :=
  let own := toRecover s found
  let g := s.mag m
  let free := (found.map (fun f => f.endBlock.toNat)).foldl max g.sb.alloc
  let s1 := s.setMag m { g with sb := { g.sb with alloc := free }, openParts := openFirsts (found.map (fun f => f.image)) }
  if own.isEmpty then s1 else own.foldl (recoverPart m key) (setMagState m 7 s1)

/-- MAG_RECOVERY_SCAN (R514). -/
def execMagRecoveryScan (m : Bool) (found : List FoundPart) (s : State) : Host.Outcome State Fault Refusal :=
  s.onBlock fun s =>
  let k := b2n m
  if s.magState k = 4 then .next (recoverMag k oFirmware found s) else .next s

/-! ### The take opcodes (R518) -/

/-- First frame of a take accepted now that may start after tick `start` (R507): the first frame whose FCP is later than now and
than `start`, at the period in force. -/
def takeFirst (s : Block) (start : Tick) : Nat :=
  match s.ft.sched.find? (fun m => match m.mark with | .fcp _ => true | _ => false) with
  | some ⟨t, .fcp n⟩ =>
    let k := if laterThan start s.now then start else s.now
    if laterThan t k then n else n + (k - t).toNat / (max 1 (s.effFld FT_PERIOD.PERIOD)) + 1
  | _ => s.ft.nextNum

/-- A take of single mode records on the peer (R538). -/
def onPeer (s : Block) : Bool := decide (takeMags s = [2])

/-- Is every magazine that the mode needs READY (R518)? With REMOTE_REC the peer must be within reach (R538). -/
def takeReady (s : Block) : Bool :=
  (takeMags s).all (fun m => if m < 2 then decide (s.magState m = 4) else (routePort s (s.fld FB_CFG.PEER_NODE)).isSome)

/-- Open a take for request `q` (R507, R518). -/
def openFor (q : Req) (a : Block) : Block :=
  let start : Tick := BitVec.ofNat 64 (pNat q 0 8)
  let st := if start = 0 then a.now else start
  let first := takeFirst a st
  let num := a.nvm.nextTake
  let a1 := openTake (originOf q.carrier) first st a
  let res := leBytes 2 num ++ zeros 2 ++ stampFrame a first
  if wantsComplete q then a1.replyLater q 0x0610 stOk res (.fcp first) else a1.reply q 0x0610 stDeferred res

/-- TAKE_OPEN (R507, R518). On a peer's magazine it waits for the peer's answer (R538). -/
def execTakeOpen (q : Req) (s : State) : Host.Outcome State Fault Refusal :=
  s.onBlock fun s =>
  runReq 0x0610 1 16 q (fun a => [shape q 8 [], (a.takeOpen, stRecording), (a.fb.openWait.isSome, stBusy), (!takeReady a, stNotPresent)])
    (fun a =>
      if onPeer a then
        let a1 := askPeer a.nvm.nextTake a
        { a1 with fb := { a1.fb with openWait := some (a.now, q) } }
      else openFor q a) s

/-- TAKE_CLOSE (R510, R518): the reply follows the close. -/
def execTakeClose (q : Req) (s : State) : Host.Outcome State Fault Refusal :=
  s.onBlock fun s =>
  runReq 0x0611 1 8 q (fun a => [shape q 0 [], bad a.rcd.take.isNone, (a.rsv.closeOut.isSome, stBusy)])
    (fun a => closeTake (originOf q.carrier) 0 (a.replyLater q 0x0611 stOk [] .takeClose)) s

/-- TAKE_GET_STATE (R518). -/
def execTakeGetState (q : Req) (s : State) : Host.Outcome State Fault Refusal :=
  s.onBlock fun s =>
  runReq 0x0612 0 24 q (fun _ => [shape q 0 []])
    (fun a => a.reply q 0x0612 stOk (wordsFrom a TK_CFG.addr 4 ++ wordBytes (a.reg (MG_STAT.addr 0)) ++
      wordBytes (a.reg (MG_STAT.addr 1)))) s

/-- Has magazine `m` identified itself and does its port serve it? -/
def magThere (s : Block) (m : Nat) : Bool :=
  let st := s.magState m
  portUp s m && decide (3 ≤ st) && decide (st ≠ 6)

/-- MAG_IDENTIFY (R518). -/
def execMagIdentify (q : Req) (s : State) : Host.Outcome State Fault Refusal :=
  s.onBlock fun s =>
  let m := pByte q 0
  runReq 0x0613 0 208 q (fun a => [shape q 4 [1, 2, 3], bad (decide (1 < m)), (!magThere a m, stNotPresent)])
    (fun a =>
      let g := a.mag m
      let b := if g.sb.valid then (superBytes g.sb 0).take 128 else (g.sbRaw ++ zeros 128).take 128
      a.reply q 0x0613 stOk ((g.ident ++ zeros 72).take 72 ++ leBytes 8 g.capacity ++ b)) s

/-- TRIM commands that cover `n` blocks from `b`: COUNT has four bytes (R492, R493). -/
def trimCmds (b n : Nat) : List MagCmd :=
  (List.range (n / (2 ^ 32 - 16) + 1)).map (fun i =>
    cmdOf 7 (b + i * (2 ^ 32 - 16)) (min (2 ^ 32 - 16) (n - i * (2 ^ 32 - 16))) .format)

/-- Format magazine `m` (R497 to R499, R518): a new volume identifier, an empty data region and take table. -/
def formatMag (m key : Nat) (name : List Byte) (s : Block) : Block :=
  let g := s.mag m
  let mm := managedBlocks g.capacity
  let vol := (List.range 16).map (fun i => Config.random (s.free + i))
  let b : Superblock := { valid := true, generation := g.sb.generation + 1, volume := vol, m := mm, alloc := 16384, watermark := 16384,
                          serial := Config.serial.toNat, formatAt := s.now.toNat, used := 0, name := name }
  let table := splitWrite (extentLimit g) 32 .format .format 8193 (zeros (8192 * 4096))
  let s1 : Block := { s with free := s.free + 16 }
  magDo m (trimCmds 16384 (mm - 16 - 16384) ++ table ++ [flushCmd .format] ++ superCmds b (.formatEnd key))
    (s1.setMag m { g with sb := b })

/-- MAG_FORMAT (R518). -/
def execMagFormat (q : Req) (s : State) : Host.Outcome State Fault Refusal :=
  s.onBlock fun s =>
  let m := pByte q 0
  runReq 0x0614 2 16 q (fun a => [shape q 28 [1, 2, 3], bad (decide (1 < m)), (a.takeOpen, stRecording),
      (decide (a.magState m = 7), stBusy), (!(a.mag m).openParts.isEmpty && !forced q, stConflict), (!magThere a m, stNotPresent)])
    (fun a =>
      let key := originOf q.carrier
      formatMag m key (q.params.drop 4) (a.replyLater q 0x0614 stOk [] (.magazine (magKey key m)))) s

/-- MAG_READ (R518): never across a block. -/
def execMagRead (q : Req) (s : State) : Host.Outcome State Fault Refusal :=
  s.onBlock fun s =>
  let m := pByte q 0
  let o := pNat q 12 2
  let n := pNat q 14 2
  runReq 0x0615 0 n q (fun a => [shape q 16 [1, 2, 3], bad (decide (1 < m) || decide (2 ^ 48 ≤ pNat q 4 8) || decide (4095 < o) ||
      decide (n = 0) || decide (4080 < n) || decide (4096 < o + n)), (!magThere a m, stNotPresent)])
    (fun a =>
      let key := originOf q.carrier
      magDo m [readCmd (pNat q 4 8) 1 (.read o n key)] (a.replyLater q 0x0615 stOk [] (.magazine (magKey key m)))) s

/-- TAKE_RECOVER (R514, R518). -/
def execTakeRecover (q : Req) (found : List FoundPart) (s : State) : Host.Outcome State Fault Refusal :=
  s.onBlock fun s =>
  let m := pByte q 0
  runReq 0x0616 2 4 q (fun a => [shape q 4 [1, 2, 3], bad (decide (1 < m)), (decide (a.magState m ≠ 4), stNotPresent)])
    (fun a =>
      let key := originOf q.carrier
      let res := leBytes 2 (toRecover a found).length ++ zeros 2
      let a1 := recoverMag m key found a
      if (toRecover a found).isEmpty then a1.reply q 0x0616 stOk res
      else a1.replyLater q 0x0616 stOk res (.magazine (magKey key m))) s

end Sys2Proof.Machine
end

