-- ==== Sys2Proof/Machine/Fabric.lean ====
section
/-! DEFINITION. The fabric of many units (chapter 16): election and discovery (R522 to R524), pass tables (R525 to R527),
fabric time (R528 to R532), array takes (R533 to R537), peers (R538, R539), remote requests (R540, R541), re-election (R543) and
the 0x0Axx opcodes (R552). A `payload` is the message's whole payload, type bytes included (R522). -/

namespace Sys2Proof.Machine

/-! ### Keys and HELLO (R522, R523) -/

/-- This unit's key (R523). -/
def ownKey (s : Block) : Nat := (1 - s.fld SYS_BOOT.ROOT_PIN) * 2 ^ 64 + Config.serial.toNat

/-- A key as bytes, and read from bytes. -/
def keyBytes (k : Nat) : List Byte := leBytes 1 (k / 2 ^ 64) ++ leBytes 8 (k % 2 ^ 64)
def keyAt (l : List Byte) (o : Nat) : Nat := leAt l o 1 * 2 ^ 64 + leAt l (o + 1) 8

/-- The HELLO sent on pass `d` (R522). -/
def helloBytes (s : Block) (d : Nat) : List Byte :=
  leBytes 2 0x0AF0 ++ keyBytes (ownKey s) ++ keyBytes s.fb.bestKey ++ leBytes 1 s.fb.bestHops ++ leBytes 4 s.fb.heartbeat ++
    leBytes 4 (s.fld FB_ID.ID) ++ leBytes 1 (s.fld FB_STAT.IN_ARRAY) ++ leBytes 1 d

/-- Election starts afresh from this unit's own key (R523, R543). -/
def elect (s : Block) : Block :=
  { s with fb := { s.fb with
    bestKey := ownKey s, bestHops := 0, bestSince := s.now, heartbeat := 0, beatAt := s.now, parent := 0, declared := false } }

/-- Discovery starts (R523, R524). -/
def startDiscovery (s : Block) : Block :=
  let s1 := elect s
  { s1 with fb := { s1.fb with started := true, lost := none, reports := [], reportAt := none, stageAt := s.now } }

/-- DISCOVERY_STAGE (R60 step 9, R524). -/
def execDiscoveryStage (s : State) : Host.Outcome State Fault Refusal :=
  s.onBlock fun s =>
  if s.pwr.coreDown then .next s else
  .next (if decide (s.fld SYS_BOOT.STAGE = 8) && s.flag SYS_DOMAIN.FX_ON && !s.fb.started then startDiscovery s else s)

/-- May the unit take part in the fabric: start-up step 9 has begun and FX is on? -/
def fabricOn (s : Block) : Bool :=
  s.flag SYS_DOMAIN.FX_ON && (decide (s.fld SYS_BOOT.STAGE = 8) || decide (s.fld SYS_BOOT.STAGE = 9))

/-- HELLO_TIMER (R523): a HELLO on every pass in service; a root's heartbeat rises. -/
def execHelloTimer (s : State) : Host.Outcome State Fault Refusal :=
  s.onBlock fun s =>
  if s.pwr.coreDown then .next s else
  if !fabricOn s then .next s
  else
    let s0 := if s.fb.started then s else startDiscovery s
    let s1 := if s0.fb.declared then { s0 with fb := { s0.fb with heartbeat := (s0.fb.heartbeat + 1) % 2 ^ 32 } } else s0
    .next ((passes.filter (fun d => portUp s1 (passPort d))).foldl (fun a d =>
      sendMsg (passPort d) 0 0 (a.fld FB_STAT.NODE) (helloBytes a d) a) s1)

/-- Is an array take open anywhere that this unit knows of (R532)? -/
def arrayAnywhere (s : Block) : Bool := s.flag FB_STAT.IN_ARRAY || !s.fb.nbrArray.isEmpty

/-- The unit is discovered and not admitted (R532, R544): ADMIT_WAIT, event 826. -/
def admitWait (s : Block) : Block :=
  if s.flag FB_STAT.ADMIT_WAIT then s else (s.setFlag FB_STAT.ADMIT_WAIT true).raise 826

/-- What a HELLO on pass `d` says of its neighbour (R521): a usable pass, or one joined in another way. -/
def meetPass (d : Nat) (l : List Byte) (s : Block) : Block :=
  let sp := leAt l 30 1
  let serial := keyAt l 2 % 2 ^ 64
  let ok := decide (sp = opposite d) && decide (s.fld (PT_PARTNER.KIND (passPort d)) = 6)
  let was := s.fld (FB_PASS.STATE d)
  let node := nodeOf s.fb.nodes serial
  let s1 := (((s.setFld (FB_PASS.STATE d) (if ok then 1 else 2)).setFld (FB_PASS.NBR_PASS d) sp).setFld (FB_PASS.NBR_NODE d)
    (node.getD 0)).setFlag (FB_PASS.NBR_VALID d) node.isSome
  let arr := s.fb.nbrArray.filter (fun x => decide (x ≠ d))
  let s2 := { s1 with fb := { s1.fb with
    neighbours := smPut s1.fb.neighbours d serial, nbrArray := if leAt l 29 1 = 1 then d :: arr else arr } }
  if ok || decide (was = 2) then s2 else s2.raise 837

/-- A heartbeat of the root's key that is newer than the one known. -/
def newerBeat (a b : Nat) : Bool := seqLater a b

/-- Is the HELLO's best key one that this unit gave up as lost, with no newer heartbeat (R543)? -/
def staleKey (s : Block) (b hb : Nat) : Bool :=
  match s.fb.lost with
  | some (k, h) => decide (k = b) && !newerBeat hb h
  | none => false

/-- The best key, the parent and the root heartbeat follow a HELLO on a usable pass `d` (R523, R543, R544). -/
def meetKey (d : Nat) (l : List Byte) (s : Block) : Block :=
  let b := keyAt l 11
  let h := leAt l 20 1 + 1
  let hb := leAt l 21 4
  let id := leAt l 25 4
  let f := s.fb
  let foreign := s.flag FB_STAT.READY && decide (id ≠ s.fld FB_ID.ID)
  if staleKey s b hb then s
  else if b < f.bestKey then
    if foreign && (arrayAnywhere s || decide (leAt l 29 1 = 1)) then admitWait s
    else
      let s1 := { s with fb := { f with
        bestKey := b, bestHops := h, bestSince := s.now, heartbeat := hb, beatAt := s.now, parent := d, declared := false, lost := none } }
      if leAt l 29 1 = 1 && !(s.flag FB_STAT.READY && !foreign) then admitWait s1 else s1
  else if b = f.bestKey ∧ b ≠ ownKey s then
    let s1 := if newerBeat hb f.heartbeat then { s with fb := { f with heartbeat := hb, beatAt := s.now, lost := none } } else s
    if h < f.bestHops ∨ (h = f.bestHops ∧ d < f.parent) ∨ d = f.parent then
      { s1 with fb := { s1.fb with bestHops := h, parent := d } }
    else s1
  else s

/-- HELLO_RX (R521, R523, R544): a change of the passes or of the parent sends a REPORT. -/
def recvHelloRx (d : BitVec 3) (payload : List Byte) (s : Block) : Host.Outcome Block Fault Refusal :=
  if s.pwr.coreDown then .next (waitCore (.hello d payload) s) else
  let k := d.toNat
  if k = 0 ∨ 4 < k then .fault .noSuchPass
  else if leAt payload 0 2 ≠ 0x0AF0 || !fabricOn s || !s.fb.started || !portUp s (passPort k) then .next s
  else
    let s1 := meetPass k payload s
    let s2 := if passUsable s1 k then meetKey k payload s1 else s1
    let same := decide (ownReport s2 = ownReport s) && decide (s2.fb.parent = s.fb.parent) && decide (s2.fb.bestKey = s.fb.bestKey)
    .next (if same then s2 else report s2)

/-- HELLO_RX: its effect on the block. -/
def execHelloRx (d : BitVec 3) (payload : List Byte) (s : State) : Host.Outcome State Fault Refusal :=
  s.onBlock (recvHelloRx d payload)

/-- ROOT_DECLARE (R523): the unit's own key has stayed best for 20 ms. -/
def execRootDeclare (s : State) : Host.Outcome State Fault Refusal :=
  s.onBlock fun s =>
  if s.pwr.coreDown then .next s else
  .next (if fabricOn s && s.fb.started && !s.fb.declared && decide (s.fb.bestKey = ownKey s) &&
      decide (20 * msT ≤ s.sinceT s.fb.bestSince) then
    { s with fb := { s.fb with declared := true, reportAt := some s.now } } else s)

/-- ROOT_LOST (R543): the root's heartbeat has not advanced for 10 ms. -/
def execRootLost (s : State) : Host.Outcome State Fault Refusal :=
  s.onBlock fun s =>
  if s.pwr.coreDown then .next s else
  .next (if fabricOn s && s.fb.started && decide (s.fb.bestKey ≠ ownKey s) && decide (10 * msT ≤ s.sinceT s.fb.beatAt) then
    let s1 := elect s
    { s1 with fb := { s1.fb with lost := some (s.fb.bestKey, s.fb.heartbeat) } } else s)

/-! ### Reports and placement (R524) -/

/-- A REPORT as read. -/
def parseReport (l : List Byte) (via : Nat) : Report :=
  ⟨leAt l 2 8, (List.range 4).map (fun i => (decide (leAt l (10 + 10 * i) 1 = 1), leAt l (11 + 10 * i) 8, leAt l (19 + 10 * i) 1)), via⟩

/-- REPORT_RX (R524): kept, and relayed towards the root. -/
def recvReportRx (d : BitVec 3) (payload : List Byte) (s : Block) : Host.Outcome Block Fault Refusal :=
  if s.pwr.coreDown then .next (waitCore (.report d payload) s) else
  let k := d.toNat
  if k = 0 ∨ 4 < k then .fault .noSuchPass
  else if leAt payload 0 2 ≠ 0x0AF1 || !fabricOn s then .next s
  else
    let r := parseReport payload k
    let s1 := { s with fb := { s.fb with reports := r :: s.fb.reports.filter (fun x => decide (x.serial ≠ r.serial)) } }
    .next (if s1.fb.bestKey = ownKey s1 then { s1 with fb := { s1.fb with reportAt := some s1.now } }
      else if s1.fb.parent = 0 then s1
      else sendMsg (passPort s1.fb.parent) 0 0 (s1.fld FB_STAT.NODE) payload s1)

/-- REPORT_RX: its effect on the block. -/
def execReportRx (d : BitVec 3) (payload : List Byte) (s : State) : Host.Outcome State Fault Refusal :=
  s.onBlock (recvReportRx d payload)

/-- The usable passes of a unit, with the serial number behind each (R521). -/
def reportEdges (rs : List Report) (serial : Nat) : List (Nat × Nat) :=
  match rs.find? (fun r => decide (r.serial = serial)) with
  | some r => (passes.zip r.passes).filterMap (fun (e : Nat × (Bool × Nat × Nat)) =>
      if e.2.1 && decide (e.2.2.2 = opposite e.1) then some (e.1, e.2.2.1) else none)
  | none => []

/-- The position that pass `d` leads to (R521). -/
def beyond (d : Nat) (p : Int × Int) : Int × Int :=
  match d with | 1 => (p.1, p.2 + 1) | 2 => (p.1 + 1, p.2) | 3 => (p.1, p.2 - 1) | _ => (p.1 - 1, p.2)

/-- Positions lie from −127 to +127 on each axis (R524). -/
def inRange (p : Int × Int) : Bool := decide (-127 ≤ p.1) && decide (p.1 ≤ 127) && decide (-127 ≤ p.2) && decide (p.2 ≤ 127)

/-- Walk the usable passes from the units still to be visited (R524 step 2). -/
def walk (rs : List Report) : Nat → List Nat → List (Nat × (Int × Int)) → List (Nat × (Int × Int))
  | 0, _, pos => pos
  | _, [], pos => pos
  | fuel + 1, u :: rest, pos =>
    let here := smGet (0, 0) pos u
    let found := (reportEdges rs u).foldl (fun (acc : List Nat × List (Nat × (Int × Int))) e =>
      let p := beyond e.1 here
      if acc.2.any (fun x => decide (x.1 = e.2) || decide (x.2 = p)) || !inRange p || decide (256 ≤ acc.2.length) then acc
      else (acc.1 ++ [e.2], acc.2 ++ [(e.2, p)])) ([], pos)
    walk rs fuel (rest ++ found.1) found.2

/-- The passes that agree with the positions, of a placed unit. -/
def goodEdges (rs : List Report) (pos : List (Nat × (Int × Int))) (u : Nat) : List (Nat × Nat) :=
  (reportEdges rs u).filter (fun e => pos.any (fun x => decide (x.1 = u) && pos.any (fun y =>
    decide (y.1 = e.2) && decide (y.2 = beyond e.1 x.2))))

/-- The distance of a unit, if it has one. -/
def distOf (ds : List (Nat × Nat)) (u : Nat) : Option Nat := (ds.find? (fun e => decide (e.1 = u))).map (fun e => e.2)

/-- Distances to the units of `front`, breadth first. -/
def distances (adj : Nat → List (Nat × Nat)) : Nat → List Nat → Nat → List (Nat × Nat) → List (Nat × Nat)
  | 0, _, _, acc => acc
  | fuel + 1, front, k, acc =>
    let next := (front.flatMap (fun u => (adj u).map (fun e => e.2))).foldl (fun l v =>
      if l.contains v || acc.any (fun a => decide (a.1 = v)) then l else l ++ [v]) []
    if next.isEmpty then acc else distances adj fuel next (k + 1) (acc ++ next.map (fun v => (v, k + 1)))

/-- The passes in the order in which a shortest path takes them: along X first (R525). -/
def passOrder : List Nat := [2, 4, 1, 3]

/-- PRIMARY of unit `u` towards a destination at distances `ds` (R525). -/
def primaryOf (adj : Nat → List (Nat × Nat)) (ds : List (Nat × Nat)) (u : Nat) : Option (Nat × Nat) :=
  match distOf ds u with
  | none => none
  | some k => (passOrder.filterMap (fun d => (adj u).find? (fun e => decide (e.1 = d)))).find? (fun e =>
      match distOf ds e.2 with | some j => decide (j + 1 = k) | none => false)

/-- Does the PRIMARY path from `v` pass through `u`? -/
def pathMeets (adj : Nat → List (Nat × Nat)) (ds : List (Nat × Nat)) (u : Nat) : Nat → Nat → Bool
  | 0, _ => true
  | fuel + 1, v =>
    if v = u then true
    else match primaryOf adj ds v with
      | some e => pathMeets adj ds u fuel e.2
      | none => false

/-- ALT of unit `u` (R525): the first pass of the shortest path that avoids PRIMARY and does not come back. -/
def altOf (adj : Nat → List (Nat × Nat)) (ds : List (Nat × Nat)) (u prim : Nat) : Nat :=
  let l := (passOrder.filterMap (fun d => (adj u).find? (fun e => decide (e.1 = d)))).filterMap (fun e =>
    match distOf ds e.2 with
    | some j => if e.1 ≠ prim ∧ pathMeets adj ds u 256 e.2 = false then some (e.1, j) else none
    | none => none)
  match l with
  | [] => 7
  | a :: t => (t.foldl (fun (m : Nat × Nat) x => if x.2 < m.2 then x else m) a).1

/-- The route byte of unit `u` to a unit (R525). -/
def routeByte (adj : Nat → List (Nat × Nat)) (u dest : Nat) : Byte :=
  if u = dest then BitVec.ofNat 8 56
  else
    let ds := distances adj 256 [dest] 0 [(dest, 0)]
    match primaryOf adj ds u with
    | some e => BitVec.ofNat 8 (e.1 + 8 * altOf adj ds u e.1)
    | none => BitVec.ofNat 8 63

/-- Order of numbering: ascending Y, then X (R524 step 3). -/
def beforeYX (a b : Nat × (Int × Int)) : Bool := decide (a.2.2 < b.2.2) || (decide (a.2.2 = b.2.2) && decide (a.2.1 < b.2.1))

/-- Put a unit at its place in the order of numbering. -/
def insertYX (a : Nat × (Int × Int)) : List (Nat × (Int × Int)) → List (Nat × (Int × Int))
  | [] => [a]
  | b :: t => if beforeYX a b then a :: b :: t else b :: insertYX a t

/-- The node list: units listed keep their numbers and positions, new ones take the lowest free numbers (R524, R532, R543). -/
def numberNodes (old : List Node) (root : Nat) (adm : Bool) (pos : List (Nat × (Int × Int))) : List Node :=
  let keep := old.map (fun n => { n with root := decide (n.serial = root) })
  let fresh := pos.filter (fun p => !old.any (fun n => decide (n.serial = p.1)))
  let first := fresh.filter (fun p => decide (p.1 = root))
  let rest := (fresh.filter (fun p => decide (p.1 ≠ root))).foldl (fun l p => insertYX p l) []
  let new := (first ++ rest).map (fun p => (⟨p.1, p.2.1, p.2.2, decide (p.1 = root), true⟩ : Node))
  if adm || old.isEmpty then (keep ++ new).take 256 else keep

/-- The table of the unit with node number `n` (R524 step 4, R525). -/
def tableFor (adj : Nat → List (Nat × Nat)) (nodes : List Node) (gen id : Nat) (at_ : Tick) (n : Nat) : TableMsg :=
  let u := match nodes[n]? with | some x => x.serial | none => 0
  { gen := gen, id := id, switchAt := at_, node := n, nodes := nodes,
    routes := (List.range 256).map (fun k => match nodes[k]? with | some x => routeByte adj u x.serial | none => BitVec.ofNat 8 63) }

/-- A node-list entry (R522). -/
def nodeBytes (n : Node) : List Byte :=
  leBytes 8 n.serial ++ leBytes 1 (unsgn 8 n.x) ++ leBytes 1 (unsgn 8 n.y) ++ leBytes 1 (b2n n.root + 2 * b2n n.admitted) ++ [0]

/-- A TABLE as bytes, and as read (R522). -/
def tableBytes (m : TableMsg) : List Byte :=
  leBytes 2 0x0AF2 ++ leBytes 4 m.gen ++ leBytes 4 m.id ++ leBytes 8 m.switchAt.toNat ++ leBytes 2 m.nodes.length ++
    leBytes 1 m.node ++ [0] ++ m.routes ++ m.nodes.flatMap nodeBytes
def parseTable (l : List Byte) : TableMsg :=
  { gen := leAt l 2 4, id := leAt l 6 4, switchAt := BitVec.ofNat 64 (leAt l 10 8), node := leAt l 20 1,
    routes := (l.drop 22).take 256,
    nodes := (List.range (leAt l 18 2)).map (fun i =>
      let o := 278 + 12 * i
      ⟨leAt l o 8, sgn 8 (leAt l (o + 8) 1), sgn 8 (leAt l (o + 9) 1), decide (leAt l (o + 10) 1 % 2 = 1),
        decide (leAt l (o + 10) 1 / 2 % 2 = 1)⟩) }

/-! ### Tables (R525, R526) -/

/-- The derived two-wire address (R546). -/
def deriveAddr (node : Nat) (s : Block) : Block :=
  if !s.flag FB_CFG.TW_DERIVE then s
  else
    let a := s.fld FB_CFG.TW_BASE + node
    if a < 8 ∨ 0x77 < a ∨ a = 0x3A ∨ (s.flag TW_CFG.GROUP_EN = true ∧ a = s.fld TW_CFG.GROUP_ADDR) then s.raise 838
    else
      let s1 := (s.setFld TW_CFG.IND_ADDR a).setFlag TW_CFG.IND_VALID true
      let s2 := if s1.reg TW_CFG.addr = s.reg TW_CFG.addr then s1
        else s1.cairn oFirmware 0x0001 TW_CFG.addr (s.reg TW_CFG.addr) (s1.reg TW_CFG.addr)
      s2.setFlag TW_CFG.ADDR_OUT true

/-- The node number and root flag of this unit (R524, R548, R92). -/
def setNode (m : TableMsg) (root : Bool) (s : Block) : Block :=
  let first := !s.flag FB_STAT.READY
  let old := s.fld FB_STAT.NODE
  let s1 := ((s.setFld FB_STAT.NODE m.node).setFld SYS_STATE.NODE m.node).setFlag FB_STAT.ROOT root |>.setFlag SYS_STATE.ROOT root
  if first || decide (old ≠ m.node) then deriveAddr m.node (s1.cairnN oFirmware 0x0A02 FB_STAT.addr old m.node) else s1

/-- The root that the table names (R524, R543): event 825 and, at the new root, the FB_ROOT cairn. -/
def setRoot (m : TableMsg) (root : Bool) (s : Block) : Block :=
  let sn := match m.nodes.find? (fun n => n.root) with | some n => n.serial | none => 0
  let old := s.fld (FB_ROOT_SN_LO.SN) + 2 ^ 32 * s.fld (FB_ROOT_SN_HI.SN)
  if old = sn then s
  else
    let s1 := ((s.setFld FB_ROOT_SN_LO.SN sn).setFld FB_ROOT_SN_HI.SN (sn / 2 ^ 32)).raise 825
    if !root then s1
    else if s.flag FB_STAT.READY then s1.policyCairn 0xA01 0x0A01 FB_ROOT_SN_LO.addr (old % 2 ^ 32) (sn % 2 ^ 32)
    else s1.cairnN oFirmware 0x0A01 FB_ROOT_SN_LO.addr (old % 2 ^ 32) (sn % 2 ^ 32)

/-- Listed nodes that no pass leads to (R525, R544, R553): event 827 for each that becomes so, PARTITIONED with event 829. -/
def setReach (m : TableMsg) (before : Nat → Nat) (s : Block) : Block :=
  let gone := (List.range m.nodes.length).filter (fun n => decide (s.fld (FB_ROUTE.PRIMARY n) = 7))
  let s1 := (gone.filter (fun n => decide (before n ≠ 7))).foldl (fun (a : Block) _ => a.raise 827) s
  let part := !gone.isEmpty
  let was := s1.flag FB_STAT.PARTITIONED
  let s2 := s1.setFlag FB_STAT.PARTITIONED part
  if part && !was then s2.raise 829 else s2

/-- The discipline that a table brings (R530). -/
def fabricDisc (root : Bool) (s : Block) : Block :=
  if root then (if s.fld KS_CFG.DISC = 2 then setDisc oFirmware 0 s else s)
  else if 1 < s.fld FB_STAT.NODES then setDisc oFirmware 2 s else s

/-- Apply a pass table (R524 to R526, R530, R532). -/
def applyTable (m : TableMsg) (s : Block) : Block :=
  let root := match m.nodes[m.node]? with | some n => n.root | none => false
  let before (n : Nat) : Nat := s.fld (FB_ROUTE.PRIMARY n)
  let oldGen := s.fld FB_GEN.GEN
  let join := decide (1 < m.gen) && !root && (!s.flag FB_STAT.READY || decide (s.fld FB_ID.ID ≠ m.id))
  let fresh := m.nodes.any (fun n => !s.fb.nodes.any (fun o => decide (o.serial = n.serial)))
  let s1 := m.routes.zipIdx.foldl (fun (a : Block) (b : Byte × Nat) => a.setReg (FB_ROUTE.addr b.2) (BitVec.ofNat 32 (b.1.toNat % 64))) s
  let s2 := (((s1.setFld FB_GEN.GEN m.gen).setFld FB_ID.ID m.id).setFld FB_STAT.NODES m.nodes.length).cairnN oFirmware 0x0A03
    FB_GEN.addr oldGen m.gen |>.raise 824
  let s3 := setRoot m root (setNode m root s2)
  let me := m.nodes[m.node]?
  let s4 := (s3.setFld FB_POS.X (unsgn 8 ((me.map (fun n => n.x)).getD 0))).setFld FB_POS.Y (unsgn 8 ((me.map (fun n => n.y)).getD 0))
  let rn := (m.nodes.findIdx? (fun n => n.root)).getD 0
  let s5 := (s4.setFld FB_POS.HOPS (if root then 0 else s4.fb.bestHops)).setFld FB_POS.PARENT
    (if root then 0 else s4.fld (FB_ROUTE.PRIMARY rn))
  let s6 := ((s5.setFlag FB_STAT.READY true).setFlag FB_STAT.ADMIT_WAIT false)
  let s7 := { s6 with fb := { s6.fb with
    nodes := m.nodes, table := none, joining := s6.fb.joining || join,
    ex := if join then Exchange.reset else s6.fb.ex } }
  let s8 := passes.foldl (fun (a : Block) d =>
    let n := nodeOf m.nodes (smGet 0 a.fb.neighbours d)
    if smHas a.fb.neighbours d then (a.setFld (FB_PASS.NBR_NODE d) (n.getD 0)).setFlag (FB_PASS.NBR_VALID d) n.isSome else a) s7
  let s9 := fabricDisc root (setReach m before s8)
  let s10 := if root then setTimeLocked true s9 else s9
  if fresh && decide (1 < m.gen) then s10.raise 826 else s10

/-- The root places and numbers the units and sends the TABLEs (R524 steps 2 to 4, R526, R532, R542, R543). -/
def issueTable (s : Block) : Block :=
  let me := Config.serial.toNat
  let rs := ownReport s :: s.fb.reports
  let start := match nodeOf s.fb.nodes me with
    | some n => (match s.fb.nodes[n]? with | some x => (x.x, x.y) | none => (0, 0))
    | none => (0, 0)
  let known := (s.fb.nodes.filter (fun n => decide (n.serial ≠ me))).map (fun n => (n.serial, (n.x, n.y)))
  let pos := walk rs 1024 (me :: known.map (fun k => k.1)) ((me, start) :: known)
  let adj := goodEdges rs pos
  let first := s.fb.nodes.isEmpty
  let nodes := numberNodes s.fb.nodes me (!arrayAnywhere s) pos
  let gen := if first then 1 else s.fld FB_GEN.GEN + 1
  let s0 := if first then s.draw else s
  let id := if first then s.drawn.toNat else s.fld FB_ID.ID
  let at_ := s.now + 8000000
  let listed (serial : Nat) : Bool := nodes.any (fun n => decide (n.serial = serial))
  let adj' (u : Nat) : List (Nat × Nat) := (adj u).filter (fun e => listed e.2)
  let s1 := (List.range nodes.length).foldl (fun (a : Block) n =>
    match nodes[n]? with
    | some x =>
      if x.serial = me then { a with fb := { a.fb with table := some (tableFor adj' nodes gen id at_ n) } }
      else
        match s.fb.reports.find? (fun r => decide (r.serial = x.serial)) with
        | some r => sendMsg (passPort r.via) 0 0 (a.fld FB_STAT.NODE) (tableBytes (tableFor adj' nodes gen id at_ n)) a
        | none => a
    | none => a) s0
  let odd := passes.filter (fun d => passUsable s d && !(adj me).any (fun e => decide (e.1 = d)))
  let s2 := odd.foldl (fun (a : Block) d => (a.setFld (FB_PASS.STATE d) 2).raise 837) s1
  let waiting := s.fb.reports.any (fun r => !listed r.serial)
  { (if waiting then s2.raise 826 else s2) with fb := { s2.fb with reportAt := none } }

/-- DISCOVERY_QUIET (R524): no new REPORT for 10 ms. -/
def execDiscoveryQuiet (s : State) : Host.Outcome State Fault Refusal :=
  s.onBlock fun s =>
  if s.pwr.coreDown then .next s else
  .next (match s.fb.reportAt with
    | some t => if fabricOn s && s.fb.declared && decide (10 * msT ≤ s.sinceT t) && !(s.fb.nodes.isEmpty && s.fb.reports.isEmpty)
      then issueTable s else s
    | none => s)

/-- The table of a fabric of one (R524). -/
def aloneTable (id : Nat) (s : Block) : TableMsg :=
  { gen := 1, id := id, switchAt := s.now, node := 0,
    routes := BitVec.ofNat 8 56 :: List.replicate 255 (BitVec.ofNat 8 63),
    nodes := [⟨Config.serial.toNat, 0, 0, true, true⟩] }

/-- FABRIC_ALONE_TIMEOUT (R524): no pass in service after 100 ms, or no TABLE after 500 ms. -/
def execFabricAloneTimeout (s : State) : Host.Outcome State Fault Refusal :=
  s.onBlock fun s =>
  if s.pwr.coreDown then .next s else
  let noPass := passes.all (fun d => !portUp s (passPort d))
  let due := decide (500 * msT ≤ s.sinceT s.fb.stageAt) || (noPass && decide (100 * msT ≤ s.sinceT s.fb.stageAt))
  if fabricOn s && s.fb.started && !s.flag FB_STAT.READY && due then
    let s1 := applyTable (aloneTable s.drawn.toNat s) s.draw
    .next { s1 with fb := { s1.fb with declared := decide (s1.fb.bestKey = ownKey s1) } }
  else .next s

/-- TABLE_RX (R524, R526): relayed by the reverse of the REPORT path, ignored with a lower generation, applied late, or kept
for its switch tick. -/
def recvTableRx (payload : List Byte) (s : Block) : Host.Outcome Block Fault Refusal :=
  if s.pwr.coreDown then .next (waitCore (.table payload) s) else
  if leAt payload 0 2 ≠ 0x0AF2 || !fabricOn s then .next s
  else
    let m := parseTable payload
    let serial := match m.nodes[m.node]? with | some n => n.serial | none => 0
    if serial = Config.serial.toNat then
      if s.flag FB_STAT.READY && decide (m.id = s.fld FB_ID.ID) && decide (m.gen < s.fld FB_GEN.GEN) then .next s
      else if laterThan m.switchAt s.now then .next { s with fb := { s.fb with table := some m } }
      else .next (applyTable m s)
    else
      match s.fb.reports.find? (fun r => decide (r.serial = serial)) with
      | some r => .next (sendMsg (passPort r.via) 0 0 (s.fld FB_STAT.NODE) payload s)
      | none => .next (s.satFld FB_STAT.DROPS 1)

/-- TABLE_RX: its effect on the block. -/
def execTableRx (payload : List Byte) (s : State) : Host.Outcome State Fault Refusal :=
  s.onBlock (recvTableRx payload)

/-- TABLE_SWITCH (R526). -/
def execTableSwitch (s : State) : Host.Outcome State Fault Refusal :=
  s.onBlock fun s =>
  .next (match s.fb.table with
    | some m => if laterThan m.switchAt s.now then s else applyTable m s
    | none => s)

/-! ### Fabric time (R528 to R532) -/

/-- A stamp of a TIME message in 1/256 tick: 8 bytes of ticks and one of fraction (R522, R528). -/
def stampAt (l : List Byte) (o : Nat) : Nat := leAt l o 8 * 256 + leAt l (o + 8) 1
def stampBytes (v : Nat) : List Byte := leBytes 8 (v / 256) ++ leBytes 1 (v % 256)

/-- The difference of two stamps. -/
def stampDiff (a b : Nat) : Int := sgn 72 ((a + 2 ^ 72 - b % 2 ^ 72) % 2 ^ 72)

/-- The bytes of a TIME message (R522). -/
def timeBytes (number kind t2 t3 : Nat) : List Byte := leBytes 4 number ++ leBytes 1 kind ++ zeros 3 ++ stampBytes t2 ++ stampBytes t3

/-- TIME_EXCHANGE_TIMER (R528): `t1` is the send stamp, in 1/256 tick. -/
def execTimeExchangeTimer (t1 : BitVec 72) (s : State) : Host.Outcome State Fault Refusal :=
  s.onBlock fun s =>
  if s.pwr.coreDown then .next s else
  let d := s.fld FB_POS.PARENT
  if s.flag FB_STAT.READY && !s.flag FB_STAT.ROOT && decide (1 ≤ d) && decide (d ≤ 4) && portUp s (passPort d) then
    let x := s.fb.ex
    let y := { x with number := (x.number + 1) % 2 ^ 32, t1 := t1.toNat, waiting := true, prev := if x.waiting then none else x.prev }
    .next (sendMsg (passPort d) 1 (s.fld (FB_PASS.NBR_NODE d)) (s.fld FB_STAT.NODE) (leBytes 2 0x0AF8 ++ timeBytes y.number 0 0 0)
      { s with fb := { s.fb with ex := y } })
  else .next s

/-- The frequency part of R529: a step of at most 4,295 units against the drift of θ over the last 16 exchanges; its size is left
open. -/
def timeTrim (l : List Int) (s : Block) : Block :=
  match l.getLast? with
  | some old =>
    let new := l.headD 0
    let m : Int := 1 + (s.drawn.toNat % 4295 : Nat)
    if l.length < 16 || decide (new = old) then s else loopTrim (trimOf s + (if old < new then -m else m)) s.draw
  | none => s

/-- Is the time parent TIME_LOCKED (R529)? The root always is; of another parent no message tells, so it is left open. -/
def parentLocked (s : Block) : Bool × Block :=
  if rootNode s = some (s.fld (FB_PASS.NBR_NODE (s.fld FB_POS.PARENT))) then (true, s) else (s.drawn.getLsbD 0, s.draw)

/-- The lock of R529: the mean |θ| of 16 exchanges is at most 102/256 tick and the parent is locked. -/
def timeLock (l : List Int) (s : Block) : Block :=
  let good := decide (l.length = 16) && decide ((l.map Int.natAbs).sum ≤ 102 * 16)
  let (p, s1) := parentLocked s
  setTimeLocked (good && p) s1

/-- FB_TIME_OFS and FB_TIME_DLY (R549); a value outside 32 bits is left open. -/
def showTime (θ δ : Int) (s : Block) : Block :=
  let fits (v : Int) : Bool := decide (-2147483648 ≤ v) && decide (v < 2147483648)
  let (a, s1) := if fits θ then (unsgn 32 θ, s) else (s.drawn.toNat, s.draw)
  let (b, s2) := if fits δ then (unsgn 32 δ, s1) else (s1.drawn.toNat, s1.draw)
  (s2.setFld FB_TIME_OFS.OFS a).setFld FB_TIME_DLY.DLY b

/-- May a joining unit step its keystone (R532)? -/
def mayStep (s : Block) : Bool := !s.takeOpen && !anyArmed s && !s.running

/-- The step of a joining unit (R532 rule 3): FREE, ALIGN by −round(θ), FABRIC. -/
def joinStep (θ : Int) (s : Block) : Block :=
  let s1 := alignKs oFirmware (s.now - BitVec.ofInt 64 ((θ + 128).fdiv 256)) (setDisc oFirmware 0 s)
  let s2 := setDisc oFirmware 2 s1
  { s2 with fb := { s2.fb with ex := { s2.fb.ex with prev := none, offsets := [], delays := [] } } }

/-- One exchange is complete (R529, R532). -/
def exchange (θ δ : Int) (s : Block) : Block :=
  let x := s.fb.ex
  let far := decide (x.delays.length = 16) && decide (512 * 16 < (16 * δ - x.delays.sum).natAbs)
  if far then s
  else
    let s1 := showTime θ δ { s with fb := { s.fb with
      joining := false, ex := { x with offsets := (θ :: x.offsets).take 16, delays := (δ :: x.delays).take 16 } } }
    if s.fb.joining && mayStep s then joinStep θ s1
    else if s1.fld KS_CFG.DISC = 2 then
      timeLock s1.fb.ex.offsets (setSlew (-θ * 16777216) (timeTrim s1.fb.ex.offsets s1))
    else s1

/-- TIME_MSG_RX (R528, R529): a request is answered, `arrived` being t2 and `sent` t3; a response, arrived at t4, completes the
exchange before it. -/
def recvTimeMsgRx (node : Byte) (payload : List Byte) (arrived sent : BitVec 72) (s : Block) : Host.Outcome Block Fault Refusal :=
  if s.pwr.coreDown then .next (waitCore (.time node payload arrived sent) s) else
  if leAt payload 0 2 ≠ 0x0AF8 || !s.flag FB_STAT.READY then .next s
  else
    let k := leAt payload 2 4
    let n := node.toNat
    if leAt payload 6 1 = 0 then
      let s1 := fabSend n 1 0x0AF8 (timeBytes k 1 arrived.toNat (smGet 0 s.fb.sentAt n)) s
      .next { s1 with fb := { s1.fb with sentAt := smPut s1.fb.sentAt n sent.toNat } }
    else
      let x := s.fb.ex
      if leAt payload 6 1 ≠ 1 || !x.waiting || decide (k ≠ x.number) || s.flag FB_STAT.ROOT then .next s
      else
        let t2 := stampAt payload 10
        let t3 := stampAt payload 19
        let s1 := { s with fb := { s.fb with ex := { x with waiting := false, t2 := t2, t4 := arrived.toNat, prev := some (x.t1, t2, arrived.toNat) } } }
        match x.prev with
        | none => .next s1
        | some (a1, a2, a4) =>
          .next (exchange ((stampDiff a1 a2 + stampDiff a4 t3).tdiv 2) ((stampDiff a4 a1 - stampDiff t3 a2).tdiv 2) s1)

/-- TIME_MSG_RX: its effect on the block. -/
def execTimeMsgRx (node : Byte) (payload : List Byte) (arrived sent : BitVec 72) (s : State) : Host.Outcome State Fault Refusal :=
  s.onBlock (recvTimeMsgRx node payload arrived sent)

/-! ### Array takes (R533 to R536) -/

/-- Sub-kinds of ARRAY messages: their numbers are the model's. -/
def arrPrepare : Nat := 0
def arrReady : Nat := 1
def arrRefuse : Nat := 2
def arrCommit : Nat := 3
def arrAbort : Nat := 4
def arrLateJoin : Nat := 5
def arrClose : Nat := 6

/-- Send an ARRAY message to node `n` (R533). -/
def sendArray (n sub : Nat) (k : Tick) (p : Nat) (members status : List Nat) (s : Block) : Block :=
  fabSend n 0 0x0AF3 (leBytes 1 sub ++ zeros 3 ++ leBytes 8 k.toNat ++ leBytes 4 p ++ bitmap members ++ bitmap status) s

/-- Send an ARRAY message to every member but this unit. -/
def sendMembers (sub : Nat) (k : Tick) (p : Nat) (members status : List Nat) (s : Block) : Block :=
  (members.filter (fun n => decide (n ≠ s.fld FB_STAT.NODE))).foldl (fun a n => sendArray n sub k p members status a) s

/-- Would this unit answer READY to a PREPARE with period `p` (R533)? -/
def arrayOk (p : Nat) (s : Block) : Bool :=
  let rd (a : Nat) : Word := if a = FT_CFG.addr then wsetField (s.reg a) FT_CFG.TIMING.lo FT_CFG.TIMING.width 0 else s.reg a
  s.flag FB_STAT.TIME_LOCKED && !s.running && !s.takeOpen && decide (s.fld FT_PERIOD.PERIOD = p) && timingOk s rd && takeReady s && !onPeer s

/-- COMMIT on a member (R533, R534): the schedule starts at K, or at the first K + mP that R265 allows, and the take opens. -/
def commitArray (origin : Nat) (a : ArrayTake) (s : Block) : Block :=
  let early := s.now + 400000
  let late := laterThan early a.k
  let k := if late then a.k + BitVec.ofNat 64 (ceilDiv (early - a.k).toNat (max 1 a.period) * a.period) else a.k
  let cfg := wsetField (wsetField (s.reg FT_CFG.addr) FT_CFG.TIMING.lo FT_CFG.TIMING.width 0) FT_CFG.START_AT.lo 1 1
  let s1 := writeWords origin true [⟨FT_START.addr 0, BitVec.ofNat 32 (k.toNat % 2 ^ 32), 0xFFFFFFFF⟩,
    ⟨FT_START.addr 1, BitVec.ofNat 32 (k.toNat / 2 ^ 32), 0xFFFFFFFF⟩, ⟨FT_CFG.addr, cfg, 0xFFFFFFFF⟩] s
  let s2 := if s1.running then s1 else startCapture origin s1
  let s3 := if s2.takeOpen then s2 else openTake origin (takeFirst s2 k) k s2
  let s4 := (s3.setFlag FB_STAT.IN_ARRAY true).cairnN origin 0x0A04 FB_STAT.addr (a.k.toNat % 2 ^ 32) (a.k.toNat / 2 ^ 32)
  let s5 := { s4 with fb := { s4.fb with array := some { a with committed := true }, lastMembers := a.members } }
  let s6 := s5.raise 832
  if late then s6.raise 833 else s6

/-- Is COMMIT late on this member (R534)? -/
def commitLate (a : ArrayTake) (s : Block) : Bool := laterThan (s.now + 400000) a.k

/-- Answer the command that coordinates an array take (R533). -/
def answerArray (status : Nat) (k : Tick) (failing : List Nat) (s : Block) : Block :=
  s.release (fun w => decide (w = .array)) (fun r => { r with status := status, result := leBytes 8 k.toNat ++ bitmap failing })

/-- The coordinator aborts (R533). -/
def abortArray (status : Nat) (failing : List Nat) (s : Block) : Block :=
  match s.fb.array with
  | some a =>
    let s1 := sendMembers arrAbort a.k a.period a.members failing s
    let s2 := (answerArray status a.k failing { s1 with fb := { s1.fb with array := none } }).raise 832
    if status = stConflict then s2.raise 969 else s2
  | none => s

/-- The origin of the coordinator's command, as this unit records it: its own reply's carrier. -/
def arrayOrigin (s : Block) : Nat :=
  match s.cmd.replies.find? (fun r => decide (r.wait = .array)) with | some r => originOf r.carrier | none => oFirmware

/-- The coordinator commits once every member is ready (R533). -/
def tryCommit (s : Block) : Block :=
  match s.fb.array with
  | some a =>
    if a.coordinator && !a.committed && a.members.all (fun n => a.ready.contains n) then
      let s1 := sendMembers arrCommit a.k a.period a.members a.ready s
      answerArray stOk a.k [] (commitArray (arrayOrigin s) a s1)
    else s
  | none => s

/-- FB_ARRAY_TAKE_OPEN (R533, R552). -/
def execFbArrayTakeOpen (q : Req) (s : State) : Host.Outcome State Fault Refusal :=
  s.onBlock fun s =>
  let members := bitmapNodes (q.params.take 32)
  runReq 0x0A20 1 40 q (fun a => [shape q 36 [], bad (!members.contains (a.fld FB_STAT.NODE)), (a.fb.array.isSome, stBusy)])
    (fun a =>
      let lead := if pNat q 32 4 = 0 then a.fld FB_LEAD.LEAD else pNat q 32 4
      let k := a.now + BitVec.ofNat 64 lead
      let p := a.fld FT_PERIOD.PERIOD
      let me := a.fld FB_STAT.NODE
      let a1 := a.replyLater q 0x0A20 stOk [] .array
      let a2 := { a1 with fb := { a1.fb with array := some ⟨true, k, p, members, [me], a.now, false, none⟩ } }
      if !arrayOk p a then abortArray stConflict [me] a2
      else tryCommit (sendMembers arrPrepare k p members [] a2)) s

/-- A member's answer to PREPARE (R533). -/
def prepareArray (node : Nat) (k : Tick) (p : Nat) (members : List Nat) (s : Block) : Block :=
  let me := s.fld FB_STAT.NODE
  if members.contains me && s.fb.array.isNone && arrayOk p s then
    sendArray node arrReady k p members [me]
      { s with fb := { s.fb with array := some ⟨false, k, p, members, [], s.now, false, none⟩ } }
  else sendArray node arrRefuse k p members [me] s

/-- ARRAY_MSG_RX (R533 to R535). -/
def recvArrayMsgRx (node : Byte) (payload : List Byte) (s : Block) : Host.Outcome Block Fault Refusal :=
  if s.pwr.coreDown then .next (waitCore (.array node payload) s) else
  let sub := leAt payload 2 1
  let k : Tick := BitVec.ofNat 64 (leAt payload 6 8)
  let p := leAt payload 14 4
  let members := bitmapNodes ((payload.drop 18).take 32)
  let n := node.toNat
  if leAt payload 0 2 ≠ 0x0AF3 || !s.flag FB_STAT.READY then .next s
  else if sub = arrPrepare then .next (prepareArray n k p members s)
  else
    match s.fb.array with
    | none => .next s
    | some a =>
      if a.k ≠ k ∧ sub ≠ arrClose then .next s
      else if sub = arrReady && a.coordinator && !a.committed then
        .next (tryCommit { s with fb := { s.fb with array := some { a with ready := n :: a.ready } } })
      else if sub = arrRefuse && a.coordinator && !a.committed then .next (abortArray stConflict [n] s)
      else if sub = arrCommit && !a.coordinator && !a.committed then
        let s1 := commitArray (0x3000 + n) a s
        .next (if commitLate a s then sendArray n arrLateJoin k p members [s.fld FB_STAT.NODE] s1 else s1)
      else if sub = arrAbort && !a.coordinator && !a.committed then
        .next (({ s with fb := { s.fb with array := none } } : Block).raise 832)
      else if sub = arrClose && a.committed then .next { s with fb := { s.fb with array := some { a with closeAt := some k } } }
      else .next s

/-- ARRAY_MSG_RX: its effect on the block. -/
def execArrayMsgRx (node : Byte) (payload : List Byte) (s : State) : Host.Outcome State Fault Refusal :=
  s.onBlock (recvArrayMsgRx node payload)

/-- ARRAY_PREPARE_TIMEOUT (R533): silence after 20 ms. -/
def execArrayPrepareTimeout (s : State) : Host.Outcome State Fault Refusal :=
  s.onBlock fun s =>
  if s.pwr.coreDown then .next s else
  .next (match s.fb.array with
    | some a =>
      if a.coordinator && !a.committed && decide (20 * msT ≤ s.sinceT a.since) then
        abortArray stTimeout (a.members.filter (fun n => !a.ready.contains n)) s
      else s
    | none => s)

/-- FB_ARRAY_TAKE_CLOSE (R535, R552): the failing members are those that no pass leads to. -/
def execFbArrayTakeClose (q : Req) (s : State) : Host.Outcome State Fault Refusal :=
  s.onBlock fun s =>
  runReq 0x0A21 1 40 q (fun a => [shape q 0 [], bad (!a.flag FB_STAT.IN_ARRAY)])
    (fun a =>
      let kc := a.now + BitVec.ofNat 64 (a.fld FB_LEAD.LEAD)
      let me := a.fld FB_STAT.NODE
      let far := a.fb.lastMembers.filter (fun n => decide (n ≠ me) && (routePort a n).isNone)
      let a1 := sendMembers arrClose kc (a.fld FT_PERIOD.PERIOD) a.fb.lastMembers [] a
      let a2 := { a1 with fb := { a1.fb with array := a1.fb.array.map (fun (x : ArrayTake) => { x with closeAt := some kc }) } }
      a2.reply q 0x0A21 stOk (leBytes 8 kc.toNat ++ bitmap far)) s

/-- ARRAY_CLOSE_TICK (R535): TAKE_CLOSE, then SET_CAPTURE 0x00. -/
def execArrayCloseTick (s : State) : Host.Outcome State Fault Refusal :=
  s.onBlock fun s =>
  if s.pwr.coreDown then .next s else
  .next (match s.fb.array with
    | some a =>
      (match a.closeAt with
        | some kc =>
          if laterThan kc s.now then s
          else
            let s1 := { s with fb := { s.fb with array := some { a with closeAt := none } } }
            stopCapture (closeTake oFirmware 0 s1)
        | none => s)
    | none => s)

/-- TRIGGER_MSG_RX (R537): with FT_TRIG.SRC 0b11 the message is a trigger stamped T_e. -/
def execTriggerMsgRx (payload : List Byte) (s : State) : Host.Outcome State Fault Refusal :=
  s.onBlock fun s =>
  let te : Tick := BitVec.ofNat 64 (leAt payload 2 8)
  let members := bitmapNodes ((payload.drop 14).take 32)
  .next (if decide (leAt payload 0 2 = 0x0AF9) && decide (s.fld FT_TRIG.SRC = 3) && trigMode s && members.contains (s.fld FB_STAT.NODE) then
    takeTrigger te s else s)

/-! ### Remote requests (R536, R540, R541) -/

/-- A number for a new remote request. -/
def remoteId (s : Block) : Nat := (s.fb.remotes.map (fun r => r.id)).foldl max 0 + 1

/-- Send a request to node `n` on VC 0 (R540); to this unit itself it enters the execution sequence at once. -/
def sendRequest (n : Nat) (q : Req) (op : Nat) (tag : Byte) (flags : Byte) (params : List Byte) (s : Block) : Block :=
  let origin := originOf q.carrier
  let me := s.fld FB_STAT.NODE
  if n = me then
    acceptReq op ⟨.fabric (BitVec.ofNat 8 me) (BitVec.ofNat 4 (origin / 4096)), tag, flags, BitVec.ofNat 16 params.length, params⟩ s
  else
    match routePort s n with
    | some t => sendMsg t 0 n me (leBytes 2 op ++ [tag, flags] ++ leBytes 2 params.length ++ leBytes 2 origin ++ params) s
    | none => s.satFld FB_STAT.DROPS 1

/-- FB_REMOTE (R540, R552). -/
def execFbRemote (q : Req) (s : State) : Host.Outcome State Fault Refusal :=
  s.onBlock fun s =>
  let inner := q.params.drop 4
  runReq 0x0A10 0 8 q (fun _ => [bad (decide (inner.length < 8) || decide (pNat q 1 3 ≠ 0) || decide (leAt inner 4 2 ≠ inner.length - 8) ||
      decide (4076 < leAt inner 4 2) || decide (leAt inner 0 2 = 0x0A10))])
    (fun a =>
      let n := pByte q 0
      let id := remoteId a
      let tag := BitVec.ofNat 8 (leAt inner 2 1)
      let a1 := a.replyLater q 0x0A10 stOk [] (.remote id)
      let a2 := { a1 with fb := { a1.fb with remotes := a1.fb.remotes ++ [⟨id, n, tag, leAt inner 0 2, a.now, false⟩] } }
      sendRequest n q (leAt inner 0 2) tag (BitVec.ofNat 8 (leAt inner 3 1)) (inner.drop 8) a2) s

/-- The members of an FB_SHARED_ARM that have not answered. -/
def armsLeft (s : Block) (id : Nat) : Bool := s.fb.remotes.any (fun r => r.shared && decide (r.id = id))

/-- End an FB_SHARED_ARM whose members have all answered (R536). -/
def endShared (id : Nat) (s : Block) : Block :=
  if armsLeft s id then s
  else
    let failed := smGet [] s.fb.shared id
    ({ s with fb := { s.fb with shared := s.fb.shared.filter (fun e => decide (e.1 ≠ id)) } } : Block).release
      (fun w => decide (w = .remote id)) (fun r => { r with result := bitmap failed })

/-- FB_SHARED_ARM (R536, R552): KS_ARM on each member, this unit's own at once. -/
def execFbSharedArm (q : Req) (s : State) : Host.Outcome State Fault Refusal :=
  s.onBlock fun s =>
  let members := bitmapNodes (q.params.take 32)
  let arm := (q.params.drop 32).take 24
  runReq 0x0A22 1 32 q (fun _ => [shape q 60 [56, 57, 58, 59]])
    (fun a =>
      let me := a.fld FB_STAT.NODE
      let id := remoteId a
      let a1 := a.replyLater q 0x0A22 stOk [] (.remote id)
      let ownBad := members.contains me && (firstFail (armChecks arm a)).isSome
      let a2 := if members.contains me && !ownBad then armBy (originOf q.carrier) arm a1 else a1
      let others := members.filter (fun n => decide (n ≠ me))
      let a3 := { a2 with fb := { a2.fb with
        shared := smPut a2.fb.shared id (if ownBad then [me] else []),
        remotes := a2.fb.remotes ++ others.map (fun n => ⟨id, n, q.tag, 0x0501, a.now, true⟩) } }
      endShared id (others.foldl (fun b n => sendRequest n q 0x0501 q.tag 0 arm b) a3)) s

/-- A shared arm failed on node `n`. -/
def sharedFailed (id n : Nat) (s : Block) : Block :=
  { s with fb := { s.fb with shared := smPut s.fb.shared id (n :: smGet [] s.fb.shared id) } }

/-- REMOTE_REPLY_RX (R536, R540): the reply becomes the command's result. -/
def recvRemoteReplyRx (node : Byte) (payload : List Byte) (s : Block) : Host.Outcome Block Fault Refusal :=
  if s.pwr.coreDown then .next (waitCore (.reply node payload) s) else
  match s.fb.remotes.find? (fun r => decide (r.node = node.toNat) && decide (r.tag.toNat = leAt payload 2 1) &&
      decide (r.opcode = leAt payload 0 2)) with
  | none => .next s
  | some r =>
    let s1 := { s with fb := { s.fb with remotes := s.fb.remotes.erase r } }
    if r.shared then .next (endShared r.id (if leAt payload 6 2 = stOk then s1 else sharedFailed r.id r.node s1))
    else .next (s1.release (fun w => decide (w = .remote r.id)) (fun x => { x with result := payload }))

/-- REMOTE_REPLY_RX: its effect on the block. -/
def execRemoteReplyRx (node : Byte) (payload : List Byte) (s : State) : Host.Outcome State Fault Refusal :=
  s.onBlock (recvRemoteReplyRx node payload)

/-- One remote request that had no reply ends (R540). -/
def remoteEnds (s : Block) (r : Remote) : Block :=
  let s1 := ({ s with fb := { s.fb with remotes := s.fb.remotes.erase r } } : Block).raise 836
  if r.shared then endShared r.id (sharedFailed r.id r.node s1)
  else s1.release (fun w => decide (w = .remote r.id)) (fun x => { x with status := stTimeout, result := [] })

/-- REMOTE_TIMEOUT (R540): no reply within 2 s. A TAKE_OPEN that awaits a peer's answer is given up with it. -/
def execRemoteTimeout (s : State) : Host.Outcome State Fault Refusal :=
  s.onBlock fun s =>
  if s.pwr.coreDown then .next s else
  let s1 := (s.fb.remotes.filter (fun r => decide (2 * secT ≤ s.sinceT r.since))).foldl remoteEnds s
  match s1.fb.openWait with
  | some (t, q) =>
    if 2 * secT ≤ s1.sinceT t then
      .next (({ s1 with fb := { s1.fb with openWait := none, peerOut := none } } : Block).reply q 0x0610 stNotPresent [])
    else .next s1
  | none => .next s1

/-- FABRIC_NOTICE_RX (R541): the notice goes out on this unit's own host port, with its source node. -/
def recvFabricNoticeRx (node : Byte) (payload : List Byte) (s : Block) : Host.Outcome Block Fault Refusal :=
  if s.pwr.coreDown then .next (waitCore (.notice node payload) s) else
  if leAt payload 0 2 ≠ 0x0DFF then .next s
  else
    let n : Notice := ⟨leAt payload 8 2, leAt payload 10 2, decide (leAt payload 12 1 % 2 = 1), BitVec.ofNat 64 (leAt payload 16 8), none,
      some node.toNat⟩
    .next { s with cmd := { s.cmd with notices := s.cmd.notices ++ [n] } }

/-- FABRIC_NOTICE_RX: its effect on the block. -/
def execFabricNoticeRx (node : Byte) (payload : List Byte) (s : State) : Host.Outcome State Fault Refusal :=
  s.onBlock (recvFabricNoticeRx node payload)

/-! ### Peers (R538, R539) -/

/-- Would the peer still cover its own schedule with `rate` taken from its ports (R538)? -/
def spareRate (rate : Nat) (s : Block) : Bool :=
  let left := min 65535 ((portsRate s - rate) * 1000000000 / frameBytes s)
  !s.running || decide (8000000000 ≤ left * s.effFld FT_PERIOD.PERIOD)

/-- Grant a reservation (R538): the guest's part on the magazine, STANDBY until it is activated. -/
def grantPeer (p : PeerIn) (s : Block) : Block :=
  let g := s.mag p.mag
  let e := g.sb.used
  let p1 := { p with entry := e, first := g.sb.alloc, endBlock := g.sb.alloc }
  let s1 := { s with fb := { s.fb with peerIn := some p1 } }
  let s2 := s1.setMag p.mag { g with sb := { g.sb with used := e + 1 } }
  answerPeer peerGrant p1 (s2.cairnN (0x3000 + p.node) 0x0A05 FB_CFG.addr p.node p.rate)

/-- PREPARE at the peer (R538). -/
def preparePeer (node : Nat) (l : List Byte) (s : Block) : Block :=
  let p : PeerIn := { node := node, mag := leAt l 3 1 % 2, rate := leAt l 6 2, slots := leAt l 8 2, serial := leAt l 10 8, take := leAt l 18 2,
                      state := 1, entry := 0, sequence := 0, first := 0, endBlock := 0, frames := [], lastIndex := 0, sealRec := 0, data := [],
                      opened := [], sealed := [], chainAfter := [], cairnFirst := 0, cairnLast := 0 }
  let there := decide (s.magState p.mag = 4) || decide (s.magState p.mag = 5)
  if there && s.fb.peerIn.isNone && spareRate p.rate s && decide (p.slots + s.fld FB_CFG.OWN_RESERVE ≤ s.rcd.depth) then grantPeer p s
  else answerPeer peerRefuse p s

/-- The peer has granted the reservation (R538): a take that waits for it opens, or the open take gains its standby part. -/
def peerGranted (s : Block) : Block :=
  match s.fb.peerOut with
  | none => s
  | some p =>
    let s1 := ({ s with fb := { s.fb with peerOut := some { p with granted := true } } } : Block).cairnN oFirmware 0x0A05 FB_CFG.addr p.node p.rate
    match s1.fb.openWait with
    | some (_, q) => openFor q { s1 with fb := { s1.fb with openWait := none } }
    | none =>
      match s1.rcd.take with
      | some t =>
        if t.num = p.take ∧ (t.part? 2).isNone then
          syncTake (openPeer (s1.onTake (fun k => { k with parts := k.parts ++ [newPart s1 2 k.parts.length 1 k.chain] })))
        else s1
      | none => s1

/-- The peer has refused (R538): event 834; a take on its magazine does not open. -/
def peerRefused (s : Block) : Block :=
  let s1 := ({ s with fb := { s.fb with peerOut := none } } : Block).raise 834
  match s1.fb.openWait with
  | some (_, q) => ({ s1 with fb := { s1.fb with openWait := none } } : Block).reply q 0x0610 stNotPresent []
  | none => s1

/-- A frame of the take has landed whole at the peer (R539): it counts in the peer part, and its slot is freed. -/
def frameLanded (n : Nat) (s : Block) : Block :=
  match s.slot? n, s.frame? n with
  | some sl, some f =>
    let s1 := s.onTake (fun t => t.onPart 2 (fun p => { p with
      firstFrame := some (p.firstFrame.getD n), lastFrame := some n, frames := p.frames + 1, stubs := p.stubs + b2n sl.stub,
      incomplete := p.incomplete + b2n (f.flags.getLsbD fIncomplete), damaged := p.damaged + b2n (f.flags.getLsbD fDamaged),
      chainAfter := (sl.header.getD []).drop 65504 }))
    closeSteps (sweepSlots (s1.onSlot n (fun l => { l with draining := l.draining.filter (fun d => decide (d ≠ 22)) })))
  | _, _ => s

/-- One message of the frame has landed (R539). -/
def messageLanded (s : Block) : Block :=
  match s.fb.peerOut with
  | some p =>
    match p.frame with
    | some n =>
      let k := p.landed + 1
      if k < p.messages.length then { s with fb := { s.fb with peerOut := some { p with landed := k, stalled := false } } }
      else frameLanded n { s with fb := { s.fb with peerOut := some { p with frame := none, messages := [], landed := 0, stalled := false } } }
    | none => s
  | none => s

/-- The peer is BUSY (R539): the frame waits, event 835 once per stall. -/
def peerStalls (s : Block) : Block :=
  match s.fb.peerOut with
  | some p => if p.stalled then s else ({ s with fb := { s.fb with peerOut := some { p with stalled := true } } } : Block).raise 835
  | none => s

/-- PEER_MSG_RX (R538, R539). -/
def execPeerMsgRx (node : Byte) (payload : List Byte) (s : State) : Host.Outcome State Fault Refusal :=
  s.onBlock fun s =>
  let n := node.toNat
  let sub := leAt payload 2 1
  let mine := match s.fb.peerOut with | some p => decide (p.node = n) | none => false
  if leAt payload 0 2 ≠ 0x0AF4 then .next s
  else if sub = peerPrepare then .next (preparePeer n payload s)
  else if sub = peerActivate then
    match s.fb.peerIn with
    | some p => .next (if p.node = n then
        let s1 := s.onGuest (fun x => { x with state := 2 })
        if p.sequence = 0 then s1 else writeGuest s1
      else s)
    | none => .next s
  else if !mine then .next s
  else if sub = peerGrant then .next (peerGranted s)
  else if sub = peerRefuse then .next (peerRefused s)
  else if sub = peerLanded then .next (messageLanded s)
  else if sub = peerBusy then .next (peerStalls s)
  else .next s

/-- Cut a frame's payload into bulk messages of 1 MiB (R539). -/
def bulkMessages : Nat → Nat → List Byte → List (Nat × List Byte)
  | 0, _, _ => []
  | fuel + 1, k, l => if l.isEmpty then [] else (k, l.take 1048576) :: bulkMessages fuel (k + 1) (l.drop 1048576)

/-- The frame that leaves next for the peer: the lowest whole frame owed to it. -/
def nextForward (s : Block) : Option Nat :=
  match s.rcd.take with
  | some t =>
    if t.mags.contains 2 then
      (match (s.rcd.slots.filter (fun l => decide (l.take = t.num) && l.drains.contains 2)).map (fun l => l.frame) with
        | [] => none
        | a :: r =>
          let n := r.foldl min a
          if isWhole s n then some n else none)
    else none
  | none => none

/-- FORWARD_FRAME_START (R539): the payload in messages of 1 MiB, the header last, once it is complete (R378). -/
def execForwardFrameStart (s : State) : Host.Outcome State Fault Refusal :=
  s.onBlock fun s =>
  match s.fb.peerOut, nextForward s with
  | some p, some n =>
    if !p.granted || p.frame.isSome || !chainReady s n then .next s
    else
      let s1 := completeHeader n (s.onSlot n (fun l => { l with drains := l.drains.filter (fun d => decide (d ≠ 2)), draining := l.draining ++ [22] }))
      match s1.slot? n, s1.frame? n, s1.ingest? n with
      | some sl, some f, some g =>
        let pay := if sl.stub then [] else padTo 65536 (payloadOf f sl g.final)
        let ms := bulkMessages (pay.length / 1048576 + 1) 0 pay ++ [(peerHeader, sl.header.getD [])]
        let s2 := { s1 with fb := { s1.fb with peerOut := some { p with frame := some n, messages := ms, landed := 0, stalled := false } } }
        .next (ms.foldl (fun a m => fabBulk p.node m.1 m.2 a) s2)
      | _, _, _ => .next s
  | _, _ => .next s

/-- FORWARD_RETRY (R539): a frame that the peer refused is sent again. -/
def execForwardRetry (s : State) : Host.Outcome State Fault Refusal :=
  s.onBlock fun s =>
  match s.fb.peerOut with
  | some p => .next (if p.stalled && p.frame.isSome then (p.messages.drop p.landed).foldl (fun a m => fabBulk p.node m.1 m.2 a) s else s)
  | none => .next s

/-! ### The other opcodes (R552) -/

/-- FB_GET_STATE. -/
def execFbGetState (q : Req) (s : State) : Host.Outcome State Fault Refusal :=
  s.onBlock fun s =>
  runReq 0x0A00 0 56 q (fun a => [shape q 0 [], (!wordPowered a 0 FB_CFG.addr, stNotPresent)])
    (fun a => a.reply q 0x0A00 stOk (wordsFrom a FB_CFG.addr 10 ++ wordsFrom a (FB_PASS.addr 1) 4)) s

/-- FB_GET_NODES: at most 41 on the two-wire mailbox. -/
def execFbGetNodes (q : Req) (s : State) : Host.Outcome State Fault Refusal :=
  s.onBlock fun s =>
  let first := pByte q 0
  let n := pNat q 1 2
  let tw := match q.carrier with | .twoWire _ _ => true | _ => false
  runReq 0x0A01 0 (12 * n) q (fun a => [shape q 4 [3], bad (decide (n = 0) || decide (256 < n) || decide (a.fb.nodes.length < first + n) ||
      (tw && decide (41 < n)))])
    (fun a => a.reply q 0x0A01 stOk (((a.fb.nodes.drop first).take n).flatMap nodeBytes)) s

/-- FB_REDISCOVER: discovery runs afresh, with new numbers. -/
def execFbRediscover (q : Req) (s : State) : Host.Outcome State Fault Refusal :=
  s.onBlock fun s =>
  runReq 0x0A02 2 0 q (fun a => [shape q 0 [], (arrayAnywhere a, stConflict)])
    (fun a =>
      let a1 := startDiscovery a
      ({ a1 with fb := { a1.fb with nodes := [] } } : Block).reply q 0x0A02 stOk []) s

end Sys2Proof.Machine
end

