-- ==== Sys2Proof/Machine/Standard.lean ====
section
/-! DEFINITION. The standard programs of the engines (chapter 7): NA-STD-READ and PE-LTC-RD word for word, the other pin
programs, whose words the spec does not give, as constants, and their start at step 4 of start-up (R239, R245). -/

namespace Sys2Proof.Machine

/-- NA-STD-READ: the standard course-pair readout of every mason. -/
def stdRead : List Word := [
  0x40000000, 0x60200000, 0x89F0002D, 0x89E80031, 0x89D00033, 0x28078000, 0x20018000, 0x28008000,
  0x26018000, 0x8300000D, 0x40000000, 0x2A0F8000, 0x8800000A, 0x8AD8000F, 0xA2000003, 0x13020000,
  0x89A80013, 0xB0000000, 0x8000001A, 0xB0400000, 0x8000001A, 0x13020001, 0x89A80019, 0xB2000000,
  0x8000001A, 0xB2400000, 0xA6000020, 0x30210000, 0x31070000, 0x33300000, 0x61500000, 0x34600000,
  0x61700000, 0x34028000, 0x32028000, 0x50000000, 0x8C30002A, 0x8998002A, 0x61600000, 0x78000048,
  0x380FC000, 0x88000028, 0x8F300000, 0x89A00015, 0x80000000, 0x20050000, 0xB4000000, 0xA6000020,
  0x80000000, 0xCF800000, 0x80000000, 0x8AD80000, 0xA2000003, 0x80000000]

/-- PE-LTC-RD: the linear timecode reader, on pin engine 2 from word 0. -/
def ltcRead : List Word := [
  0x40000000, 0x13060000, 0x61600000, 0xA6000084, 0x8B200009, 0x60200000, 0x98000000, 0x8C20000F,
  0x8000000C, 0x60200000, 0x98000000, 0x8B20000F, 0xA6000084, 0x60640000, 0x80000010, 0x60600000,
  0x8F380024, 0x8F30001B, 0x81000015, 0x78000001, 0x80000003, 0x7800FFF4, 0x84000019, 0x13060001,
  0x80000003, 0x61600000, 0x80000003, 0x81000021, 0x63600000, 0x61600000, 0x78000040, 0x13060002,
  0x80000003, 0x13060000, 0x61600000, 0x80000003, 0x8F30002A, 0x32004000, 0x88000003, 0x78000010,
  0x13060003, 0x80000003, 0x32000000, 0x88000003, 0x60300000, 0x70008000, 0x7000C004, 0x63000000,
  0x50000000, 0x82000021, 0x78000040, 0x13060002, 0x80000003]

/-- A pin program of the built-in defaults (R245): pin engine, channels, QSINK, and the output pins it owns. -/
structure PinProg where
  engine : Nat
  chans : List Nat
  sink : Nat
  outs : List Nat

/-- The pin programs on the engines and pins of the built-in defaults (R245). QSINK CORE 0, RECORD 2, TIMING 3, THERMAL 5
(R228). -/
def pinProgs : List PinProg := [
  ⟨0, [0, 1], 3, []⟩, ⟨1, [0], 3, []⟩, ⟨2, [0], 2, []⟩, ⟨2, [1], 0, [5]⟩, ⟨3, [0, 1], 0, [8]⟩, ⟨4, [0], 5, [12, 13]⟩,
  ⟨5, [0, 1], 5, [14]⟩, ⟨6, [0], 0, [16, 17]⟩, ⟨7, [0], 0, [20]⟩]

/-- Word `i` of the program of pin engine `e`. -/
def pinWord (e i : Nat) : Word :=
  if e = 2 ∧ i < ltcRead.length then ltcRead.getD i 0 else Config.pinWord e i

/-- Words of engine `e`'s active bank set from word 0. -/
def setBank (e : Nat) (l : List Word) (s : Block) : Block :=
  { s with regs := l.zipIdx.foldl (fun m (wi : Word × Nat) => smSet 0 m (bankBase e false + 4 * wi.2) wi.1) s.regs }

/-- Does a profile's word lie in a program window of engine `e` (R117)? -/
def givesProgram (l : List WordW) (e : Nat) : Bool :=
  l.any (fun w => (decide (bankBase e true ≤ w.addr) && decide (w.addr < bankBase e true + 0x1000)) ||
    (decide (e < 128) && decide (0x10A000 ≤ w.addr) && decide (w.addr < 0x10B000)))

/-- The pads of the pin programs (R245, R252), before the profile's words. -/
def standardPads (s : Block) : Block :=
  pinProgs.foldl (fun t p => p.outs.foldl (fun u n => (u.setFld (PE_PAD.OWNER n) p.engine).setFlag (PE_PAD.OWN_EN n) true) t) s

/-- Enable channel `k` of engine `e` and start it at ENTRY. -/
def enableChan (e k : Nat) (s : Block) : Block := startChan false e k (s.setFlag (CH_CFG.EN e k) true)

/-- RUN at step 4: 1 unless the profile's own words set it to 0 (R239). -/
def standardRun (l : List WordW) (e : Nat) (s : Block) : Block :=
  setRun e (!l.any (fun w => decide (w.addr = ENG_CTL.addr e) && !w.value.getLsbD 0)) s

/-- The programs of the engines at start-up step 4, after the words `l` of the profile (R239): the standard program where the
profile gives none; a program of the profile's own becomes active. -/
def startEngines (l : List WordW) (s : Block) : Block :=
  let s1 := (List.range 128).foldl (fun t e =>
    if givesProgram l e then standardRun l e (ownProgram e t)
    else standardRun l e ((List.range 64).foldl (fun u k => enableChan e k u) (setBank e stdRead t))) s
  (List.range 16).foldl (fun t p =>
    let e := 128 + p
    if givesProgram l e then standardRun l e (ownProgram e t)
    else
      let ps := pinProgs.filter (fun x => decide (x.engine = p))
      if ps.isEmpty then t
      else standardRun l e (ps.foldl (fun u x => x.chans.foldl (fun v k =>
        enableChan e k ((v.setFld (CH_CFG.QSINK e k) x.sink).setFld (CH_CFG.ENTRY e k) (if p = 2 ∧ k = 0 then 0 else (Config.pinEntry p k).toNat))) u)
        (setBank e ((List.range 1024).map (pinWord p)) t))) s1
where
  ownProgram (e : Nat) (t : Block) : Block :=
    let t1 := (swapBanks e t).setFlag (ENG_CTL.SWAP_REQ e) false
    (onChans t1 e).foldl (fun u k => startChan false e k u) t1

end Sys2Proof.Machine
end

