-- ==== Sys2Proof/Machine/Power.lean ====
section
/-! DEFINITION. Power and reset (chapter 2): rails and their faults, RST_N, RESTART, the reference clocks, switched domains,
standby and wake, ship mode, thermal shutdown, and what each reset leaves. -/

namespace Sys2Proof.Machine

/-! ### What a reset leaves (R58, R63, R65, R99, R114, R611, R620) -/

/-- Fields in AON that survive RST_N and clear only when VDD_AON is removed (R63, R65, R99, R611, R620). -/
def aonKept : List (Nat × Word) := [
  (SYS_SUPPLY.addr, 0x07FF0800), (SYS_CLK.addr, 0x300), (TW_CFG.addr, 0x1FFFFFFF), (FLT_STAT.addr, 0xFFFF0000),
  (WDG_STAT.addr, 0xFF), (EVT_STATUS.addr 31, 0xFF000000)]

/-- Fields whose contents lie in NVM (R134, R138, R507, R574). -/
def nvmKept : List (Nat × Word) := [(LOG_HEAD.addr, 0xFFFFFFFF), (TK_NEXT.addr, 0xFFFF), (FW_STATE.addr, 0xFFFF0007), (AG_HOURS.addr, 0xFFFFFFFF)]

/-- Fields that show a level outside the logic (R63, R65, R604). -/
def liveKept : List (Nat × Word) := [(SYS_SUPPLY.addr, 0x7FF), (SYS_CLK.addr, 3), (RSV_VIN.addr, 0xFFFF)]

/-- Copy the bits `l` of the registers of `old`. -/
def copyBits (old : Block) (l : List (Nat × Word)) (s : Block) : Block :=
  l.foldl (fun t e => t.setReg e.1 ((t.reg e.1 &&& ~~~ e.2) ||| (old.reg e.1 &&& e.2))) s

/-- The state after a reset of every domain (R58): what NVM holds, the levels outside, and with `aon` the kept fields of AON. A
reply that has not waited has left already. -/
def resetKeep (aon : Bool) (s : Block) : Block :=
  let big {α : Type} (m : List (Nat × α)) : List (Nat × α) := if aon then m.filter (fun e => decide (1016 ≤ e.1)) else []
  let z : Block := { Block.reset with
    free := s.free,
    cmd := { CmdState.reset with replies := s.cmd.replies.filter (fun r => decide (r.wait = .none)), notices := s.cmd.notices },
    evt := { EvtState.reset with count := big s.evt.count, stamp := big s.evt.stamp },
    log := { s.log with queue := [], lost := 0 },
    acc := { AccState.reset with key := s.acc.key },
    nvm := { s.nvm with staging := [], stageOwner := none, stageSince := 0, pendProfile := none, updating := none, updateLen := 0 },
    pwr := { PwrState.reset with
      rstLow := s.pwr.rstLow, shipLatch := s.pwr.shipLatch, thermalLatch := s.pwr.thermalLatch, mainEn := s.pwr.mainEn,
      vidDriven := s.pwr.vidDriven },
    cal := { CalState.reset with
      stored := s.cal.stored, defectsStored := s.cal.defectsStored, defectStores := s.cal.defectStores,
      fullCount := s.cal.fullCount, fullStamp := s.cal.fullStamp, fullTemp := s.cal.fullTemp, writtenEpoch := s.cal.writtenEpoch },
    th := { ThState.reset with
      historySeq := s.th.historySeq, driftBase := s.th.driftBase,
      driftCal := s.th.driftCal },
    rsv := { RsvState.reset with oring := s.rsv.oring } }
  syncFw (copyBits s ((if aon then aonKept else []) ++ nvmKept ++ liveKept) z)

/-- The NVM word under way ends with its journal phases before RST_N acts (R114); words behind it are given up. -/
def endWord (s : Block) : Block :=
  match s.nvm.journal with
  | w :: _ => nvmOwner w.owner w (({ s with nvm := { s.nvm with journal := [] } } : Block).nvmPut w.offset w.data)
  | [] => s

/-- Power goes without notice: the word in the journal slot stays as it is, and a cairn being stored may be torn (R113, R130):
a free bit. -/
def powerLoss (s : Block) : Block :=
  let s1 := { s with nvm := { s.nvm with journal := s.nvm.journal.take 1 } }
  if s1.log.queue.isEmpty then s1
  else
    let s2 := s1.draw
    if s1.drawn.getLsbD 0 then { s2 with log := { s2.log with torn := some (nextSeq s2.log.entries) } } else s2

/-! ### Rails (R43, R53, R54, R56) -/

/-- Rails in the bit order of R63: AON 0, IO 1, CORE 2, CNV 3, PIX 4, PXD 5, VNEG_PXD 6, VDDQ_DRAM 7, VPP_DRAM 8, LANE 9,
VDDH_LANE 10. -/
def railOk (s : Block) (r : Nat) : Bool := (s.reg SYS_SUPPLY.addr).getLsbD r
def setRailOk (r : Nat) (b : Bool) (s : Block) : Block := s.setReg SYS_SUPPLY.addr (wput (s.reg SYS_SUPPLY.addr) r b)
def allRails (s : Block) : Bool := decide (s.fld SYS_SUPPLY.OK = 0x7FF)

/-- Rails of the groups before the group of rail `r` (R53). -/
def railsBefore (r : Nat) : List Nat :=
  if r < 2 then [] else if r = 2 then [0, 1] else if r ≤ 6 then [0, 1, 2] else if r ≤ 8 then [0, 1, 2, 3, 4, 5, 6]
  else [0, 1, 2, 3, 4, 5, 6, 7, 8]

/-- The part does not run: it is held, latched, in standby or has RST_N low. -/
def notRunning (s : Block) : Bool :=
  s.pwr.rstLow || s.pwr.selfHeld || s.pwr.standby || s.pwr.shipLatch || s.pwr.thermalLatch || s.pwr.heldEarly

/-- A rail's FAULT bit and event 1017 (R56, R609). -/
def noteRail (r : Nat) (s : Block) : Block :=
  let w := wput (s.reg SYS_SUPPLY.addr) (16 + r) true
  (s.setReg SYS_SUPPLY.addr w).raise 1017

/-- The part resets and holds itself there, the take left open (R56). -/
def holdReset (s : Block) : Block :=
  let s1 := resetKeep true (powerLoss s)
  { s1 with pwr := { s1.pwr with selfHeld := true } }

/-- RAIL_FAULT (R43, R56): a rail is outside its window for 2 µs. The RC rails end capture and the take; any other holds the part
in reset; VDD_AON resets the whole part, whose kept fields a dip that is no removal may clear (R63, R645): a free bit. -/
def execRailFault (rail : BitVec 4) (s : State) : Host.Outcome State Fault Refusal :=
  s.onBlock fun s =>
  let r := rail.toNat
  if 11 ≤ r then .fault .noSuchRail
  else
    let s0 := setRailOk r false s
    let s1 := if r = 1 then { s0 with pwr := { s0.pwr with vidDriven := false } } else s0
    if r = 0 then
      let kept := s1.drawn.getLsbD 0
      let s2 := resetKeep kept (powerLoss s1.draw)
      let s3 := noteRail 0 s2
      .next { s3 with pwr := { s3.pwr with selfHeld := true, mainEn := false } }
    else if notRunning s1 then .next s1
    else if 3 ≤ r ∧ r ≤ 6 then
      let s2 := abortCapture (noteRail r s1)
      let s3 := closeTake oFirmware 8 { s2 with pwr := { s2.pwr with rcFault := true, rcValidAt := none } }
      .next (if s3.rcd.take.isSome then s3 else s3.setFld SYS_DOMAIN.RC_ON 0)
    else .next (holdReset (noteRail r s1))

/-- RAIL_VALID (R45, R53, R54, R56): a rail enters its window. With VDD_IO, VID carries code 40; a group that starts before the
one before it is valid sets SEQ_ERR, and the part stays HELD; the rails of a fault under R56 start their 10 ms. -/
def execRailValid (rail : BitVec 4) (s : State) : Host.Outcome State Fault Refusal :=
  s.onBlock fun s =>
  let r := rail.toNat
  if 11 ≤ r then .fault .noSuchRail
  else
    let s1 := setRailOk r true s
    let s2 := if r = 1 ∧ s.pwr.vidDriven = false then
        (({ s1 with pwr := { s1.pwr with vidDriven := true, vidTarget := 40 } } : Block)).setFld SYS_VID.CODE 40 else s1
    let early := decide (s2.fld SYS_BOOT.STAGE = 0) && !railOk s r && (railsBefore r).any (fun x => !railOk s2 x)
    let s3 := if early then
        (({ s2 with pwr := { s2.pwr with heldEarly := true } } : Block)).setFlag SYS_SUPPLY.SEQ_ERR true else s2
    .next (if s3.pwr.rcFault && s3.pwr.rcValidAt.isNone && [3, 4, 5, 6].all (railOk s3) then
      { s3 with pwr := { s3.pwr with rcValidAt := some s3.now } } else s3)

/-- SUP_MAIN_EN_RISE (R53): 2 ms after VDD_AON and VDD_IO are valid, unless a latch, standby or the reserve keeps it low. -/
def execSupMainEnRise (s : State) : Host.Outcome State Fault Refusal :=
  s.onBlock fun s =>
  .next (if railOk s 0 && railOk s 1 && !s.pwr.shipLatch && !s.pwr.thermalLatch && !s.pwr.standby &&
      decide (s.fld RSV_STAT.STATE < 2) then { s with pwr := { s.pwr with mainEn := true } } else s)

/-- VDD_AON_REMOVED (R645): the thermal latch and every kept field clear. -/
def execVddAonRemoved (s : State) : Host.Outcome State Fault Refusal :=
  s.onBlock fun s =>
  let s1 := resetKeep false (powerLoss s)
  let s2 := s1.setReg SYS_SUPPLY.addr 0
  .next { s2 with pwr := { s2.pwr with rstLow := true, thermalLatch := false, mainEn := false, vidDriven := false } }

/-! ### RST_N and RESTART (R57, R58, R59, R86) -/

/-- PRF, ROOT and ADDR_IN are latched into SYS_BOOT, and the keystone starts at zero (R57). -/
def latchPins (p : Pins) (s : Block) : Block :=
  let s1 := ((s.setFld SYS_BOOT.PRF p.prf.toNat).setFlag SYS_BOOT.ROOT_PIN p.root).setFlag SYS_BOOT.ADDR_IN_BOOT p.addrIn
  { s1.setFld PRF_STATE.ACTIVE p.prf.toNat with
    ks := { s1.ks with now := 0, stopped := false }, tw := { s1.tw with addrIn := p.addrIn } }

/-- Start-up goes on from step 3 (R60): unless TEST_EN holds the part (R42), or a rail or TREFCLK is not valid (R57). -/
def leaveHeld (testEn : Bool) (s : Block) : Block :=
  if testEn then s
  else if allRails s && s.flag SYS_CLK.TREF_OK && !s.pwr.heldEarly then s.setFld SYS_BOOT.STAGE 1
  else { s with pwr := { s.pwr with heldEarly := true } }

/-- The effect of RST_N low for 1 µs or more (R58): every domain resets, the take is left open. -/
def resetLow (s : Block) : Block :=
  let s1 := resetKeep true (endWord s)
  { s1 with pwr := { s1.pwr with rstLow := true, selfHeld := s1.pwr.thermalLatch } }

/-- RST_N_LOW (R58, R59): held off until a close-out ends. -/
def execRstNLow (s : State) : Host.Outcome State Fault Refusal :=
  s.onBlock fun s =>
  .next (if s.rsv.closeOut.isSome then { s with pwr := { s.pwr with resetAfterCloseOut := true, resetPins := none } } else resetLow s)

/-- RST_N rises (R42, R57): in ship mode and after a thermal shutdown the part stays down. -/
def releaseReset (pins : Pins) (s : Block) : Block :=
  let s1 := { s with pwr := { s.pwr with rstLow := false } }
  if s1.pwr.shipLatch || s1.pwr.thermalLatch then s1 else leaveHeld pins.testEn (latchPins pins s1)

/-- RST_N_RELEASE (R42, R57, R59). -/
def execRstNRelease (pins : Pins) (s : State) : Host.Outcome State Fault Refusal :=
  s.onBlock fun s =>
  .next (if s.pwr.resetAfterCloseOut then { s with pwr := { s.pwr with resetPins := some pins } }
    else if s.pwr.rstLow then releaseReset pins s else s)

/-- HELD_EXIT (R54, R57): every rail valid for 1 ms and TREFCLK stable for 100 µs. -/
def execHeldExit (s : State) : Host.Outcome State Fault Refusal :=
  s.onBlock fun s =>
  .next (if s.pwr.heldEarly && allRails s && s.flag SYS_CLK.TREF_OK then
      let s1 := { s with pwr := { s.pwr with heldEarly := false } }
      if s1.pwr.rstLow || s1.pwr.selfHeld || s1.pwr.thermalLatch || s1.pwr.shipLatch || s1.pwr.standby then s1
      else s1.setFld SYS_BOOT.STAGE 1
    else s)

/-- Whatever the cairn queue holds reaches NVM, and the entries lost are recorded (R131). -/
def flushLog (s : Block) : Block :=
  let s1 := ({ s with log := storeQueue s.log } : Block).syncLog
  if s.log.lost = 0 then s1
  else
    let s2 := ((({ s1 with log := { s1.log with lost := 0 } } : Block).setFlag LOG_STAT.GAP true).cairnN oFirmware 0x0121 0 0
      s.log.lost).raise 978
    ({ s2 with log := storeQueue s2.log } : Block).syncLog

/-- RESTART (R86): as RST_N low and released; the reply leaves before. -/
def execRestart (q : Req) (pins : Pins) (s : State) : Host.Outcome State Fault Refusal :=
  s.onBlock fun s =>
  let i := pByte q 0
  runReq 0x0011 3 0 q (fun a => [shape q 4 [1, 2, 3], bad (decide (1 < i) && decide (i ≠ 255)), (a.rsv.closeOut.isSome, stBusy),
      (a.takeOpen && !forced q, stRecording)])
    (fun a =>
      if a.takeOpen then forceClose 0x0011 q a
      else
        let a1 := flushLog (endMaintain false (fun _ => true) (a.reply q 0x0011 stOk []))
        let a2 := resetKeep true (endWord a1)
        let a3 := leaveHeld pins.testEn (latchPins pins a2)
        { a3 with flt := { a3.flt with imageTried := if i < 2 then i + 1 else 0 } }) s

/-! ### Reference clocks (R47, R48, R474) -/

/-- TREFCLK_LOST (R47): no further strobe; the frame in flight is marked; the take is closed. -/
def execTrefclkLost (s : State) : Host.Outcome State Fault Refusal :=
  s.onBlock fun s =>
  let s1 := (s.setFlag SYS_CLK.TREF_OK false).setFlag KS_STAT.LOCK false
  .next (if s.pwr.rstLow then s1
    else
      let s2 := (s1.setFlag SYS_CLK.TREF_LOST true).raise 1017
      let s3 := { s2 with pwr := { s2.pwr with trefBlocked := true, trefValidAt := none } }
      let s4 := match s3.ft.inFlight with | some n => s3.mark n fKsUnlocked | none => s3
      closeTake oFirmware 7 (abortCapture s4))

/-- TREFCLK_RESTORED (R47): TREFCLK has been stable for 100 µs. -/
def execTrefclkRestored (s : State) : Host.Outcome State Fault Refusal :=
  s.onBlock fun s =>
  let s1 := (s.setFlag SYS_CLK.TREF_OK true).setFlag KS_STAT.LOCK true
  .next { s1 with pwr := { s1.pwr with trefBlocked := false } }

/-- LREFCLK_LOST (R48, R474): every lane loses lock, every port enters RECOVER; exposure continues. -/
def execLrefclkLost (s : State) : Host.Outcome State Fault Refusal :=
  s.onBlock fun s =>
  let s1 := s.setFlag SYS_CLK.LREF_OK false
  let s2 := if s.pwr.rstLow then s1 else (s1.setFlag SYS_CLK.LREF_LOST true).raise 1017
  let s3 := { s2 with
    pwr := { s2.pwr with lrefValidAt := none },
    rcd := { s2.rcd with lrefLostAt := if s2.takeOpen && s2.rcd.lrefLostAt.isNone then some s2.now else s2.rcd.lrefLostAt } }
  let s4 := (List.range 40).foldl (fun (t : Block) l => if t.flag (LN_STAT.LOCK l) then t.setFlag (LN_STAT.LOCK l) false else t) s3
  .next ((List.range 8).foldl (fun t p =>
    let st := t.fld (PT_STAT.STATE p)
    if portPowered t p && decide (1 ≤ st) && decide (st ≤ 6) then enterRecover p false t else t) s4)

/-- LREFCLK_RESTORED (R474). -/
def execLrefclkRestored (s : State) : Host.Outcome State Fault Refusal :=
  s.onBlock fun s =>
  let s1 := s.setFlag SYS_CLK.LREF_OK true
  .next { s1 with pwr := { s1.pwr with lrefValidAt := some s1.now } }

/-! ### Switched domains (R49, R650) -/

/-- DOMAIN_POWERED (R49): a domain whose switch has closed is powered; the profile's words that wait for it are written (R650). -/
def execDomainPowered (d : BitVec 5) (s : State) : Host.Outcome State Fault Refusal :=
  s.onBlock fun s =>
  let b := d.toNat
  .next (if s.pwr.switching.contains b then
      let s1 := s.setReg SYS_DOMAIN.addr (wput (s.reg SYS_DOMAIN.addr) b true)
      let mine := s1.pwr.domainWords.filter (fun w => decide (domainOf w.1 = some b))
      let s2 := { s1 with pwr := { s1.pwr with
        switching := s1.pwr.switching.filter (fun x => decide (x ≠ b)),
        domainWords := s1.pwr.domainWords.filter (fun w => decide (domainOf w.1 ≠ some b)) } }
      syncMon (writeWords (oProfile (s2.fld PRF_STATE.ACTIVE)) false
        (mine.map (fun w => (⟨w.1, w.2, 0xFFFFFFFF⟩ : WordW))) s2)
    else s)

/-! ### Standby, ship mode and thermal shutdown (R66 to R70) -/

/-- A register of AON that standby leaves as it is: keystone, thermal, reserve, events, two-wire, the system block's supply,
domain and clock words (R49, R67). -/
def aonReg (a : Nat) : Bool :=
  (decide (0x2000000 ≤ a) && decide (a < 0x2100000)) || (decide (0x2600000 ≤ a) && decide (a < 0x2600400)) ||
    (decide (0x2700000 ≤ a) && decide (a < 0x2A00000)) || [SYS_SUPPLY.addr, SYS_CLK.addr, SYS_VID.addr].contains a

/-- Everything but AON loses power (R66 steps 2 to 7): SUP_MAIN_EN goes low. -/
def downToAon (s : Block) : Block :=
  let z := resetKeep true (endWord s)
  let regs := (s.regs.filter (fun e => aonReg e.1)).foldl (fun m e => smSet (regReset e.1) m e.1 e.2)
    (z.regs.filter (fun e => !aonReg e.1))
  let s1 := { z with
    regs := regs, ks := { s.ks with slew := 0, fired := [], chains := [], late := [], armedAt := [] }, evt := s.evt, rsv := s.rsv,
    th := s.th, tw := s.tw, pwr := { s.pwr with mainEn := false, switching := [], domainWords := [], coreDown := false } }
  let boot := s.reg SYS_BOOT.addr &&& 0x0000F800
  disarmAll ((s1.setReg SYS_BOOT.addr boot).setReg SYS_DOMAIN.addr 0x00800000)

/-- STANDBY (R66): the reply goes out first; a cairn is written with CT's last breath. -/
def execStandby (q : Req) (s : State) : Host.Outcome State Fault Refusal :=
  s.onBlock fun s =>
  runReq 0x0010 1 0 q (fun a => [shape q 0 [], (a.rsv.closeOut.isSome, stBusy), (a.takeOpen && !forced q, stRecording)])
    (fun a =>
      if a.takeOpen then forceClose 0x0010 q a
      else
        let a1 := endMaintain false (fun _ => true) (stopCapture (a.reply q 0x0010 stOk []))
        let a2 := a1.cairn (originOf q.carrier) 0x0001 SYS_DOMAIN.addr (a1.reg SYS_DOMAIN.addr) 0x00800000
        let a3 := downToAon (flushLog a2)
        { a3 with pwr := { a3.pwr with standby := true } }) s

/-- The wake from standby (R68): SUP_MAIN_EN rises, and start-up runs from step 3 without RST_N, once the main rails are there. -/
def wake (s : Block) : Block :=
  if s.pwr.standby then
    let s1 := s.setReg SYS_DOMAIN.addr (regReset SYS_DOMAIN.addr)
    leaveHeld false { s1 with pwr := { s1.pwr with standby := false, mainEn := true } }
  else s

/-- Is `a` the group address in force (R100)? -/
def twGroup (s : Block) (a : Nat) : Bool :=
  s.flag TW_CFG.GROUP_EN && !s.flag TW_CFG.MASK_EN && decide (a = s.fld TW_CFG.GROUP_ADDR)

/-- Is a received address acknowledged (R93, R100)? If so, was it the group address or a masked match (R73)? -/
def twMatch (s : Block) (addr : BitVec 7) : Option Bool :=
  let a := addr.toNat
  let ind : BitVec 7 := BitVec.ofNat 7 (s.fld TW_CFG.IND_ADDR)
  let mask : BitVec 7 := BitVec.ofNat 7 (s.fld TW_CFG.MASK)
  if a = 0 then none
  else if s.flag TW_CFG.IND_VALID && !s.flag TW_CFG.MASK_EN && decide (addr = ind) then some false
  else if s.flag TW_CFG.IND_VALID && s.flag TW_CFG.MASK_EN && decide ((addr ^^^ ind) &&& ~~~ mask = 0) then some true
  else if twGroup s a then some true
  else if a = 0x3A ∧ s.flag TW_CFG.IND_VALID = false ∧ s.tw.addrIn = true then some false
  else none

/-- WAKE_MATCH (R102): the AON recogniser acknowledges its address, stretches SCL and starts the wake. -/
def execWakeMatch (addr : BitVec 7) (s : State) : Host.Outcome State Fault Refusal :=
  s.onBlock fun s =>
  .next (if s.pwr.standby && (twMatch s addr).isSome then
      let s1 := wake (s.raise 961)
      { s1 with tw := { s1.tw with sclHeld := true } }
    else s)

/-- The part enters ship mode (R69, R600): every domain but the ship latch goes off, the keystone stops. -/
def enterShip (s : Block) : Block :=
  let s1 := resetKeep true (endWord (flushLog s))
  { s1.setReg SYS_DOMAIN.addr 0x00800000 with
    ks := { s1.ks with stopped := true },
    pwr := { s1.pwr with shipLatch := true, mainEn := false, standby := false } }

/-- SHIP_EXIT (R69): VIN's return clears the ship latch; start-up runs from step 1, and the keystone restarts at RST_N release. -/
def execShipExit (s : State) : Host.Outcome State Fault Refusal :=
  s.onBlock fun s =>
  .next (if s.pwr.shipLatch then
      let s1 := s.setReg SYS_DOMAIN.addr (regReset SYS_DOMAIN.addr)
      { s1 with pwr := { s1.pwr with shipLatch := false, rstLow := true } }
    else s)

/-- Thermal shutdown at 145 °C (R70, R114): the NVM word in progress completes and the journal goes no further; THERM_SD_N and SUP_MAIN_EN go low, the part holds itself in
reset; the cairns queued are lost, and the take is left open. -/
def thermalShutdown (s : Block) : Block :=
  let s2 := resetKeep true { s with nvm := { s.nvm with journal := s.nvm.journal.take 1 } }
  { s2 with
    log := { s2.log with resumed := true },
    pwr := { s2.pwr with thermalLatch := true, mainEn := false, selfHeld := true } }

/-! ### Replies that waited too long (R79) -/

/-- COMPLETE_TIMEOUT (R79): 2 s after acceptance the reply is TIMEOUT with the same result; the change stays pending. -/
def execCompleteTimeout (s : State) : Host.Outcome State Fault Refusal :=
  s.onBlock fun s =>
  let due (r : Reply) : Bool := (match r.wait with | .fcp _ => true | .swap _ => true | _ => false) &&
    decide (2 * secT ≤ s.sinceT r.since)
  let out (r : Reply) : Reply := { r with status := stTimeout, wait := .none }
  .next (((s.cmd.replies.filter due).map out).foldl (fun t r => t.deliver r)
    { s with cmd := { s.cmd with replies := s.cmd.replies.map (fun r => if due r then out r else r) } })

end Sys2Proof.Machine
end

