-- ==== Sys2Proof/Machine/Boot.lean ====
section
/-! DEFINITION. Start-up, steps 3 to 10 (R60, R61): firmware, profile, DRAM training, calibration load, reserve check, lanes and
READY. -/

namespace Sys2Proof.Machine

/-- Is the part at start-up stage `n`, and not held in reset? -/
def atStage (s : Block) (n : Nat) : Bool := decide (s.fld SYS_BOOT.STAGE = n) && !notRunning s

/-- The stage of the last failure (R62). -/
def failStage (n : Nat) (s : Block) : Block := s.setFld SYS_BOOT.FAIL_STAGE n

/-! ### Step 3: firmware (R113, R114, R129, R130, R136, R138) -/

/-- A word found VALID in the journal slot is written (R113): its bytes, and what they stand for. -/
def storeWord (w : NvmWrite) (s : Block) : Block :=
  let s1 := s.nvmPut w.offset w.data
  match w.owner with
  | .cal u e _ => { s1 with cal := { s1.cal with stored := smPut s1.cal.stored u e } }
  | .key => { s1 with acc := { s1.acc with key := some (w.data.take 32) } }
  | _ => s1

/-- A torn slot was found (R113): the target was not touched. -/
def slotTorn (s : Block) : Block := (s.setFlag LOG_STAT.TORN true).raise 977

/-- The journal slot at start-up (R113): how far an interrupted write had come is a free value. After a thermal shutdown the word
in progress was completed (R114), so the slot is neither torn nor damaged. -/
def journalReplay (s : Block) : Block :=
  match s.nvm.journal with
  | [] => s
  | w :: _ =>
    let s1 := { s.draw with nvm := { s.nvm with journal := [] } }
    let k := s.drawn.toNat % (if s.log.resumed then 2 else 4)
    if k = 0 then storeWord w s1
    else if k = 1 then s1
    else if k = 2 then slotTorn s1
    else nvmFault w.offset 2 s1

/-- The log at start-up (R114, R129, R130): a torn cairn, the resumption after a thermal shutdown, the chain check. -/
def logAtStart (chainOk : Bool) (s : Block) : Block :=
  let s1 := match s.log.torn with
    | some q => (slotTorn { s with log := { s.log with torn := none } }).cairnN oFirmware 0x0120 (0x1A80000 + q % 262144 * 32) 0 q
    | none => s
  let s2 := if s1.log.resumed then
      ({ s1 with log := { s1.log with resumed := false } } : Block).cairnN oFirmware 0x0122 0 (logHead s1) (nextSeq s1.log.entries)
    else s1
  if chainOk then s2 else (s2.setFlag LOG_STAT.CHAIN_ERR true).raise 979

/-- The images in the order they are tried (R86, R138). -/
def imageOrder (s : Block) : Nat × Nat :=
  let a := if s.flt.imageTried = 0 then s.fld FW_STATE.PREFERRED else s.flt.imageTried - 1
  (a, 1 - a)

/-- BOOT_FIRMWARE (R60 step 3, R61, R138): `ok0` and `ok1` say whether images 0 and 1 verify (R136). With neither, RECOVERY. -/
def execBootFirmware (ok0 : Bool) (ok1 : Bool) (chainOk : Bool) (s : State) : Host.Outcome State Fault Refusal :=
  s.onBlock fun s =>
  let ok (i : Nat) : Bool := (if i = 0 then ok0 else ok1) && (fwImage s i).valid
  .next (if atStage s 1 then
      let a := (imageOrder s).1
      let b := (imageOrder s).2
      let s0 := { s with flt := { s.flt with imageTried := 0 } }
      if ok a || ok b then
        let i := if ok a then a else b
        let s1 := logAtStart chainOk (journalReplay s0)
        let s2 := if ok a then s1 else failStage 1 ((s1.raise 981).cairnN oFirmware 0x0133 0x10020 a b)
        let s3 := (s2.setFld SYS_BOOT.IMAGE i).cairn oFirmware 0x0132 i 0 (fwImage s2 i).version
        syncFw (s3.setFld SYS_BOOT.STAGE 3)
      else failStage 1 (s0.setFld SYS_BOOT.STAGE 10)
    else s)

/-! ### Step 4: the profile (R61, R118, R121) -/

/-- Words of a profile at start-up, without cairns; those of a domain being switched on wait for it (R650). -/
def bootWords (n : Nat) (recs : List ProfRec) (s : Block) : Block :=
  let l := profWords recs
  let ready (w : WordW) : Bool := wordPowered s 0 w.addr
  let s1 := { s with pwr := { s.pwr with
    domainWords := s.pwr.domainWords ++ (l.filter (fun w => !ready w)).map (fun w => (w.addr, w.value)) } }
  let s2 := writeWords (oProfile n) false (l.filter ready) s1
  let s3 := recs.foldl (fun t r => match r with
    | .route e bs => setRoutes (oProfile n) e bs t
    | .words _ _ => t) s2
  startEngines l s3

/-- Profile `n` loads: its access table, words, routes and programs, with one PROFILE_LOAD cairn (R121). -/
def loadProfile (n : Nat) (s : Block) : Block :=
  let img := profileImage s n
  let s1 := s.cairnN (oProfile n) 0x0104 PRF_STATE.addr 0xFFFFFFFF n
  let s2 := bootWords n ((recordsOf img).getD []) (profAccess img (standardPads s1))
  ({ s2 with log := s1.log }.setReg LOG_STAT.addr (s1.reg LOG_STAT.addr)).setFld PRF_STATE.ACTIVE n

/-- PROFILE_LOAD (R60 step 4, R61, R118): the profile latched on PRF, else profile 0, else the built-in defaults. -/
def execProfileLoad (s : State) : Host.Outcome State Fault Refusal :=
  s.onBlock fun s =>
  let p := s.fld SYS_BOOT.PRF
  let fell (new : Nat) (t : Block) : Block := failStage 3 ((t.raise 973).cairnN oFirmware 0x0105 PRF_STATE.addr p new)
  .next (if atStage s 3 then
      let s1 :=
        if profileValid s p then loadProfile p s
        else if p ≠ 0 ∧ profileValid s 0 = true then loadProfile 0 ((fell 0 s).setFlag SYS_BOOT.PROFILE_FALLBACK true)
        else
          let t := ((fell 0xFFFFFFFF s).setFlag SYS_BOOT.DEFAULTS true).setFlag PRF_STATE.DEFAULTS true
          startEngines [] (standardPads (({ t with acc := { t.acc with table := AccState.reset.table, perms := 0 } } : Block).setFld
            PRF_STATE.ACTIVE 0))
      s1.setFld SYS_BOOT.STAGE 4
    else s)

/-! ### Steps 5 to 7 -/

/-- DRAM_TRAIN (R60 step 5, R61): the channels that fail the first training, and those that fail it twice. -/
def execDramTrain (fail1 : BitVec 8) (fail2 : BitVec 8) (s : State) : Host.Outcome State Fault Refusal :=
  s.onBlock fun s =>
  .next (if atStage s 4 then
      let one (t : Block) (r : Nat) : Block :=
        if fail1.getLsbD r then
          if fail2.getLsbD r then
            let t1 := retire r 1 (some oFirmware) t
            failStage 4 (t1.setFld SYS_BOOT.DRAM_RETIRED (t1.fld SYS_BOOT.DRAM_RETIRED ||| 2 ^ r))
          else (t.raise (549 + 8 * r)).cairnN oFirmware 0x0808 (chanBase r) 0 1
        else t
      ((List.range 8).foldl one (s.setFld SYS_BOOT.DRAM_RETRIED fail1.toNat)).setFld SYS_BOOT.STAGE 5
    else s)

/-- Regions with units in block `k` of the calibration table (R187). -/
def blockRegions (k : Nat) : List Nat :=
  let us := (List.range 4096).filter (fun i => decide (4096 * k + i < 2462720))
  (List.range 8).filter (fun r => us.any (fun i => decide (regionOf (clusterOf (4096 * k + i)) = r)))

/-- A block of the table failed its check (R61 step 6): its units count as defective until the next full calibration. -/
def badBlock (k : Nat) (s : Block) : Block :=
  let s1 := (blockRegions k).foldl (fun t r => t.raise (422 + 16 * r)) s
  s1.cairnN oFirmware 0x0308 (0x1000 + 8 * 4096 * k) 0 k

/-- The working copy is loaded from NVM (R60 step 6, R187): the table, the epoch's ratios and the defect list as stored; `ks` are the
blocks that fail their check. -/
def loadCal (ks : List Nat) (s : Block) : Block :=
  let s1 := { s with cal := { s.cal with
    entries := s.cal.stored, defects := s.cal.defectsStored, defectsInForce := s.cal.defectsStored, badBlocks := ks,
    epoch := s.cal.stored.filterMap (fun e => if ratioOf e.2 = ratioOf (Config.calFactory e.1) then none else some (e.1, ratioOf e.2)) } }
  ks.foldl (fun t k => badBlock k t) (if ks.isEmpty then s1 else s1.setFlag CNV_STAT.TABLE_DEGRADED true)

/-- CAL_LOAD (R60 step 6, R187). -/
def execCalLoad (bad : List (BitVec 13)) (s : State) : Host.Outcome State Fault Refusal :=
  s.onBlock fun s =>
  .next (if atStage s 5 then
      let ks := (bad.map (fun k => k.toNat)).filter (fun k => decide (k < 602))
      let s1 := loadCal ks s
      (if ks.isEmpty then s1 else failStage 5 s1).setFld SYS_BOOT.STAGE 6
    else s)

/-- The outcome of the 20 ms test of R599: 0 good, 1 boost, 2 cell; BOOST_FAULT or CELL_FAULT and its event follow. -/
def reserveTest (pgFell cellLow : Bool) (s : Block) : Nat × Block :=
  if pgFell then (1, (s.setFlag RSV_STAT.BOOST_FAULT true).raise 951)
  else if cellLow then (2, (s.setFlag RSV_STAT.CELL_FAULT true).raise 950)
  else (0, s)

/-- RESERVE_CHECK (R60 step 7, R61, R599). -/
def execReserveCheck (pgFell : Bool) (cellLow : Bool) (s : State) : Host.Outcome State Fault Refusal :=
  s.onBlock fun s =>
  .next (if atStage s 6 then
      let r := if s.flag RSV_STAT.CELL_PRESENT then reserveTest pgFell cellLow s else (3, s.raise 949)
      let s1 := if r.1 = 0 then r.2 else failStage 6 (r.2.cairnN oFirmware 0x0C05 RSV_STAT.addr 0 r.1)
      s1.setFld SYS_BOOT.STAGE 7
    else s)

/-! ### Steps 8 to 10 -/

/-- LANES_STAGE (R60 step 8, R61, R572): the step ends. The lanes of the ports that are on have their margins; a port that has not
come up goes on trying, and FAIL_STAGE tells of it, but for the fabric's ports, which may have no peer (the worked example of R65's
section reads FAIL_STAGE 0). -/
def execLanesStage (margins : List Byte) (s : State) : Host.Outcome State Fault Refusal :=
  s.onBlock fun s =>
  .next (if atStage s 7 then
      let on := (List.range 8).filter (portPowered s)
      let s1 := takeMargins ((margins.zipIdx.map (fun e => (e.2, e.1.toNat))).filter (fun e =>
        decide (e.1 < 40) && on.contains (portOf e.1))) s
      let s2 := on.foldl (fun t p => if t.fld (PT_STAT.STATE p) = 0 then enterDetect p t else t) s1
      let s3 := if on.all (fun p => portUp s2 p || decide (4 ≤ p)) then s2 else failStage 7 s2
      s3.setFld SYS_BOOT.STAGE 8
    else s)

/-- READY (R60 step 10): once discovery has ended, or FX is off. The plan of the wait after READY starts (R575). -/
def execReady (s : State) : Host.Outcome State Fault Refusal :=
  s.onBlock fun s =>
  .next (if atStage s 8 && (!s.flag SYS_DOMAIN.FX_ON || s.flag FB_STAT.READY) then
      let s1 := (s.setFld SYS_BOOT.STAGE 9).raise 1016
      startPlan { s1 with th := { s1.th with afterReady := true } }
    else s)

end Sys2Proof.Machine
end

