-- ==== Sys2Proof/Machine/Thermal.lean ====
section
/-! DEFINITION. Temperature (chapter 17): sensors, region models, bands, rate of rise, shedding, cooling, shutdown and the core
voltage; and engine faults, which the cooling follows (R241, R566). -/

namespace Sys2Proof.Machine

/-! ### Views -/

/-- The local number of cluster `c` in its region, and the diode before its first sample: 45 °C. -/
def Diode.reset : Diode := ⟨0, 720, true, none, none, none, 0, 0, []⟩

/-- The region model before its first step: M and B at 45 °C, NOMINAL. -/
def RegionModel.reset : RegionModel := ⟨45, 45, 0, 0, 2⟩

def Block.diode (s : Block) (c : Nat) : Diode := smGet Diode.reset s.th.diodes c
def Block.setDiode (s : Block) (c : Nat) (d : Diode) : Block := { s with th := { s.th with diodes := smSet Diode.reset s.th.diodes c d } }
def Block.model (s : Block) (r : Nat) : RegionModel := smGet RegionModel.reset s.th.models r
def Block.setModel (s : Block) (r : Nat) (m : RegionModel) : Block :=
  { s with th := { s.th with models := smSet RegionModel.reset s.th.models r m } }

/-- A diode's reading in °C. -/
def Diode.read (d : Diode) : Rat := (d.temp : Rat) / 16

/-- The estimate of cluster `c` (R557). -/
def estimate (s : Block) (c : Nat) : Rat := (s.model (regionOf c)).m + (s.diode c).o

/-- The value in force for cluster `c` (R557). -/
def inForce (s : Block) (c : Nat) : Rat := if (s.diode c).valid then (s.diode c).read else estimate s c

/-- Valid diodes of region `r`. -/
def validDiodes (s : Block) (r : Nat) : List Nat := (clustersOf r).filter (fun c => (s.diode c).valid)

/-- Hottest and coldest value in force in the package. -/
def hottestNow (s : Block) : Rat := (List.range 128).foldl (fun m c => max m (inForce s c)) (-1000)
def coldestNow (s : Block) : Rat := (List.range 128).foldl (fun m c => min m (inForce s c)) 1000

/-- An event of a condition that several instances share: it occurs at each one's rise; live while any lasts (R610). -/
def riseLive (e : Nat) (rose any : Bool) (s : Block) : Block :=
  (if rose && s.evtLive e then s.raise e else s).setLive e any

/-! ### Bands (R560, R561) -/

/-- Lower limit of band `b`, in °C. -/
def bandLow (b : Nat) : Int := match b with | 0 => -1000 | 1 => -20 | 2 => 10 | 3 => 70 | 4 => 90 | _ => 110

/-- The highest band that the limits, lowered by `m`, give a value. -/
def bandAt (m : Int) (v : Rat) : Nat := ([5, 4, 3, 2, 1].find? (fun b => decide (((bandLow b - m : Int) : Rat) ≤ v))).getD 0

/-- The highest band whose lower limit less 3 K the value is still above. -/
def bandHeld (v : Rat) : Nat := ([5, 4, 3, 2, 1].find? (fun b => decide (((bandLow b - 3 : Int) : Rat) < v))).getD 0

/-- The band after `b` at a value in force `v`: up at an upper limit, down 3 K below a lower one (R560). -/
def nextBand (b : Nat) (v : Rat) : Nat :=
  if b < bandAt 0 v then bandAt 0 v else if bandHeld v < b then bandHeld v else b

/-- VID floor and lane preset of a band (R561). -/
def vidFloor (b : Nat) : Nat := match b with | 0 => 48 | 1 => 44 | 2 => 36 | 3 => 32 | _ => 30
def bandPreset (b : Nat) : Nat := match b with | 0 => 0 | 1 => 1 | 2 => 2 | 3 => 2 | _ => 3

/-- The band of region `r` with its penalty (R559). -/
def penalised (s : Block) (r : Nat) : Nat :=
  min 5 ((s.model r).rawBand + b2n (s.th.penalty.any (fun p => decide (p.1 = r))))

/-- The lowest code VID may take (R64). -/
def vidMin (s : Block) : Nat := max (s.fld SYS_VID.FLOOR) (min 50 (s.fld SYS_VID.MIN_CODE))

/-- What follows the bands of the regions (R33, R64, R162, R481, R560): the package band, the VID floor, the lane presets, the
drive set while nothing runs, and the plan values in force. -/
def followBands (s : Block) : Block :=
  let pkg := (List.range 8).foldl (fun m r => max m (bandNow s r)) 0
  let floor := (List.range 8).foldl (fun m r => max m (vidFloor (bandNow s r))) 0
  let old := s.fld TH_STAT.BAND
  let s1 := s.setFld SYS_VID.FLOOR floor
  let s2 := { s1 with pwr := { s1.pwr with vidTarget := max s1.pwr.vidTarget (vidMin s1) } }
  let s3 :=
    if pkg = old then s2
    else
      let t := ((((s2.setFld TH_STAT.BAND pkg).setFld SYS_STATE.BAND pkg).cairnN oFirmware 0x0B01 TH_STAT.addr old pkg).raise 904)
      let presets := if bandPreset pkg = bandPreset old then t
        else (List.range 8).foldl (fun u p => u.onPort p (fun x => { x with preset := some (bandPreset pkg) })) t
      driveNow presets
  rateCheck s3

/-- The region band and its penalty bit follow the model (R560). -/
def syncBand (r : Nat) (s : Block) : Block :=
  let b := penalised s r
  let s1 := s.setFld TH_STAT.PENALTY (wfield (wput (BitVec.ofNat 32 (s.fld TH_STAT.PENALTY)) r (s.th.penalty.any (fun p => decide (p.1 = r)))) 0 8)
  let s2 := s1.setFlag (TH_REGION.MODEL_ONLY r) (decide ((validDiodes s r).length < 4))
  let s3 := s2.setFld (TH_REGION.VALID r) (validDiodes s r).length
  if bandNow s3 r = b then s3 else followBands ((s3.setFld (TH_REGION.BAND r) b).raise 905)

/-- A penalty begins (R559). -/
def addPenalty (r k : Nat) (s : Block) : Block :=
  if s.th.penalty.contains (r, k) then s else ({ s with th := { s.th with penalty := s.th.penalty ++ [(r, k)] } } : Block).raise 911

/-! ### Diodes (R555, R558, R559, R569) -/

/-- Event 910 lives while some diode is invalid. -/
def anyInvalid (s : Block) : Bool := s.th.diodes.any (fun e => !e.2.valid)

/-- A diode becomes invalid: the model stands in for it, with a penalty where R559 says so. -/
def invalidate (c : Nat) (s : Block) : Block :=
  let r := regionOf c
  let s1 := s.setDiode c { s.diode c with valid := false, agreeAt := none, validAt := none, hotRun := 0 }
  let s2 := (riseLive 910 true true (s1.setFlag (MSN_CLUSTER.TEMP_OK c) false)).contain 6
  let set := decide ((clustersOf r).idxOf c = (s.model r).bandCluster) && (decide (s.fld TH_STAT.SHED_STEP ≠ 0) || s.flag TH_STAT.BOOST)
  let s3 := syncBand r (if set then addPenalty r ((clustersOf r).idxOf c) s2 else s2)
  s3.policyCairn 0xB05 0x0B03 (TH_REGION.addr r) ((clustersOf r).idxOf c) (bandNow s3 r)

/-- A diode becomes valid again. -/
def validate (c : Nat) (s : Block) : Block :=
  let s1 := s.setDiode c { s.diode c with valid := true, awayAt := none, validAt := some s.now }
  syncBand (regionOf c) (riseLive 910 false (anyInvalid s1) (s1.setFlag (MSN_CLUSTER.TEMP_OK c) true))

/-- DIODE_SAMPLE (R555, R569): one cluster's diode and delay monitor. -/
def execDiodeSample (c : BitVec 7) (temp : BitVec 16) (dly : BitVec 12) (s : State) : Host.Outcome State Fault Refusal :=
  s.onBlock fun s =>
  let k := c.toNat
  let t := temp.toInt
  let v : Rat := (t : Rat) / 16
  let s1 := (s.setFld (MSN_CLUSTER.TEMP k) temp.toNat).setFld (MSN_CLUSTER.DLY k) dly.toNat
  let d := s1.diode k
  let inRange := decide (-1120 ≤ t) && decide (t ≤ 2720)
  let others := ((validDiodes s1 (regionOf k)).filter (fun x => decide (x ≠ k))).length
  let off := if estimate s1 k ≤ v then v - estimate s1 k else estimate s1 k - v
  let away := decide (15 < off) && decide (4 ≤ others)
  let agrees := inRange && decide (off ≤ 5)
  let d1 := { d with
    temp := t, sampleAt := s1.now,
    awayAt := if away then some (d.awayAt.getD s1.now) else none,
    agreeAt := if agrees then some (d.agreeAt.getD s1.now) else none,
    hotRun := if d.valid && inRange && decide (2320 ≤ t) then d.hotRun + 1 else 0 }
  let s2 := s1.setDiode k d1
  let lost := d.valid && (!inRange || (away && decide (secT ≤ s2.sinceT (d1.awayAt.getD s2.now))))
  let back := !d.valid && agrees && decide (10 * secT ≤ s2.sinceT (d1.agreeAt.getD s2.now))
  let s3 := if lost then invalidate k s2 else if back then validate k s2 else s2
  let near := (List.range 128).any (fun x => (s3.diode x).valid && decide (2288 ≤ (s3.diode x).temp))
  let s4 := (s3.setFlag TH_STAT.TRIP_NEAR near).setLive 915 near
  .next (if (s4.diode k).valid && decide (2 ≤ (s4.diode k).hotRun) && !s4.pwr.thermalLatch then thermalShutdown s4 else s4)

/-- TD_SAMPLE (R556): an external input; `ok` is false when it is open or shorted. -/
def execTdSample (n : BitVec 2) (temp : BitVec 16) (ok : Bool) (s : State) : Host.Outcome State Fault Refusal :=
  s.onBlock fun s =>
  let i := n.toNat
  let live (t : Block) (f : Nat → RF) (want : Bool) : Bool :=
    (List.range 4).any (fun j => decide (t.fld (TH_TD0.TYPE j) ≠ 0) && (t.flag (f j) == want))
  .next (if s.fld (TH_TD0.TYPE i) = 0 then s
    else if ok then
      let above := decide (sgn 8 (s.fld (TH_TD0.LIMIT i)) * 16 < temp.toInt)
      let s1 := ((s.setFld (TH_TD1.TEMP i) temp.toNat).setFlag (TH_TD1.OK i) true).setFlag (TH_TD1.OVER i) above
      riseLive 912 false (live s1 TH_TD1.OK false) (riseLive 913 (above && !s.flag (TH_TD1.OVER i)) (live s1 TH_TD1.OVER true) s1)
    else
      let s1 := (s.setFlag (TH_TD1.OK i) false).setFlag (TH_TD1.OVER i) false
      riseLive 913 false (live s1 TH_TD1.OVER true) (riseLive 912 (s.flag (TH_TD1.OK i) || !s.evtLive 912) true s1))

/-! ### Shedding (R563, R566, R567, R568) -/

/-- BOOST holds while step 4 is in force or the rise is being acted on (R563, R567). -/
def syncBoost (s : Block) : Block := s.setFlag TH_STAT.BOOST (decide (4 ≤ s.fld TH_STAT.SHED_STEP) || s.flag TH_STAT.RISE_ACT)

/-- Shedding step `n` comes into force (R567). -/
def setShed (n : Nat) (s : Block) : Block :=
  let old := s.fld TH_STAT.SHED_STEP
  if old = n then s
  else
    let s1 := ((s.setFld TH_STAT.SHED_STEP n).setFlag SYS_STATE.SHEDDING (decide (n ≠ 0))).setFlag STAT_STAT.SHED (decide (2 ≤ n))
    let s2 := { s1 with th := { s1.th with shedStats := decide (2 ≤ n) } }
    let s3 := (s2.policyCairn 0xB02 0x0B02 TH_STAT.addr old n).raise 909
    applyShed (!s3.running) (syncBoost s3)

/-- The temperature in °C at which step `n` is entered (R567, R568). -/
def shedAt (s : Block) (n : Nat) : Nat :=
  match n with
  | 1 => s.fld TH_SHED.S1
  | 2 => s.fld TH_SHED.S2
  | 3 => s.fld TH_SHED.S3
  | 4 => s.fld TH_SHED.S4
  | _ => 144

/-- The hottest forward estimate F_r(h) of R557 and R568, with h the time to drain and seal; none when nothing drains what is
held and a region warms. -/
def forward (s : Block) : Option Rat :=
  let fps := s.fld REC_DRAIN.FPS
  let h : Rat := (if fps = 0 then 0 else (heldSlots s : Rat) * 10 / (fps : Rat)) + 1 / 5
  let hot (r : Nat) : Rat := (clustersOf r).foldl (fun m c => max m (inForce s c)) (-1000)
  if fps = 0 ∧ heldSlots s ≠ 0 ∧ (List.range 8).any (fun r => decide (0 < (s.model r).rho)) = true then none
  else some ((List.range 8).foldl (fun m r => max m (hot r + max 0 (s.model r).rho * h)) (-1000))

/-- The value that a step's threshold is held against: F for step 5, the hottest value for the others; none is beyond every limit. -/
def shedValue (s : Block) (n : Nat) : Option Rat := if n = 5 then forward s else some (hottestNow s)

/-- Steps 1 to 4 are entered at their thresholds (R567), step 5 as R568 states. -/
def shedEnter (s : Block) : Block :=
  let hot := hottestNow s
  let want := ([4, 3, 2, 1].find? (fun n => decide ((shedAt s n : Rat) ≤ hot))).getD 0
  let s1 := if s.fld TH_STAT.SHED_STEP < want then setShed want s else s
  let close := s1.takeOpen && decide (s1.fld TH_STAT.SHED_STEP < 5) &&
    (match forward s1 with | some f => decide ((144 : Rat) ≤ f) | none => true)
  if close then
    let free := s1.rsv.closeOut.isNone && (match s1.rcd.take with | some t => t.closing.isNone | none => false)
    let s2 := setShed 5 s1
    if free then (closeTake (oPolicy 0xB02) 3 s2).raise 914 else s2
  else s1

/-- How long the value has been 3 K below the threshold of the highest step (R567). -/
def shedBelow (s : Block) : Block :=
  let n := s.fld TH_STAT.SHED_STEP
  let below := decide (n ≠ 0) && (match shedValue s n with | some v => decide (v ≤ (shedAt s n : Rat) - 3) | none => false)
  { s with th := { s.th with belowSince := if below then some (s.th.belowSince.getD s.now) else none } }

/-- SHED_STEP_EXIT (R567): the highest step is left, at most one every 10 s, unless R563 or R566 holds it. -/
def execShedStepExit (s : State) : Host.Outcome State Fault Refusal :=
  s.onBlock fun s =>
  let n := s.fld TH_STAT.SHED_STEP
  let long := match s.th.belowSince with | some t => decide (10 * secT ≤ s.sinceT t) | none => false
  let held := (s.flag TH_STAT.RISE_ACT && decide (n ≤ 4)) || (s.flag TH_STAT.COOLING_LOST && decide (n ≤ 3))
  .next (if decide (n ≠ 0) && long && !held && decide (10 * secT ≤ s.sinceT s.th.stepAt) then
      let s1 := setShed (n - 1) s
      shedBelow { s1 with th := { s1.th with stepAt := s1.now, belowSince := none } }
    else s)

/-- RISE_SHED_ADVANCE (R563): one step more every 500 ms while a fast rise lasts, up to step 4. -/
def execRiseShedAdvance (s : State) : Host.Outcome State Fault Refusal :=
  s.onBlock fun s =>
  .next (if s.flag TH_STAT.RISE_ACT && decide (500 * msT ≤ s.sinceT s.th.actStepAt) then
      let s1 := if s.fld TH_STAT.SHED_STEP < 4 then setShed (s.fld TH_STAT.SHED_STEP + 1) s else s
      { s1 with th := { s1.th with actStepAt := s1.now } }
    else s)

/-! ### Rate of rise (R562, R563) -/

/-- Has a condition lasted `d` ticks since `t`? -/
def lasted (s : Block) (t : Option Tick) (d : Nat) : Bool := match t with | some x => decide (d ≤ s.sinceT x) | none => false

/-- Since when a condition holds. -/
def holdSince (s : Block) (c : Bool) (t : Option Tick) : Option Tick := if c then some (t.getD s.now) else none

/-- The two thresholds on the package rate `p` (R563). -/
def riseActions (p : Rat) (s : Block) : Block :=
  let alert : Rat := s.fld TH_CFG.RISE_ALERT
  let act : Rat := s.fld TH_CFG.RISE_ACT
  let s1 := { s with th := { s.th with
    alertSince := holdSince s (decide (alert ≤ p)) s.th.alertSince, alertLow := holdSince s (decide (p < alert - 1)) s.th.alertLow,
    actSince := holdSince s (decide (act ≤ p)) s.th.actSince, actLow := holdSince s (decide (p < 8)) s.th.actLow } }
  let s2 := if lasted s1 s1.th.alertSince (100 * msT) then (s1.setFlag TH_STAT.RISE_ALERT true).setLive 906 true
    else if lasted s1 s1.th.alertLow secT then (s1.setFlag TH_STAT.RISE_ALERT false).setLive 906 false else s1
  if lasted s2 s2.th.actSince (100 * msT) then
    if s2.flag TH_STAT.RISE_ACT then s2
    else
      let s3 := syncBoost ((s2.setFlag TH_STAT.RISE_ACT true).setLive 907 true)
      let s4 := if s3.fld TH_STAT.SHED_STEP < 4 then setShed (s3.fld TH_STAT.SHED_STEP + 1) s3 else s3
      { s4 with th := { s4.th with actStepAt := s4.now } }
  else if s2.flag TH_STAT.RISE_ACT && lasted s2 s2.th.actLow (2 * secT) then
    syncBoost ((s2.setFlag TH_STAT.RISE_ACT false).setLive 907 false)
  else s2

/-! ### The region model (R557, R560 to R563) -/

/-- The estimates of region `r` after one step at power `p` (R557). -/
def modelStep (r : Nat) (p : Rat) (s : Block) : Block :=
  let m := s.model r
  let v := validDiodes s r
  let m1 := m.m + (m.b + 2 / 5 * p - m.m) / 1500
  if 4 ≤ v.length then
    let mean := (v.map (fun c => (s.diode c).read)).sum / (v.length : Rat)
    let s1 := s.setModel r { m with m := m1 + (mean - m1) / 16, b := m.b + (mean - 2 / 5 * p - m.b) / 4096 }
    v.foldl (fun (t : Block) c =>
      let d := t.diode c
      t.setDiode c { d with o := d.o + (d.read - mean - d.o) / 60000 }) s1
  else s.setModel r { m with m := m1 }

/-- Penalties that have ended (R559): the diode valid again for 10 s, or 4 diodes valid again. -/
def endPenalties (r : Nat) (s : Block) : Block :=
  let done (p : Nat × Nat) : Bool :=
    decide (p.1 = r) && (if p.2 = 16 then decide (4 ≤ (validDiodes s r).length)
      else
        let d := s.diode ((clustersOf r).getD p.2 0)
        d.valid && lasted s d.validAt (10 * secT))
  { s with th := { s.th with penalty := s.th.penalty.filter (fun p => !done p) } }

/-- The hottest cluster of a region by local number, with its value. -/
def hottestOf (s : Block) (r : Nat) : Nat × Rat :=
  (clustersOf r).zipIdx.foldl (fun (b : Nat × Rat) ci => if b.2 < inForce s ci.1 then (ci.2, inForce s ci.1) else b) (0, -1000)

/-- Rates of rise of region `r`, and the values in force noted for the next 250 ms (R562). -/
def riseStep (r : Nat) (s : Block) : Block :=
  let rate (t : Block) (c : Nat) : Rat :=
    let h := (t.diode c).history
    if h.length < 250 then 0 else 4 * (inForce t c - h.getD 249 0)
  let rho := (clustersOf r).foldl (fun m c => max m (rate s c)) (-100000)
  let s1 := (clustersOf r).foldl (fun (t : Block) c =>
    t.setDiode c { t.diode c with history := ((inForce s c) :: (t.diode c).history).take 250 }) s
  let best := (clustersOf r).foldl (fun (b : Nat × Rat) c => if b.2 < rate s c then (c, rate s c) else b) (0, -100000)
  let s2 := s1.setModel r { s1.model r with rho := rho }
  let p := (List.range 8).foldl (fun m x => max m (s2.model x).rho) (-100000)
  let s3 := s2.setFld TH_RISE.RATE (unsgn 16 (p * 16).floor)
  if rho = p then s3.setFld TH_RISE.CLUSTER best.1 else s3

/-- REGION_MODEL_STEP (R557 to R563, R567, R568): every 1 ms, with the power measured on RLr and RCr in 10 mW. -/
def execRegionModelStep (r : BitVec 3) (rl : BitVec 16) (rc : BitVec 16) (s : State) : Host.Outcome State Fault Refusal :=
  s.onBlock fun s =>
  let k := r.toNat
  let s1 := (s.setFld (TH_RPWR.RL k) rl.toNat).setFld (TH_RPWR.RC k) rc.toNat
  let stale := (validDiodes s1 k).filter (fun c => decide (5 * msT ≤ s1.sinceT (s1.diode c).sampleAt))
  let s2 := stale.foldl (fun t c => invalidate c t) s1
  let s3 := modelStep k (((rl.toNat + rc.toNat : Nat) : Rat) / 100) s2
  let s4 := if (validDiodes s3 k).length < 4 then addPenalty k 16 s3 else s3
  let s5 := riseStep k (endPenalties k s4)
  let hot := hottestOf s5 k
  let m := s5.model k
  let s6 := s5.setModel k { m with bandCluster := hot.1, rawBand := nextBand m.rawBand hot.2 }
  let s7 := ((s6.setFld (TH_REGION.HOT_CLUSTER k) hot.1).setFld (TH_REGION.TEMP k) (unsgn 16 (hot.2 * 16).floor))
  let s8 := { s7 with th := { s7.th with
    hottest := max s7.th.hottest (hot.2 * 16).floor, coldest := min s7.th.coldest (coldestNow s7 * 16).floor } }
  let p := (List.range 8).foldl (fun x i => max x (s8.model i).rho) (-100000)
  let s9 := shedBelow (shedEnter (riseActions p (syncBand k s8)))
  .next { s9 with th := { s9.th with bandsSeen := s9.th.bandsSeen ||| 2 ^ s9.fld TH_STAT.BAND } }

/-! ### Cooling (R564 to R566) -/

/-- TD0 in 1/16 °C, while its reading is valid. -/
def hotSide (s : Block) : Option Int := if s.flag (TH_TD1.OK 0) then some (sgn 16 (s.fld (TH_TD1.TEMP 0))) else none

/-- TD0 is more than `n` K above HOT_MAX. -/
def hotAbove (s : Block) (n : Nat) : Bool :=
  match hotSide s with | some t => decide (((s.fld TH_TEC.HOT_MAX + n : Nat) : Int) * 16 < t) | none => false

/-- Cooling is lost (R566), with its cause: 1 engine, 2 stall, 3 hot side. -/
def coolingLost (cause : Nat) (s : Block) : Block :=
  if s.flag TH_STAT.COOLING_LOST then { s with th := { s.th with coolSince := none } }
  else
    let s1 := (s.setFlag TH_STAT.COOLING_LOST true).setLive 908 true
    let s2 := s1.policyCairn 0xB03 0x0B04 TH_COOL_STAT.addr 0 cause
    let s3 := { s2 with th := { s2.th with coolSince := none } }
    setShed (max 3 (s3.fld TH_STAT.SHED_STEP)) s3

/-- The cause of a loss of cooling that is present now. -/
def coolCause (s : Block) : Option Nat :=
  if s.fld (ENG_STAT.STATE 132) = 2 ∨ s.fld (ENG_STAT.STATE 133) = 2 then some 1
  else if s.th.fanStalled then some 2 else if hotAbove s 10 then some 3 else none

/-- Loss of cooling follows its causes; it clears 10 s after the last (R566). -/
def coolingCheck (s : Block) : Block :=
  match coolCause s with
  | some c => coolingLost c s
  | none =>
    if s.flag TH_STAT.COOLING_LOST then
      let s1 := { s with th := { s.th with coolSince := some (s.th.coolSince.getD s.now) } }
      if lasted s1 s1.th.coolSince (10 * secT) then
        ({ s1 with th := { s1.th with coolSince := none } } : Block).setFlag TH_STAT.COOLING_LOST false |>.setLive 908 false
      else s1
    else s

/-- The fan duty in percent (R565). -/
def fanDuty (s : Block) : Rat :=
  let lo : Rat := s.fld TH_TEC.FAN_MIN
  if s.flag TH_STAT.BOOST then 100
  else
    match hotSide s with
    | none => 100
    | some t =>
      let v : Rat := (t : Rat) / 16
      if v < 30 then lo else if 60 ≤ v then 100 else lo + (100 - lo) * (v - 30) / 30

/-- A duty word: HIGH in ticks of a PWM period, and DIR (R564). -/
def dutyWord (duty : Rat) (period : Nat) (dir : Bool) : Word := BitVec.ofNat 32 ((duty * (period : Rat) / 100).floor.toNat % 2 ^ 24 + b2n dir * 2 ^ 24)

/-- The cooling duty wanted, and the integral after this step (R564): frozen while the duty is held at a limit. -/
def coolDuty (s : Block) : Rat × Rat :=
  let top : Rat := if s.flag TH_STAT.BOOST then 100 else (s.fld TH_TEC.MAX_NORMAL : Rat)
  let limit : Rat := if hotAbove s 0 then min top 50 else top
  let e : Rat := hottestNow s - (sgn 8 (s.fld TH_TEC.TARGET) : Rat)
  let i := s.th.integral + e / 100
  let raw := 5 * e + i / 2
  if raw < 0 then (0, s.th.integral) else if limit < raw then (limit, s.th.integral) else (raw, i)

/-- Is the TEC to heat (R564)? -/
def wantsHeat (s : Block) : Bool :=
  s.flag TH_TEC.HEAT_EN && (decide (coldestNow s < -25) || (s.flag TH_STAT.HEATING && decide (coldestNow s < -18)))

/-- The TEC and fan demand of one control step (R564, R565). -/
def coolDemand (s : Block) : Block :=
  let heat := wantsHeat s
  let s1 := (s.setFlag TH_STAT.HEATING heat).setLive 917 (hotAbove s 0)
  let cool := coolDuty s1
  let want : Rat := if heat then (s1.fld TH_TEC.MAX_NORMAL : Rat) else cool.1
  let turn := s1.flag TH_COOL_STAT.TEC_DIR != heat
  let dir := if turn && lasted s1 s1.th.dutyZeroAt (100 * msT) then heat else s1.flag TH_COOL_STAT.TEC_DIR
  let duty : Rat := if dir = heat then want else 0
  let fan := fanDuty s1
  let s2 := ((s1.setFld TH_COOL_STAT.TEC_DUTY duty.floor.toNat).setFlag TH_COOL_STAT.TEC_DIR dir).setFld TH_COOL_STAT.FAN_DUTY fan.floor.toNat
  let s3 := { s2 with th := { s2.th with
    integral := if heat then s2.th.integral else cool.2,
    dutyZeroAt := if duty = 0 then some (s2.th.dutyZeroAt.getD s2.now) else none,
    fanAt := if s.fld TH_COOL_STAT.FAN_DUTY < 20 ∧ 20 ≤ fan then some s2.now else s2.th.fanAt } }
  let s4 := (postWord 132 0 (dutyWord duty Config.tecPeriod.toNat dir) s3).2
  noteRun TH_COOL_STAT.addr s (postWord 133 0 (dutyWord fan Config.fanPeriod.toNat false) s4).2

/-- TEC_CONTROL (R564, R565, R566): every 10 ms, while CT drives the pins. -/
def execTecControl (s : State) : Host.Outcome State Fault Refusal :=
  s.onBlock fun s =>
  .next (if s.flag SYS_DOMAIN.CT_ON && !notRunning s then flushRuns (coolingCheck (coolDemand s)) else s)

/-- FAN_TACH_WORD (R565): FAN_RPM from one interval; a value beyond its field is free. -/
def execFanTachWord (w : Word) (s : State) : Host.Outcome State Fault Refusal :=
  s.onBlock fun s =>
  let d := w.toNat * Config.fanPulses.toNat
  let v := 48000000000 / d
  let s1 := popSunk 5 s
  let s2 := if d = 0 ∨ 65535 < v then (s1.draw).setFld TH_COOL_STAT.FAN_RPM s1.drawn.toNat else s1.setFld TH_COOL_STAT.FAN_RPM v
  .next (({ s2 with th := { s2.th with fanAt := some s2.now, fanStalled := false } } : Block).setLive 916 false)

/-- FAN_STALL (R565, R566): no tachometer word for 2 s at a duty of 20 % or more. -/
def execFanStall (s : State) : Host.Outcome State Fault Refusal :=
  s.onBlock fun s =>
  .next (if 20 ≤ s.fld TH_COOL_STAT.FAN_DUTY ∧ lasted s s.th.fanAt (2 * secT) = true ∧ s.th.fanStalled = false then
      coolingLost 2 (({ s with th := { s.th with fanStalled := true } } : Block).setLive 916 true)
    else s)

/-! ### Engine faults (R241, R242, R566) -/

/-- Engine `e` faults with a cause; PE-TEC and PE-FAN take cooling with them. -/
def engineFault (e cause : Nat) (s : Block) : Block :=
  if e < 128 then masonFault e cause s
  else
    let s1 := pinFault e cause s
    if e = 132 ∨ e = 133 then coolingLost 1 s1 else s1

/-- ENGINE_FAULT (R241): causes 1 to 5; a faulted engine faults no more. -/
def execEngineFault (e : BitVec 8) (cause : BitVec 3) (s : State) : Host.Outcome State Fault Refusal :=
  s.onBlock fun s =>
  let k := e.toNat
  if 144 ≤ k then .fault .noSuchEngine
  else .next (if 1 ≤ cause.toNat ∧ cause.toNat ≤ 5 ∧ s.fld (ENG_STAT.STATE k) ≠ 2 then engineFault k cause.toNat s else s)

/-! ### Core voltage (R46, R570) -/

/-- The slowest valid delay monitor, in ps. -/
def slowest (s : Block) : Nat :=
  (List.range 128).foldl (fun m c => if s.flag (MSN_CLUSTER.DLY_OK c) then max m (s.fld (MSN_CLUSTER.DLY c)) else m) 0

/-- VID_CONTROL_TICK (R570): every 10 ms the code wanted moves by one, up to 50 and down to the floor; without the core, not
down (R618). -/
def execVidControlTick (s : State) : Host.Outcome State Fault Refusal :=
  s.onBlock fun s =>
  let d := slowest s
  let code := s.fld SYS_VID.CODE
  let high := decide (s.fld TH_VID_TGT.DLY_RAISE < d)
  let low := decide (d < s.fld TH_VID_TGT.DLY_LOWER)
  let s1 := { s with th := { s.th with
    vidLowSince := holdSince s low s.th.vidLowSince, vidHighSince := holdSince s (high && decide (code = 50)) s.th.vidHighSince } }
  let target := if high then min 50 (code + 1)
    else if lasted s1 s1.th.vidLowSince (100 * msT) && !s1.pwr.coreDown then max (vidMin s1) (code - 1) else max (vidMin s1) code
  let s2 := { s1 with pwr := { s1.pwr with vidTarget := max target (vidMin s1) } }
  let ceiling := lasted s2 s2.th.vidHighSince (100 * msT)
  let s3 := if ceiling && !s2.evtLive 918 then startPlan s2 else s2
  .next (flushRuns (s3.setLive 918 ceiling))

/-- Is a readout window of the schedule open (R46)? -/
def inReadout (s : Block) : Bool :=
  s.ft.frames.any (fun f => match f.last with | some t => decide (s.sinceT t < f.tro) | none => false)

/-- VID_STEP (R46): one code, at least 10 µs after the last step; down only outside the readout window. -/
def execVidStep (s : State) : Host.Outcome State Fault Refusal :=
  s.onBlock fun s =>
  let code := s.fld SYS_VID.CODE
  .next (if s.pwr.vidDriven && decide (10 * usT ≤ s.sinceT s.pwr.lastVidStep) then
      let go (v : Nat) : Block := noteRun SYS_VID.addr s ({ s with pwr := { s.pwr with lastVidStep := s.now } }.setFld SYS_VID.CODE v)
      if code < s.pwr.vidTarget ∧ code < 50 then go (code + 1)
      else if s.pwr.vidTarget < code ∧ inReadout s = false then go (code - 1)
      else s
    else s)

end Sys2Proof.Machine
end

