-- ==== Sys2Proof/Machine/Hourly.lean ====
section
/-! DEFINITION. Ageing (R571 to R577): the hourly history record, the margin plan's computation, and the 0x0Bxx opcodes
(R585). -/

namespace Sys2Proof.Machine

/-! ### History records (R573, R574) -/

/-- NVM offset of history record `q` (R574). -/
def historyOffset (q : Nat) : Nat := 0x2A80000 + q % 32768 * 64

/-- Bytes of history record `q`. -/
def historyBytes (s : Block) (q : Nat) : List Byte := s.nvmBytes (historyOffset q) 64

/-- Is the record as read right by its own check (R115)? -/
def historyGood (l : List Byte) : Bool := decide (crc32 (l.take 60) = BitVec.ofNat 32 (leAt l 60 4))

/-- Mean OFS_H of region `r`, in quarter codes (R573). -/
def ofsMean (s : Block) (r : Nat) : Rat :=
  let us := (List.range 2462720).filter (fun u => decide (regionOf (clusterOf u) = r))
  ((us.map (fun u => bitsOf (s.calEntry u).toNat 0 13)).sum : Rat) / (us.length : Rat)

/-- Comparator drift of region `r` (R573), in whole quarter codes, ties upwards. -/
def driftOf (s : Block) (r : Nat) : Int := ratRound (ofsMean s r - smGet 0 s.th.driftBase r)

/-- Worst eye margin of port `t` (R574). -/
def portMargin (s : Block) (t : Nat) : Nat := (List.range (portWidth t)).foldl (fun m i => min m (s.lane (laneBase t + i)).margin) 255

/-- A_r as last measured (R571): of this hour, else of the last good record, else that of a new part. -/
def ageIndex (s : Block) (r : Nat) : Rat :=
  match s.th.aHour.find? (fun e => decide (e.1 = r)) with
  | some e => e.2
  | none =>
    let l := historyBytes s (s.th.historySeq - 1)
    if 1 ≤ s.th.historySeq ∧ historyGood l = true then (leAt l (16 + 2 * r) 2 : Rat) / 32768 else 1

/-- The 64 bytes of a history record (R574). -/
def historyRecord (s : Block) : List Byte :=
  let b := leBytes 4 s.th.historySeq ++ leBytes 8 s.now.toNat ++ leBytes 4 (s.fld AG_HOURS.HOURS) ++
    (List.range 8).flatMap (fun r => leBytes 2 (ageIndex s r * 32768).floor.toNat) ++
    (List.range 8).flatMap (fun t => leBytes 1 (portMargin s t)) ++
    (List.range 8).flatMap (fun r => leBytes 1 (unsgn 8 (clampInt (-127) 127 (driftOf s r)))) ++
    leBytes 2 (s.fld AG_STAT.ETA) ++ leBytes 2 (unsgn 16 s.th.hottest) ++ leBytes 2 (unsgn 16 s.th.coldest) ++
    leBytes 2 (s.th.bandsSeen % 64) ++ zeros 4
  b ++ wordBytes (crc32 b)

/-- The first record after a full calibration fixes what drift is measured from (R573). -/
def driftAnchor (s : Block) : Block :=
  if s.th.driftCal = some s.cal.fullCount then s
  else { s with th := { s.th with driftCal := some s.cal.fullCount, driftBase := (List.range 8).map (fun r => (r, ofsMean s r)) } }

/-- AGEING_HOURLY (R574, R575): `index` holds A_r × 32,768 by region, `served` the lowest ratio of bytes served to U × 65,536. The
core writes it; while it is down the record waits (R618). -/
def execAgeingHourly (index : List (BitVec 16)) (served : BitVec 16) (s : State) : Host.Outcome State Fault Refusal :=
  s.onBlock fun s =>
  .next (if s.pwr.coreDown || !s.flag SYS_DOMAIN.CT_ON then s
    else
      let s1 := { s.incFld AG_HOURS.HOURS 1 with th := { s.th with
        aHour := (index.take 8).zipIdx.map (fun e => (e.2, (e.1.toNat : Rat) / 32768)), etaHour := (served.toNat : Rat) / 65536 } }
      let s2 := driftAnchor s1
      let s3 := s2.nvmWord ⟨historyOffset s2.th.historySeq, historyRecord s2, .bytes⟩
      let high := (List.range 8).any (fun r => decide (64 < (driftOf s2 r).natAbs))
      let s4 := s3.setLive 1012 high
      startPlan { s4 with th := { s4.th with
        historySeq := s4.th.historySeq + 1, slowPast := s4.th.slowHour, slowHour := [], hottest := -32768, coldest := 32767,
        bandsSeen := 0 } })

/-! ### The plan (R575 to R577) -/

/-- The good records among the last 500, as (hours, A_r). -/
def ageRecords (s : Block) (r : Nat) : List (Rat × Rat) :=
  ((List.range (min 500 s.th.historySeq)).map (fun i => historyBytes s (s.th.historySeq - 1 - i))).filterMap (fun l =>
    if historyGood l then some ((leAt l 12 4 : Rat), (leAt l (16 + 2 * r) 2 : Rat) / 32768) else none)

/-- The least-squares slope of points; 0 where they give none. -/
def slopeOf (l : List (Rat × Rat)) : Rat :=
  let n : Rat := l.length
  let sx := (l.map (fun p => p.1)).sum
  let sy := (l.map (fun p => p.2)).sum
  let sxy := (l.map (fun p => p.1 * p.2)).sum
  let sxx := (l.map (fun p => p.1 * p.1)).sum
  let d := n * sxx - sx * sx
  if d = 0 then 0 else (n * sxy - sx * sy) / d

/-- G_r (R576). -/
def guardOf (s : Block) (r : Nat) : Rat := 1 / 10 + 1000 * max 0 (slopeOf (ageRecords s r))

/-- TC (R577): from the worst SLOW_NODE of the hour, with 1 + G_r. -/
def planTc (s : Block) : Nat :=
  (List.range 8).foldl (fun m r =>
    let w := max (smGet 0 s.th.slowHour r) (smGet 0 s.th.slowPast r)
    max m (((8 * w : Nat) : Rat) * (1 + guardOf s r)).ceil.toNat) 128000

/-- The plan as computed now (R576, R577). -/
def planModel (s : Block) : PlanModel :=
  { num := s.th.plan.num + 1, a := (List.range 8).map (fun r => (r, ageIndex s r)),
    g := (List.range 8).map (fun r => (r, guardOf s r)), tc := planTc s, eta := max (3 / 5) (min (41 / 50) (s.th.etaHour - 1 / 50)) }

/-- PLAN_COMPUTE_DONE (R575): the values await the next FCP; with no schedule they are published now. -/
def execPlanComputeDone (s : State) : Host.Outcome State Fault Refusal :=
  s.onBlock fun s =>
  .next (if s.th.planRun.isSome && !s.pwr.coreDown then
      let m := planModel s
      let s1 := ({ s with th := { s.th with planRun := none, planNext := some m } } : Block).setFlag AG_STAT.RUNNING false
      let s2 := s1.setLive 1010 ((List.range 8).any (fun r => decide ((1 / 5 : Rat) < smGet (1 / 10) m.g r)))
      if s2.running then s2 else rateCheck (publishPlan s2)
    else s)

/-! ### The opcodes (R585) -/

/-- TH_GET_STATE (R585). -/
def execThGetState (q : Req) (s : State) : Host.Outcome State Fault Refusal :=
  s.onBlock fun s =>
  runReq 0x0B00 0 100 q (fun _ => [shape q 0 []])
    (fun a => a.reply q 0x0B00 stOk
      ([TH_STAT.addr, TH_SHED.addr, TH_TEC.addr, TH_COOL_STAT.addr, TH_RISE.addr].flatMap (fun x => readFrom a x 1) ++
        readFrom a (TH_REGION.addr 0) 16 ++ (List.range 4).flatMap (fun i => readFrom a (TH_TD1.addr i) 1))) s

/-- Words of TH_SET_COOLING. -/
def coolingWords (q : Req) : List WordW :=
  [⟨TH_TEC.addr, BitVec.ofNat 32 (pNat q 0 4), 0xFFFFFFFF⟩, ⟨TH_SHED.addr, BitVec.ofNat 32 (pNat q 4 4), 0xFFFFFFFF⟩]

/-- TH_SET_COOLING (R585). -/
def execThSetCooling (q : Req) (s : State) : Host.Outcome State Fault Refusal :=
  s.onBlock fun s =>
  runReq 0x0B01 2 0 q (fun a => shape q 8 [] :: writeChecks a (classOf a q.carrier) false 0 (coolingWords q))
    (fun a => (writeWords (originOf q.carrier) true (coolingWords q) a).reply q 0x0B01 stOk []) s

/-- AG_GET_PLAN (R578, R585). -/
def execAgGetPlan (q : Req) (s : State) : Host.Outcome State Fault Refusal :=
  s.onBlock fun s =>
  let n := pByte q 0
  runReq 0x0B02 0 96 q (fun a => [shape q 4 [1, 2, 3], bad (!profileValid a n)])
    (fun a =>
      let rd := (advRd a n).getD regReset
      a.reply q 0x0B02 stOk ((List.range 6).flatMap (fun b =>
        let v := planVals a.th.plan rd (fun _ => b)
        leBytes 4 v.pmin ++ leBytes 4 v.tro ++ leBytes 4 v.tfree ++ leBytes 2 (advRate a n b) ++ zeros 2))) s

/-- AG_READ_HISTORY (R585): at most 63 records, 7 on the mailbox; a sequence not held is BAD_PARAM. -/
def execAgReadHistory (q : Req) (s : State) : Host.Outcome State Fault Refusal :=
  s.onBlock fun s =>
  let first := pNat q 0 4
  let n := pNat q 4 2
  let top := match q.carrier with | .twoWire _ _ => 7 | _ => 63
  runReq 0x0B03 0 (64 * n) q (fun a => [shape q 8 [6, 7], bad (decide (n = 0) || decide (top < n)),
      bad (decide (a.th.historySeq < first + n) || decide (first + 32768 < a.th.historySeq))])
    (fun a => a.reply q 0x0B03 stOk ((List.range n).flatMap (fun i => historyBytes a (first + i)))) s

/-- AG_RECOMPUTE (R575, R585): BUSY while a plan runs; the reply follows the publication. -/
def execAgRecompute (q : Req) (s : State) : Host.Outcome State Fault Refusal :=
  s.onBlock fun s =>
  runReq 0x0B04 2 4 q (fun a => [shape q 0 [], (a.th.planRun.isSome, stBusy)])
    (fun a => (startPlan a).replyLater q 0x0B04 stOk [] .plan) s

end Sys2Proof.Machine
end

