-- ==== Sys2Proof/Machine/Reserve.lean ====
section
/-! DEFINITION. The reserve power path (chapter 18): hand-over and return, close-out, burst depth, charging, the cell, the button,
ship mode and the lamps. -/

namespace Sys2Proof.Machine

/-! ### Shared -/

/-- Change what the reserve path holds beyond its registers. -/
def Block.onRsv (s : Block) (g : RsvState → RsvState) : Block := { s with rsv := g s.rsv }

/-- CHARGE becomes `v`, in runs (R444, R603, R607), with the duty of that phase; the phase starts now. -/
def setCharge (v : Nat) (s : Block) : Block :=
  let s1 := noteRun RSV_STAT.addr s (s.setFld RSV_STAT.CHARGE v)
  s1.onRsv (fun r => { r with duty := decide (v = 1 ∨ v = 3 ∨ v = 4), phaseAt := s.now, cv := false,
                              search := if v = 1 ∨ v = 3 ∨ v = 4 then r.search else none })

/-- The charger stops: duty 0 (R589, R598). -/
def stopCharge (s : Block) : Block := if s.fld RSV_STAT.CHARGE = 0 then s.onRsv (fun r => { r with duty := false }) else setCharge 0 s

/-! ### Hand-over and close-out (R589, R591, R592) -/

/-- A domain goes off if it is on, or stops being switched on. -/
def dropDomain (b : Nat) (s : Block) : Block :=
  if (s.reg SYS_DOMAIN.addr).getLsbD b then domainOff b s
  else { s with pwr := { s.pwr with switching := s.pwr.switching.filter (fun x => decide (x ≠ b)) } }

/-- Does the open take write to a peer's magazine? -/
def takeToPeer (s : Block) : Bool := match s.rcd.take with | some t => t.mags.contains 2 | none => false

/-- Close-out begins (R591 steps 1, 2 and 4). -/
def startCloseOut (s : Block) : Block :=
  let s1 := stopCapture (s.policy 0xC02)
  let s2 := dropDomain 20 (dropDomain 19 (syncMon (dropDomain 16 s1)))
  let s3 := if takeToPeer s2 then s2 else dropDomain 21 s2
  let c : CloseOut := { since := s.now, energy := energyUse s, drawn := 0, take := (s.rcd.take.map (fun t => t.num)).getD 0,
                        stubbed := 0, ended := false, vinBack := false }
  closeTake (oPolicy 0xC02) 4 (s3.onRsv (fun r => { r with closeOut := some c }))

/-- The VIN path opens, the charger stops, and STATE becomes RESERVE (R589 steps 1 and 2). -/
def toReserve (pg : Bool) (s : Block) : Block :=
  let old := s.fld RSV_STAT.STATE
  let s1 := (stopCharge (s.onRsv (fun r => { r with oring := false }))).setFlag RSV_STAT.VIN_STABLE false
  let s2 := ((s1.setFld RSV_STAT.STATE 1).setLive 944 true).policyCairn 0xC02 0x0C01 RSV_STAT.addr old 1
  if pg then s2 else (s2.setFlag RSV_STAT.BOOST_FAULT true).raise 951

/-- VIN_LOSS (R589): `pg` tells whether RSV_BOOST_PG is high by 5 µs. VIN lost again during a close-out leaves it running (R590). -/
def execVinLoss (pg : Bool) (s : State) : Host.Outcome State Fault Refusal :=
  s.onBlock fun s =>
  .next (if s.pwr.shipLatch then s
    else match s.rsv.closeOut with
      | some c =>
        if c.vinBack then toReserve pg (s.onRsv (fun r => { r with closeOut := some { c with vinBack := false } })) else s
      | none =>
        if s.fld RSV_STAT.STATE = 0 then startCloseOut (toReserve pg s)
        else (s.onRsv (fun r => { r with oring := false })).setFlag RSV_STAT.VIN_STABLE false)

/-- VIN_RETURN_STABLE (R590): VIN has stayed above VIN_OK for 20 ms. -/
def execVinReturnStable (vin : BitVec 16) (s : State) : Host.Outcome State Fault Refusal :=
  s.onBlock fun s =>
  .next (if s.pwr.shipLatch || decide (vin.toNat ≤ 10 * s.fld RSV_VIN_CFG.VIN_OK) then s
    else
      let s1 := ((s.setFld RSV_VIN.VIN vin.toNat).setFlag RSV_STAT.VIN_STABLE true).setLive 944 false
      let s2 := if s.rsv.oring then s1 else s1.raise 945
      s2.onRsv (fun r => { r with oring := true, closeOut := r.closeOut.map (fun c => { c with vinBack := true }) }))

/-- The payload of frame `n` on magazine `m` goes no further; the blocks behind its header are free again. -/
def cutAshlar (n m : Nat) (s : Block) : Block :=
  match (s.rcd.take.bind (fun t => t.part? m)).bind (fun p => p.index.find? (fun e => decide (e.frame = n))) with
  | none => s
  | some e =>
    let g := s.mag m
    let mine (c : MagCmd) : Bool := decide (c.purpose = .payload n)
    let last := decide (e.block + e.blocks = g.sb.alloc)
    let g1 := { g with
      todo := g.todo.filter (fun c => !mine c), out := g.out.map (fun c => if mine c then { c with purpose := .other } else c),
      sb := { g.sb with alloc := if last then e.block + 16 else g.sb.alloc } }
    (syncFree m (s.setMag m g1)).onTake (fun t => t.onPart m (fun p => { p with
      endBlock := if last then e.block + 16 else p.endBlock,
      index := p.index.map (fun x => if x.frame = n then { x with blocks := 16 } else x) }))

/-- A frame still held becomes a stub (R359, R592): INCOMPLETE and NO_SLOT, without a payload. -/
def stubHeld (n : Nat) (s : Block) : Block :=
  let ds := ((s.slot? n).map (fun l => l.draining)).getD []
  let s1 := ds.foldl (fun a d => if d < 20 ∧ d % 10 < 2 then cutAshlar n (d % 10) a else a) s
  let s2 := s1.onSlot n (fun l => { l with stub := true, index := 0, claims := [], draining := l.draining.map (fun d => if d < 10 then d + 10 else d) })
  (s2.marks n [fIncomplete, fNoSlot]).satFld REC_FILL.STUBS_TOTAL 1

/-- Frames of the take that are still held, their headers not on their way. -/
def heldFrames (s : Block) : List Nat :=
  match s.rcd.take with
  | some t => ((takeSlots s t.num).filter (fun l => !l.stub && l.header.isNone && l.guest.isNone)).map (fun l => l.frame)
  | none => []

/-- Step 3 of the close-out ends early (R592): what is still held is written as stubs. -/
def endDrain (c : CloseOut) (s : Block) : Block :=
  let ns := heldFrames s
  let s1 := ((s.setFlag RSV_STAT.CELL_FAULT true).raise 950).onRsv (fun r => { r with
    closeOut := some { c with stubbed := c.stubbed + ns.length, ended := true } })
  let s2 := syncFill (ns.foldl (fun t n => stubHeld n t) s1)
  closeSteps (pumpHeaders s2.rcd.slots.length s2)

/-- Does the energy left no longer reach (R592)? With frames held and nothing to drain them it does not. -/
def energyShort (c : CloseOut) (mv : Nat) (s : Block) : Bool :=
  let fps := s.fld REC_DRAIN.FPS
  let held := (heldFrames s).length
  decide (mv < 3000) || (decide (fps = 0) && decide (held ≠ 0)) ||
    decide (c.energy - (c.drawn : Rat) / 100000000 <
      (s.fld RSV_CFG.P_CLOSE : Rat) * ((if fps = 0 then 0 else (held : Rat) * 10 / (fps : Rat)) + 3 / 10))

/-- ENERGY_CHECK (R592): every 10 ms, with the cell's voltage and signed current. -/
def execEnergyCheck (mv : BitVec 16) (ma : BitVec 16) (s : State) : Host.Outcome State Fault Refusal :=
  s.onBlock fun s =>
  .next (match s.rsv.closeOut with
    | none => s
    | some c =>
      let c1 := { c with drawn := c.drawn + mv.toNat * (-ma.toInt).toNat }
      let s1 := (s.setFld RSV_CELL.I_CELL ma.toNat).onRsv (fun r => { r with closeOut := some c1 })
      if !c.ended && s.takeOpen && energyShort c1 mv.toNat s1 then endDrain c1 s1 else s1)

/-- CLOSE_OUT_DONE (R591 steps 5 and 6, R59): the cairns are flushed; with VIN back the part stays up, else the supplies go. A
reset that was held off acts now. -/
def execCloseOutDone (s : State) : Host.Outcome State Fault Refusal :=
  s.onBlock fun s =>
  .next (match s.rsv.closeOut with
    | none => s
    | some c =>
      if s.takeOpen || s.pwr.coreDown then s
      else
        let s1 := flushLog (((flushLog s).policyCairn 0xC02 0x0C02 RSV_STAT.addr c.take c.stubbed).raise 946)
        let s2 := s1.onRsv (fun r => { r with closeOut := none, boost := r.boost && c.vinBack })
        let s3 := if c.vinBack then s2.setFld RSV_STAT.STATE 0
          else { s2.setFld RSV_STAT.STATE 2 with pwr := { s2.pwr with mainEn := false } }
        if s3.pwr.resetAfterCloseOut then
          let s4 := resetLow s3
          match s3.pwr.resetPins with
          | some p => releaseReset p s4
          | none => s4
        else s3)

/-! ### Burst depth (R594) -/

/-- RESERVE_LIMIT_UPDATE (R444, R593, R594): every 100 ms. -/
def execReserveLimitUpdate (s : State) : Host.Outcome State Fault Refusal :=
  s.onBlock fun s =>
  .next (if s.pwr.shipLatch || s.pwr.rstLow then s else flushRuns (updateLimit s))

/-! ### Charging (R595 to R598) -/

/-- Does the charger give current? -/
def charging (s : Block) : Bool := s.rsv.duty && decide (s.fld RSV_STAT.STATE = 0) && s.flag RSV_STAT.CELL_PRESENT

/-- A search ends at step `k` (R595): two steps lower, in 0.1 A; event 956 at a change of 0.5 A or more. -/
def settleIlim (k : Nat) (s : Block) : Block :=
  let old := s.fld RSV_VIN.ILIM
  let new := 25 * k / 10
  let s1 := noteRun RSV_VIN.addr s ((s.setFld RSV_VIN.ILIM new).onRsv (fun r => { r with search := none }))
  if old + 5 ≤ new ∨ new + 5 ≤ old then s1.raise 956 else s1

/-- CHARGE_CURRENT_SEARCH (R595): every 50 ms, with VIN in 10 mV. Step `k` charges with 0.5 A + k × 0.25 A. -/
def execChargeCurrentSearch (vin : BitVec 16) (s : State) : Host.Outcome State Fault Refusal :=
  s.onBlock fun s =>
  let v := vin.toNat
  let s1 := s.setFld RSV_VIN.VIN v
  .next (if s.pwr.shipLatch then s
    else if !charging s1 then s1.onRsv (fun r => { r with search := none })
    else match s1.rsv.search with
      | some k =>
        if v * 100 ≤ s1.rsv.vinBase * 97 ∨ 10 * s1.fld RSV_CFG.ICHG_MAX ≤ 50 + 25 * k then settleIlim k s1
        else s1.onRsv (fun r => { r with search := some (k + 1) })
      | none =>
        let due := (match s1.rsv.searchAt with | none => true | some t => decide (60 * secT ≤ s1.sinceT t)) ||
          decide (v * 100 < s1.rsv.vinBase * 95)
        if due then s1.onRsv (fun r => { r with search := some 0, searchAt := some s1.now, vinBase := v }) else s1)

/-- The pulsed regime applies (R596). -/
def pulsed (s : Block) : Bool :=
  decide (s.fld SYS_BOOT.STAGE = 9) && s.flag SYS_DOMAIN.CT_ON && s.flag RSV_CFG.PULSE_EN && !s.flag ST_STAT.RUNNING && !s.pwr.standby

/-- Charging is held off (R597): the three bits, with 2 K of hysteresis, and event 948. -/
def inhibits (s : Block) : Block :=
  let bad := (cellTemp s).isNone
  let cold := match cellTemp s with | some t => decide (t < if s.flag RSV_STAT.INHIBIT_COLD then 32 else 0) | none => false
  let hot := match cellTemp s with | some t => decide ((if s.flag RSV_STAT.INHIBIT_HOT then 688 else 720) < t) | none => false
  (((s.setFlag RSV_STAT.TD3_BAD bad).setFlag RSV_STAT.INHIBIT_COLD cold).setFlag RSV_STAT.INHIBIT_HOT hot).setLive 948 (bad || cold || hot)

/-- Is charging inhibited? -/
def inhibited (s : Block) : Bool := s.flag RSV_STAT.TD3_BAD || s.flag RSV_STAT.INHIBIT_COLD || s.flag RSV_STAT.INHIBIT_HOT

/-- The first phase of the regime that applies (R596). -/
def startCharge (s : Block) : Block := setCharge (if pulsed s then 1 else 3) s

/-- End of charge (R596). -/
def endCharge (s : Block) : Block := (setCharge 5 s).raise 955

/-- V_rest is taken (R596). -/
def takeRest (mv : Nat) (s : Block) : Block := s.setFld RSV_CELL.V_REST mv

/-- Has the charger's phase lasted `t`? -/
def phaseFor (s : Block) (t : Nat) : Bool := decide (t ≤ s.sinceT s.rsv.phaseAt)

/-- While stopped, a rest is measured every 60 s; charging resumes below `low` mV (R596). -/
def doneStep (low mv : Nat) (s : Block) : Block :=
  if phaseFor s (60 * secT) then
    let s1 := takeRest mv (s.onRsv (fun r => { r with phaseAt := s.now }))
    if mv < low then startCharge s1 else s1
  else s

/-- The pulsed regime (R596). -/
def pulseStep (mv : Nat) (s : Block) : Block :=
  match s.fld RSV_STAT.CHARGE with
  | 1 => if phaseFor s (4 * secT) then setCharge 2 s else s
  | 2 =>
    if phaseFor s secT then
      let s1 := takeRest mv s
      if 4150 ≤ mv then endCharge s1 else setCharge 1 s1
    else s
  | 5 => doneStep 4100 mv s
  | _ => setCharge 1 s

/-- The continuous regime (R596): constant current, constant voltage, top-off. -/
def steadyStep (mv : Nat) (ma : Int) (s : Block) : Block :=
  match s.fld RSV_STAT.CHARGE with
  | 3 =>
    let cv := s.rsv.cv || decide (4200 ≤ mv)
    if cv && decide (ma < 5 * (s.fld RSV_CFG.ICHG_MAX : Int)) then setCharge 4 s else s.onRsv (fun r => { r with cv := cv })
  | 4 => if phaseFor s (600 * secT) then endCharge s else s
  | 5 => doneStep 4050 mv s
  | _ => setCharge 3 s

/-- One evaluation of the charger (R596, R597), with the cell's voltage and current. -/
def chargeStep (mv : Nat) (ma : Int) (s : Block) : Block :=
  let s1 := inhibits (s.setFld RSV_CELL.I_CELL (unsgn 16 ma))
  if inhibited s1 then
    if s1.fld RSV_STAT.CHARGE = 6 then
      if phaseFor s1 (60 * secT) then takeRest mv (s1.onRsv (fun r => { r with phaseAt := s1.now })) else s1
    else setCharge 6 s1
  else if s1.fld RSV_STAT.CHARGE = 6 ∨ s1.fld RSV_STAT.CHARGE = 0 then startCharge s1
  else if pulsed s1 then pulseStep mv s1
  else steadyStep mv ma s1

/-- CHARGE_PHASE_TIMER (R596, R597): a phase of the charger ends. -/
def execChargePhaseTimer (mv : BitVec 16) (ma : BitVec 16) (s : State) : Host.Outcome State Fault Refusal :=
  s.onBlock fun s =>
  .next (if s.pwr.shipLatch then s
    else if s.fld RSV_STAT.STATE = 0 ∧ s.flag RSV_STAT.CELL_PRESENT = true then chargeStep mv.toNat ma.toInt s
    else stopCharge s)

/-- CELL_REMOVED (R598): with the duty above 0, the cell is gone. -/
def execCellRemoved (s : State) : Host.Outcome State Fault Refusal :=
  s.onBlock fun s =>
  .next (if charging s then
      let s1 := (stopCharge s).onRsv (fun r => { r with boost := false })
      let s2 := (s1.setFlag RSV_STAT.CELL_PRESENT false).setLive 949 true
      updateLimit (s2.policyCairn 0xC01 0x0C03 RSV_CELL.addr 1 0)
    else s)

/-- CELL_INSERTED (R598): 100 ms at 3.0 to 4.2 V with the duty at 0. The boost is held high while VIN is good (R588); a rest is
measured and charging starts. -/
def execCellInserted (mv : BitVec 16) (s : State) : Host.Outcome State Fault Refusal :=
  s.onBlock fun s =>
  let v := mv.toNat
  .next (if s.pwr.shipLatch || s.rsv.duty || s.flag RSV_STAT.CELL_PRESENT || decide (v < 3000) || decide (4200 < v) then s
    else
      let vin := decide (s.fld RSV_STAT.STATE = 0)
      let s1 := ((s.setFlag RSV_STAT.CELL_PRESENT true).setLive 949 false).policyCairn 0xC01 0x0C03 RSV_CELL.addr 0 1
      let s2 := (takeRest v s1).onRsv (fun r => { r with boost := r.boost || vin })
      updateLimit (if vin then chargeStep v 0 s2 else s2))

/-! ### Ship mode and the button (R69, R600) -/

/-- Ship mode is entered: event 954 and the cairn, then everything but the latch goes off; the lamps flash three times. -/
def doShip (origin : Nat) (s : Block) : Block :=
  let s1 := (s.raise 954).cairnN origin 0x0C04 RSV_STAT.addr 0 1
  let s2 := enterShip (endMaintain false (fun _ => true) s1)
  s2.onRsv (fun r => { r with oring := s.rsv.oring, boost := false, flashes := 6 })

/-- The 16 s press (R600): capture stops, an open take is closed with cause FORCE, and ship mode follows the close. -/
def shipPress (origin : Nat) (s : Block) : Block :=
  let s1 := stopCapture s
  if s1.takeOpen then closeTake origin 2 (s1.onRsv (fun r => { r with shipDue := some origin })) else doShip origin s1

/-- TAKE_CLOSE_DONE (R510): the take's close ends; ship mode follows when it is due (R600). -/
def execTakeCloseDone (s : State) : Host.Outcome State Fault Refusal :=
  s.onBlock fun s =>
  .next (match s.rcd.take with
    | some t =>
      if closeEnded s t then
        let s1 := finishClose s
        match s1.rsv.shipDue with
        | some o => doShip o s1
        | none => s1
      else s
    | none => s)

/-- The button counts: the part runs or is in standby, and no close-out is under way (R592). -/
def buttonCounts (s : Block) : Bool :=
  s.rsv.closeOut.isNone && decide (s.fld RSV_STAT.STATE = 0) && (s.pwr.standby || !notRunning s)

/-- BUTTON_SHORT_PRESS (R68, R600): in standby it wakes the part, else event 953 only. -/
def execButtonShortPress (s : State) : Host.Outcome State Fault Refusal :=
  s.onBlock fun s =>
  .next (if !buttonCounts s then s else if s.pwr.standby then wake s else s.raise 953)

/-- BUTTON_RESET_PRESS (R600): a reset hold of 500 ms; an open take is left open. -/
def execButtonResetPress (s : State) : Host.Outcome State Fault Refusal :=
  s.onBlock fun s =>
  .next (if buttonCounts s then
      let s1 := (resetKeep true (powerLoss s)).setFld RSV_STAT.STATE 3
      { s1 with pwr := { s1.pwr with rstLow := true, mainEn := false } }
    else s)

/-- RESET_HOLD_END (R600): start-up runs from step 1. -/
def execResetHoldEnd (s : State) : Host.Outcome State Fault Refusal :=
  s.onBlock fun s =>
  .next (if s.fld RSV_STAT.STATE = 3 then
      let s1 := (s.setFld RSV_STAT.STATE 0).onRsv (fun r => { r with boost := s.flag RSV_STAT.CELL_PRESENT })
      { s1 with pwr := { s1.pwr with mainEn := railOk s 0 && railOk s 1 && !s.pwr.shipLatch && !s.pwr.thermalLatch } }
    else s)

/-- BUTTON_SHIP_HOLD (R600): a press held to 16 s. -/
def execButtonShipHold (s : State) : Host.Outcome State Fault Refusal :=
  s.onBlock fun s =>
  .next (if buttonCounts s then shipPress oFirmware s else s)

/-! ### The lamps (R601) -/

/-- STAT_A in slot `n` of the pattern. -/
def lampAt (n : Nat) (s : Block) : Bool :=
  if s.flag RSV_STAT.CELL_PRESENT = false ∨ s.fld RSV_CFG.CAP_MWH = 0 then false
  else if s.fld RSV_STAT.STATE = 1 then decide (n = 1 ∨ n = 3)
  else match s.fld RSV_STAT.CHARGE with
    | 5 => true
    | 6 => decide (n = 1)
    | 0 => false
    | _ => decide (n ≤ 4)

/-- The highest fault present, by its number of flashes on STAT_B. -/
def faultFlashes (s : Block) : Nat :=
  if s.flag RSV_STAT.BOOST_FAULT then 4
  else if s.flag RSV_STAT.CELL_FAULT then 3
  else if s.flag RSV_STAT.CELL_PRESENT = false ∧ s.fld RSV_CFG.CAP_MWH ≠ 0 then 2
  else if s.flag RSV_STAT.UNPROTECTED then 1
  else 0

/-- STATUS_LAMP_SLOT (R601): the next slot of 250 ms; `past8` while a press has passed 8 s. -/
def execStatusLampSlot (past8 : Bool) (s : State) : Host.Outcome State Fault Refusal :=
  s.onBlock fun s =>
  let slot := (s.rsv.lampSlot + 1) % 8
  let n := slot + 1
  let (a, b) : Bool × Bool :=
    if s.rsv.flashes ≠ 0 then (decide (s.rsv.flashes % 2 = 0), decide (s.rsv.flashes % 2 = 0))
    else if s.pwr.shipLatch then (false, false)
    else if past8 then (true, true)
    else (lampAt n s, decide (n % 2 = 1) && decide (n < 2 * faultFlashes s + 1))
  .next (s.onRsv (fun r => { r with lampSlot := slot, flashes := r.flashes - 1, lampA := a, lampB := b }))

/-! ### The opcodes (R605) -/

/-- RSV_GET_STATE (R605). -/
def execRsvGetState (q : Req) (s : State) : Host.Outcome State Fault Refusal :=
  s.onBlock fun s =>
  runReq 0x0C00 0 24 q (fun a => [shape q 0 [], (a.rsv.closeOut.isSome, stBusy)])
    (fun a => a.reply q 0x0C00 stOk (readFrom a RSV_CFG.addr 6)) s

/-- The words of RSV_SET_CONFIG. -/
def reserveWords (q : Req) : List WordW :=
  [⟨RSV_CFG.addr, BitVec.ofNat 32 (pNat q 0 4), 0xFFFFFFFF⟩, ⟨RSV_VIN_CFG.addr, BitVec.ofNat 32 (pNat q 4 4), 0xFFFFFFFF⟩]

/-- RSV_SET_CONFIG (R602, R605): both words at one tick. -/
def execRsvSetConfig (q : Req) (s : State) : Host.Outcome State Fault Refusal :=
  s.onBlock fun s =>
  runReq 0x0C01 2 0 q (fun a => shape q 8 [] :: (a.rsv.closeOut.isSome, stBusy) ::
      writeChecks a (classOf a q.carrier) false 0 (reserveWords q))
    (fun a => (writeWords (originOf q.carrier) true (reserveWords q) a).reply q 0x0C01 stOk []) s

/-- RSV_TEST (R599, R605): the boost carries the part for 20 ms. -/
def execRsvTest (q : Req) (pgFell : Bool) (cellLow : Bool) (s : State) : Host.Outcome State Fault Refusal :=
  s.onBlock fun s =>
  runReq 0x0C02 2 4 q (fun a => [shape q 0 [], (a.rsv.closeOut.isSome, stBusy), (a.takeOpen, stRecording)])
    (fun a =>
      let r := reserveTest pgFell cellLow a
      r.2.reply q 0x0C02 stOk (leBytes 1 r.1 ++ zeros 3)) s

/-- RSV_SHIP (R605): as the 16 s press; the reply leaves first. -/
def execRsvShip (q : Req) (s : State) : Host.Outcome State Fault Refusal :=
  s.onBlock fun s =>
  runReq 0x0C03 1 0 q (fun a => [shape q 0 [], (a.rsv.closeOut.isSome, stBusy), (a.takeOpen && !forced q, stRecording)])
    (fun a => shipPress (originOf q.carrier) (a.reply q 0x0C03 stOk [])) s

end Sys2Proof.Machine
end

