-- ==== Sys2Proof/Machine/Events.lean ====
section
/-! DEFINITION. Events, faults and self-test (chapter 19): the 0x0Dxx and 0x0Fxx opcodes, the control-core watchdog and the core's
restart. -/

namespace Sys2Proof.Machine

/-! ### Event and fault opcodes (R610, R611, R629) -/

/-- The range of an event opcode lies within the events. -/
def evtRange (q : Req) (top : Nat) : Check :=
  bad (decide (pNat q 2 2 = 0) || decide (top < pNat q 2 2) || decide (1024 < pNat q 0 2 + pNat q 2 2))

/-- One event as EVT_GET gives it (R629). -/
def evtRecord (s : Block) (e : Nat) : List Byte :=
  leBytes 1 (b2n (s.evtStatus e)) ++ leBytes 1 (b2n (s.evtLive e)) ++ leBytes 1 (b2n (s.evtMasked e)) ++ [s.evtRoute e] ++
    leBytes 2 (s.evtCount e) ++ zeros 2 ++ leBytes 8 (s.evtStamp e).toNat

/-- EVT_GET (R629). -/
def execEvtGet (q : Req) (s : State) : Host.Outcome State Fault Refusal :=
  s.onBlock fun s =>
  let top := match q.carrier with | .twoWire _ _ => 31 | _ => 255
  runReq 0x0D00 0 (16 * pNat q 2 2) q (fun _ => [shape q 4 [], evtRange q top])
    (fun a => a.reply q 0x0D00 stOk ((List.range (pNat q 2 2)).flatMap (fun i => evtRecord a (pNat q 0 2 + i)))) s

/-- EVT_CLEAR (R610, R629): the whole range at one tick; no cairn (R631). -/
def execEvtClear (q : Req) (s : State) : Host.Outcome State Fault Refusal :=
  s.onBlock fun s =>
  runReq 0x0D01 1 0 q (fun _ => [shape q 4 [], evtRange q 1024])
    (fun a => ((List.range (pNat q 2 2)).foldl (fun (t : Block) i => t.clearEvt (pNat q 0 2 + i)) a).reply q 0x0D01 stOk []) s

/-- Mask or unmask events `e` to `e + n − 1` (R611, R631): one EVT_MASK cairn for each word changed; an event unmasked with its
status set sends its notice. -/
def setMasks (origin e n : Nat) (b : Bool) (s : Block) : Block :=
  let s1 := (List.range n).foldl (fun (t : Block) i => t.setReg (evtMaskA (e + i)) (wput (t.reg (evtMaskA (e + i))) ((e + i) % 32) b)) s
  let s2 := (List.range 32).foldl (fun (t : Block) w =>
    let a := EVT_MASK.addr w
    if s.reg a = s1.reg a then t else t.cairn origin 0x0D02 a (s.reg a) (s1.reg a)) s1
  (List.range n).foldl (fun (t : Block) i => if s.evtMasked (e + i) && !b && t.evtStatus (e + i) then t.notify (e + i) else t) s2

/-- EVT_SET_MASK (R611, R629). -/
def execEvtSetMask (q : Req) (s : State) : Host.Outcome State Fault Refusal :=
  s.onBlock fun s =>
  runReq 0x0D02 2 0 q (fun _ => [shape q 8 [5, 6, 7], evtRange q 1024, bad (decide (1 < pByte q 4))])
    (fun a => (setMasks (originOf q.carrier) (pNat q 0 2) (pNat q 2 2) (decide (pByte q 4 = 1)) a).reply q 0x0D02 stOk []) s

/-- FLT_GET_STATE (R629). -/
def execFltGetState (q : Req) (s : State) : Host.Outcome State Fault Refusal :=
  s.onBlock fun s =>
  runReq 0x0D03 0 24 q (fun _ => [shape q 0 []])
    (fun a => a.reply q 0x0D03 stOk
      ([FLT_STAT.addr, FLT_INTR.addr, WDG_CFG.addr, WDG_STAT.addr, EVT_PENDING.addr, ST_STAT.addr].flatMap
        (fun x => readFrom a x 1))) s

/-- The word of WDG_SET. -/
def wdgWords (q : Req) : List WordW := [⟨WDG_CFG.addr, BitVec.ofNat 32 (pNat q 0 4), 0xFFFFFFFF⟩]

/-- WDG_SET (R620, R629). -/
def execWdgSet (q : Req) (s : State) : Host.Outcome State Fault Refusal :=
  s.onBlock fun s =>
  runReq 0x0D04 3 0 q (fun a => shape q 4 [] :: writeChecks a (classOf a q.carrier) false 0 (wdgWords q))
    (fun a => (writeWords (originOf q.carrier) true (wdgWords q) a).reply q 0x0D04 stOk []) s

/-! ### The control-core watchdog (R617 to R619) -/

/-- WATCHDOG_LOCKUP (R126, R614, R617): CT's core alone resets; MAINTAIN ends for every origin. -/
def execWatchdogLockup (s : State) : Host.Outcome State Fault Refusal :=
  s.onBlock fun s =>
  .next (if s.pwr.coreDown || notRunning s || !s.flag SYS_DOMAIN.CT_ON then s
    else
      let s1 := s.contain 7
      let early := match s1.pwr.coreRestarts with | t :: _ => decide (s1.sinceT t < 60 * secT) | [] => false
      endMaintain false (fun _ => true) { s1 with pwr := { s1.pwr with coreDown := true }, flt := { s1.flt with lockedEarly := early } })

/-- Every request queued and every reply not sent is discarded (R80); a mailbox that waits for one becomes idle. -/
def dropRequests (s : Block) : Block :=
  { s with
    cmd := { s.cmd with accepted := [], replies := s.cmd.replies.filter (fun r => decide (r.wait = .none)) },
    rcd := { s.rcd with afterClose := [] }, fb := { s.fb with openWait := none },
    tw := { s.tw with mbxStat := if s.tw.mbxStat = 1 then 0 else s.tw.mbxStat, xfer := none } }

/-- A fabric message that waited for the core (R618). -/
def runWaiting (s : Block) (i : FabMsg) : Block :=
  let o : Host.Outcome Block Fault Refusal := match i with
    | .hello d p => recvHelloRx d p s
    | .report d p => recvReportRx d p s
    | .table p => recvTableRx p s
    | .time n p a b => recvTimeMsgRx n p a b s
    | .array n p => recvArrayMsgRx n p s
    | .reply n p => recvRemoteReplyRx n p s
    | .notice n p => recvFabricNoticeRx n p s
  match o with
  | .next t => t
  | _ => s

/-- The metadata owed by the open take (R619 step 3): one CAIRNS and one INDEX extent per part, and its entry. -/
def oweMetadata (s : Block) : Block :=
  let head := cairnHead s
  let done (e : IndexEntry) : Bool := !e.chain.isEmpty
  let one (t : Block) (m : Nat) : Block :=
    let body := cairnsBody t ((s.rcd.metaSeq + 1) % 2 ^ 32) ((head + 2 ^ 32 - s.rcd.metaSeq) % 2 ^ 32)
    let ix := match t.rcd.take.bind (fun k => k.part? m) with | some p => p.index.filter done | none => []
    let t1 := (writeMeta m 5 (indexBody ix) (writeMeta m 4 body t)).onTake (fun k => k.onPart m (fun p =>
      { p with index := p.index.filter (fun e => !done e), cairnLast := head }))
    rewriteEntry m .other t1
  if s.takeOpen then
    let s1 := (liveMags s).foldl one s
    { s1 with rcd := { s1.rcd with metaSeq := head, metaAt := s1.now, entryAt := s1.now } }
  else s

/-- The image a core restart boots (R619 step 2): the running one, the other after an early lock-up or where it does not verify. -/
def restartImage (s : Block) : Option Nat :=
  let a := s.fld SYS_BOOT.IMAGE
  let ok (i : Nat) : Bool := (fwImage s i).valid
  if ok a && !(s.flt.lockedEarly && ok (1 - a)) then some a else if ok (1 - a) then some (1 - a) else none

/-- CORE_RESTART_DONE (R80, R98, R619): the core has booted and resumes the work that waited; with no image it stays in RECOVERY. -/
def execCoreRestartDone (s : State) : Host.Outcome State Fault Refusal :=
  s.onBlock fun s =>
  .next (if !s.pwr.coreDown || decide (s.fld SYS_BOOT.STAGE = 10) then s
    else
      let a := s.fld SYS_BOOT.IMAGE
      let s0 := dropRequests s
      match restartImage s with
      | none => ((s0.setFlag WDG_STAT.STUCK true).setFld SYS_BOOT.STAGE 10).raise 1023
      | some b =>
        let s1 := ((s0.setFld SYS_BOOT.IMAGE b).setFlag WDG_STAT.IMAGE_CHANGED (decide (a ≠ b))).satFld WDG_STAT.RESTARTS 1
        let s2 := { s1 with pwr := { s1.pwr with coreDown := false, coreRestarts := [s1.now] } }
        let s3 := oweMetadata ((s2.raise 1018).cairnN oFirmware 0x0D01 WDG_STAT.addr a b)
        let s4 := s3.flt.waiting.foldl runWaiting { s3 with flt := { s3.flt with waiting := [], lockedEarly := false } }
        closeSteps s4)

/-! ### Self-test (R624 to R627, R630) -/

/-- Items that a scope runs (R624): a LIGHT run has nothing for converters, DRAM and the keystone. -/
def scopeItems (scope items : Nat) : Nat := if scope = 1 then items else items &&& 0xD3

/-- ST_RUN (R624, R625, R630): the reply follows the run. -/
def execStRun (q : Req) (s : State) : Host.Outcome State Fault Refusal :=
  s.onBlock fun s =>
  let scope := pByte q 0
  let items := pNat q 4 4
  runReq 0x0F00 2 12 q (fun a => [shape q 8 [1, 2, 3], bad (decide (1 < scope) || decide (255 < items)),
      (a.rsv.closeOut.isSome || a.flag ST_STAT.RUNNING || a.flag CNV_STAT.FULL_RUNNING, stBusy),
      (decide (scope = 1) && a.takeOpen && !forced q, stRecording)])
    (fun a =>
      if scope = 1 ∧ a.takeOpen = true then forceClose 0x0F00 q a
      else
        let again := decide (scope = 1) && a.running
        let a1 := ((if again then stopCapture a else a).setFlag ST_STAT.RUNNING true).setFld ST_STAT.SCOPE scope
        let a2 := a1.cairnN (originOf q.carrier) 0x0F01 ST_STAT.addr 0 (scope * 256 + items)
        ({ a2 with flt := { a2.flt with
          stItems := scopeItems scope items, stCut := false, stStart := a2.now, stRestart := again,
          stOrigin := originOf q.carrier } } : Block).replyLater q 0x0F00 stOk [] .selfTest) s

/-- ST_GET_RESULT (R630). -/
def execStGetResult (q : Req) (s : State) : Host.Outcome State Fault Refusal :=
  s.onBlock fun s =>
  runReq 0x0F01 0 12 q (fun _ => [shape q 0 []])
    (fun a => a.reply q 0x0F01 stOk (wordBytes (a.reg ST_STAT.addr) ++ leBytes 8 a.flt.stEnd.toNat)) s

/-- What one failure does (R626): an engine faults with SELF_TEST, a unit is retired, a block of the table counts as defective. -/
def failPart (s : Block) (f : BitVec 3 × BitVec 22) : Block :=
  let x := f.2.toNat
  match f.1.toNat with
  | 0 => if s.fld (ENG_STAT.STATE x) = 2 then s else engineFault x 5 s
  | 1 => if s.fld (ENG_STAT.STATE (128 + x)) = 2 then s else engineFault (128 + x) 5 s
  | 2 => retireUnit x 1 (oPolicy 0x303) s
  | 6 =>
    if x < 602 then
      let s1 := badBlock x (s.setFlag CNV_STAT.TABLE_DEGRADED true)
      { s1 with cal := { s1.cal with badBlocks := if s1.cal.badBlocks.contains x then s1.cal.badBlocks else s1.cal.badBlocks ++ [x] } }
    else s
  | _ => s

/-- An item failed: event 1023 and its cairn (R626, R631). -/
def failItem (fails : List (BitVec 3 × BitVec 22)) (s : Block) (i : Nat) : Block :=
  let n := (fails.filter (fun f => decide (f.1.toNat = i))).length
  if n = 0 then s else (s.raise 1023).cairnN oFirmware 0x0F02 ST_STAT.addr i n

/-- SELF_TEST_END (R624 to R627, R630): `fails` lists each failure by its item and the mason, pin engine, unit or block. A run cut
short has done a free part of its items. -/
def execSelfTestEnd (fails : List (BitVec 3 × BitVec 22)) (s : State) : Host.Outcome State Fault Refusal :=
  s.onBlock fun s =>
  if !s.flag ST_STAT.RUNNING then .next s
  else
    let ran := if s.flt.stCut then s.flt.stItems &&& s.drawn.toNat else s.flt.stItems
    let s0 := if s.flt.stCut then s.draw else s
    let fs := fails.filter (fun f => ran.testBit f.1.toNat)
    let wrong (i top : Nat) : Bool := fs.any (fun f => decide (f.1.toNat = i) && decide (top ≤ f.2.toNat))
    if wrong 0 128 || wrong 1 16 then .fault .noSuchEngine
    else if wrong 2 unitCount then .fault .noSuchUnit
    else
      let mask := ((List.range 8).map (fun i => if fs.any (fun f => decide (f.1.toNat = i)) then 2 ^ i else 0)).sum
      let s1 := (List.range 8).foldl (failItem fs) (fs.foldl failPart s0)
      let s2 := ((s1.setFlag ST_STAT.RUNNING false).setFld ST_STAT.RAN ran).setFld ST_STAT.FAILED mask
      let ms := s2.sinceT s2.flt.stStart / msT
      let again := s2.flt.stRestart && !s2.running
      let s3 := { s2 with flt := { s2.flt with stEnd := s2.now, stCut := false, stRestart := false } }
      let s4 := s3.release (fun w => decide (w = .selfTest)) (fun r => { r with result := leBytes 4 ran ++ leBytes 4 mask ++ leBytes 4 ms })
      .next (if again then startCaptureIn s4.flt.stOrigin 88000000 false s4 else s4)

end Sys2Proof.Machine
end

