-- ==== Sys2Proof/Machine/TwoWire.lean ====
section
/-! DEFINITION. The two-wire bus (R93 to R111): the target window, the mailbox, the unit's own address, the controller role and the
bus conditions. A row of the window is one whole transaction. -/

namespace Sys2Proof.Machine

/-! ### What is served (R98) -/

/-- The target answers at all: not in ship mode (R69), nor while the whole part is held in reset. -/
def twAlive (s : Block) : Bool := !s.pwr.shipLatch && !s.pwr.thermalLatch && !s.pwr.rstLow && !s.pwr.selfHeld

/-- The whole window is served: READY and later, and RECOVERY. -/
def twFull (s : Block) : Bool := twAlive s && !s.pwr.standby && (decide (s.fld SYS_BOOT.STAGE = 9) || decide (s.fld SYS_BOOT.STAGE = 10))

/-- A byte of a word. -/
def byteOf (w : Word) (k : Nat) : Byte := BitVec.ofNat 8 (w.toNat / 2 ^ (8 * k))

/-- The word that replaces byte `k`. -/
def withByte (w : Word) (k : Nat) (b : Byte) : Word := wsetField w (8 * k) 8 b.toNat

/-! ### The mailbox (R97) -/

/-- A mailbox byte written while BUSY is not acknowledged. -/
def mbxOverrun (s : Block) : Block := (s.setFlag TW_ERR.MBX_OVERRUN true).raise 966

/-- The request in the request mailbox (R71). -/
def mbxRequest (s : Block) (addr : BitVec 7) (group : Bool) : Nat × Req :=
  let b := (List.range 512).map (fun i => smGet 0 s.tw.reqBuf i)
  parseReq (.twoWire addr group) (b.take (8 + leAt b 4 2))

/-- A submit: MBX_STAT becomes BUSY, an earlier reply is discarded, and the request enters the execution sequence. -/
def mbxSubmit (addr : BitVec 7) (group : Bool) (s : Block) : Block :=
  if s.tw.mbxStat = 1 then mbxOverrun s
  else
    let r := mbxRequest s addr group
    acceptReq r.1 r.2 { s with tw := { s.tw with mbxStat := 1, repBuf := [] } }

/-- A release: MBX_STAT becomes IDLE. -/
def mbxRelease (s : Block) : Block :=
  if s.tw.mbxStat = 1 then mbxOverrun s else { s with tw := { s.tw with mbxStat := 0 } }

/-- MBX_SUBMIT (R97). -/
def execMbxSubmit (addr : BitVec 7) (group : Bool) (s : State) : Host.Outcome State Fault Refusal :=
  s.onBlock fun s =>
  .next (if twFull s && decide (twMatch s addr = some group) then mbxSubmit addr group s else s)

/-- MBX_RELEASE (R97). -/
def execMbxRelease (addr : BitVec 7) (group : Bool) (s : State) : Host.Outcome State Fault Refusal :=
  s.onBlock fun s =>
  .next (if twFull s && decide (twMatch s addr = some group) then mbxRelease s else s)

/-- MBX_OVERRUN (R97). -/
def execMbxOverrun (s : State) : Host.Outcome State Fault Refusal :=
  s.onBlock fun s =>
  .next (if s.tw.mbxStat = 1 then mbxOverrun s else s)

/-! ### Writes (R94 to R96, R101) -/

/-- A window word is complete (R96 rules 1 and 4): one WRITE_REG of count 1, or discarded. -/
def commitWindow (c : Carrier) (a : Nat) (bs : List Byte) (s : Block) : Block :=
  let l : List WordW := [⟨a, BitVec.ofNat 32 (leVal bs), 0xFFFFFFFF⟩]
  match firstFail ((decide (classOf s c < 2), stDenied) :: writeChecks s (classOf s c) false 0 l) with
  | some _ => (s.setFlag TW_ERR.WINDOW_DENIED true).raise 967
  | none => writeWords (originOf c) true l s

/-- A word of the window was not written whole (R96 rule 2). -/
def partialWord (s : Block) : Block := s.setFlag TW_ERR.WINDOW_PARTIAL true

/-- The unit's own address at the STOP (R101): the byte of IND_ADDR and IND_VALID, its cairn, and event 960. -/
def assignAddr (origin : Nat) (b : Byte) (s : Block) : Block :=
  let s1 := writeWords origin true [⟨TW_CFG.addr, BitVec.ofNat 32 b.toNat, 0xFF⟩] s
  if s1.reg TW_CFG.addr = s.reg TW_CFG.addr then s1 else s1.raise 960

/-- A byte written to 0x0000 to 0x00FF takes effect at its acknowledge (R95); `none`: it is not acknowledged. -/
def writeLow (c : Carrier) (addr : BitVec 7) (group : Bool) (p : Nat) (b : Byte) (s : Block) : Option Block :=
  if p = 0x10 then
    if !twFull s then none
    else if s.tw.mbxStat = 1 then none
    else some (if b = 1 then mbxSubmit addr group s else if b = 2 then mbxRelease s else s)
  else if 0x14 ≤ p ∧ p < 0x18 then
    some { s with tw := { s.tw with bank := withByte s.tw.bank (p - 0x14) b &&& 0xFFFFF000 } }
  else if 0x18 ≤ p ∧ p < 0x1C then
    some (s.setReg TW_ERR.addr (s.reg TW_ERR.addr &&& ~~~ (BitVec.ofNat 32 (b.toNat * 2 ^ (8 * (p - 0x18))))))
  else if 0x21 ≤ p ∧ p < 0x24 then
    some (writeWords (originOf c) true
      [⟨TW_CFG.addr, BitVec.ofNat 32 (b.toNat * 2 ^ (8 * (p - 0x20))), BitVec.ofNat 32 (0xFF * 2 ^ (8 * (p - 0x20)))⟩] s)
  else some s

/-- What a write transaction has gathered: the state, the bytes of the window word from its offset 0 (none: it began in the middle),
and the byte of the own address. -/
abbrev TwRun := Block × Option (List Byte) × Option Byte

/-- One data byte at pointer `p` of a write (R95, R96); `none`: not acknowledged. -/
def writeByte (c : Carrier) (addr : BitVec 7) (group : Bool) (p : Nat) (b : Byte) (r : TwRun) : Option TwRun :=
  let s := r.1
  if p < 0x100 then
    if p = 0x20 then some (s, r.2.1, if group then r.2.2 else some b)
    else (writeLow c addr group p b s).map (fun t => (t, r.2))
  else if p < 0x300 then
    if !twFull s then none
    else if s.tw.mbxStat = 1 then none
    else some ({ s with tw := { s.tw with reqBuf := smSet 0 s.tw.reqBuf (p - 0x100) b } }, r.2)
  else if 0x800 ≤ p ∧ p < 0x880 then
    some ((List.range 8).foldl (fun (t : Block) i => if b.getLsbD i then t.clearEvt ((p - 0x800) * 8 + i) else t) s, r.2)
  else if 0x1000 ≤ p then
    if !twFull s then none
    else
      let k := p % 4
      let acc := if k = 0 then some [b] else match r.2.1 with
        | some l => if l.length = k then some (l ++ [b]) else none
        | none => none
      if k = 3 then
        match acc with
        | some l => some (commitWindow c (s.tw.bank.toNat + (p - 3 - 0x1000)) l s, some [], r.2.2)
        | none => some (partialWord s, some [], r.2.2)
      else some (s, acc, r.2.2)
  else some (s, r.2)

/-- The pointer after a byte written: the page of 32 bytes wraps (R94). -/
def nextInPage (p : Nat) : Nat := p / 32 * 32 + (p + 1) % 32

/-- Is the byte at `p` one that belongs to the mailbox while it is BUSY (R97)? -/
def mbxByte (p : Nat) : Bool := decide (p = 0x10) || (decide (0x100 ≤ p) && decide (p < 0x300))

/-- The data bytes of a write; a byte that is not acknowledged ends them. -/
def writeBytes (c : Carrier) (addr : BitVec 7) (group : Bool) : List Byte → Nat → TwRun → Nat × TwRun
  | [], p, r => (p, r)
  | b :: t, p, r =>
    match writeByte c addr group p b r with
    | some r1 => writeBytes c addr group t (nextInPage p) r1
    | none => (p, (if twFull r.1 && mbxByte p then mbxOverrun r.1 else r.1, r.2))

/-- One write transaction, to its STOP (R94 to R96, R101). -/
def twWrite (addr : BitVec 7) (group : Bool) (ptr : Nat) (data : List Byte) (s : Block) : Block :=
  let c := Carrier.twoWire addr group
  let s0 := { s with tw := { s.tw with waitStart := false, readWait := none, sclHeld := false } }
  let r := writeBytes c addr group data ptr (s0, some [], none)
  let s1 := { r.2.1 with tw := { r.2.1.tw with pointer := r.1 } }
  let s2 := if r.2.2.1 = some [] then s1 else partialWord s1
  match r.2.2.2 with
  | some b => assignAddr (originOf c) b s2
  | none => s2

/-- TW_WINDOW_WRITE (R94 to R96). -/
def execTwWindowWrite (addr : BitVec 7) (group : Bool) (ptr : BitVec 16) (data : List Byte) (s : State) :
    Host.Outcome State Fault Refusal :=
  s.onBlock fun s =>
  .next (if twAlive s && decide (twMatch s addr = some group) then twWrite addr group ptr.toNat data s else s)

/-- ADDR_ASSIGN (R101): a write at 0x3A to pointer 0x0020, while ADDR_IN is high and the unit has no address. -/
def execAddrAssign (data : List Byte) (s : State) : Host.Outcome State Fault Refusal :=
  s.onBlock fun s =>
  .next (if twAlive s && !s.flag TW_CFG.IND_VALID then
      twWrite 0x3A false 0x20 data { s with tw := { s.tw with addrIn := true } }
    else s)

/-! ### Reads (R94 to R96) -/

/-- A byte of the target window below 0x1000. -/
def readLow (s : Block) (p : Nat) : Byte :=
  if p < 2 then byteOf 0x6510 p
  else if p = 2 then Config.siliconRev
  else if p = 3 then 1
  else if 8 ≤ p ∧ p < 16 then BitVec.ofNat 8 (Config.serial.toNat / 2 ^ (8 * (p - 8)))
  else if p = 0x11 then BitVec.ofNat 8 (if twFull s then s.tw.mbxStat else 3)
  else if 0x14 ≤ p ∧ p < 0x18 then byteOf s.tw.bank (p - 0x14)
  else if 0x18 ≤ p ∧ p < 0x1C then byteOf (readWord s TW_ERR.addr) (p - 0x18)
  else if 0x20 ≤ p ∧ p < 0x24 then byteOf (readWord s TW_CFG.addr) (p - 0x20)
  else if 0x40 ≤ p ∧ p < 0x44 then byteOf (readWord s SYS_BOOT.addr) (p - 0x40)
  else if 0x44 ≤ p ∧ p < 0x48 then byteOf (readWord s SYS_SUPPLY.addr) (p - 0x44)
  else if 0x48 ≤ p ∧ p < 0x4C then byteOf (readWord s SYS_CLK.addr) (p - 0x48)
  else if 0x100 ≤ p ∧ p < 0x300 then (if twFull s then smGet 0 s.tw.reqBuf (p - 0x100) else 0xFF)
  else if 0x300 ≤ p ∧ p < 0x500 then (if twFull s then s.tw.repBuf.getD (p - 0x300) 0 else 0xFF)
  else if 0x800 ≤ p ∧ p < 0x880 then byteOf (s.reg (EVT_STATUS.addr ((p - 0x800) / 4))) (p % 4)
  else if 0x880 ≤ p ∧ p < 0x900 then byteOf (s.reg (EVT_LIVE.addr ((p - 0x880) / 4))) (p % 4)
  else if 0x900 ≤ p ∧ p < 0x980 then byteOf (s.reg (EVT_MASK.addr ((p - 0x900) / 4))) (p % 4)
  else 0

/-- The internal word behind window pointer `p`. -/
def windowAddr (s : Block) (p : Nat) : Nat := s.tw.bank.toNat + (p / 4 * 4 - 0x1000)

/-- Does the word behind `p` arrive? A word outside every block, or of a block without power, does not. -/
def wordArrives (s : Block) (p : Nat) : Bool := inBlock (windowAddr s p) && wordPowered s 0 (windowAddr s p)

/-- Read `n` bytes from `p` on: the bytes, the pointer, and the bytes still due when a word does not arrive. -/
def readBytes : Nat → Nat → List Byte → Block → List Byte × Nat × Nat × Block
  | 0, p, acc, s => (acc, p, 0, s)
  | n + 1, p, acc, s =>
    if p < 0x1000 then readBytes n (p + 1) (acc ++ [readLow s p]) s
    else if !twFull s then readBytes n ((p + 1) % 65536) (acc ++ [0xFF]) s
    else if wordArrives s p then
      let s1 := if p % 4 = 0 ∨ acc = [] then readLatch (windowAddr s p) 1 s else s
      readBytes n ((p + 1) % 65536) (acc ++ [byteOf (readWord s1 (windowAddr s1 p)) (p % 4)]) s1
    else (acc, p, n + 1, s)

/-- A read goes on from the pointer; SCL is held while a word has not arrived (R96 rule 5). -/
def readOn (n : Nat) (acc : List Byte) (s : Block) : Block :=
  let r := readBytes n s.tw.pointer acc s
  let t := r.2.2.2
  { t with tw := { t.tw with
    readOut := r.1, pointer := r.2.1, readWait := if r.2.2.1 = 0 then none else some r.2.2.1, sclHeld := decide (r.2.2.1 ≠ 0) } }

/-- TW_WINDOW_READ (R94, R96, R100): a read at the group address is not acknowledged. -/
def execTwWindowRead (addr : BitVec 7) (ptr : Option (BitVec 16)) (n : Nat) (s : State) : Host.Outcome State Fault Refusal :=
  s.onBlock fun s =>
  .next (if twAlive s && (twMatch s addr).isSome && !(twGroup s addr.toNat) then
      readOn n [] { s with tw := { s.tw with waitStart := false, pointer := (ptr.map (fun p => p.toNat)).getD s.tw.pointer } }
    else s)

/-- TW_WINDOW_READ_TIMEOUT (R96 rule 5): 0xFF for each byte of the word, WINDOW_TIMEOUT, and the read goes on. -/
def execTwWindowReadTimeout (s : State) : Host.Outcome State Fault Refusal :=
  s.onBlock fun s =>
  .next (match s.tw.readWait with
    | some n =>
      let k := min n (4 - s.tw.pointer % 4)
      let s1 := { s with tw := { s.tw with pointer := (s.tw.pointer + k) % 65536 } }
      readOn (n - k) (s.tw.readOut ++ List.replicate k 0xFF) (s1.setFlag TW_ERR.WINDOW_TIMEOUT true)
    | none => s)

/-! ### Bus conditions (R108, R109) -/

/-- The transaction in progress ends: SDA and SCL are released. -/
def twEnd (s : Block) : Block := { s with tw := { s.tw with readWait := none, sclHeld := false } }

/-- PARTIAL_BYTE (R108). -/
def execPartialByte (s : State) : Host.Outcome State Fault Refusal :=
  s.onBlock fun s =>
  .next (if twAlive s then (((twEnd s).setFlag TW_ERR.PARTIAL_BYTE true).raise 962) else s)

/-- TW_TARGET_SCL_STUCK (R109). -/
def execTwTargetSclStuck (s : State) : Host.Outcome State Fault Refusal :=
  s.onBlock fun s =>
  .next (if twAlive s then
      let s1 := (twEnd s).setFlag TW_ERR.BUS_STUCK true
      { s1 with tw := { s1.tw with waitStart := true } }
    else s)

/-! ### The controller role (R104 to R107, R109) -/

/-- The transaction ends with a status and a result. -/
def xferEnd (st : Nat) (res : List Byte) (s : Block) : Block :=
  ({ s with tw := { s.tw with xfer := none } } : Block).release (fun w => decide (w = .bus)) (fun r => { r with status := st, result := res })

/-- One attempt at the transaction `x` (R104 to R107, R109). -/
def xferTry (x : Xfer) (start : BusStart) (result : BusResult) (s : Block) : Block :=
  if start = .stuck then xferEnd stTimeout [] (s.setFlag TW_ERR.BUS_STUCK true)
  else
    let s1 := if start = .cleared then (s.setFlag TW_ERR.BUS_CLEAR true).raise 965 else s
    match result with
    | .done data => xferEnd stOk (leBytes 2 (x.sends + x.reads) ++ (data ++ zeros x.reads).take x.reads) s1
    | .addrNak => xferEnd stNotPresent [] s1
    | .dataNak n => xferEnd stFault (leBytes 2 n) s1
    | .arbLost =>
      let s2 := (s1.setFlag TW_ERR.ARB_LOST true).raise 963
      if 2 ≤ x.losses then xferEnd stBusy [] s2
      else { s2 with tw := { s2.tw with xfer := some { x with losses := x.losses + 1 } } }
    | .arbStop n data => xferEnd stFault (leBytes 2 n ++ data.take x.reads) ((s1.setFlag TW_ERR.ARB_STOP_ERR true).raise 964)

/-- Is `a` the unit's own address (R104)? -/
def ownAddr (s : Block) (a : Nat) : Bool := s.flag TW_CFG.IND_VALID && decide (a = s.fld TW_CFG.IND_ADDR)

/-- TW_XFER (R104): one controller transaction at a time. -/
def execTwXfer (q : Req) (start : BusStart) (result : BusResult) (s : State) : Host.Outcome State Fault Refusal :=
  s.onBlock fun s =>
  let a := pByte q 0
  let wl := pNat q 4 2
  let rl := pNat q 6 2
  runReq 0x0E00 1 (2 + rl) q (fun t => [shape q (8 + wl) [], bad (decide (a < 8) || decide (0x77 < a) || decide (2 < pByte q 1)),
      bad (decide (256 < wl) || decide (256 < rl)), bad (decide (t.fld TW_CFG.ROLE ≠ 1) || ownAddr t a), (t.tw.xfer.isSome, stBusy)])
    (fun t =>
      let x : Xfer := { target := a, sends := pByte q 1 + wl, reads := rl, losses := 0 }
      xferTry x start result (({ t with tw := { t.tw with xfer := some x } } : Block).replyLater q 0x0E00 stOk [] .bus)) s

/-- TW_BUS_FREE (R105): the transaction that lost arbitration starts again. -/
def execTwBusFree (start : BusStart) (result : BusResult) (s : State) : Host.Outcome State Fault Refusal :=
  s.onBlock fun s =>
  .next (match s.tw.xfer with
    | some x => if s.flag SYS_DOMAIN.CT_ON && !s.pwr.coreDown then xferTry x start result s else s
    | none => s)

end Sys2Proof.Machine
end

