-- ==== Sys2Proof/Machine/Retirement.lean ====
section
/-! DEFINITION. The rows that can retire a memory channel while the part runs (R339, R342, R344, R345): with the last channel
gone, capture stops. -/

namespace Sys2Proof.Machine

/-- A retirement while running (R345): when every channel is retired, capture stops with the frame in flight. -/
def retireRun (r cause : Nat) (origin : Option Nat) (s : Block) : Block :=
  let t := retire r cause origin s
  if (inService t).isEmpty then stopCapture t else t

/-- DATA_RATE_CHANGE (R339, R340): a wanted change runs once no pass is in progress; a failed verification retires the
channel. After an emergency, a new pass starts at the new rate. -/
def execDataRateChange (r : BitVec 3) (verifyOk : Bool) (s : State) : Host.Outcome State Fault Refusal :=
  s.onBlock fun s =>
  let k := r.toNat
  let want := smGet 0 s.mc.rateWant k
  if want = 0 || s.flag (MC_CH_STAT.PASS k) || !(inService s).contains k then .next s
  else
    let to56 := decide (want = 1)
    let s1 := (closeRows k s).setFld (MC_CH_STAT.OWED k) 0
    let s2 := (s1.setFlag (MC_CH_STAT.AT_5600 k) to56).setReg MC_STAT.AT_5600.addr
      (wput (s1.reg MC_STAT.AT_5600.addr) (16 + k) to56)
    let s3 := { s2 with mc := { s2.mc with rateWant := smDel s2.mc.rateWant k } }
    let o := s.mc.rateOrigin
    let (a, b) := if to56 then (6400, 5600) else (5600, 6400)
    let s4 := if o = oPolicy 0x801 then s3.policyCairn 0x801 0x0803 (chanBase k) a b else s3.cairnN o 0x0803 (chanBase k) a b
    let s5 := s4.raise (548 + 8 * k)
    let s6 := if to56 && decide (s5.fld (MC_CH_STAT.RBAND k) = 2) then s5.setFlag (MC_CH_STAT.PASS k) true else s5
    if verifyOk then .next (regrant s6) else .next (retireRun k 3 none s6)

/-- UNCORRECTABLE_ACCESS (R342): response, counters, error ring, event, cairn at most once per millisecond; four at
distinct addresses within 1 s retire the channel (R344). -/
def execUncorrectableAccess (r : BitVec 3) (pa : BitVec 33) (port : BitVec 4) (_mirrorBad : Bool) (s : State) :
    Host.Outcome State Fault Refusal :=
  s.onBlock fun s =>
  let k := r.toNat
  let p := pa.toNat
  let q := port.toNat
  if !(inService s).contains k then .next s
  else
    let s0 := activate k p s
    let s1 := errorEffect k q p s0
    let s2 := s1.satFld (MC_CH_ECC.UNCORR k) 1
    let s3 := ((s2.setFld (MC_CH_ERR_LO.ADDRESS k) p).setFld (MC_CH_ERR_HI.ADDR32 k) (p / 2 ^ 32)).setFld (MC_CH_ERR_HI.PORT k) q
    let e : ErrRec := ⟨s3.now, k, q, p⟩
    let ring := (s3.mc.ring ++ [e]).drop (s3.mc.ring.length + 1 - 256)
    let rec_ := (s3.mc.recent.filter (fun x => decide (s3.sinceT x.stamp < secT))) ++ [e]
    let s4 := (({ s3 with mc := { s3.mc with ring := ring, recent := rec_ } } : Block)).raise (545 + 8 * k)
    let due := match s4.mc.cairnAt.find? (fun x => decide (x.1 = k)) with
      | some (_, t) => decide (msT ≤ s4.sinceT t)
      | none => true
    let frame := match slotOfPa s k p with | some (l, _, _) => l.frame | none => 0xFFFFFFFF
    let mc5 := { s4.mc with cairnAt := smPut s4.mc.cairnAt k s4.now }
    let s5 := if due then { (s4.cairnN oFirmware 0x0804 (p % 2 ^ 32) q frame) with mc := mc5 } else s4
    let distinct := ((rec_.filter (fun x => decide (x.chan = k))).map (fun x => x.pa)).eraseDups
    .next (if 4 ≤ distinct.length then retireRun k 2 none s5 else s5)

/-- CHANNEL_NO_RESPONSE (R344): the channel is retired. -/
def execChannelNoResponse (r : BitVec 3) (s : State) : Host.Outcome State Fault Refusal :=
  s.onBlock fun s =>
  .next (retireRun r.toNat 4 none s)

end Sys2Proof.Machine
end

