-- ==== Sys2Proof/Machine/Commands.lean ====
section
/-! DEFINITION. The remaining opcodes: identity and state (R81, R83, R84), frame memory (R354), record path (R389), monitor (R423),
statistics and loops (R449), and the rows for an undefined opcode and a full queue (R76, R77). -/

namespace Sys2Proof.Machine

/-! ### System opcodes (R81, R83, R84) -/

/-- PING: the keystone stamp of its execution. -/
def execPing (q : Req) (s : State) : Host.Outcome State Fault Refusal :=
  s.onBlock fun s =>
  runReq 0x0000 0 8 q (fun _ => [shape q 0 []]) (fun a => a.reply q 0x0000 stOk (leBytes 8 a.now.toNat)) s

/-- GET_IDENTITY (R83). -/
def execGetIdentity (q : Req) (s : State) : Host.Outcome State Fault Refusal :=
  s.onBlock fun s =>
  runReq 0x0001 0 60 q (fun _ => [shape q 0 []]) (fun a => a.reply q 0x0001 stOk (identityBytes a)) s

/-- Events whose status bit is set (R84, R613). -/
def eventsSet (s : Block) : Nat := ((List.range 1024).filter (fun e => s.evtStatus e)).length

/-- The GET_STATUS result for a requester (R84). -/
def statusBytes (s : Block) (c : Carrier) : List Byte :=
  wordBytes (s.reg SYS_BOOT.addr) ++ wordBytes (s.reg SYS_STATE.addr) ++ leBytes 8 s.now.toNat ++ wordBytes (s.reg FT_FRAME_LAST.addr) ++
    leBytes 2 (s.fld TK_STAT.TAKE) ++ leBytes 1 (classOf s c) ++ [0] ++ leBytes 4 (eventsSet s) ++ zeros 4

/-- GET_STATUS (R84). -/
def execGetStatus (q : Req) (s : State) : Host.Outcome State Fault Refusal :=
  s.onBlock fun s =>
  runReq 0x0002 0 32 q (fun _ => [shape q 0 []]) (fun a => a.reply q 0x0002 stOk (statusBytes a q.carrier)) s

/-- GET_KEYSTONE (R81, R296): the whole value, sampled in one tick. -/
def execGetKeystone (q : Req) (s : State) : Host.Outcome State Fault Refusal :=
  s.onBlock fun s =>
  runReq 0x0006 0 8 q (fun _ => [shape q 0 []]) (fun a => a.reply q 0x0006 stOk (leBytes 8 a.now.toNat)) s

/-! ### Frame memory opcodes (R354) -/

/-- MC_GET_STATE: MC_STAT, MC_SLOTS, MC_PLAN_USABLE and each channel's MC_CH_STAT. -/
def execMcGetState (q : Req) (s : State) : Host.Outcome State Fault Refusal :=
  s.onBlock fun s =>
  runReq 0x0800 0 44 q (fun _ => [shape q 0 []])
    (fun a => a.reply q 0x0800 stOk (readFrom a MC_STAT.addr 3 ++ (List.range 8).flatMap (fun r => readFrom a (MC_CH_STAT.addr r) 1))) s

/-- Words that MC_SET_REGULATOR writes. -/
def regulatorWords (q : Req) : List WordW :=
  let p := pByte q 0
  [⟨MC_REG0.addr p, BitVec.ofNat 32 (pNat q 4 4), 0xFFFFFFFF⟩, ⟨MC_REG1.addr p, BitVec.ofNat 32 (pNat q 8 2), 0xFFFF⟩]

/-- MC_SET_REGULATOR: guarantee, ceiling and burst of a port from 2 to 10; the grant that results. -/
def execMcSetRegulator (q : Req) (s : State) : Host.Outcome State Fault Refusal :=
  s.onBlock fun s =>
  let p := pByte q 0
  runReq 0x0801 2 4 q (fun a => [shape q 12 [1, 2, 3, 10, 11], bad (decide (p < 2) || decide (10 < p))] ++
      writeChecks a (classOf a q.carrier) false 0 (regulatorWords q))
    (fun a =>
      let a1 := writeWords (originOf q.carrier) true (regulatorWords q) a
      a1.reply q 0x0801 stOk (leBytes 2 (a1.fld (MC_REG1.GRANTED p)) ++ zeros 2)) s

/-- The 16 bytes of an error record. -/
def errBytes (e : ErrRec) : List Byte :=
  leBytes 8 e.stamp.toNat ++ leBytes 1 e.chan ++ leBytes 1 e.port ++ leBytes 1 (e.pa / 2 ^ 32) ++ [0] ++ leBytes 4 e.pa

/-- MC_GET_ERRORS: records of the error ring, oldest first. -/
def execMcGetErrors (q : Req) (s : State) : Host.Outcome State Fault Refusal :=
  s.onBlock fun s =>
  let first := pNat q 0 2
  let n := pNat q 2 2
  runReq 0x0802 0 (16 * n) q (fun a => [shape q 4 [], bad (decide (n = 0) || decide (64 < n) || decide (a.mc.ring.length < first + n))])
    (fun a => a.reply q 0x0802 stOk (((a.mc.ring.drop first).take n).flatMap errBytes)) s

/-- CRC-32 of the five masks, as the MC_MAP cairn gives it (R356). -/
def mapCrc (s : Block) : Word := crc32 ((List.range 5).flatMap (fun i => wordBytes (s.reg (MC_MAP.addr i))))

/-- New masks (R324): the content of the slots and of the monitor areas is discarded, and the calibration working copy reloaded. -/
def setMap (masks : List Word) (origin : Nat) (s : Block) : Block :=
  let s1 := masks.zipIdx.foldl (fun t e => t.setReg (MC_MAP.addr e.2) e.1) s
  let s2 := s1.cairn origin 0x0807 (MC_MAP.addr 0) (mapCrc s) (mapCrc s1)
  let s3 := syncFill { s2 with rcd := { s2.rcd with
    slots := s2.rcd.slots.filter (fun l => l.stub),
    ingest := s2.rcd.ingest.filter (fun g => s2.rcd.slots.any (fun l => l.stub && decide (l.frame = g.frame))) } }
  let s4 := (List.range 4).foldl (fun t x => t.onCtx x (fun c => { c with
    developing := none, waiting := none, sending := none, last := none, restart := true })) { s3 with mon := { s3.mon with due := [] } }
  loadCal s4.cal.badBlocks (syncMon s4)

/-- MC_SET_MAP (R323, R324). -/
def execMcSetMap (q : Req) (s : State) : Host.Outcome State Fault Refusal :=
  s.onBlock fun s =>
  let masks := wordsOf 5 q.params
  runReq 0x0803 2 0 q (fun a => [shape q 20 [], bad (masks.zipIdx.any (fun e => !maskOk e.2 e.1.toNat)),
      (a.flag SYS_STATE.CAPTURE_EN, stBusy), (a.takeOpen, stRecording)])
    (fun a => (setMap masks (originOf q.carrier) a).reply q 0x0803 stOk []) s

/-- MC_RETIRE (R344, R345). -/
def execMcRetire (q : Req) (s : State) : Host.Outcome State Fault Refusal :=
  s.onBlock fun s =>
  let r := pByte q 0
  runReq 0x0804 3 4 q (fun a => [shape q 4 [1, 2, 3], bad (decide (7 < r)), (a.takeOpen && !forced q, stRecording),
      (decide (inService a = [r]), stConflict)])
    (fun a =>
      let a1 := retireRun r 5 (some (originOf q.carrier)) a
      a1.reply q 0x0804 stOk (leBytes 2 (slotCap a1) ++ zeros 2)) s

/-! ### Record path opcodes (R389) -/

/-- REC_GET_STATE. -/
def execRecGetState (q : Req) (s : State) : Host.Outcome State Fault Refusal :=
  s.onBlock fun s =>
  runReq 0x0600 0 32 q (fun _ => [shape q 0 []]) (fun a => a.reply q 0x0600 stOk (readFrom a REC_CFG.addr 8)) s

/-- Words that REC_SET_FORMAT writes: FORMAT, GAIN_MODE and BIN. -/
def formatWords (q : Req) : List WordW :=
  [⟨REC_CFG.addr, BitVec.ofNat 32 (pByte q 0), BitVec.ofNat 32 (2 ^ REC_CFG.FORMAT.width - 1) <<< REC_CFG.FORMAT.lo⟩,
    ⟨CNV_CFG.addr, BitVec.ofNat 32 (pByte q 1 * 2 ^ CNV_CFG.GAIN_MODE.lo + pByte q 2 * 2 ^ CNV_CFG.BIN.lo),
      BitVec.ofNat 32 (3 * 2 ^ CNV_CFG.GAIN_MODE.lo + 3 * 2 ^ CNV_CFG.BIN.lo)⟩]

/-- REC_SET_FORMAT: refused while a take is open, FORCE or not. -/
def execRecSetFormat (q : Req) (s : State) : Host.Outcome State Fault Refusal :=
  s.onBlock fun s =>
  let l := formatWords q
  runReq 0x0601 2 12 q (fun a => [shape q 4 [3], bad (decide (2 < pByte q 0) || decide (2 < pByte q 1) || decide (2 < pByte q 2)),
      (a.takeOpen, stRecording)] ++ writeChecks a (classOf a q.carrier) false 0 l)
    (fun a => replyDeferred 0x0601 q (writeDefers a l) [] (writeWords (originOf q.carrier) true l a)) s

/-- `n` free bytes: what a header holds before it is completed is not stated (R378). -/
def freeBytes (n : Nat) (s : Block) : List Byte × Block :=
  ((List.range n).map (fun i => (Config.freeWord (s.free + i)).setWidth 8), { s with free := s.free + n })

/-- REC_READ_HEADER: bytes of the header of a frame whose slot or stub is held. -/
def execRecReadHeader (q : Req) (s : State) : Host.Outcome State Fault Refusal :=
  s.onBlock fun s =>
  let n := pNat q 0 4
  let o := pNat q 4 4
  let k := pNat q 8 2
  runReq 0x0602 0 k q (fun a => [shape q 12 [10, 11], bad (decide (k = 0) || decide (4080 < k) || decide (65536 < o + k)),
      ((a.slot? n).isNone, stNotPresent)])
    (fun a =>
      match (a.slot? n).bind (fun l => l.header) with
      | some h => a.reply q 0x0602 stOk ((h.drop o).take k)
      | none => let (b, a1) := freeBytes k a; a1.reply q 0x0602 stOk b) s

/-- Flags, damage count and courses filled of one of the last 256 frames: as recorded, else as they stand. -/
def frameFlags (s : Block) (n : Nat) : Option (Word × Nat × Nat) :=
  match s.rcd.recorded.find? (fun e => decide (e.1 = n)) with
  | some e => some e.2
  | none =>
    (s.frame? n).bind (fun f =>
      if 256 < (s.ft.nextNum + 2 ^ 32 - n) % 2 ^ 32 then none
      else some (f.flags, ((s.slot? n).map (fun l => l.damageCount)).getD 0, ((s.ingest? n).map filledCount).getD 0))

/-- REC_GET_FLAGS. -/
def execRecGetFlags (q : Req) (s : State) : Host.Outcome State Fault Refusal :=
  s.onBlock fun s =>
  let n := pNat q 0 4
  runReq 0x0603 0 12 q (fun a => [shape q 4 [], bad (frameFlags a n).isNone])
    (fun a => match frameFlags a n with
      | some (f, d, c) => a.reply q 0x0603 stOk (wordBytes f ++ leBytes 4 d ++ leBytes 4 c)
      | none => a) s

/-! ### Monitor opcodes (R423) -/

/-- MON_GET_STATE. -/
def execMonGetState (q : Req) (s : State) : Host.Outcome State Fault Refusal :=
  s.onBlock fun s =>
  runReq 0x0700 0 76 q (fun a => [shape q 0 [], (!wordPowered a 0 MON_CFG.addr, stNotPresent)])
    (fun a => a.reply q 0x0700 stOk (readFrom a MON_CFG.addr 3 ++ (List.range 4).flatMap (fun x =>
      readFrom a (MON_CTX_CFG.addr x) 1 ++ readFrom a (MON_CTX_STAT.addr x) 3))) s

/-- Words that MON_SET_CONTEXT writes. -/
def contextWords (q : Req) : List WordW :=
  (wordsOf 24 (q.params.drop 4)).zipIdx.map (fun e => (⟨MON_CTX_CFG.addr (pByte q 0) + 4 * e.2, e.1, 0xFFFFFFFF⟩ : WordW))

/-- MON_SET_CONTEXT: every word of a context at one tick. -/
def execMonSetContext (q : Req) (s : State) : Host.Outcome State Fault Refusal :=
  s.onBlock fun s =>
  let l := contextWords q
  runReq 0x0701 1 12 q (fun a => [shape q 100 [1, 2, 3, 64, 65, 66, 67], bad (decide (3 < pByte q 0))] ++
      writeChecks a (classOf a q.carrier) false 0 l)
    (fun a => replyDeferred 0x0701 q (writeDefers a l) [] (writeWords (originOf q.carrier) true l a)) s

/-- Words that MON_SET_TONE writes: the bank that TONE_BANK does not name, and TONE_BANK flipped. -/
def toneWords (s : Block) (q : Req) : List WordW :=
  let x := pByte q 0
  let b := 1 - s.fld (MON_CTX_CFG.TONE_BANK x)
  (List.range 1024).map (fun i => (⟨MON_TONE.addr x b i, BitVec.ofNat 32 (pNat q (4 + 2 * i) 2), 0xFFFFFFFF⟩ : WordW)) ++
    [⟨MON_CTX_CFG.addr x, BitVec.ofNat 32 (b * 2 ^ 25), BitVec.ofNat 32 (2 ^ 25)⟩]

/-- MON_SET_TONE: a tone bank and the flip to it at one tick. -/
def execMonSetTone (q : Req) (s : State) : Host.Outcome State Fault Refusal :=
  s.onBlock fun s =>
  runReq 0x0702 1 12 q (fun a => [shape q 2052 [1, 2, 3], bad (decide (3 < pByte q 0) ||
      (List.range 1024).any (fun i => decide (1023 < pNat q (4 + 2 * i) 2)))] ++ writeChecks a (classOf a q.carrier) false 0 (toneWords a q))
    (fun a => replyDeferred 0x0702 q (writeDefers a (toneWords a q)) [] (writeWords (originOf q.carrier) true (toneWords a q) a)) s

/-- MON_READ_OUTPUT: bytes of a context's last whole output frame. -/
def execMonReadOutput (q : Req) (s : State) : Host.Outcome State Fault Refusal :=
  s.onBlock fun s =>
  let x := pByte q 0
  let o := pNat q 4 4
  let k := pNat q 8 2
  let out (a : Block) : Option (List Byte) := (a.ctx x).last.map outBytes
  runReq 0x0703 0 k q (fun a => [shape q 12 [1, 2, 3, 10, 11], bad (decide (3 < x) || decide (k = 0) || decide (4080 < k)),
      bad (match out a with | some b => decide (b.length < o + k) | none => false), ((out a).isNone, stNotPresent)])
    (fun a => a.reply q 0x0703 stOk ((((out a).getD []).drop o).take k)) s

/-! ### Statistics and loop opcodes (R449) -/

/-- A frame among the last 16 published, or later than the oldest of them, without statistics (R433, R434). -/
def statsAbsent (s : Block) (n : Nat) : Bool :=
  (match s.frame? n with | some f => f.flags.getLsbD fStatsAbsent | none => false) &&
    (match s.stat.kept[15]? with | some a => decide ((n + 2 ^ 32 - a.frame) % 2 ^ 32 < 2 ^ 31) | none => true)

/-- STAT_GET: bytes of a statistics area. -/
def execStatGet (q : Req) (s : State) : Host.Outcome State Fault Refusal :=
  s.onBlock fun s =>
  let n := pNat q 0 4
  let o := pNat q 4 4
  let k := pNat q 8 2
  let area (a : Block) : Option StatArea := a.stat.kept.find? (fun x => decide (x.frame = n))
  runReq 0x0710 0 k q (fun a => [shape q 12 [10, 11],
      bad (decide (k = 0) || decide (4080 < k) || decide (o < 0x4000) || decide (0xA000 < o + k)),
      bad ((area a).isNone && !statsAbsent a n), ((area a).isNone, stNotPresent)])
    (fun a => a.reply q 0x0710 stOk (match area a with | some x => (x.bytes.drop (o - 0x4000)).take k | none => [])) s

/-- STAT_READ_SAT: bytes of a saturation map (R431). -/
def execStatReadSat (q : Req) (s : State) : Host.Outcome State Fault Refusal :=
  s.onBlock fun s =>
  let n := pNat q 0 4
  let u := pNat q 4 4
  let k := pNat q 8 2
  let map_ (a : Block) : Option (List (Nat × Nat)) := (a.stat.maps.find? (fun x => decide (x.1 = n))).map (fun x => x.2)
  runReq 0x0711 0 k q (fun a => [shape q 12 [10, 11], bad (decide (k = 0) || decide (4080 < k) || decide (2359296 < u + k)),
      bad ((map_ a).isNone && !statsAbsent a n), ((map_ a).isNone, stNotPresent)])
    (fun a => a.reply q 0x0711 stOk ((List.range k).flatMap (fun i => leBytes 1 (smGet 0xFF ((map_ a).getD []) (u + i))))) s

/-- Words that LOOP_SET writes. -/
def loopWords (q : Req) : List WordW :=
  ([AE_CFG.addr, AE_MIN.addr, AE_MAX.addr, AWB_CFG.addr, AWB_RANGE.addr].zip (wordsOf 5 q.params)).map (fun e =>
    (⟨e.1, e.2, 0xFFFFFFFF⟩ : WordW))

/-- LOOP_SET: both loops' words at one tick. -/
def execLoopSet (q : Req) (s : State) : Host.Outcome State Fault Refusal :=
  s.onBlock fun s =>
  runReq 0x0712 2 0 q (fun a => shape q 20 [] :: writeChecks a (classOf a q.carrier) false 0 (loopWords q))
    (fun a => (writeWords (originOf q.carrier) true (loopWords q) a).reply q 0x0712 stOk []) s

/-- POL_GET_STATE. -/
def execPolGetState (q : Req) (s : State) : Host.Outcome State Fault Refusal :=
  s.onBlock fun s =>
  runReq 0x0713 0 24 q (fun _ => [shape q 0 []])
    (fun a => a.reply q 0x0713 stOk ([POL_LAST.addr, STAT_STAT.addr, STAT_LAST.addr, AE_STAT.addr, AE_FRAME.addr, AWB_STAT.addr].flatMap
      (fun x => readFrom a x 1))) s

end Sys2Proof.Machine
end

