-- ==== Sys2Proof/Machine/Idle.lean ====
section
/-! DEFINITION. What the block does by itself when no command is given: the next request of the carriers' queues executes (R75,
R76), or one keystone tick passes (R293). The opcode table stands here, with the row for an opcode it does not hold (R77). -/

namespace Sys2Proof.Machine

/-- The meaning of an opcode. -/
abbrev OpRun := Req → State → Host.Outcome State Fault Refusal

/-- One more free value counted as drawn. -/
def drawn1 (s : State) : State := { s with blk := s.blk.draw }

/-- The system opcodes. -/
def opsSystem : List (Nat × OpRun) :=
  [(0x0000, execPing),
    (0x0001, execGetIdentity),
    (0x0002, execGetStatus),
    (0x0003, execReadReg),
    (0x0004, execWriteReg),
    (0x0005, execModifyReg),
    (0x0006, execGetKeystone),
    (0x0010, execStandby),
    (0x0011, fun q s => execRestart q (Config.freePins s.blk.free) (drawn1 s)),
    (0x0012, execSetCapture),
    (0x0020, execSetEventRoute),
    (0x0021, execGetEventRoute)]

/-- The profile, access, log and firmware opcodes. -/
def opsProfileAccessLogFirmware : List (Nat × OpRun) :=
  [(0x0100, execGetProfileInfo),
    (0x0101, execSelectProfile),
    (0x0102, execReadProfile),
    (0x0103, execStageProfile),
    (0x0104, execCommitProfile),
    (0x0110, execGetChallenge),
    (0x0111, execAnswerChallenge),
    (0x0112, execLeaveMaintain),
    (0x0113, execSetMaintKey),
    (0x0120, execReadLog),
    (0x0121, execGetLogState),
    (0x0130, execFwBegin),
    (0x0131, execFwWrite),
    (0x0132, execFwFinish),
    (0x0133, execFwSetBoot)]

/-- The frame timing opcodes. -/
def opsFrameTiming : List (Nat × OpRun) :=
  [(0x0200, execFtGetSchedule),
    (0x0201, execFtSetTiming),
    (0x0202, execFtSetShape),
    (0x0203, execFtTrigger),
    (0x0204, execFtCheck),
    (0x0205, execFtGetFrame)]

/-- The converter opcodes. -/
def opsConverter : List (Nat × OpRun) :=
  [(0x0300, execCalGetState),
    (0x0301, execCalFull),
    (0x0302, execCalReadEntry),
    (0x0303, execCalWriteEntry),
    (0x0304, execDefectRead),
    (0x0305, execDefectAdd),
    (0x0306, execDefectRemove),
    (0x0307, execCalReadEpoch)]

/-- The mason opcodes. -/
def opsMason : List (Nat × OpRun) :=
  [(0x0400, execEngGetState),
    (0x0401, execEngLoad),
    (0x0402, execEngSwap),
    (0x0403, execEngChan),
    (0x0404, execEngQueuePost),
    (0x0405, execEngQueueRead),
    (0x0406, execEngReadProg),
    (0x0407, execEngRestore)]

/-- The keystone opcodes. -/
def opsKeystone : List (Nat × OpRun) :=
  [(0x0500, execKsGetState),
    (0x0501, execKsArm),
    (0x0502, execKsDisarm),
    (0x0503, execKsSetTrim),
    (0x0504, execKsSlew),
    (0x0505, execKsAlign),
    (0x0506, execKsSetDisc)]

/-- The record path and take opcodes. -/
def opsRecordPathTake : List (Nat × OpRun) :=
  [(0x0600, execRecGetState),
    (0x0601, execRecSetFormat),
    (0x0602, execRecReadHeader),
    (0x0603, execRecGetFlags),
    (0x0610, execTakeOpen),
    (0x0611, execTakeClose),
    (0x0612, execTakeGetState),
    (0x0613, execMagIdentify),
    (0x0614, execMagFormat),
    (0x0615, execMagRead),
    (0x0616, fun q s => execTakeRecover q (Config.freeFound s.blk.free) (drawn1 s))]

/-- The monitor and statistics opcodes. -/
def opsMonitorStatistics : List (Nat × OpRun) :=
  [(0x0700, execMonGetState),
    (0x0701, execMonSetContext),
    (0x0702, execMonSetTone),
    (0x0703, execMonReadOutput),
    (0x0710, execStatGet),
    (0x0711, execStatReadSat),
    (0x0712, execLoopSet),
    (0x0713, execPolGetState)]

/-- The frame memory opcodes. -/
def opsFrameMemory : List (Nat × OpRun) :=
  [(0x0800, execMcGetState),
    (0x0801, execMcSetRegulator),
    (0x0802, execMcGetErrors),
    (0x0803, execMcSetMap),
    (0x0804, execMcRetire)]

/-- The link opcodes. -/
def opsLink : List (Nat × OpRun) :=
  [(0x0900, execLkGetPort),
    (0x0901, execLkRetrain),
    (0x0902, execLkSetLanes),
    (0x0903, execLkSlip),
    (0x0904, execLkPrbs),
    (0x0905, execLkPrbsRead)]

/-- The fabric opcodes. -/
def opsFabric : List (Nat × OpRun) :=
  [(0x0A00, execFbGetState),
    (0x0A01, execFbGetNodes),
    (0x0A02, execFbRediscover),
    (0x0A10, execFbRemote),
    (0x0A20, execFbArrayTakeOpen),
    (0x0A21, execFbArrayTakeClose),
    (0x0A22, execFbSharedArm)]

/-- The thermal and ageing opcodes. -/
def opsThermalAgeing : List (Nat × OpRun) :=
  [(0x0B00, execThGetState),
    (0x0B01, execThSetCooling),
    (0x0B02, execAgGetPlan),
    (0x0B03, execAgReadHistory),
    (0x0B04, execAgRecompute)]

/-- The reserve opcodes. -/
def opsReserve : List (Nat × OpRun) :=
  [(0x0C00, execRsvGetState),
    (0x0C01, execRsvSetConfig),
    (0x0C02, fun q s => execRsvTest q (s.blk.drawn.getLsbD 0) (s.blk.drawn.getLsbD 1) (drawn1 s)),
    (0x0C03, execRsvShip)]

/-- The event opcodes. -/
def opsEvent : List (Nat × OpRun) :=
  [(0x0D00, execEvtGet),
    (0x0D01, execEvtClear),
    (0x0D02, execEvtSetMask),
    (0x0D03, execFltGetState),
    (0x0D04, execWdgSet)]

/-- The two-wire and self-test opcodes. -/
def opsTwoWireSelfTest : List (Nat × OpRun) :=
  [(0x0E00, fun q s => execTwXfer q (Config.freeBus s.blk.free).1 (Config.freeBus s.blk.free).2 (drawn1 s)),
    (0x0F00, execStRun),
    (0x0F01, execStGetResult)]

/-- Every opcode the spec defines (R71). -/
def opcodes : List (Nat × OpRun) :=
  opsSystem ++ opsProfileAccessLogFirmware ++ opsFrameTiming ++ opsConverter ++ opsMason ++ opsKeystone ++ opsRecordPathTake ++ opsMonitorStatistics ++ opsFrameMemory ++ opsLink ++ opsFabric ++ opsThermalAgeing ++ opsReserve ++ opsEvent ++ opsTwoWireSelfTest

/-- Is the opcode defined (R77 step 1)? -/
def opDefined (op : Nat) : Bool := opcodes.any (fun e => decide (e.1 = op))

/-- A request whose opcode is not defined: UNKNOWN_OPCODE before any other check (R77); it takes its turn as others do (R76). -/
def runUnknown (op : Nat) (q : Req) (s : Block) : Block :=
  if (s.pwr.coreDown && decide (s.fld SYS_BOOT.STAGE ≠ 10)) || s.mustWait q.carrier then acceptReq op q s
  else if !serves s q then s
  else refuse op q stUnknown (touchMaintain q.carrier s)

/-- UNKNOWN_OPCODE (R77). -/
def execUnknownOpcode (q : Req) (op : BitVec 16) (s : State) : Host.Outcome State Fault Refusal :=
  s.onBlock fun s =>
  .next (if opDefined op.toNat then s else runUnknown op.toNat q s)

/-- REQUEST_REFUSED_BUSY (R76 step 5): a request that finds its carrier's queue full is answered BUSY, undecoded. -/
def execRequestRefusedBusy (q : Req) (op : BitVec 16) (s : State) : Host.Outcome State Fault Refusal :=
  s.onBlock fun s =>
  .next (if queueLimit q.carrier ≤ s.outstanding q.carrier then refuseBusy op.toNat q s else s)

/-- Run a request by its opcode. -/
def runOpcode (op : Nat) (q : Req) (s : State) : Host.Outcome State Fault Refusal :=
  match opcodes.find? (fun e => decide (e.1 = op)) with
  | some e => e.2 q s
  | none => .next { s with blk := runUnknown op q s.blk }

/-- Take the first entry whose carrier is not held by a slow action (R76), and the entries that stay. -/
def takeNext (s : Block) : List Accepted → Option (Accepted × List Accepted)
  | [] => none
  | a :: t => if s.slow a.req.carrier = 0 then some (a, t) else (takeNext s t).map (fun r => (r.1, a :: r.2))

/-- The request a quiet block executes next: none while the core is down (R618), but in RECOVERY it runs (R98). -/
def nextRequest (s : Block) : Option (Accepted × List Accepted) :=
  if s.pwr.coreDown && decide (s.fld SYS_BOOT.STAGE ≠ 10) then none else takeNext s s.cmd.accepted

/-- The block with a request taken from a carrier's queue, about to execute it, and with its execution over. -/
def startRequest (rest : List Accepted) (s : Block) : Block := { s with cmd := { s.cmd with accepted := rest, executing := true } }
def endRequest (s : Block) : Block := { s with cmd := { s.cmd with executing := false } }

/-- A queued request executed: it has left the queue. -/
def executed (o : Host.Outcome State Fault Refusal) : Host.Outcome State Fault Refusal :=
  match o with
  | .next t => .next { t with blk := endRequest t.blk }
  | x => x

/-- With no command given: the next waiting request executes, else the keystone counts one tick. -/
def idle (s : State) : Host.Outcome State Fault Refusal :=
  match nextRequest s.blk with
  | some (a, rest) => executed (runOpcode a.opcode a.req { s with blk := startRequest rest s.blk })
  | none => .next { s with blk := tickKs s.blk }

end Sys2Proof.Machine
end

