-- ==== Sys2Proof/Machine/Dispatch.lean ====
section
/-! DEFINITION. The dispatch of a command to its meaning, one arm per constructor. -/

namespace Sys2Proof.Machine

/-- The effect of command `i` on state `s` (whose queue is the queue's rest). -/
def exec (i : Instr) (s : State) : Host.Outcome State Fault Refusal :=
  match i with
  | .ping q => Sys2Proof.Machine.execPing q s
  | .getIdentity q => Sys2Proof.Machine.execGetIdentity q s
  | .getStatus q => Sys2Proof.Machine.execGetStatus q s
  | .readReg q => Sys2Proof.Machine.execReadReg q s
  | .writeReg q => Sys2Proof.Machine.execWriteReg q s
  | .modifyReg q => Sys2Proof.Machine.execModifyReg q s
  | .getKeystone q => Sys2Proof.Machine.execGetKeystone q s
  | .standby q => Sys2Proof.Machine.execStandby q s
  | .restart q pins => Sys2Proof.Machine.execRestart q pins s
  | .setCapture q => Sys2Proof.Machine.execSetCapture q s
  | .setEventRoute q => Sys2Proof.Machine.execSetEventRoute q s
  | .getEventRoute q => Sys2Proof.Machine.execGetEventRoute q s
  | .unknownOpcode q op => Sys2Proof.Machine.execUnknownOpcode q op s
  | .requestRefusedBusy q op => Sys2Proof.Machine.execRequestRefusedBusy q op s
  | .getProfileInfo q => Sys2Proof.Machine.execGetProfileInfo q s
  | .selectProfile q => Sys2Proof.Machine.execSelectProfile q s
  | .readProfile q => Sys2Proof.Machine.execReadProfile q s
  | .stageProfile q => Sys2Proof.Machine.execStageProfile q s
  | .commitProfile q => Sys2Proof.Machine.execCommitProfile q s
  | .getChallenge q => Sys2Proof.Machine.execGetChallenge q s
  | .answerChallenge q => Sys2Proof.Machine.execAnswerChallenge q s
  | .leaveMaintain q => Sys2Proof.Machine.execLeaveMaintain q s
  | .setMaintKey q => Sys2Proof.Machine.execSetMaintKey q s
  | .readLog q => Sys2Proof.Machine.execReadLog q s
  | .getLogState q => Sys2Proof.Machine.execGetLogState q s
  | .fwBegin q => Sys2Proof.Machine.execFwBegin q s
  | .fwWrite q => Sys2Proof.Machine.execFwWrite q s
  | .fwFinish q => Sys2Proof.Machine.execFwFinish q s
  | .fwSetBoot q => Sys2Proof.Machine.execFwSetBoot q s
  | .ftGetSchedule q => Sys2Proof.Machine.execFtGetSchedule q s
  | .ftSetTiming q => Sys2Proof.Machine.execFtSetTiming q s
  | .ftSetShape q => Sys2Proof.Machine.execFtSetShape q s
  | .ftTrigger q => Sys2Proof.Machine.execFtTrigger q s
  | .ftCheck q => Sys2Proof.Machine.execFtCheck q s
  | .ftGetFrame q => Sys2Proof.Machine.execFtGetFrame q s
  | .calGetState q => Sys2Proof.Machine.execCalGetState q s
  | .calFull q => Sys2Proof.Machine.execCalFull q s
  | .calReadEntry q => Sys2Proof.Machine.execCalReadEntry q s
  | .calWriteEntry q => Sys2Proof.Machine.execCalWriteEntry q s
  | .defectRead q => Sys2Proof.Machine.execDefectRead q s
  | .defectAdd q => Sys2Proof.Machine.execDefectAdd q s
  | .defectRemove q => Sys2Proof.Machine.execDefectRemove q s
  | .calReadEpoch q => Sys2Proof.Machine.execCalReadEpoch q s
  | .engGetState q => Sys2Proof.Machine.execEngGetState q s
  | .engLoad q => Sys2Proof.Machine.execEngLoad q s
  | .engSwap q => Sys2Proof.Machine.execEngSwap q s
  | .engChan q => Sys2Proof.Machine.execEngChan q s
  | .engQueuePost q => Sys2Proof.Machine.execEngQueuePost q s
  | .engQueueRead q => Sys2Proof.Machine.execEngQueueRead q s
  | .engReadProg q => Sys2Proof.Machine.execEngReadProg q s
  | .engRestore q => Sys2Proof.Machine.execEngRestore q s
  | .ksGetState q => Sys2Proof.Machine.execKsGetState q s
  | .ksArm q => Sys2Proof.Machine.execKsArm q s
  | .ksDisarm q => Sys2Proof.Machine.execKsDisarm q s
  | .ksSetTrim q => Sys2Proof.Machine.execKsSetTrim q s
  | .ksSlew q => Sys2Proof.Machine.execKsSlew q s
  | .ksAlign q => Sys2Proof.Machine.execKsAlign q s
  | .ksSetDisc q => Sys2Proof.Machine.execKsSetDisc q s
  | .mcGetState q => Sys2Proof.Machine.execMcGetState q s
  | .mcSetRegulator q => Sys2Proof.Machine.execMcSetRegulator q s
  | .mcGetErrors q => Sys2Proof.Machine.execMcGetErrors q s
  | .mcSetMap q => Sys2Proof.Machine.execMcSetMap q s
  | .mcRetire q => Sys2Proof.Machine.execMcRetire q s
  | .recGetState q => Sys2Proof.Machine.execRecGetState q s
  | .recSetFormat q => Sys2Proof.Machine.execRecSetFormat q s
  | .recReadHeader q => Sys2Proof.Machine.execRecReadHeader q s
  | .recGetFlags q => Sys2Proof.Machine.execRecGetFlags q s
  | .monGetState q => Sys2Proof.Machine.execMonGetState q s
  | .monSetContext q => Sys2Proof.Machine.execMonSetContext q s
  | .monSetTone q => Sys2Proof.Machine.execMonSetTone q s
  | .monReadOutput q => Sys2Proof.Machine.execMonReadOutput q s
  | .statGet q => Sys2Proof.Machine.execStatGet q s
  | .statReadSat q => Sys2Proof.Machine.execStatReadSat q s
  | .loopSet q => Sys2Proof.Machine.execLoopSet q s
  | .polGetState q => Sys2Proof.Machine.execPolGetState q s
  | .lkGetPort q => Sys2Proof.Machine.execLkGetPort q s
  | .lkRetrain q => Sys2Proof.Machine.execLkRetrain q s
  | .lkSetLanes q => Sys2Proof.Machine.execLkSetLanes q s
  | .lkSlip q => Sys2Proof.Machine.execLkSlip q s
  | .lkPrbs q => Sys2Proof.Machine.execLkPrbs q s
  | .lkPrbsRead q => Sys2Proof.Machine.execLkPrbsRead q s
  | .takeOpen q => Sys2Proof.Machine.execTakeOpen q s
  | .takeClose q => Sys2Proof.Machine.execTakeClose q s
  | .takeGetState q => Sys2Proof.Machine.execTakeGetState q s
  | .magIdentify q => Sys2Proof.Machine.execMagIdentify q s
  | .magFormat q => Sys2Proof.Machine.execMagFormat q s
  | .magRead q => Sys2Proof.Machine.execMagRead q s
  | .takeRecover q found => Sys2Proof.Machine.execTakeRecover q found s
  | .fbGetState q => Sys2Proof.Machine.execFbGetState q s
  | .fbGetNodes q => Sys2Proof.Machine.execFbGetNodes q s
  | .fbRediscover q => Sys2Proof.Machine.execFbRediscover q s
  | .fbRemote q => Sys2Proof.Machine.execFbRemote q s
  | .fbArrayTakeOpen q => Sys2Proof.Machine.execFbArrayTakeOpen q s
  | .fbArrayTakeClose q => Sys2Proof.Machine.execFbArrayTakeClose q s
  | .fbSharedArm q => Sys2Proof.Machine.execFbSharedArm q s
  | .thGetState q => Sys2Proof.Machine.execThGetState q s
  | .thSetCooling q => Sys2Proof.Machine.execThSetCooling q s
  | .agGetPlan q => Sys2Proof.Machine.execAgGetPlan q s
  | .agReadHistory q => Sys2Proof.Machine.execAgReadHistory q s
  | .agRecompute q => Sys2Proof.Machine.execAgRecompute q s
  | .rsvGetState q => Sys2Proof.Machine.execRsvGetState q s
  | .rsvSetConfig q => Sys2Proof.Machine.execRsvSetConfig q s
  | .rsvTest q pgFell cellLow => Sys2Proof.Machine.execRsvTest q pgFell cellLow s
  | .rsvShip q => Sys2Proof.Machine.execRsvShip q s
  | .evtGet q => Sys2Proof.Machine.execEvtGet q s
  | .evtClear q => Sys2Proof.Machine.execEvtClear q s
  | .evtSetMask q => Sys2Proof.Machine.execEvtSetMask q s
  | .fltGetState q => Sys2Proof.Machine.execFltGetState q s
  | .wdgSet q => Sys2Proof.Machine.execWdgSet q s
  | .stRun q => Sys2Proof.Machine.execStRun q s
  | .stGetResult q => Sys2Proof.Machine.execStGetResult q s
  | .twXfer q start result => Sys2Proof.Machine.execTwXfer q start result s
  | .registerWrite c addr w => Sys2Proof.Machine.execRegisterWrite c addr w s
  | .engSwapReq c e => Sys2Proof.Machine.execEngSwapReq c e s
  | .chCfgEnStart c e k => Sys2Proof.Machine.execChCfgEnStart c e k s
  | .engInPost c e k w => Sys2Proof.Machine.execEngInPost c e k w s
  | .engBcastWrite c k w => Sys2Proof.Machine.execEngBcastWrite c k w s
  | .lnSlipWrite c l => Sys2Proof.Machine.execLnSlipWrite c l s
  | .ksPeriodWrite c k p => Sys2Proof.Machine.execKsPeriodWrite c k p s
  | .lnPrbsErrLatch l => Sys2Proof.Machine.execLnPrbsErrLatch l s
  | .sysDomainReqWrite c w => Sys2Proof.Machine.execSysDomainReqWrite c w s
  | .twWindowWrite addr group ptr data => Sys2Proof.Machine.execTwWindowWrite addr group ptr data s
  | .twWindowRead addr ptr n => Sys2Proof.Machine.execTwWindowRead addr ptr n s
  | .twWindowReadTimeout => Sys2Proof.Machine.execTwWindowReadTimeout s
  | .mbxSubmit addr group => Sys2Proof.Machine.execMbxSubmit addr group s
  | .mbxRelease addr group => Sys2Proof.Machine.execMbxRelease addr group s
  | .mbxOverrun => Sys2Proof.Machine.execMbxOverrun s
  | .addrAssign data => Sys2Proof.Machine.execAddrAssign data s
  | .partialByte => Sys2Proof.Machine.execPartialByte s
  | .twTargetSclStuck => Sys2Proof.Machine.execTwTargetSclStuck s
  | .wakeMatch addr => Sys2Proof.Machine.execWakeMatch addr s
  | .supMainEnRise => Sys2Proof.Machine.execSupMainEnRise s
  | .railFault rail => Sys2Proof.Machine.execRailFault rail s
  | .rstNRelease pins => Sys2Proof.Machine.execRstNRelease pins s
  | .rstNLow => Sys2Proof.Machine.execRstNLow s
  | .trefclkLost => Sys2Proof.Machine.execTrefclkLost s
  | .trefclkRestored => Sys2Proof.Machine.execTrefclkRestored s
  | .lrefclkLost => Sys2Proof.Machine.execLrefclkLost s
  | .domainPowered d => Sys2Proof.Machine.execDomainPowered d s
  | .bootFirmware ok0 ok1 chainOk => Sys2Proof.Machine.execBootFirmware ok0 ok1 chainOk s
  | .profileLoad => Sys2Proof.Machine.execProfileLoad s
  | .dramTrain fail1 fail2 => Sys2Proof.Machine.execDramTrain fail1 fail2 s
  | .calLoad bad => Sys2Proof.Machine.execCalLoad bad s
  | .reserveCheck pgFell cellLow => Sys2Proof.Machine.execReserveCheck pgFell cellLow s
  | .lanesStage margins => Sys2Proof.Machine.execLanesStage margins s
  | .discoveryStage => Sys2Proof.Machine.execDiscoveryStage s
  | .ready => Sys2Proof.Machine.execReady s
  | .captureAutoStart => Sys2Proof.Machine.execCaptureAutoStart s
  | .magRecoveryScan m found => Sys2Proof.Machine.execMagRecoveryScan m found s
  | .shipExit => Sys2Proof.Machine.execShipExit s
  | .compareFire k => Sys2Proof.Machine.execCompareFire k s
  | .compareLateFire k => Sys2Proof.Machine.execCompareLateFire k s
  | .chainArm k => Sys2Proof.Machine.execChainArm k s
  | .keystoneWrap => Sys2Proof.Machine.execKeystoneWrap s
  | .slewEnd => Sys2Proof.Machine.execSlewEnd s
  | .txPulseLead nodeB => Sys2Proof.Machine.execTxPulseLead nodeB s
  | .completeTimeout => Sys2Proof.Machine.execCompleteTimeout s
  | .genlockEdge t => Sys2Proof.Machine.execGenlockEdge t s
  | .genlockRefLost => Sys2Proof.Machine.execGenlockRefLost s
  | .triggerStamp t => Sys2Proof.Machine.execTriggerStamp t s
  | .halt e ch => Sys2Proof.Machine.execHalt e ch s
  | .setImm e ch => Sys2Proof.Machine.execSetImm e ch s
  | .outBits e ch => Sys2Proof.Machine.execOutBits e ch s
  | .inBits e ch => Sys2Proof.Machine.execInBits e ch s
  | .pull e ch => Sys2Proof.Machine.execPull e ch s
  | .push e ch => Sys2Proof.Machine.execPush e ch s
  | .mov e ch => Sys2Proof.Machine.execMov e ch s
  | .add e ch => Sys2Proof.Machine.execAdd e ch s
  | .jmp e ch => Sys2Proof.Machine.execJmp e ch s
  | .delay e ch => Sys2Proof.Machine.execDelay e ch s
  | .wait e ch => Sys2Proof.Machine.execWait e ch s
  | .strobe e ch => Sys2Proof.Machine.execStrobe e ch s
  | .sync e ch => Sys2Proof.Machine.execSync e ch s
  | .yield e ch => Sys2Proof.Machine.execYield e ch s
  | .delayExpire e ch => Sys2Proof.Machine.execDelayExpire e ch s
  | .waitSatisfied e ch => Sys2Proof.Machine.execWaitSatisfied e ch s
  | .queueStallResume e ch => Sys2Proof.Machine.execQueueStallResume e ch s
  | .barrierRelease e b => Sys2Proof.Machine.execBarrierRelease e b s
  | .quantumExpire e => Sys2Proof.Machine.execQuantumExpire e s
  | .timedOutputApply e => Sys2Proof.Machine.execTimedOutputApply e s
  | .pinEdge pin level => Sys2Proof.Machine.execPinEdge pin level s
  | .engineFault e cause => Sys2Proof.Machine.execEngineFault e cause s
  | .engineSwap e => Sys2Proof.Machine.execEngineSwap e s
  | .engRestoreHandover c => Sys2Proof.Machine.execEngRestoreHandover c s
  | .engRestoreTimeout c => Sys2Proof.Machine.execEngRestoreTimeout c s
  | .dispatcherPost c kind pair nodeB => Sys2Proof.Machine.execDispatcherPost c kind pair nodeB s
  | .nodeConversionDone u nodeB ns px => Sys2Proof.Machine.execNodeConversionDone u nodeB ns px s
  | .unitTimeout u nodeB px => Sys2Proof.Machine.execUnitTimeout u nodeB px s
  | .calVisitDone c pair meas => Sys2Proof.Machine.execCalVisitDone c pair meas s
  | .bgcalPassLate r => Sys2Proof.Machine.execBgcalPassLate r s
  | .calWriteback => Sys2Proof.Machine.execCalWriteback s
  | .courseSegmentRx r hdr beats full => Sys2Proof.Machine.execCourseSegmentRx r hdr beats full s
  | .frameStartRx r hdr => Sys2Proof.Machine.execFrameStartRx r hdr s
  | .frameEndRx r hdr => Sys2Proof.Machine.execFrameEndRx r hdr s
  | .calPacketRx r hdr c pair meas => Sys2Proof.Machine.execCalPacketRx r hdr c pair meas s
  | .frameDeadline n => Sys2Proof.Machine.execFrameDeadline n s
  | .statsPublish n => Sys2Proof.Machine.execStatsPublish n s
  | .statsMapTimeout n => Sys2Proof.Machine.execStatsMapTimeout n s
  | .aeUpdate => Sys2Proof.Machine.execAeUpdate s
  | .awbUpdate => Sys2Proof.Machine.execAwbUpdate s
  | .headerCloseTimeout n => Sys2Proof.Machine.execHeaderCloseTimeout n s
  | .recordSinkWord e ch w => Sys2Proof.Machine.execRecordSinkWord e ch w s
  | .drainAshlarStart => Sys2Proof.Machine.execDrainAshlarStart s
  | .magResponse m resp data => Sys2Proof.Machine.execMagResponse m resp data s
  | .magDeadlineMiss m cid => Sys2Proof.Machine.execMagDeadlineMiss m cid s
  | .takeCloseDone => Sys2Proof.Machine.execTakeCloseDone s
  | .metaCairnsWrite => Sys2Proof.Machine.execMetaCairnsWrite s
  | .takeEntryRewrite => Sys2Proof.Machine.execTakeEntryRewrite s
  | .magPortsDownTimeout => Sys2Proof.Machine.execMagPortsDownTimeout s
  | .laneLock l => Sys2Proof.Machine.execLaneLock l s
  | .laneLockLost l => Sys2Proof.Machine.execLaneLockLost l s
  | .bitSlipSweep l => Sys2Proof.Machine.execBitSlipSweep l s
  | .markerRx l body bipOk skew => Sys2Proof.Machine.execMarkerRx l body bipOk skew s
  | .switchBlockRx t lanes => Sys2Proof.Machine.execSwitchBlockRx t lanes s
  | .restripeRx t set epoch => Sys2Proof.Machine.execRestripeRx t set epoch s
  | .linkDownRx t reason => Sys2Proof.Machine.execLinkDownRx t reason s
  | .restripeTimeout t => Sys2Proof.Machine.execRestripeTimeout t s
  | .dataPacketRx t good framing hdr payload => Sys2Proof.Machine.execDataPacketRx t good framing hdr payload s
  | .ackRx t seq => Sys2Proof.Machine.execAckRx t seq s
  | .nakRx t seq => Sys2Proof.Machine.execNakRx t seq s
  | .creditRx t l0 l1 l2 => Sys2Proof.Machine.execCreditRx t l0 l1 l2 s
  | .packetTransmit t => Sys2Proof.Machine.execPacketTransmit t s
  | .replayTimeout t => Sys2Proof.Machine.execReplayTimeout t s
  | .creditUpdateTimer t => Sys2Proof.Machine.execCreditUpdateTimer t s
  | .creditStall t vc => Sys2Proof.Machine.execCreditStall t vc s
  | .portDomainOn t => Sys2Proof.Machine.execPortDomainOn t s
  | .portPllLock t signal => Sys2Proof.Machine.execPortPllLock t signal s
  | .alignWindowEnd t => Sys2Proof.Machine.execAlignWindowEnd t s
  | .trainingBlockRx l body => Sys2Proof.Machine.execTrainingBlockRx l body s
  | .portRecoverEnd t => Sys2Proof.Machine.execPortRecoverEnd t s
  | .portTrainTimeout t => Sys2Proof.Machine.execPortTrainTimeout t s
  | .portRetryWaitEnd t => Sys2Proof.Machine.execPortRetryWaitEnd t s
  | .laneReadmit l => Sys2Proof.Machine.execLaneReadmit l s
  | .eyeSweep margins => Sys2Proof.Machine.execEyeSweep margins s
  | .refreshDue r busy => Sys2Proof.Machine.execRefreshDue r busy s
  | .refreshPayback r => Sys2Proof.Machine.execRefreshPayback r s
  | .dramTempRead r temp => Sys2Proof.Machine.execDramTempRead r temp s
  | .dramTempMissing r => Sys2Proof.Machine.execDramTempMissing r s
  | .recentrePass r => Sys2Proof.Machine.execRecentrePass r s
  | .recentrePassEnd r eyeLow => Sys2Proof.Machine.execRecentrePassEnd r eyeLow s
  | .dataRateChange r verifyOk => Sys2Proof.Machine.execDataRateChange r verifyOk s
  | .uncorrectableAccess r pa port mirrorBad => Sys2Proof.Machine.execUncorrectableAccess r pa port mirrorBad s
  | .channelNoResponse r => Sys2Proof.Machine.execChannelNoResponse r s
  | .monDevelopStart => Sys2Proof.Machine.execMonDevelopStart s
  | .monOutputWhole x rows => Sys2Proof.Machine.execMonOutputWhole x rows s
  | .monSendDone x => Sys2Proof.Machine.execMonSendDone x s
  | .helloTimer => Sys2Proof.Machine.execHelloTimer s
  | .helloRx d payload => Sys2Proof.Machine.execHelloRx d payload s
  | .rootDeclare => Sys2Proof.Machine.execRootDeclare s
  | .reportRx d payload => Sys2Proof.Machine.execReportRx d payload s
  | .discoveryQuiet => Sys2Proof.Machine.execDiscoveryQuiet s
  | .fabricAloneTimeout => Sys2Proof.Machine.execFabricAloneTimeout s
  | .tableRx payload => Sys2Proof.Machine.execTableRx payload s
  | .tableSwitch => Sys2Proof.Machine.execTableSwitch s
  | .timeExchangeTimer t1 => Sys2Proof.Machine.execTimeExchangeTimer t1 s
  | .timeMsgRx node payload arrived sent => Sys2Proof.Machine.execTimeMsgRx node payload arrived sent s
  | .rootLost => Sys2Proof.Machine.execRootLost s
  | .arrayMsgRx node payload => Sys2Proof.Machine.execArrayMsgRx node payload s
  | .arrayPrepareTimeout => Sys2Proof.Machine.execArrayPrepareTimeout s
  | .arrayCloseTick => Sys2Proof.Machine.execArrayCloseTick s
  | .triggerMsgRx payload => Sys2Proof.Machine.execTriggerMsgRx payload s
  | .peerMsgRx node payload => Sys2Proof.Machine.execPeerMsgRx node payload s
  | .forwardFrameStart => Sys2Proof.Machine.execForwardFrameStart s
  | .forwardRetry => Sys2Proof.Machine.execForwardRetry s
  | .remoteReplyRx node payload => Sys2Proof.Machine.execRemoteReplyRx node payload s
  | .remoteTimeout => Sys2Proof.Machine.execRemoteTimeout s
  | .fabricNoticeRx node payload => Sys2Proof.Machine.execFabricNoticeRx node payload s
  | .diodeSample c temp dly => Sys2Proof.Machine.execDiodeSample c temp dly s
  | .tdSample n temp ok => Sys2Proof.Machine.execTdSample n temp ok s
  | .regionModelStep r rl rc => Sys2Proof.Machine.execRegionModelStep r rl rc s
  | .riseShedAdvance => Sys2Proof.Machine.execRiseShedAdvance s
  | .shedStepExit => Sys2Proof.Machine.execShedStepExit s
  | .tecControl => Sys2Proof.Machine.execTecControl s
  | .fanTachWord w => Sys2Proof.Machine.execFanTachWord w s
  | .fanStall => Sys2Proof.Machine.execFanStall s
  | .vidControlTick => Sys2Proof.Machine.execVidControlTick s
  | .vidStep => Sys2Proof.Machine.execVidStep s
  | .ageingHourly index served => Sys2Proof.Machine.execAgeingHourly index served s
  | .planComputeDone => Sys2Proof.Machine.execPlanComputeDone s
  | .vinLoss pg => Sys2Proof.Machine.execVinLoss pg s
  | .closeOutDone => Sys2Proof.Machine.execCloseOutDone s
  | .energyCheck mv ma => Sys2Proof.Machine.execEnergyCheck mv ma s
  | .vinReturnStable vin => Sys2Proof.Machine.execVinReturnStable vin s
  | .reserveLimitUpdate => Sys2Proof.Machine.execReserveLimitUpdate s
  | .chargeCurrentSearch vin => Sys2Proof.Machine.execChargeCurrentSearch vin s
  | .chargePhaseTimer mv ma => Sys2Proof.Machine.execChargePhaseTimer mv ma s
  | .cellRemoved => Sys2Proof.Machine.execCellRemoved s
  | .cellInserted mv => Sys2Proof.Machine.execCellInserted mv s
  | .buttonShortPress => Sys2Proof.Machine.execButtonShortPress s
  | .buttonResetPress => Sys2Proof.Machine.execButtonResetPress s
  | .resetHoldEnd => Sys2Proof.Machine.execResetHoldEnd s
  | .buttonShipHold => Sys2Proof.Machine.execButtonShipHold s
  | .watchdogLockup => Sys2Proof.Machine.execWatchdogLockup s
  | .coreRestartDone => Sys2Proof.Machine.execCoreRestartDone s
  | .nvmWordWrite ok1 ok2 => Sys2Proof.Machine.execNvmWordWrite ok1 ok2 s
  | .cairnFlush => Sys2Proof.Machine.execCairnFlush s
  | .maintainTimeout => Sys2Proof.Machine.execMaintainTimeout s
  | .stagingRelease => Sys2Proof.Machine.execStagingRelease s
  | .challengeLockoutEnd => Sys2Proof.Machine.execChallengeLockoutEnd s
  | .railValid rail => Sys2Proof.Machine.execRailValid rail s
  | .heldExit => Sys2Proof.Machine.execHeldExit s
  | .lrefclkRestored => Sys2Proof.Machine.execLrefclkRestored s
  | .vddAonRemoved => Sys2Proof.Machine.execVddAonRemoved s
  | .fullCalDone notDark entries defects temp => Sys2Proof.Machine.execFullCalDone notDark entries defects temp s
  | .selfTestEnd fails => Sys2Proof.Machine.execSelfTestEnd fails s
  | .prbsPatternRx l bits errs run => Sys2Proof.Machine.execPrbsPatternRx l bits errs run s
  | .pageIdleTimeout r bank => Sys2Proof.Machine.execPageIdleTimeout r bank s
  | .twBusFree start result => Sys2Proof.Machine.execTwBusFree start result s
  | .statusLampSlot past8 => Sys2Proof.Machine.execStatusLampSlot past8 s

end Sys2Proof.Machine
end

