-- ==== Sys2Proof/Safety.lean ====
section
/-! DEFINITION. The terms that statements about runs are made in: when a request executes at once, what a reply is, and what a
command may leave changed. -/

namespace Sys2Proof

open Sys2Proof.Machine

/-- A request as a command carries it: the request, its opcode, and the least class that may issue it (R71, R81). -/
structure Asked where
  req : Req
  opcode : Nat
  cls : Nat

/-- The request that a command is: the opcodes of the spec's tables, with their minimum classes. -/
def Instr.request : Instr → Option Asked
  | .ping q => some ⟨q, 0x0000, 0⟩
  | .getIdentity q => some ⟨q, 0x0001, 0⟩
  | .getStatus q => some ⟨q, 0x0002, 0⟩
  | .readReg q => some ⟨q, 0x0003, 0⟩
  | .writeReg q => some ⟨q, 0x0004, 2⟩
  | .modifyReg q => some ⟨q, 0x0005, 2⟩
  | .getKeystone q => some ⟨q, 0x0006, 0⟩
  | .standby q => some ⟨q, 0x0010, 1⟩
  | .restart q _ => some ⟨q, 0x0011, 3⟩
  | .setCapture q => some ⟨q, 0x0012, 1⟩
  | .setEventRoute q => some ⟨q, 0x0020, 2⟩
  | .getEventRoute q => some ⟨q, 0x0021, 0⟩
  | .getProfileInfo q => some ⟨q, 0x0100, 0⟩
  | .selectProfile q => some ⟨q, 0x0101, 2⟩
  | .readProfile q => some ⟨q, 0x0102, 0⟩
  | .stageProfile q => some ⟨q, 0x0103, 2⟩
  | .commitProfile q => some ⟨q, 0x0104, 2⟩
  | .getChallenge q => some ⟨q, 0x0110, 0⟩
  | .answerChallenge q => some ⟨q, 0x0111, 0⟩
  | .leaveMaintain q => some ⟨q, 0x0112, 0⟩
  | .setMaintKey q => some ⟨q, 0x0113, 3⟩
  | .readLog q => some ⟨q, 0x0120, 0⟩
  | .getLogState q => some ⟨q, 0x0121, 0⟩
  | .fwBegin q => some ⟨q, 0x0130, 3⟩
  | .fwWrite q => some ⟨q, 0x0131, 3⟩
  | .fwFinish q => some ⟨q, 0x0132, 3⟩
  | .fwSetBoot q => some ⟨q, 0x0133, 3⟩
  | .ftGetSchedule q => some ⟨q, 0x0200, 0⟩
  | .ftSetTiming q => some ⟨q, 0x0201, 1⟩
  | .ftSetShape q => some ⟨q, 0x0202, 1⟩
  | .ftTrigger q => some ⟨q, 0x0203, 1⟩
  | .ftCheck q => some ⟨q, 0x0204, 0⟩
  | .ftGetFrame q => some ⟨q, 0x0205, 0⟩
  | .calGetState q => some ⟨q, 0x0300, 0⟩
  | .calFull q => some ⟨q, 0x0301, 2⟩
  | .calReadEntry q => some ⟨q, 0x0302, 0⟩
  | .calWriteEntry q => some ⟨q, 0x0303, 3⟩
  | .defectRead q => some ⟨q, 0x0304, 0⟩
  | .defectAdd q => some ⟨q, 0x0305, 2⟩
  | .defectRemove q => some ⟨q, 0x0306, 3⟩
  | .calReadEpoch q => some ⟨q, 0x0307, 0⟩
  | .engGetState q => some ⟨q, 0x0400, 0⟩
  | .engLoad q => some ⟨q, 0x0401, 2⟩
  | .engSwap q => some ⟨q, 0x0402, 2⟩
  | .engChan q => some ⟨q, 0x0403, 2⟩
  | .engQueuePost q => some ⟨q, 0x0404, 1⟩
  | .engQueueRead q => some ⟨q, 0x0405, 0⟩
  | .engReadProg q => some ⟨q, 0x0406, 0⟩
  | .engRestore q => some ⟨q, 0x0407, 3⟩
  | .ksGetState q => some ⟨q, 0x0500, 0⟩
  | .ksArm q => some ⟨q, 0x0501, 1⟩
  | .ksDisarm q => some ⟨q, 0x0502, 1⟩
  | .ksSetTrim q => some ⟨q, 0x0503, 2⟩
  | .ksSlew q => some ⟨q, 0x0504, 2⟩
  | .ksAlign q => some ⟨q, 0x0505, 2⟩
  | .ksSetDisc q => some ⟨q, 0x0506, 2⟩
  | .mcGetState q => some ⟨q, 0x0800, 0⟩
  | .mcSetRegulator q => some ⟨q, 0x0801, 2⟩
  | .mcGetErrors q => some ⟨q, 0x0802, 0⟩
  | .mcSetMap q => some ⟨q, 0x0803, 2⟩
  | .mcRetire q => some ⟨q, 0x0804, 3⟩
  | .recGetState q => some ⟨q, 0x0600, 0⟩
  | .recSetFormat q => some ⟨q, 0x0601, 2⟩
  | .recReadHeader q => some ⟨q, 0x0602, 0⟩
  | .recGetFlags q => some ⟨q, 0x0603, 0⟩
  | .monGetState q => some ⟨q, 0x0700, 0⟩
  | .monSetContext q => some ⟨q, 0x0701, 1⟩
  | .monSetTone q => some ⟨q, 0x0702, 1⟩
  | .monReadOutput q => some ⟨q, 0x0703, 0⟩
  | .statGet q => some ⟨q, 0x0710, 0⟩
  | .statReadSat q => some ⟨q, 0x0711, 0⟩
  | .loopSet q => some ⟨q, 0x0712, 2⟩
  | .polGetState q => some ⟨q, 0x0713, 0⟩
  | .lkGetPort q => some ⟨q, 0x0900, 0⟩
  | .lkRetrain q => some ⟨q, 0x0901, 2⟩
  | .lkSetLanes q => some ⟨q, 0x0902, 2⟩
  | .lkSlip q => some ⟨q, 0x0903, 2⟩
  | .lkPrbs q => some ⟨q, 0x0904, 2⟩
  | .lkPrbsRead q => some ⟨q, 0x0905, 0⟩
  | .takeOpen q => some ⟨q, 0x0610, 1⟩
  | .takeClose q => some ⟨q, 0x0611, 1⟩
  | .takeGetState q => some ⟨q, 0x0612, 0⟩
  | .magIdentify q => some ⟨q, 0x0613, 0⟩
  | .magFormat q => some ⟨q, 0x0614, 2⟩
  | .magRead q => some ⟨q, 0x0615, 0⟩
  | .takeRecover q _ => some ⟨q, 0x0616, 2⟩
  | .fbGetState q => some ⟨q, 0x0A00, 0⟩
  | .fbGetNodes q => some ⟨q, 0x0A01, 0⟩
  | .fbRediscover q => some ⟨q, 0x0A02, 2⟩
  | .fbRemote q => some ⟨q, 0x0A10, 0⟩
  | .fbArrayTakeOpen q => some ⟨q, 0x0A20, 1⟩
  | .fbArrayTakeClose q => some ⟨q, 0x0A21, 1⟩
  | .fbSharedArm q => some ⟨q, 0x0A22, 1⟩
  | .thGetState q => some ⟨q, 0x0B00, 0⟩
  | .thSetCooling q => some ⟨q, 0x0B01, 2⟩
  | .agGetPlan q => some ⟨q, 0x0B02, 0⟩
  | .agReadHistory q => some ⟨q, 0x0B03, 0⟩
  | .agRecompute q => some ⟨q, 0x0B04, 2⟩
  | .rsvGetState q => some ⟨q, 0x0C00, 0⟩
  | .rsvSetConfig q => some ⟨q, 0x0C01, 2⟩
  | .rsvTest q _ _ => some ⟨q, 0x0C02, 2⟩
  | .rsvShip q => some ⟨q, 0x0C03, 1⟩
  | .evtGet q => some ⟨q, 0x0D00, 0⟩
  | .evtClear q => some ⟨q, 0x0D01, 1⟩
  | .evtSetMask q => some ⟨q, 0x0D02, 2⟩
  | .fltGetState q => some ⟨q, 0x0D03, 0⟩
  | .wdgSet q => some ⟨q, 0x0D04, 3⟩
  | .stRun q => some ⟨q, 0x0F00, 2⟩
  | .stGetResult q => some ⟨q, 0x0F01, 0⟩
  | .twXfer q _ _ => some ⟨q, 0x0E00, 1⟩
  | _ => none

/-- The command answers a next state, leaves the queue of commands as it was, and the block it leaves satisfies `P`. -/
def Completes (i : Instr) (s : State) (P : Block → Prop) : Prop :=
  ∃ t : Block, exec i s = .next { s with blk := t } ∧ P t

/-- The command answers this state of the block, and leaves the queue as it was. -/
def Becomes (i : Instr) (s : State) (t : Block) : Prop := exec i s = .next { s with blk := t }

/-- A request on a carrier that gets replies, without QUIET, executes at once (R60, R72, R75 to R77): the part is READY, the core
runs, nothing of the carrier waits, the header is well formed, a result of `maxRes` bytes fits the carrier, and the origin holds
class `cls`. -/
structure AtOnce (cls maxRes : Nat) (q : Req) (b : Block) : Prop where
  core : b.pwr.coreDown = false
  turn : b.mustWait q.carrier = false
  served : serves b q = true
  ready : b.fld SYS_BOOT.STAGE = 9
  header : headerOk q = true
  fits : maxRes ≤ lenLimit q.carrier
  class_ : cls ≤ classOf b q.carrier
  notPin : ∀ e p, q.carrier ≠ .pin e p
  loud : q.flags.getLsbD 1 = false

/-- A reply stands in the block's list: to the request's carrier, with its opcode and tag, that status and result, and nothing to
wait for (R74). -/
def Replied (q : Req) (op status : Nat) (result : List Byte) (t : Block) : Prop :=
  ∃ r ∈ t.cmd.replies, r.carrier = q.carrier ∧ r.opcode = op ∧ r.tag = q.tag ∧ r.status = status ∧ r.result = result ∧ r.wait = .none

/-- A reply is held back until its action ends (R76, R79). -/
def Held (q : Req) (op : Nat) (w : WaitOn) (t : Block) : Prop :=
  ∃ r ∈ t.cmd.replies, r.carrier = q.carrier ∧ r.opcode = op ∧ r.tag = q.tag ∧ r.wait = w

/-- What executing a request that only reads leaves: its origin's MAINTAIN touched, its reply given, nothing else (R126, R74). -/
def readReply (q : Req) (op : Nat) (result : List Byte) (b : Block) : Block :=
  (touchMaintain q.carrier b).reply q op stOk result

/-- The command is a request that answers OK with `result` and does nothing else. -/
def Reads (i : Instr) (q : Req) (op : Nat) (result : List Byte) (s : State) : Prop :=
  exec i s = .next { s with blk := readReply q op result s.blk }

/-- The parameters of a request have exactly `n` bytes, and those at `res`, which are reserved, are zero (R71). -/
def Shaped (q : Req) (n : Nat) (res : List Nat) : Prop := q.params.length = n ∧ ∀ o ∈ res, pByte q o = 0

/-- A limit that is smaller on the mailbox (R75). -/
def carrierLimit (q : Req) (wide mailbox : Nat) : Nat :=
  match q.carrier with
  | .twoWire _ _ => mailbox
  | _ => wide

/-- The request executes: its whole effect is `body`, on the block whose only change is that the origin's MAINTAIN is touched (R126). -/
def Executes (i : Instr) (q : Req) (body : Block → Block) (s : State) : Prop :=
  exec i s = .next { s with blk := body (touchMaintain q.carrier s.blk) }

/-- The request answers OK with `result`, read from the block, and does nothing else. -/
def Answers (i : Instr) (q : Req) (op : Nat) (result : Block → List Byte) (s : State) : Prop :=
  Executes i q (fun b => b.reply q op stOk (result b)) s

/-- No check of a write of these words refuses it (R77, R82): `cls` is the writer's class. -/
def WriteAllowed (b : Block) (cls : Nat) (l : List WordW) : Prop := ∀ c ∈ writeChecks b cls false 0 l, c.1 = false

/-- A cairn of this origin, kind, target and values stands in the queue, stamped now (R127, R131). -/
def Logged (origin kind target : Nat) (old new : Word) (t : Block) : Prop :=
  ∃ c ∈ t.log.queue, c.origin = origin ∧ c.kind = kind ∧ c.target = target ∧ c.old = old ∧ c.new = new

/-- The next instruction of channel `ch` of engine `e` is `w`, of opcode `op`: the engine runs, the scheduler has chosen the channel,
and no stop was asked for (R208, R209). -/
structure InstrDue (op : Nat) (e : BitVec 8) (ch : BitVec 7) (w : Word) (b : Block) : Prop where
  engine : e.toNat < 144
  channel : 128 ≤ e.toNat → ch.toNat < 16
  running : b.fld (ENG_STAT.STATE e.toNat) = 1
  turn : scheduled b e.toNat = some ch.toNat
  word : fetchInstr b e.toNat (b.chan e.toNat ch.toNat).pc = w
  opcode : wfield w 28 4 = op
  goesOn : (b.chan e.toNat ch.toNat).stopReq = false

/-- A channel's context with PC advanced, modulo 1,024 (R209). -/
def nextChan (b : Block) (e : BitVec 8) (ch : BitVec 7) : Chan :=
  { b.chan e.toNat ch.toNat with pc := ((b.chan e.toNat ch.toNat).pc + 1) % 1024 }

/-- An instruction that changes only its own channel's context: the turn is counted and the context is `c`. -/
def Retires (i : Instr) (e : BitVec 8) (ch : BitVec 7) (s : State) (c : Chan) : Prop :=
  Becomes i s ((takeTurn e.toNat ch.toNat s.blk).setChan e.toNat ch.toNat c)

end Sys2Proof
end

