-- ==== Sys2Proof/WellFormed.lean ====
section
/-! DEFINITION. Well-formed commands: the numbers they name are numbers the part has (R12, R43, R187, R206, R452, R521). A command
that is not well formed stops with a fault that says what it names in vain. -/

namespace Sys2Proof

/-- An engine: masons 0 to 127, pin engines 128 to 143 (R206). -/
def engineOk (e : Nat) : Bool := decide (e < 144)

/-- A channel of an engine: a pin engine has 16 (R206). -/
def channelOk (e ch : Nat) : Bool := decide (e < 144) && (decide (e < 128) || decide (ch < 16))

/-- A lane: 0 to 39 (R452). -/
def laneOk (l : BitVec 6) : Bool := decide (l.toNat < 40)

/-- A unit, active or optical black (R12). -/
def unitOk (u : BitVec 22) : Bool := decide (u.toNat < 2462720)

/-- A rail: the 11 of R43. -/
def railOk (r : BitVec 4) : Bool := decide (r.toNat < 11)

/-- A pass: codes 1 to 4 (R521). -/
def passOk (d : BitVec 3) : Bool := decide (1 ≤ d.toNat) && decide (d.toNat ≤ 4)

/-- A self-test failure names a mason (item 0), a pin engine (item 1) or a unit (item 2) that exists (R624). -/
def failOk (f : BitVec 3 × BitVec 22) : Bool :=
  (decide (f.1.toNat ≠ 0) || decide (f.2.toNat < 128)) && (decide (f.1.toNat ≠ 1) || decide (f.2.toNat < 16)) &&
    (decide (f.1.toNat ≠ 2) || decide (f.2.toNat < 2462720))

/-- The command names only things the part has. -/
def Instr.wf : Instr → Bool
  | .engSwapReq _ e => engineOk e.toNat
  | .chCfgEnStart _ e k => channelOk e.toNat k.toNat
  | .engInPost _ e k _ => channelOk e.toNat k.toNat
  | .lnSlipWrite _ l => laneOk l
  | .lnPrbsErrLatch l => laneOk l
  | .railFault r => railOk r
  | .railValid r => railOk r
  | .halt e ch => channelOk e.toNat ch.toNat
  | .setImm e ch => channelOk e.toNat ch.toNat
  | .outBits e ch => channelOk e.toNat ch.toNat
  | .inBits e ch => channelOk e.toNat ch.toNat
  | .pull e ch => channelOk e.toNat ch.toNat
  | .push e ch => channelOk e.toNat ch.toNat
  | .mov e ch => channelOk e.toNat ch.toNat
  | .add e ch => channelOk e.toNat ch.toNat
  | .jmp e ch => channelOk e.toNat ch.toNat
  | .delay e ch => channelOk e.toNat ch.toNat
  | .wait e ch => channelOk e.toNat ch.toNat
  | .strobe e ch => channelOk e.toNat ch.toNat
  | .sync e ch => channelOk e.toNat ch.toNat
  | .yield e ch => channelOk e.toNat ch.toNat
  | .delayExpire e ch => channelOk e.toNat ch.toNat
  | .waitSatisfied e ch => channelOk e.toNat ch.toNat
  | .queueStallResume e ch => channelOk e.toNat ch.toNat
  | .barrierRelease e _ => engineOk e.toNat
  | .quantumExpire e => engineOk e.toNat
  | .timedOutputApply e => engineOk e.toNat
  | .engineFault e _ => engineOk e.toNat
  | .engineSwap e => engineOk e.toNat
  | .nodeConversionDone u _ _ _ => unitOk u
  | .unitTimeout u _ _ => unitOk u
  | .laneLock l => laneOk l
  | .laneLockLost l => laneOk l
  | .bitSlipSweep l => laneOk l
  | .markerRx l _ _ _ => laneOk l
  | .trainingBlockRx l _ => laneOk l
  | .laneReadmit l => laneOk l
  | .prbsPatternRx l _ _ _ => laneOk l
  | .helloRx d _ => passOk d
  | .reportRx d _ => passOk d
  | .fullCalDone _ entries _ _ => entries.all (fun e => unitOk e.1)
  | .selfTestEnd fails => fails.all failOk
  | _ => true

end Sys2Proof
end

