-- ==== Sys2Proof/Certificates/Slice0/Obligations.lean ====
section
/-! DEFINITION. What is claimed of the block: the statements for the provers. -/

open Sys2Proof Sys2Proof.Machine

/-- The command at the front of the queue runs, on the state with the rest of the queue, and the step answers what exec answers. -/
def Obligations.StepRunsFront : Prop :=
  ∀ (c : Instr) (rest : List Instr) (s : State), s.pending = c :: rest → step s = exec c { s with pending := rest }

/-- With no command given and no request waiting on a carrier, a step is one tick of the keystone (R293), and nothing else changes. That a
step without a command is one tick is the model's choice (log entry 3). -/
def Obligations.IdleTick : Prop :=
  ∀ s : State, s.pending = [] → s.blk.cmd.accepted = [] → s.blk.ks.stopped = false → s.blk.ks.slew = 0 →
    s.blk.now ≠ BitVec.ofNat 64 (2 ^ 64 - 1) →
    step s = .next { s with blk := { s.blk with ks := { s.blk.ks with now := s.blk.now + 1 } } }

/-- The commands that wait are always a tail of those given: a step takes at most the first of them, and none is lost, repeated,
reordered or invented (the queue is first in, first out; log entry 3). -/
def Obligations.QueueIsFifo : Prop :=
  ∀ (given : List Instr) (s t : State), s.pending <:+ given → step s = .next t → t.pending <:+ given ∧ t.pending = s.pending.tail

/-- At reset no command waits, so the queue is a tail of whatever is given; the counter stands at zero, no event has occurred, the
mailbox is idle and every register word reads as its reset value (R82, R97, R293, R610). -/
def Obligations.ResetState : Prop :=
  (∀ given : List Instr, State.reset.pending <:+ given) ∧ State.reset.blk.now = 0 ∧ State.reset.blk.tw.mbxStat = 0 ∧
    (∀ a : Nat, State.reset.blk.reg a = regReset a) ∧ ∀ e : Nat, e < 1024 → State.reset.blk.evtStatus e = false

/-- A well-formed command never stops the block, in any state: it always answers a next state. Whatever ordinary data it carries and
whatever the state, it has its effect, is refused by the block as the spec says, or does nothing.

A command that names an engine, lane, rail, unit or pass that the part does not have (R12, R43, R206, R452, R521) stops, where
nothing else stands in its way, and says which. -/
def Obligations.OnlyIllFormedStops : Prop :=
  (∀ (i : Instr) (s : State), i.wf = true → ∃ t : State, exec i s = .next t) ∧
  ((∀ (e : BitVec 8) (ch : BitVec 7) (s : State), channelOk e.toNat ch.toNat = false → exec (.halt e ch) s = .fault .noSuchEngine) ∧
  (∀ (l : BitVec 6) (s : State), laneOk l = false → exec (.laneLock l) s = .fault .noSuchLane) ∧
  (∀ (r : BitVec 4) (s : State), railOk r = false → exec (.railFault r) s = .fault .noSuchRail) ∧
  (∀ (u : BitVec 22) (n : Bool) (ns : BitVec 18) (px : List Sample) (s : State), unitOk u = false →
    exec (.nodeConversionDone u n ns px) s = .fault .noSuchUnit) ∧
  (∀ (d : BitVec 3) (p : List Byte) (s : State), passOk d = false → s.blk.pwr.coreDown = false →
    exec (.helloRx d p) s = .fault .noSuchPass))

/-- R77 steps 2 and 3: a request whose origin holds less than its opcode's class is answered DENIED with event 968, or BAD_PARAM where
step 2 comes first; nothing else of the block changes but the MAINTAIN clock of its origin (R126). It holds for every opcode of the
spec's tables. -/
def Obligations.DeniedChangesNothing : Prop :=
  ∀ (i : Instr) (q : Req) (op cls : Nat) (s : State), i.request = some ⟨q, op, cls⟩ →
    s.blk.pwr.coreDown = false → s.blk.mustWait q.carrier = false → serves s.blk q = true → s.blk.fld SYS_BOOT.STAGE = 9 →
    classOf s.blk q.carrier < cls →
    (∃ t, exec i s = .next { s with blk := t } ∧ (t = refuse op q stDenied (touchMaintain q.carrier s.blk) ∨
      t = refuse op q stBadParam (touchMaintain q.carrier s.blk)))

/-- R72, R77 step 2: a request whose header is not well formed is answered BAD_PARAM, whatever its opcode, and nothing else happens.

R75, R76: a request that must wait joins the end of the list of requests accepted when its carrier's queue has room, and is answered
BUSY with event 970 when it has none; it is not executed.

R60, R98: a request to a part that is in standby, in ship mode, held in reset or not yet READY is not executed and changes nothing.

R76 step 5 and R77 step 1: a request to a full queue is answered BUSY and raises event 970; an opcode that no table defines is answered
UNKNOWN_OPCODE (R74), before any other check, and has no other effect but on its origin's MAINTAIN clock (R126). -/
def Obligations.RequestPath : Prop :=
  (∀ (i : Instr) (q : Req) (op cls : Nat) (s : State), i.request = some ⟨q, op, cls⟩ →
    s.blk.pwr.coreDown = false → s.blk.mustWait q.carrier = false → serves s.blk q = true → headerOk q = false →
    exec i s = .next { s with blk := refuse op q stBadParam (touchMaintain q.carrier s.blk) }) ∧
  (∀ (i : Instr) (q : Req) (op cls : Nat) (s : State), i.request = some ⟨q, op, cls⟩ → s.blk.mustWait q.carrier = true →
    (s.blk.outstanding q.carrier < queueLimit q.carrier →
      exec i s = .next { s with blk := { s.blk with cmd := { s.blk.cmd with accepted := s.blk.cmd.accepted ++ [⟨op, q⟩] } } }) ∧
    (queueLimit q.carrier ≤ s.blk.outstanding q.carrier →
      exec i s = .next { s with blk := (s.blk.reply q op stBusy []).raise 970 })) ∧
  (∀ (i : Instr) (q : Req) (op cls : Nat) (s : State), i.request = some ⟨q, op, cls⟩ → s.blk.pwr.coreDown = false →
    s.blk.mustWait q.carrier = false → serves s.blk q = false → exec i s = .next s) ∧
  ((∀ (q : Req) (op : BitVec 16) (s : State), queueLimit q.carrier ≤ s.blk.outstanding q.carrier →
    exec (.requestRefusedBusy q op) s = .next { s with blk := (s.blk.reply q op.toNat stBusy []).raise 970 }) ∧
  (∀ (q : Req) (op : BitVec 16) (s : State), opDefined op.toNat = false → s.blk.pwr.coreDown = false →
    s.blk.mustWait q.carrier = false → serves s.blk q = true →
    exec (.unknownOpcode q op) s =
      .next { s with blk := (touchMaintain q.carrier s.blk).reply q op.toNat stUnknown [] }))

/-- R77: a refused request changes no register but the status word of event 968 or 969, writes no cairn, and leaves every other part of
the block as it was: only its reply and that event appear.

R126, R74: what the reads below leave: a reply OK with the result, to the request's carrier, with its opcode and tag. No register,
event, cairn or other part of the block changes, but the MAINTAIN clock of the origin and, for the mailbox, its reply buffer (R97). -/
def Obligations.ReplyFrames : Prop :=
  (∀ (op st : Nat) (q : Req) (b : Block),
    (∀ a, a ≠ evtStatusA 968 → (refuse op q st b).reg a = b.reg a) ∧ (refuse op q st b).log = b.log ∧
    (∀ e, e ≠ 968 → e ≠ 969 → (refuse op q st b).evtStatus e = b.evtStatus e) ∧
    (refuse op q st b).evtStatus 968 = (b.evtStatus 968 || decide (st = stDenied)) ∧
    (refuse op q st b).evtStatus 969 = (b.evtStatus 969 || decide (st = stConflict)) ∧
    refuse op q st b = { b with regs := (refuse op q st b).regs, evt := (refuse op q st b).evt, cmd := (refuse op q st b).cmd,
                                tw := (refuse op q st b).tw }) ∧
  (∀ (q : Req) (op : Nat) (res : List Byte) (b : Block), (∀ e p, q.carrier ≠ .pin e p) → q.flags.getLsbD 1 = false →
    Replied q op stOk res (readReply q op res b) ∧
    readReply q op res b = { b with cmd := (readReply q op res b).cmd, tw := (readReply q op res b).tw,
                                    acc := { b.acc with maintain := (readReply q op res b).acc.maintain } } ∧
    (readReply q op res b).cmd.accepted = b.cmd.accepted ∧ (readReply q op res b).cmd.notices = b.cmd.notices)

/-- The reads of the system and of the command core (R81, R83, R84, R139, R318, R630): each answers OK with its bytes and does nothing
else.

The reads of a block's state without parameters (R203, R354, R389, R423, R449, R518, R552, R585, R605). MON_GET_STATE and
FB_GET_STATE need their domain powered (R77 step 7); RSV_GET_STATE is refused during close-out (R591). -/
def Obligations.StateReads : Prop :=
  (∀ (q : Req) (s : State), AtOnce 0 100 q s.blk → q.params = [] →
    Reads (.ping q) q 0x0000 (leBytes 8 s.blk.now.toNat) s ∧
    Reads (.getIdentity q) q 0x0001 (leBytes 2 0x6510 ++ [Config.siliconRev, 0] ++ leBytes 8 Config.serial.toNat ++
      wordBytes s.blk.nvm.fw0.version ++ wordBytes s.blk.nvm.fw1.version ++ leBytes 1 (s.blk.fld SYS_BOOT.IMAGE) ++ zeros 3 ++
      leBytes 4 0x00010000 ++ (List.range 32).map Config.idKeyHash) s ∧
    Reads (.getStatus q) q 0x0002 (wordBytes (s.blk.reg SYS_BOOT.addr) ++ wordBytes (s.blk.reg SYS_STATE.addr) ++
      leBytes 8 s.blk.now.toNat ++ wordBytes (s.blk.reg FT_FRAME_LAST.addr) ++ leBytes 2 (s.blk.fld TK_STAT.TAKE) ++
      leBytes 1 (classOf s.blk q.carrier) ++ [0] ++ leBytes 4 (eventsSet s.blk) ++ zeros 4) s ∧
    Reads (.getKeystone q) q 0x0006 (leBytes 8 s.blk.now.toNat) s ∧
    Reads (.getLogState q) q 0x0121 (leBytes 4 (logHead s.blk) ++
      leBytes 4 (if s.blk.log.entries.length < 262144 then 0 else (logHead s.blk + 2 ^ 32 - 262143) % 2 ^ 32) ++
      wordBytes (s.blk.reg LOG_STAT.addr)) s ∧
    Reads (.ksGetState q) q 0x0500 (leBytes 8 s.blk.now.toNat ++ wordsFrom s.blk KS_CFG.addr 5 ++ wordsFrom s.blk (KS_ARMED.addr 0) 4) s ∧
    Reads (.fltGetState q) q 0x0D03 ([FLT_STAT.addr, FLT_INTR.addr, WDG_CFG.addr, WDG_STAT.addr, EVT_PENDING.addr, ST_STAT.addr].flatMap
      (fun x => wordBytes (readWord s.blk x))) s ∧
    Reads (.stGetResult q) q 0x0F01 (wordBytes (s.blk.reg ST_STAT.addr) ++ leBytes 8 s.blk.flt.stEnd.toNat) s) ∧
  (∀ (q : Req) (s : State), AtOnce 0 100 q s.blk → q.params = [] →
    Reads (.calGetState q) q 0x0300 (wordBytes (s.blk.reg CNV_STAT.addr) ++ calHeader s.blk) s ∧
    Reads (.mcGetState q) q 0x0800 (readFrom s.blk MC_STAT.addr 3 ++
      (List.range 8).flatMap (fun r => wordBytes (readWord s.blk (MC_CH_STAT.addr r)))) s ∧
    Reads (.recGetState q) q 0x0600 (readFrom s.blk REC_CFG.addr 8) s ∧
    Reads (.polGetState q) q 0x0713 ([POL_LAST.addr, STAT_STAT.addr, STAT_LAST.addr, AE_STAT.addr, AE_FRAME.addr, AWB_STAT.addr].flatMap
      (fun x => wordBytes (readWord s.blk x))) s ∧
    Reads (.takeGetState q) q 0x0612 (wordsFrom s.blk TK_CFG.addr 4 ++ wordBytes (s.blk.reg (MG_STAT.addr 0)) ++
      wordBytes (s.blk.reg (MG_STAT.addr 1))) s ∧
    Reads (.thGetState q) q 0x0B00 ([TH_STAT.addr, TH_SHED.addr, TH_TEC.addr, TH_COOL_STAT.addr, TH_RISE.addr].flatMap
      (fun x => wordBytes (readWord s.blk x)) ++ readFrom s.blk (TH_REGION.addr 0) 16 ++
      (List.range 4).flatMap (fun i => wordBytes (readWord s.blk (TH_TD1.addr i)))) s ∧
    (s.blk.flag SYS_DOMAIN.DV_ON = true → Reads (.monGetState q) q 0x0700 (readFrom s.blk MON_CFG.addr 3 ++ (List.range 4).flatMap (fun x =>
      wordBytes (readWord s.blk (MON_CTX_CFG.addr x)) ++ readFrom s.blk (MON_CTX_STAT.addr x) 3)) s) ∧
    (s.blk.flag SYS_DOMAIN.FX_ON = true → Reads (.fbGetState q) q 0x0A00 (wordsFrom s.blk FB_CFG.addr 10 ++ wordsFrom s.blk (FB_PASS.addr 1) 4) s) ∧
    (s.blk.rsv.closeOut = none → Reads (.rsvGetState q) q 0x0C00 (readFrom s.blk RSV_CFG.addr 6) s))

/-- The reads with parameters, of registers, events, profiles, the log and the timing (R82, R87, R132, R139, R291, R629): with parameters in
range each answers OK with its bytes and does nothing else. READ_REG of LN_PRBS_ERR_LO latches its lane's other three words (R487). -/
def Obligations.ParameterReads : Prop :=
  ∀ (q : Req) (s : State),
    (∀ n : Nat, n = pNat q 4 2 → AtOnce 0 (4 * n) q s.blk → Shaped q 8 [6, 7] → spanOk (pNat q 0 4) n = true → n ≤ carrierLimit q 1021 124 →
      (∀ i < n, wordPowered s.blk 0 (pNat q 0 4 + 4 * i) = true) →
      Executes (.readReg q) q (fun b => (readLatch (pNat q 0 4) n b).reply q 0x0003 stOk (readFrom (readLatch (pNat q 0 4) n b) (pNat q 0 4) n)) s) ∧
    (∀ n : Nat, n = pNat q 2 2 → AtOnce 0 n q s.blk → q.params.length = 4 → 1 ≤ n → pNat q 0 2 + n ≤ 1024 →
      Answers (.getEventRoute q) q 0x0021 (fun b => (List.range n).map (fun i => b.evtRoute (pNat q 0 2 + i))) s) ∧
    (∀ n : Nat, n = pNat q 2 2 → AtOnce 0 (16 * n) q s.blk → q.params.length = 4 → 1 ≤ n → n ≤ carrierLimit q 255 31 → pNat q 0 2 + n ≤ 1024 →
      Answers (.evtGet q) q 0x0D00 (fun b => (List.range n).flatMap (fun i => evtRecord b (pNat q 0 2 + i))) s) ∧
    (AtOnce 0 68 q s.blk → Shaped q 4 [1, 2, 3] → pByte q 0 ≤ 7 →
      Answers (.getProfileInfo q) q 0x0100
        (fun b => leBytes 4 (b2n (profileValid b (pByte q 0))) ++ b.nvmBytes (profileBase (pByte q 0)) 64) s) ∧
    (∀ n : Nat, n = pNat q 8 2 → AtOnce 0 n q s.blk → Shaped q 12 [1, 2, 3, 10, 11] → pByte q 0 ≤ 7 → 1 ≤ n → pNat q 4 4 + n ≤ 262144 →
      Answers (.readProfile q) q 0x0102 (fun b => b.nvmBytes (profileBase (pByte q 0) + pNat q 4 4) n) s) ∧
    (∀ n d : Nat, n = pNat q 4 2 → d = (logHead s.blk + 2 ^ 32 - pNat q 0 4) % 2 ^ 32 → AtOnce 0 (32 * n) q s.blk → Shaped q 8 [6, 7] →
      1 ≤ n → n ≤ 127 → d < s.blk.log.entries.length →
      Answers (.readLog q) q 0x0120 (fun b => ((b.log.entries.take (d + 1)).reverse.take n).flatMap entryBytes) s) ∧
    (∀ f : FrameRec, AtOnce 0 36 q s.blk → q.params.length = 4 → frameKept s.blk (pNat q 0 4) = some f →
      Answers (.ftGetFrame q) q 0x0205 (fun _ => frameInfo f) s)

/-- The reads of calibration, engines, frame memory and frames in memory (R203, R254, R354, R389): with parameters in range each answers OK
with its bytes. The header bytes of a frame whose header is not complete are free (log entry 21). -/
def Obligations.UnitEngineFrameReads : Prop :=
  ∀ (q : Req) (s : State),
    (∀ n u : Nat, n = pNat q 4 2 → u = pNat q 0 4 → AtOnce 0 (8 * n) q s.blk → Shaped q 8 [6, 7] → 1 ≤ n → n ≤ carrierLimit q 500 62 →
      u + n ≤ unitCount →
      Answers (.calReadEntry q) q 0x0302 (fun b => (List.range n).flatMap (fun i => leBytes 8 (b.calEntry (u + i)).toNat)) s) ∧
    (∀ n i : Nat, n = pNat q 4 2 → i = pNat q 0 4 → AtOnce 0 (4 * n) q s.blk → Shaped q 8 [6, 7] → 1 ≤ n → n ≤ carrierLimit q 1000 124 →
      i + n ≤ s.blk.cal.defects.length →
      Answers (.defectRead q) q 0x0304 (fun b => ((b.cal.defects.drop i).take n).flatMap wordBytes) s) ∧
    (∀ n u : Nat, n = pNat q 4 2 → u = pNat q 0 4 → AtOnce 0 (2 * n) q s.blk → Shaped q 8 [6, 7] → 1 ≤ n → n ≤ carrierLimit q 2000 248 →
      u + n ≤ unitCount →
      Answers (.calReadEpoch q) q 0x0307 (fun b => (List.range n).flatMap (fun i => leBytes 2 (epochRatio b (u + i)))) s) ∧
    (∀ e : Nat, e = pNat q 0 2 → AtOnce 0 20 q s.blk → Shaped q 4 [2, 3] → e < 144 →
      Answers (.engGetState q) q 0x0400
        (fun b => wordsFrom b (ENG_STAT.addr e) 3 ++ wordBytes (bankCrc b e false) ++ wordBytes (bankCrc b e true)) s) ∧
    (∀ e n f : Nat, e = pNat q 0 2 → f = pNat q 4 2 → n = pNat q 6 2 → AtOnce 0 (4 * n) q s.blk → Shaped q 8 [3] → e < 144 → pByte q 2 ≤ 1 →
      1 ≤ n → n ≤ carrierLimit q 1022 124 → f + n ≤ 1024 →
      Answers (.engReadProg q) q 0x0406
        (fun b => (List.range n).flatMap (fun i => wordBytes (bankWord b e (decide (pByte q 2 = 1)) (f + i)))) s) ∧
    (∀ n f : Nat, n = pNat q 2 2 → f = pNat q 0 2 → AtOnce 0 (16 * n) q s.blk → q.params.length = 4 → 1 ≤ n → n ≤ 64 →
      f + n ≤ s.blk.mc.ring.length → Answers (.mcGetErrors q) q 0x0802 (fun b => ((b.mc.ring.drop f).take n).flatMap errBytes) s) ∧
    (∀ k : Nat, ∀ l : Slot, k = pNat q 8 2 → AtOnce 0 k q s.blk → Shaped q 12 [10, 11] → 1 ≤ k → k ≤ 4080 → pNat q 4 4 + k ≤ 65536 →
      s.blk.slot? (pNat q 0 4) = some l →
      (∀ h : List Byte, l.header = some h → Answers (.recReadHeader q) q 0x0602 (fun _ => (h.drop (pNat q 4 4)).take k) s) ∧
      (l.header = none → Executes (.recReadHeader q) q (fun b => (freeBytes k b).2.reply q 0x0602 stOk (freeBytes k b).1) s)) ∧
    (∀ (f : Word) (d c : Nat), AtOnce 0 12 q s.blk → q.params.length = 4 → frameFlags s.blk (pNat q 0 4) = some (f, d, c) →
      Answers (.recGetFlags q) q 0x0603 (fun _ => wordBytes f ++ leBytes 4 d ++ leBytes 4 c) s)

/-- The reads of the monitor, statistics, links, magazines, fabric and ageing (R423, R449, R488, R518, R552, R585): with parameters in range
each answers OK with its bytes. LK_PRBS_READ may clear the counters it reads (R488). -/
def Obligations.OutputLinkFabricReads : Prop :=
  ∀ (q : Req) (s : State),
    (∀ (k : Nat) (o : OutFrame), k = pNat q 8 2 → AtOnce 0 k q s.blk → Shaped q 12 [1, 2, 3, 10, 11] → pByte q 0 ≤ 3 → 1 ≤ k → k ≤ 4080 →
      (s.blk.ctx (pByte q 0)).last = some o → pNat q 4 4 + k ≤ (outBytes o).length →
      Answers (.monReadOutput q) q 0x0703 (fun _ => ((outBytes o).drop (pNat q 4 4)).take k) s) ∧
    (∀ (k : Nat) (x : StatArea), k = pNat q 8 2 → AtOnce 0 k q s.blk → Shaped q 12 [10, 11] → 1 ≤ k → k ≤ 4080 → 0x4000 ≤ pNat q 4 4 →
      pNat q 4 4 + k ≤ 0xA000 → s.blk.stat.kept.find? (fun y => decide (y.frame = pNat q 0 4)) = some x →
      Answers (.statGet q) q 0x0710 (fun _ => (x.bytes.drop (pNat q 4 4 - 0x4000)).take k) s) ∧
    (∀ (k : Nat) (m : Nat × List (Nat × Nat)), k = pNat q 8 2 → AtOnce 0 k q s.blk → Shaped q 12 [10, 11] → 1 ≤ k → k ≤ 4080 →
      pNat q 4 4 + k ≤ 2359296 → s.blk.stat.maps.find? (fun y => decide (y.1 = pNat q 0 4)) = some m →
      Answers (.statReadSat q) q 0x0711 (fun _ => (List.range k).flatMap (fun i => leBytes 1 (smGet 0xFF m.2 (pNat q 4 4 + i)))) s) ∧
    (AtOnce 0 68 q s.blk → Shaped q 4 [1, 2, 3] → pByte q 0 ≤ 7 →
      Answers (.lkGetPort q) q 0x0900 (fun b => wordsFrom b (PT_CFG.addr (pByte q 0)) 9 ++
        (List.range (portWidth (pByte q 0))).flatMap (fun i => wordBytes (b.reg (LN_STAT.addr (laneBase (pByte q 0) + i))))) s) ∧
    (∀ l : Nat, l = pByte q 0 → AtOnce 0 16 q s.blk → Shaped q 4 [2, 3] → l < 40 → portPowered s.blk (portOf l) = true →
      (pByte q 1 = 0 → Answers (.lkPrbsRead q) q 0x0905 (fun b => leBytes 8 (b.lane l).prbsErr ++ leBytes 8 (b.lane l).prbsBits) s) ∧
      (pByte q 1 = 1 → Executes (.lkPrbsRead q) q (fun b =>
        ((b.setLane l { b.lane l with prbsErr := 0, prbsBits := 0 }).setFld (LN_PRBS_ERR_LO.ERR l) 0).reply q 0x0905 stOk
          (leBytes 8 (b.lane l).prbsErr ++ leBytes 8 (b.lane l).prbsBits)) s)) ∧
    (∀ m : Nat, m = pByte q 0 → AtOnce 0 208 q s.blk → Shaped q 4 [1, 2, 3] → m ≤ 1 → magThere s.blk m = true →
      Answers (.magIdentify q) q 0x0613 (fun b => ((b.mag m).ident ++ zeros 72).take 72 ++ leBytes 8 (b.mag m).capacity ++
        (if (b.mag m).sb.valid then (superBytes (b.mag m).sb 0).take 128 else ((b.mag m).sbRaw ++ zeros 128).take 128)) s) ∧
    (∀ n f : Nat, n = pNat q 1 2 → f = pByte q 0 → AtOnce 0 (12 * n) q s.blk → Shaped q 4 [3] → 1 ≤ n → n ≤ carrierLimit q 256 41 →
      f + n ≤ s.blk.fb.nodes.length → Answers (.fbGetNodes q) q 0x0A01 (fun b => ((b.fb.nodes.drop f).take n).flatMap nodeBytes) s) ∧
    (∀ n f : Nat, n = pNat q 4 2 → f = pNat q 0 4 → AtOnce 0 (64 * n) q s.blk → Shaped q 8 [6, 7] → 1 ≤ n → n ≤ carrierLimit q 63 7 →
      f + n ≤ s.blk.th.historySeq → s.blk.th.historySeq ≤ f + 32768 →
      Answers (.agReadHistory q) q 0x0B03 (fun b => (List.range n).flatMap (fun i => historyBytes b (f + i))) s)

/-- R291, R276 and R585: the reads that compute a plan. FT_GET_SCHEDULE gives the table and the plan values, in force or pending; FT_CHECK
gives P_MIN and SPAN of settings that hold, and writes none of them; AG_GET_PLAN gives a valid profile's values for each band. -/
def Obligations.PlanReads : Prop :=
  ∀ (q : Req) (s : State),
    (AtOnce 0 412 q s.blk → Shaped q 4 [1, 2, 3] → pByte q 0 = 1 →
      Answers (.ftGetSchedule q) q 0x0200 (fun b =>
        leBytes 4 (b.fld FT_PERIOD.PERIOD) ++ leBytes 4 (tableOf b.reg).length ++
        (tableOf b.reg).flatMap (fun e => leBytes 4 e.start ++ leBytes 4 e.width ++ leBytes 4 (b2n e.node)) ++
        leBytes 4 (planNow b b.reg).tro ++ leBytes 4 (planNow b b.reg).tfree ++ leBytes 4 (planNow b b.reg).ping ++
        leBytes 4 (planNow b b.reg).pmin ++ leBytes 4 (planNow b b.reg).span) s) ∧
    (AtOnce 0 412 q s.blk → Shaped q 4 [1, 2, 3] → pByte q 0 = 0 → s.blk.running = true → s.blk.ft.table ≠ [] →
      Answers (.ftGetSchedule q) q 0x0200 (fun b =>
        leBytes 4 b.ft.period ++ leBytes 4 b.ft.table.length ++
        b.ft.table.flatMap (fun e => leBytes 4 e.start ++ leBytes 4 e.width ++ leBytes 4 (b2n e.node)) ++
        leBytes 4 (planNow b b.eff).tro ++ leBytes 4 (planNow b b.eff).tfree ++ leBytes 4 (planNow b b.eff).ping ++
        leBytes 4 (planNow b b.eff).pmin ++ leBytes 4 (planNow b b.eff).span) s) ∧
    (AtOnce 0 412 q s.blk → Shaped q 4 [1, 2, 3] → pByte q 0 = 0 → (s.blk.running = false ∨ s.blk.ft.table = []) →
      Answers (.ftGetSchedule q) q 0x0200 (fun b =>
        leBytes 4 (rdFld b.eff FT_PERIOD.PERIOD) ++ leBytes 4 (tableOf b.eff).length ++
        (tableOf b.eff).flatMap (fun e => leBytes 4 e.start ++ leBytes 4 e.width ++ leBytes 4 (b2n e.node)) ++
        leBytes 4 (planNow b b.eff).tro ++ leBytes 4 (planNow b b.eff).tfree ++ leBytes 4 (planNow b b.eff).ping ++
        leBytes 4 (planNow b b.eff).pmin ++ leBytes 4 (planNow b b.eff).span) s) ∧
    (AtOnce 0 8 q s.blk → q.params.length = 12 → pNat q 8 2 ≤ 511 → pByte q 10 ≤ 15 → pByte q 11 ≤ 15 →
      (∀ c ∈ writeChecks (touchMaintain q.carrier s.blk) 3 false 0 (timingWords s.blk q), c.2 = stBadParam → c.1 = false) →
      timingOk (touchMaintain q.carrier s.blk) (candidate? (touchMaintain q.carrier s.blk) (timingWords s.blk q)) = true →
      Answers (.ftCheck q) q 0x0204 (fun b => leBytes 4 (planNow b (candidate? b (timingWords b q))).pmin ++
        leBytes 4 (planNow b (candidate? b (timingWords b q))).span) s) ∧
    (AtOnce 0 96 q s.blk → Shaped q 4 [1, 2, 3] → profileValid s.blk (pByte q 0) = true →
      Answers (.agGetPlan q) q 0x0B02 (fun b => (List.range 6).flatMap (fun x =>
        leBytes 4 (planVals b.th.plan ((advRd b (pByte q 0)).getD regReset) (fun _ => x)).pmin ++
        leBytes 4 (planVals b.th.plan ((advRd b (pByte q 0)).getD regReset) (fun _ => x)).tro ++
        leBytes 4 (planVals b.th.plan ((advRd b (pByte q 0)).getD regReset) (fun _ => x)).tfree ++
        leBytes 2 (advRate b (pByte q 0) x) ++ zeros 2)) s)

/-- R2, R649: while a schedule runs, a write of a word leaves its shadowed bits in force as they were and changes the rest at once; the word
as read is the pending value. With no schedule and nothing pending at its address the whole word is in force at once. -/
def Obligations.ShadowKeepsInForce : Prop :=
  ∀ (b : Block) (a : Nat) (w : Word),
    (b.shadowSet a w).reg a = w ∧ (∀ x, x ≠ a → (b.shadowSet a w).reg x = b.reg x) ∧
    (b.running = true → (b.shadowSet a w).eff a = (w &&& ~~~ rwsMask a) ||| (b.eff a &&& rwsMask a)) ∧
    (b.running = false → smHas b.held a = false → (b.shadowSet a w).eff a = w)

/-- R82 rule 5: a write of a word changes the configuration bits (RW and RWS) under its mask, clears the W1C bits that it writes as 1, and
leaves every other bit of the word, reserved or read-only, as it was. TW_CFG keeps a field given a value it cannot take (R99), and is
left out here.

R649: a write by command that changes an RW or RWS field logs one REGISTER cairn with its origin, the address and the whole word before
and after; a write that changes none logs nothing. Shown of the watchdog's word, and with room in the log's queue. -/
def Obligations.RegisterWord : Prop :=
  (∀ (old : Word) (w : WordW) (i : Nat), w.addr ≠ 0x2900000 → i < 32 →
    (mergeWord old w).getLsbD i =
      (if (w1cMask w.addr).getLsbD i && w.mask.getLsbD i && w.value.getLsbD i then false
       else if (cfgMask w.addr).getLsbD i && w.mask.getLsbD i then w.value.getLsbD i else old.getLsbD i)) ∧
  (∀ (b : Block) (origin : Nat) (v : Word), b.log.queue.length < 4096 →
    ((b.reg WDG_CFG.addr ^^^ mergeWord (b.reg WDG_CFG.addr) ⟨WDG_CFG.addr, v, 0xFFFFFFFF⟩) &&& cfgMask WDG_CFG.addr ≠ 0 →
      (writeWord origin true ⟨WDG_CFG.addr, v, 0xFFFFFFFF⟩ b).log.queue = b.log.queue ++
        [⟨b.now, origin, 0x0001, WDG_CFG.addr, b.reg WDG_CFG.addr, mergeWord (b.reg WDG_CFG.addr) ⟨WDG_CFG.addr, v, 0xFFFFFFFF⟩⟩]) ∧
    ((b.reg WDG_CFG.addr ^^^ mergeWord (b.reg WDG_CFG.addr) ⟨WDG_CFG.addr, v, 0xFFFFFFFF⟩) &&& cfgMask WDG_CFG.addr = 0 →
      (writeWord origin true ⟨WDG_CFG.addr, v, 0xFFFFFFFF⟩ b).log = b.log))

/-- WDG_SET, RSV_SET_CONFIG, TH_SET_COOLING (R585, R605, R620, R629): where no check refuses, the words are written at one tick, the request is
answered OK, and no register but those words and the log's changes.

The requests that write words of the register map, where no check refuses (R77, R78, R81, R82, R263, R276, R330, R389, R423, R449): the words
are written at one tick from the request's origin, and the reply says whether a shadowed field waits for an FCP. MODIFY_REG returns the
word as it was. What one word's write does, RegisterWord and ShadowKeepsInForce state. -/
def Obligations.WordWrites : Prop :=
  (∀ (q : Req) (s : State),
    (AtOnce 3 0 q s.blk → q.params.length = 4 → WriteAllowed (touchMaintain q.carrier s.blk) (classOf s.blk q.carrier) (wdgWords q) →
      Completes (.wdgSet q) s (fun t => Replied q 0x0D04 stOk [] t ∧
        t.reg WDG_CFG.addr = mergeWord (s.blk.reg WDG_CFG.addr) ⟨WDG_CFG.addr, BitVec.ofNat 32 (pNat q 0 4), 0xFFFFFFFF⟩ ∧
        ∀ a, a ∉ [WDG_CFG.addr, LOG_STAT.addr, LOG_HEAD.addr] → t.reg a = s.blk.reg a)) ∧
    (AtOnce 2 0 q s.blk → q.params.length = 8 → s.blk.rsv.closeOut = none →
      WriteAllowed (touchMaintain q.carrier s.blk) (classOf s.blk q.carrier) (reserveWords q) →
      Completes (.rsvSetConfig q) s (fun t => Replied q 0x0C01 stOk [] t ∧
        t.reg RSV_CFG.addr = mergeWord (s.blk.reg RSV_CFG.addr) ⟨RSV_CFG.addr, BitVec.ofNat 32 (pNat q 0 4), 0xFFFFFFFF⟩ ∧
        t.reg RSV_VIN_CFG.addr = mergeWord (s.blk.reg RSV_VIN_CFG.addr) ⟨RSV_VIN_CFG.addr, BitVec.ofNat 32 (pNat q 4 4), 0xFFFFFFFF⟩ ∧
        ∀ a, a ∉ [RSV_CFG.addr, RSV_VIN_CFG.addr, LOG_STAT.addr, LOG_HEAD.addr] → t.reg a = s.blk.reg a)) ∧
    (AtOnce 2 0 q s.blk → q.params.length = 8 →
      WriteAllowed (touchMaintain q.carrier s.blk) (classOf s.blk q.carrier) (coolingWords q) →
      Completes (.thSetCooling q) s (fun t => Replied q 0x0B01 stOk [] t ∧
        t.reg TH_TEC.addr = mergeWord (s.blk.reg TH_TEC.addr) ⟨TH_TEC.addr, BitVec.ofNat 32 (pNat q 0 4), 0xFFFFFFFF⟩ ∧
        t.reg TH_SHED.addr = mergeWord (s.blk.reg TH_SHED.addr) ⟨TH_SHED.addr, BitVec.ofNat 32 (pNat q 4 4), 0xFFFFFFFF⟩ ∧
        ∀ a, a ∉ [TH_TEC.addr, TH_SHED.addr, LOG_STAT.addr, LOG_HEAD.addr] → t.reg a = s.blk.reg a))) ∧
  (∀ (q : Req) (s : State) (b : Block), b = touchMaintain q.carrier s.blk →
    (∀ (n : Nat) (l : List WordW), n = pNat q 4 2 → AtOnce 2 12 q s.blk → Shaped q (8 + 4 * n) [6, 7] → spanOk (pNat q 0 4) n = true →
      n ≤ carrierLimit q 1021 124 →
      l = (wordsOf n (q.params.drop 8)).zipIdx.map (fun wi => (⟨pNat q 0 4 + 4 * wi.2, wi.1, 0xFFFFFFFF⟩ : WordW)) →
      WriteAllowed b (classOf s.blk q.carrier) l →
      exec (.writeReg q) s = .next { s with blk := replyDeferred 0x0004 q (writeDefers b l) [] (writeWords (originOf q.carrier) true l b) }) ∧
    (∀ (l : List WordW), AtOnce 2 16 q s.blk → q.params.length = 12 → spanOk (pNat q 0 4) 1 = true →
      l = [⟨pNat q 0 4, BitVec.ofNat 32 (pNat q 8 4), BitVec.ofNat 32 (pNat q 4 4)⟩] → WriteAllowed b (classOf s.blk q.carrier) l →
      exec (.modifyReg q) s = .next { s with
        blk := replyDeferred 0x0005 q (writeDefers b l) (wordBytes (readWord b (pNat q 0 4))) (writeWords (originOf q.carrier) true l b) }) ∧
    (AtOnce 1 12 q s.blk → q.params.length = 12 → pNat q 8 2 ≤ 511 → pByte q 10 ≤ 15 → pByte q 11 ≤ 15 →
      WriteAllowed b (classOf s.blk q.carrier) (timingWords b q) →
      exec (.ftSetTiming q) s = .next { s with
        blk := replyDeferred 0x0201 q (writeDefers b (timingWords b q)) [] (writeWords (originOf q.carrier) true (timingWords b q) b) }) ∧
    (∀ n : Nat, n = pByte q 0 → AtOnce 1 12 q s.blk → 1 ≤ n → n ≤ 32 →
      Shaped q (4 + 12 * n) ([1, 2, 3] ++ (List.range n).flatMap (fun k => [13 + 12 * k, 14 + 12 * k, 15 + 12 * k])) →
      (∀ k < n, pByte q (12 + 12 * k) ≤ 1) → WriteAllowed b (classOf s.blk q.carrier) (shapeWords b q) →
      exec (.ftSetShape q) s = .next { s with
        blk := replyDeferred 0x0202 q (writeDefers b (shapeWords b q)) [] (writeWords (originOf q.carrier) true (shapeWords b q) b) }) ∧
    (AtOnce 2 4 q s.blk → Shaped q 12 [1, 2, 3, 10, 11] → 2 ≤ pByte q 0 → pByte q 0 ≤ 10 →
      WriteAllowed b (classOf s.blk q.carrier) (regulatorWords q) →
      Executes (.mcSetRegulator q) q (fun b => (writeWords (originOf q.carrier) true (regulatorWords q) b).reply q 0x0801 stOk
        (leBytes 2 ((writeWords (originOf q.carrier) true (regulatorWords q) b).fld (MC_REG1.GRANTED (pByte q 0))) ++ zeros 2)) s) ∧
    (AtOnce 2 12 q s.blk → Shaped q 4 [3] → pByte q 0 ≤ 2 → pByte q 1 ≤ 2 → pByte q 2 ≤ 2 → s.blk.takeOpen = false →
      WriteAllowed b (classOf s.blk q.carrier) (formatWords q) →
      exec (.recSetFormat q) s = .next { s with
        blk := replyDeferred 0x0601 q (writeDefers b (formatWords q)) [] (writeWords (originOf q.carrier) true (formatWords q) b) }) ∧
    (AtOnce 1 12 q s.blk → Shaped q 100 [1, 2, 3, 64, 65, 66, 67] → pByte q 0 ≤ 3 → WriteAllowed b (classOf s.blk q.carrier) (contextWords q) →
      exec (.monSetContext q) s = .next { s with
        blk := replyDeferred 0x0701 q (writeDefers b (contextWords q)) [] (writeWords (originOf q.carrier) true (contextWords q) b) }) ∧
    (AtOnce 1 12 q s.blk → Shaped q 2052 [1, 2, 3] → pByte q 0 ≤ 3 → (∀ i < 1024, pNat q (4 + 2 * i) 2 ≤ 1023) →
      WriteAllowed b (classOf s.blk q.carrier) (toneWords b q) →
      exec (.monSetTone q) s = .next { s with
        blk := replyDeferred 0x0702 q (writeDefers b (toneWords b q)) [] (writeWords (originOf q.carrier) true (toneWords b q) b) }) ∧
    (AtOnce 2 0 q s.blk → q.params.length = 20 → WriteAllowed b (classOf s.blk q.carrier) (loopWords q) →
      Executes (.loopSet q) q (fun b => (writeWords (originOf q.carrier) true (loopWords q) b).reply q 0x0712 stOk []) s))

/-- R82 rule 9 and R77: a write of one word that reaches a register outside the request path is carried out where nothing refuses it, and
otherwise changes no register but the status word of event 968 or 969. -/
def Obligations.DirectWrites : Prop :=
  ∀ (c : Carrier) (s : State),
    (∀ (a : BitVec 32) (v : Word) (l : List WordW), l = [⟨a.toNat, v, 0xFFFFFFFF⟩] → 2 ≤ classOf s.blk c → WriteAllowed s.blk (classOf s.blk c) l →
      exec (.registerWrite c a v) s = .next { s with blk := writeWords (originOf c) true l s.blk }) ∧
    (∀ (i : BitVec 6) (v : Word) (l : List WordW), l = [⟨KS_CH_PERIOD.addr i.toNat, v, 0xFFFFFFFF⟩] → 2 ≤ classOf s.blk c →
      WriteAllowed s.blk (classOf s.blk c) l → exec (.ksPeriodWrite c i v) s = .next { s with blk := writeWords (originOf c) true l s.blk }) ∧
    (∀ (v : Word) (l : List WordW), l = [⟨SYS_DOMAIN_REQ.addr, v, 0xFFFFFFFF⟩] → 2 ≤ classOf s.blk c → WriteAllowed s.blk (classOf s.blk c) l →
      exec (.sysDomainReqWrite c v) s = .next { s with blk := writeWords (originOf c) true l s.blk }) ∧
    (∀ (a : BitVec 32) (v : Word), classOf s.blk c < 2 →
      ∃ t, exec (.registerWrite c a v) s = .next { s with blk := t } ∧ ∀ x, x ≠ evtStatusA 968 → t.reg x = s.blk.reg x)

/-- R87, R610, R611, R629: SET_EVENT_ROUTE gives the events of its range their route byte; EVT_CLEAR clears the status bits of its range, with
their counts, and no other event's; EVT_SET_MASK sets the mask bits of its range and no status bit. Events outside the range keep theirs.

R88, R610: an occurrence of an event sets its status bit and touches no other; on the rise of the bit the count is 1, the stamp is now,
and at most one notice for each of its two carriers goes out; while the bit is set only the count changes. -/
def Obligations.EventCommands : Prop :=
  (∀ (q : Req) (s : State) (e n : Nat), e = pNat q 0 2 → n = pNat q 2 2 → 1 ≤ n → e + n ≤ 1024 →
    (AtOnce 2 0 q s.blk → Shaped q 8 [5, 7] → pByte q 4 < 16 →
      Completes (.setEventRoute q) s (fun t => Replied q 0x0020 stOk [] t ∧
        ∀ x, t.evtRoute x = if e ≤ x ∧ x < e + n then BitVec.ofNat 8 (pByte q 4) else s.blk.evtRoute x)) ∧
    (AtOnce 1 0 q s.blk → q.params.length = 4 →
      Completes (.evtClear q) s (fun t => Replied q 0x0D01 stOk [] t ∧ t.log = s.blk.log ∧
        (∀ x, x < 1024 → t.evtStatus x = if e ≤ x ∧ x < e + n then false else s.blk.evtStatus x) ∧
        (∀ x, t.evtCount x = if e ≤ x ∧ x < e + n then 0 else s.blk.evtCount x))) ∧
    (AtOnce 2 0 q s.blk → Shaped q 8 [5, 6, 7] → pByte q 4 ≤ 1 →
      Completes (.evtSetMask q) s (fun t => Replied q 0x0D02 stOk [] t ∧
        ∀ x, x < 1024 → t.evtMasked x = (if e ≤ x ∧ x < e + n then decide (pByte q 4 = 1) else s.blk.evtMasked x) ∧
          t.evtStatus x = s.blk.evtStatus x))) ∧
  (∀ (b : Block) (e : Nat), e < 1024 →
    (∀ x, x < 1024 → (b.raise e).evtStatus x = (decide (x = e) || b.evtStatus x)) ∧
    (b.evtStatus e = false → (b.raise e).evtCount e = 1 ∧ (b.raise e).evtStamp e = b.now ∧
      (b.evtMasked e = true → (b.raise e).cmd = b.cmd)) ∧
    (b.evtStatus e = true → (b.raise e).evtCount e = min 0xFFFF (b.evtCount e + 1) ∧ (b.raise e).evtStamp e = b.evtStamp e ∧
      (b.raise e).cmd = b.cmd) ∧
    (b.raise e).log = b.log ∧ (∀ a, a ≠ evtStatusA e → (b.raise e).reg a = b.reg a))

/-- R125, R126: GET_CHALLENGE answers with a 16-byte nonce and keeps it for its origin; a right answer within 60 s grants MAINTAIN, with a
MAINTAIN_ENTER cairn and event 974; a wrong one is DENIED with events 968 (R77) and 976, grants nothing, and the third within 60 s shuts challenges
for 60 s; either way the origin's nonces are spent. LEAVE_MAINTAIN ends the origin's MAINTAIN with its cairn and event 975. -/
def Obligations.MaintainExchange : Prop :=
  ∀ (q : Req) (s : State) (b : Block) (o : Nat), b = touchMaintain q.carrier s.blk → o = originOf q.carrier →
    (AtOnce 0 16 q s.blk → q.params = [] → (∀ u, s.blk.acc.lockUntil = some u → laterThan u s.blk.now = false) →
      Completes (.getChallenge q) s (fun t => ∃ n : List Byte, n.length = 16 ∧ Replied q 0x0110 stOk n t ∧ ⟨o, n, s.blk.now⟩ ∈ t.acc.nonces)) ∧
    (AtOnce 0 0 q s.blk → q.params.length = 16 → s.blk.log.queue.length < 4096 →
      (∃ x ∈ s.blk.acc.nonces, x.origin = o ∧ b.sinceT x.since ≤ 60 * secT ∧ q.params = maintAnswer b o x.nonce) →
      Completes (.answerChallenge q) s (fun t => Replied q 0x0111 stOk [] t ∧ classOf t q.carrier = 3 ∧ t.evtStatus 974 = true ∧
        Logged o 0x0110 0 0 3 t ∧ ∀ x ∈ t.acc.nonces, x.origin ≠ o)) ∧
    (AtOnce 0 0 q s.blk → q.params.length = 16 →
      (∀ x ∈ s.blk.acc.nonces, x.origin = o → b.sinceT x.since ≤ 60 * secT → q.params ≠ maintAnswer b o x.nonce) →
      Completes (.answerChallenge q) s (fun t => Replied q 0x0111 stDenied [] t ∧ classOf t q.carrier = classOf s.blk q.carrier ∧
        t.evtStatus 968 = true ∧ t.evtStatus 976 = true ∧ t.log = s.blk.log ∧ (∀ x ∈ t.acc.nonces, x.origin ≠ o) ∧
        (2 ≤ (s.blk.acc.wrong.filter (fun w => decide (b.sinceT w ≤ 60 * secT))).length →
          t.acc.lockUntil = some (s.blk.now + BitVec.ofNat 64 (60 * secT))))) ∧
    (AtOnce 0 0 q s.blk → q.params = [] → s.blk.log.queue.length < 4096 →
      (∃ m : Maint, s.blk.acc.maintain.filter (fun m => decide (m.origin = o)) = [m]) →
      Completes (.leaveMaintain q) s (fun t => Replied q 0x0112 stOk [] t ∧ (∀ m ∈ t.acc.maintain, m.origin ≠ o) ∧
        (∀ m ∈ s.blk.acc.maintain, m.origin ≠ o → m ∈ t.acc.maintain) ∧ t.evtStatus 975 = true ∧
        Logged o 0x0111 0 3 (BitVec.ofNat 32 (tableClass b o)) t)) ∧
    (AtOnce 3 0 q s.blk → q.params.length = 32 →
      Completes (.setMaintKey q) s (fun t => Held q 0x0113 .nvm t ∧ t.acc.key = s.blk.acc.key ∧
        t.nvm.journal = s.blk.nvm.journal ++ [⟨keyOffset, padTo 64 q.params, .key⟩]))

/-- R119 to R122: STAGE_PROFILE puts its bytes into the staging buffer and claims it for its origin; COMMIT_PROFILE stores the image header
last, so that until its header's word is written the slot's magic reads zero; SELECT_PROFILE of a valid profile while a schedule runs
leaves it pending for the next FCP, and with no schedule applies it at once.

R119, R121, R126: a valid profile whose words are not refused becomes the active one: ACTIVE names it, event 971 is raised, and MAINTAIN
ends for every origin.

R135 to R138: FW_BEGIN marks its image invalid at once; FW_WRITE puts its bytes into the image; FW_FINISH validates an image that verifies,
with event 980, and leaves one that does not as it was, with FAULT and event 981; FW_SET_BOOT prefers a valid image and never lowers the
rollback counter. -/
def Obligations.ProfileFirmwareCommands : Prop :=
  (∀ (q : Req) (s : State) (b : Block), b = touchMaintain q.carrier s.blk →
    (∀ len : Nat, len = pNat q 4 2 → AtOnce 2 0 q s.blk → Shaped q (8 + len) [6, 7] → pNat q 0 4 + len ≤ 262144 →
      (∀ x, s.blk.nvm.stageOwner = some x → x = originOf q.carrier) →
      Completes (.stageProfile q) s (fun t => Replied q 0x0103 stOk [] t ∧ t.nvm.stageOwner = some (originOf q.carrier) ∧
        t.nvm.stageSince = s.blk.now ∧
        ∀ x, smGet 0 t.nvm.staging x = if pNat q 0 4 ≤ x ∧ x < pNat q 0 4 + len then (q.params.drop 8).getD (x - pNat q 0 4) 0
          else smGet 0 s.blk.nvm.staging x)) ∧
    (∀ n : Nat, n = pByte q 0 → AtOnce 2 4 q s.blk → Shaped q 4 [1, 2, 3] → n ≤ 7 → imageOk n (stagedImage b) = true →
      wordsRefused (stagedImage b) = false →
      ((stagedImage b).drop 48).take 5 = b.nvmBytes (profileBase n + 48) 5 →
      Completes (.commitProfile q) s (fun t => Held q 0x0104 .nvm t ∧ t.nvm.staging = [] ∧ t.nvm.stageOwner = none ∧
        t.nvmBytes (profileBase n) 4 = zeros 4 ∧
        ∃ w : NvmWrite, t.nvm.journal = s.blk.nvm.journal ++ [w] ∧ w.offset = profileBase n ∧
          w.data = (storedImage b ((leVal (b.nvmBytes (profileBase n + 12) 4) + 1) % 2 ^ 32) (stagedImage b)).take 64)) ∧
    (∀ n : Nat, n = pByte q 0 → AtOnce 2 12 q s.blk → Shaped q 4 [1, 2, 3] → n ≤ 7 → s.blk.takeOpen = false → profileValid s.blk n = true →
      (recordsOf (profileImage b n)).bind (profRefused b) = none →
      (s.blk.running = true → Completes (.selectProfile q) s (fun t => t.flag PRF_STATE.PENDING = true ∧ t.fld PRF_STATE.PENDING_NUM = n ∧
        t.nvm.pendProfile = some ⟨n, firstFrame b, originOf q.carrier⟩ ∧ t.fld PRF_STATE.ACTIVE = s.blk.fld PRF_STATE.ACTIVE)) ∧
      (s.blk.running = false → Executes (.selectProfile q) q (fun b =>
        replyDeferred 0x0101 q false [] (applyProfile n b.ft.nextNum
          (b.cairnN (originOf q.carrier) 0x0101 PRF_STATE.addr (b.fld PRF_STATE.ACTIVE) n))) s))) ∧
  (∀ (b : Block) (n frame : Nat) (recs : List ProfRec), n < 8 → profileValid b n = true → recordsOf (profileImage b n) = some recs →
    profRefused b recs = none →
    (applyProfile n frame b).fld PRF_STATE.ACTIVE = n ∧ (applyProfile n frame b).evtStatus 971 = true ∧
      (applyProfile n frame b).acc.maintain = [] ∧ (applyProfile n frame b).stat.aeFirst = some frame) ∧
  (∀ (q : Req) (s : State) (b : Block), b = touchMaintain q.carrier s.blk → s.blk.takeOpen = false →
    (∀ i : Nat, i = pByte q 0 → AtOnce 3 0 q s.blk → Shaped q 8 [1, 2, 3] → i ≤ 1 → i ≠ s.blk.fld SYS_BOOT.IMAGE → 128 ≤ pNat q 4 4 →
      pNat q 4 4 ≤ 4194304 →
      Completes (.fwBegin q) s (fun t => Replied q 0x0130 stOk [] t ∧ (fwImage t i).valid = false ∧ t.nvm.updating = some i ∧
        t.nvm.updateLen = pNat q 4 4 ∧ fwImage t (1 - i) = fwImage s.blk (1 - i))) ∧
    (∀ i o len : Nat, o = pNat q 0 4 → len = pNat q 4 2 → AtOnce 3 0 q s.blk → Shaped q (8 + len) [6, 7] → s.blk.nvm.updating = some i →
      o % 64 = 0 → len % 64 = 0 → 1 ≤ len → len ≤ carrierLimit q 4032 448 → o + len ≤ s.blk.nvm.updateLen →
      Completes (.fwWrite q) s (fun t => Replied q 0x0131 stOk [] t ∧ t.nvmBytes (fwBase i + o) len = q.params.drop 8)) ∧
    (∀ i : Nat, AtOnce 3 4 q s.blk → q.params = [] → s.blk.nvm.updating = some i → i ≤ 1 →
      (fwVerifies b i = true → Completes (.fwFinish q) s (fun t =>
        Replied q 0x0132 stOk (wordBytes (BitVec.ofNat 32 (leAt (b.nvmBytes (fwBase i) 128) 4 4))) t ∧ (fwImage t i).valid = true ∧
        t.nvm.updating = none ∧ t.evtStatus 980 = true)) ∧
      (fwVerifies b i = false → Completes (.fwFinish q) s (fun t => Replied q 0x0132 stFault [] t ∧ fwImage t i = fwImage s.blk i ∧
        t.nvm.updating = none ∧ t.evtStatus 981 = true))) ∧
    (∀ i : Nat, i = pByte q 0 → AtOnce 3 0 q s.blk → Shaped q 4 [1, 2, 3] → i ≤ 1 → (fwImage s.blk i).valid = true →
      Completes (.fwSetBoot q) s (fun t => Replied q 0x0133 stOk [] t ∧ t.fld FW_STATE.PREFERRED = i ∧ t.evtStatus 982 = true ∧
        t.nvm.rollback = max s.blk.nvm.rollback (fwImage s.blk i).rollback)))

/-- R66, R85, R86, R265: SET_CAPTURE starts a frame schedule that is not running, where nothing stands against it, and with no take open stops
one; STANDBY stops capture, switches the domains off and drives SUP_MAIN_EN low; RESTART resets the counter, latches the pins and boots
the image asked for.

R72, R77, R510: while a take is open these commands are refused with BUSY_RECORDING, and with FORCE they close the take first and wait for
its end: what executes now is the take's close alone. -/
def Obligations.CapturePowerCommands : Prop :=
  (∀ (q : Req) (s : State),
    (AtOnce 1 0 q s.blk → Shaped q 4 [1, 2, 3] → pByte q 0 = 1 → s.blk.running = false → startTooEarly s.blk = false →
      captureWaits s.blk = false → s.blk.rsv.closeOut = none → s.blk.flag CNV_STAT.FULL_RUNNING = false → conflictArmed s.blk = false →
      inService s.blk ≠ [] →
      Completes (.setCapture q) s (fun t => Replied q 0x0012 stOk [] t ∧ t.running = true ∧ t.flag SYS_STATE.CAPTURE_EN = true)) ∧
    (AtOnce 1 0 q s.blk → Shaped q 4 [1, 2, 3] → pByte q 0 = 1 → s.blk.running = true → Answers (.setCapture q) q 0x0012 (fun _ => []) s) ∧
    (AtOnce 1 0 q s.blk → Shaped q 4 [1, 2, 3] → pByte q 0 = 0 → s.blk.takeOpen = false → s.blk.rsv.closeOut = none →
      Executes (.setCapture q) q (fun b => (stopCapture b).reply q 0x0012 stOk []) s) ∧
    (AtOnce 1 0 q s.blk → q.params = [] → s.blk.takeOpen = false → s.blk.rsv.closeOut = none →
      Completes (.standby q) s (fun t => t.pwr.standby = true ∧ t.pwr.mainEn = false ∧ t.reg SYS_DOMAIN.addr = 0x00800000)) ∧
    (∀ p : Pins, AtOnce 3 0 q s.blk → Shaped q 4 [1, 2, 3] → (pByte q 0 ≤ 1 ∨ pByte q 0 = 255) → s.blk.takeOpen = false →
      s.blk.rsv.closeOut = none →
      Completes (.restart q p) s (fun t => t.now = 0 ∧ t.ks.stopped = false ∧ t.fld SYS_BOOT.PRF = p.prf.toNat ∧ t.acc.maintain = [] ∧
        t.flt.imageTried = if pByte q 0 < 2 then pByte q 0 + 1 else 0))) ∧
  (∀ (q : Req) (s : State), s.blk.takeOpen = true → s.blk.rsv.closeOut = none →
    (AtOnce 1 0 q s.blk → Shaped q 4 [1, 2, 3] → pByte q 0 = 0 →
      (forced q = false → Executes (.setCapture q) q (refuse 0x0012 q stRecording) s) ∧
      (forced q = true → Executes (.setCapture q) q (forceClose 0x0012 q) s)) ∧
    (AtOnce 1 0 q s.blk → q.params = [] →
      (forced q = false → Executes (.standby q) q (refuse 0x0010 q stRecording) s) ∧
      (forced q = true → Executes (.standby q) q (forceClose 0x0010 q) s)) ∧
    (∀ p : Pins, AtOnce 3 0 q s.blk → Shaped q 4 [1, 2, 3] → (pByte q 0 ≤ 1 ∨ pByte q 0 = 255) →
      (forced q = false → Executes (.restart q p) q (refuse 0x0011 q stRecording) s) ∧
      (forced q = true → Executes (.restart q p) q (forceClose 0x0011 q) s)) ∧
    (AtOnce 2 16 q s.blk → q.params = [] → s.blk.flag CNV_STAT.FULL_RUNNING = false →
      (forced q = false → Executes (.calFull q) q (refuse 0x0301 q stRecording) s) ∧
      (forced q = true → Executes (.calFull q) q (forceClose 0x0301 q) s)) ∧
    (AtOnce 3 12 q s.blk → q.params.length = 12 → pNat q 0 4 < unitCount →
      (forced q = false → Executes (.calWriteEntry q) q (refuse 0x0303 q stRecording) s) ∧
      (forced q = true → Executes (.calWriteEntry q) q (forceClose 0x0303 q) s)) ∧
    (AtOnce 2 12 q s.blk → Shaped q 4 [1, 2, 3] → pByte q 0 ≤ 7 →
      (forced q = false → Executes (.selectProfile q) q (refuse 0x0101 q stRecording) s) ∧
      (forced q = true → Executes (.selectProfile q) q (forceClose 0x0101 q) s)) ∧
    (AtOnce 2 12 q s.blk → Shaped q 4 [3] → pNat q 0 2 < 128 → pByte q 2 ≤ 1 → s.blk.fld (ENG_STAT.STATE (pNat q 0 2)) ≠ 2 →
      (forced q = false → Executes (.engSwap q) q (refuse 0x0402 q stRecording) s) ∧
      (forced q = true → Executes (.engSwap q) q (forceClose 0x0402 q) s)) ∧
    (AtOnce 2 0 q s.blk → Shaped q 4 [1, 2, 3] → pByte q 0 < 8 → portPowered s.blk (pByte q 0) = true → takeUses s.blk (pByte q 0) = true →
      (forced q = false → Executes (.lkRetrain q) q (refuse 0x0901 q stRecording) s) ∧
      (forced q = true → Executes (.lkRetrain q) q (forceClose 0x0901 q) s)) ∧
    (AtOnce 2 12 q s.blk → Shaped q 8 [1, 2, 3] → pByte q 0 = 1 → pNat q 4 4 ≤ 255 → s.blk.flag ST_STAT.RUNNING = false →
      s.blk.flag CNV_STAT.FULL_RUNNING = false →
      (forced q = false → Executes (.stRun q) q (refuse 0x0F00 q stRecording) s) ∧
      (forced q = true → Executes (.stRun q) q (forceClose 0x0F00 q) s)))

/-- R298 to R303, R318: under FREE discipline KS_SET_TRIM sets the trim and KS_SLEW adds to the slew remainder; KS_ALIGN steps the counter in
one tick, raising event 1022; KS_SET_DISC sets the discipline, and a change discards the slew that remains. -/
def Obligations.KeystoneCommands : Prop :=
  ∀ (q : Req) (s : State),
    (AtOnce 2 0 q s.blk → q.params.length = 4 → -trimMax ≤ sgn 32 (pNat q 0 4) → sgn 32 (pNat q 0 4) ≤ trimMax → s.blk.fld KS_CFG.DISC = 0 →
      Completes (.ksSetTrim q) s (fun t => Replied q 0x0503 stOk [] t ∧ trimOf t = sgn 32 (pNat q 0 4) ∧ t.ks = s.blk.ks)) ∧
    (∀ d : Int, d = s.blk.ks.slew + sgn 32 (pNat q 0 4) * 4294967296 → AtOnce 2 4 q s.blk → q.params.length = 4 →
      -(2147483648 * 4294967296) ≤ d → d ≤ 2147483647 * 4294967296 → s.blk.fld KS_CFG.DISC = 0 →
      Completes (.ksSlew q) s (fun t => Replied q 0x0504 stOk (wordBytes (t.reg KS_SLEW.addr)) t ∧ t.ks.slew = d ∧
        t.flag KS_STAT.SLEWING = decide (d ≠ 0) ∧ t.now = s.blk.now)) ∧
    (∀ v : Tick, v = (if pByte q 0 = 0 then BitVec.ofNat 64 (pNat q 4 8) else s.blk.now + BitVec.ofNat 64 (pNat q 4 8)) →
      AtOnce 2 16 q s.blk → Shaped q 12 [1, 2, 3] → pByte q 0 ≤ 1 → anyArmed s.blk = false → s.blk.fld KS_CFG.DISC = 0 →
      s.blk.takeOpen = false →
      Completes (.ksAlign q) s (fun t => Replied q 0x0505 stOk (leBytes 8 s.blk.now.toNat ++ leBytes 8 v.toNat) t ∧ t.now = v ∧
        t.flag KS_STAT.ALIGNED = true ∧ t.evtStatus 1022 = true)) ∧
    (∀ v : Nat, v = pByte q 0 → AtOnce 2 0 q s.blk → Shaped q 4 [1, 2, 3] → discBad s.blk v = false → (fabricBound s.blk = true → v = 2) →
      Completes (.ksSetDisc q) s (fun t => Replied q 0x0506 stOk [] t ∧ t.fld KS_CFG.DISC = v ∧
        t.ks.slew = if s.blk.fld KS_CFG.DISC = v then s.blk.ks.slew else 0))

/-- R196, R624, R630: CAL_FULL with every cluster in its band stops capture and starts the calibration; ST_RUN starts a self-test run of its
items, of which a LIGHT run leaves out those of the converters, DRAM and the keystone. Both replies follow the end.

R203: CAL_WRITE_ENTRY gives the entry to an NVM word and changes the working copy only once it is written; DEFECT_ADD inserts an entry that
the list does not cover, DEFECT_REMOVE takes one out, each with its cairn; while a schedule runs the entries in force stay until an FCP. -/
def Obligations.CalibrationCommands : Prop :=
  (∀ (q : Req) (s : State), s.blk.takeOpen = false → s.blk.rsv.closeOut = none → s.blk.flag CNV_STAT.FULL_RUNNING = false →
    (AtOnce 2 16 q s.blk → q.params = [] → allNominal s.blk = true →
      Completes (.calFull q) s (fun t => Held q 0x0301 .fullCal t ∧ t.flag CNV_STAT.FULL_RUNNING = true ∧
        t.cal.full = some ⟨s.blk.now, s.blk.running, originOf q.carrier⟩)) ∧
    (AtOnce 2 12 q s.blk → Shaped q 8 [1, 2, 3] → pByte q 0 ≤ 1 → pNat q 4 4 ≤ 255 → s.blk.flag ST_STAT.RUNNING = false →
      Completes (.stRun q) s (fun t => Held q 0x0F00 .selfTest t ∧ t.flag ST_STAT.RUNNING = true ∧ t.fld ST_STAT.SCOPE = pByte q 0 ∧
        t.flt.stItems = scopeItems (pByte q 0) (pNat q 4 4) ∧ t.flt.stCut = false))) ∧
  (∀ (q : Req) (s : State) (w : Word), w = BitVec.ofNat 32 (pNat q 0 4) →
    (∀ u : Nat, u = pNat q 0 4 → AtOnce 3 12 q s.blk → q.params.length = 12 → u < unitCount → s.blk.takeOpen = false →
      Completes (.calWriteEntry q) s (fun t => Held q 0x0303 .nvm t ∧ t.cal = s.blk.cal ∧
        ∃ x : NvmWrite, t.nvm.journal = s.blk.nvm.journal ++ [x] ∧ x.offset = 0x1000 + 8 * (u / 8 * 8) ∧
          x.owner = .cal u (BitVec.ofNat 64 (pNat q 4 8)) (originOf q.carrier))) ∧
    (AtOnce 2 12 q s.blk → q.params.length = 4 → defectBad w = false → wfield w 30 2 = 3 →
      (defectCovered s.blk w = true → Answers (.defectAdd q) q 0x0305 (fun b => stampFrame b 0xFFFFFFFF) s) ∧
      (defectCovered s.blk w = false → s.blk.log.queue.length < 4096 →
        Completes (.defectAdd q) s (fun t => t.cal.defects = defectInsert w s.blk.cal.defects ∧ Logged (originOf q.carrier) 0x0303 (dUnit w) 0 w t ∧
          (s.blk.running = true → t.cal.defectsInForce = s.blk.cal.defectsInForce)))) ∧
    (AtOnce 3 12 q s.blk → q.params.length = 4 → defectBad w = false → s.blk.cal.defects.contains w = true → s.blk.log.queue.length < 4096 →
      Completes (.defectRemove q) s (fun t => t.cal.defects = s.blk.cal.defects.erase w ∧ Logged (originOf q.carrier) 0x0304 (dUnit w) w 0 t ∧
        (s.blk.running = true → t.cal.defectsInForce = s.blk.cal.defectsInForce))))

/-- R227, R237, R238, R254: ENG_LOAD writes words into the staging bank of each engine named and changes no active bank; ENG_SWAP asks for a swap
or makes it at once; ENG_CHAN stops or starts a channel; ENG_QUEUE_POST appends the words that fit, drops the rest and answers BUSY when it drops one; ENG_QUEUE_READ pops the oldest words.

R243, R254: ENG_RESTORE of a faulted mason tests it, with a free outcome (log entry 34): it answers FAULT, or hands the channels back at once
when the cluster is idle, or waits for that. -/
def Obligations.EngineCommands : Prop :=
  (∀ (q : Req) (s : State) (b : Block) (e : Nat), b = touchMaintain q.carrier s.blk → e = pNat q 0 2 →
    (∀ n f : Nat, n = pNat q 4 2 → f = pNat q 2 2 → AtOnce 2 16 q s.blk → q.params.length = 8 + 4 * n → (e < 144 ∨ e = 0xFFFF) → pNat q 6 2 ≤ 1 →
      1 ≤ n → n ≤ carrierLimit q 1020 122 → f + n ≤ 1024 →
      (∀ x ∈ engTargets s.blk e, s.blk.flag (ENG_CTL.SWAP_REQ x) = false ∧ s.blk.fld (ENG_STAT.STATE x) ≠ 2) →
      (pNat q 6 2 = 1 → s.blk.takeOpen = false ∧ ∀ c ∈ swapChecks (engTargets b e) q b, c.1 = false) →
      Completes (.engLoad q) s (fun t => (∀ x, x < 144 →
        (x ∈ engTargets s.blk e → ∀ i, i < n → bankWord t x true (f + i) = (wordsOf n (q.params.drop 8)).getD i 0) ∧
        (∀ i, i < 1024 → bankWord t x false i = bankWord s.blk x false i)) ∧
        (pNat q 6 2 = 1 → ∀ x ∈ engTargets s.blk e, t.flag (ENG_CTL.SWAP_REQ x) = true))) ∧
    (AtOnce 2 12 q s.blk → Shaped q 4 [3] → (e < 144 ∨ e = 0xFFFF) → s.blk.takeOpen = false →
      (∀ c ∈ swapChecks (engTargets b e) q b, c.1 = false) →
      (pByte q 2 = 0 → Completes (.engSwap q) s (fun t => ∀ x ∈ engTargets s.blk e, t.flag (ENG_CTL.SWAP_REQ x) = true)) ∧
      (pByte q 2 = 1 → Executes (.engSwap q) q (fun b =>
        ((engTargets b e).foldl (fun t x => doSwap true (originOf q.carrier) x t) b).reply q 0x0402 stOk []) s)) ∧
    (∀ ch : Nat, ch = pByte q 2 → AtOnce 2 0 q s.blk → q.params.length = 4 → (e < 144 ∨ e = 0xFFFF) →
      (∀ x ∈ engTargets s.blk e, ch < ownChans x ∧ s.blk.fld (ENG_STAT.STATE x) ≠ 2 ∧ (x < 128 → s.blk.takeOpen = false)) →
      (pByte q 3 = 0 → Executes (.engChan q) q (fun b =>
        ((engTargets b e).foldl (fun t x => stopChan x ch t) b).reply q 0x0403 stOk []) s) ∧
      (pByte q 3 = 1 → (∀ x ∈ engTargets s.blk e, enBusy s.blk x ch = false ∨ s.blk.flag (CH_CFG.EN x ch) = true) →
        Executes (.engChan q) q (fun b =>
          ((engTargets b e).foldl (fun t x => startByCommand (originOf q.carrier) x ch t) b).reply q 0x0403 stOk []) s)) ∧
    (∀ ch n : Nat, ch = pByte q 2 → n = pNat q 4 2 → AtOnce 1 2 q s.blk → q.params.length = 8 + 4 * n → pByte q 3 = 0 → pNat q 6 2 = 0 →
      1 ≤ n → n ≤ 16 → e < 144 → ch < ownChans e → s.blk.fld (ENG_STAT.STATE e) ≠ 2 →
      Completes (.engQueuePost q) s (fun t =>
        ∃ k : Nat, k = min n ((queueDepths s.blk e ch).1 - (s.blk.chan e ch).inq.length) ∧
          Replied q 0x0404 (if k = n then stOk else stBusy) (leBytes 2 k) t ∧
          t.chan e ch = { s.blk.chan e ch with inq := (s.blk.chan e ch).inq ++ (wordsOf n (q.params.drop 8)).take k })) ∧
    (∀ ch n : Nat, ch = pByte q 2 → n = pNat q 4 2 → AtOnce 0 (4 * n) q s.blk → Shaped q 8 [3, 6, 7] → 1 ≤ n → n ≤ 16 → e < 144 →
      ch < ownChans e → s.blk.fld (CH_CFG.QSINK e ch) = 0 →
      Completes (.engQueueRead q) s (fun t => Replied q 0x0405 stOk (((s.blk.chan e ch).outq.take n).flatMap wordBytes) t ∧
        t.chan e ch = { s.blk.chan e ch with outq := (s.blk.chan e ch).outq.drop n } ∧ t.regs = s.blk.regs))) ∧
  (∀ (q : Req) (s : State) (c : Nat), c = pNat q 0 2 → AtOnce 3 0 q s.blk → Shaped q 4 [2, 3] → c < 128 → s.blk.fld (ENG_STAT.STATE c) = 2 →
    s.blk.takeOpen = false →
    (s.blk.drawn.getLsbD 0 = true → Completes (.engRestore q) s (fun t => Replied q 0x0407 stFault [] t ∧ t.eng = s.blk.eng ∧ t.regs = s.blk.regs)) ∧
    (s.blk.drawn.getLsbD 0 = false → clusterIdle s.blk c = false → Completes (.engRestore q) s (fun t => Held q 0x0407 (.restore c) t ∧
      c ∈ t.eng.restorePending ∧ smGet 0 t.eng.restoreSince c = s.blk.now ∧ t.regs = s.blk.regs)) ∧
    (s.blk.drawn.getLsbD 0 = false → clusterIdle s.blk c = true → Completes (.engRestore q) s (fun t => Replied q 0x0407 stOk [] t)))

/-- R324, R344, R345, R354: MC_SET_MAP with no capture and no take takes the five masks and discards the slots; MC_RETIRE retires a channel that
is not the last in service. -/
def Obligations.FrameMemoryCommands : Prop :=
  ∀ (q : Req) (s : State),
    (AtOnce 2 0 q s.blk → q.params.length = 20 → ((wordsOf 5 q.params).zipIdx.all (fun e => maskOk e.2 e.1.toNat)) = true →
      s.blk.flag SYS_STATE.CAPTURE_EN = false → s.blk.takeOpen = false →
      Executes (.mcSetMap q) q (fun b => (setMap (wordsOf 5 q.params) (originOf q.carrier) b).reply q 0x0803 stOk []) s) ∧
    (AtOnce 3 4 q s.blk → Shaped q 4 [1, 2, 3] → pByte q 0 ≤ 7 → (s.blk.takeOpen = true → forced q = true) → inService s.blk ≠ [pByte q 0] →
      Executes (.mcRetire q) q (fun b => (retireRun (pByte q 0) 5 (some (originOf q.carrier)) b).reply q 0x0804 stOk
        (leBytes 2 (slotCap (retireRun (pByte q 0) 5 (some (originOf q.carrier)) b)) ++ zeros 2)) s)

/-- R458, R462, R475, R482, R488: LK_RETRAIN sends DOWN and goes through RECOVER; LK_SET_LANES writes the lanes allowed; LK_SLIP slips a lane out
of service without automatic alignment; LK_PRBS starts or stops the generator and checker of a lane out of service. -/
def Obligations.LinkCommands : Prop :=
  ∀ (q : Req) (s : State),
    (∀ t : Nat, t = pByte q 0 → AtOnce 2 0 q s.blk → Shaped q 4 [1, 2, 3] → t < 8 → portPowered s.blk t = true → takeUses s.blk t = false →
      Executes (.lkRetrain q) q (fun b => enterRecover t false (sendCtl t 2 2 0 (b.reply q 0x0901 stOk []))) s) ∧
    (∀ t m : Nat, t = pByte q 0 → m = pByte q 1 % 2 ^ portWidth t → AtOnce 2 4 q s.blk → Shaped q 4 [2, 3] → t < 8 → m ≠ 0 →
      portPowered s.blk t = true →
      (takeUses s.blk t = true → s.blk.fld (PT_STAT.LANES_IN t) &&& m = s.blk.fld (PT_STAT.LANES_IN t) ∨ forced q = true) →
      Executes (.lkSetLanes q) q (fun b => (allowLanes t m (originOf q.carrier) b).reply q 0x0902 stOk
        (leBytes 1 ((allowLanes t m (originOf q.carrier) b).fld (PT_STAT.LANES_IN t)) ++ zeros 3)) s) ∧
    (∀ l : Nat, l = pByte q 0 → AtOnce 2 4 q s.blk → Shaped q 4 [2, 3] → l < 40 → 1 ≤ pByte q 1 → pByte q 1 ≤ 129 →
      portPowered s.blk (portOf l) = true → mayslip s.blk l = true →
      Executes (.lkSlip q) q (fun b => (slipLane l (pByte q 1) b).reply q 0x0903 stOk
        (wordBytes ((slipLane l (pByte q 1) b).reg (LN_STAT.addr l)))) s) ∧
    (∀ l : Nat, l = pByte q 0 → AtOnce 2 0 q s.blk → Shaped q 4 [2, 3] → l < 40 → pByte q 1 ≤ 3 → portPowered s.blk (portOf l) = true →
      s.blk.flag (LN_STAT.IN_SERVICE l) = false →
      Completes (.lkPrbs q) s (fun t => Replied q 0x0904 stOk [] t ∧ t.fld (LN_CTL.PRBS_TX l) = pByte q 1 % 2 ∧
        t.fld (LN_CTL.PRBS_RX l) = pByte q 1 / 2 ∧ (pByte q 1 / 2 = 0 → t.flag (LN_STAT.PRBS_LOCK l) = false)))

/-- R507, R510, R514, R518, R538: TAKE_OPEN with every magazine of its mode READY opens a take, or asks the peer that is to record it; TAKE_CLOSE
starts the close of the open take; MAG_FORMAT, MAG_READ and TAKE_RECOVER give their commands to the magazine, whose response answers. -/
def Obligations.TakeMagazineCommands : Prop :=
  ∀ (q : Req) (s : State) (m : Nat), m = pByte q 0 →
    (AtOnce 1 16 q s.blk → q.params.length = 8 → s.blk.takeOpen = false → s.blk.fb.openWait = none → takeReady s.blk = true →
      (onPeer s.blk = false → Executes (.takeOpen q) q (openFor q) s) ∧
      (onPeer s.blk = true → Completes (.takeOpen q) s (fun t => t.fb.openWait = some (s.blk.now, q) ∧ t.fb.peerOut.isSome = true))) ∧
    (AtOnce 1 8 q s.blk → q.params = [] → s.blk.rcd.take.isSome = true → s.blk.rsv.closeOut = none →
      Executes (.takeClose q) q (fun b => closeTake (originOf q.carrier) 0 (b.replyLater q 0x0611 stOk [] .takeClose)) s) ∧
    (AtOnce 2 16 q s.blk → Shaped q 28 [1, 2, 3] → m ≤ 1 → s.blk.takeOpen = false → s.blk.magState m ≠ 7 → magThere s.blk m = true →
      ((s.blk.mag m).openParts = [] ∨ forced q = true) →
      Executes (.magFormat q) q (fun b => formatMag m (originOf q.carrier) (q.params.drop 4)
        (b.replyLater q 0x0614 stOk [] (.magazine (magKey (originOf q.carrier) m)))) s) ∧
    (∀ o n : Nat, o = pNat q 12 2 → n = pNat q 14 2 → AtOnce 0 n q s.blk → Shaped q 16 [1, 2, 3] → m ≤ 1 → pNat q 4 8 < 2 ^ 48 → 1 ≤ n →
      n ≤ 4080 → o + n ≤ 4096 → o ≤ 4095 → magThere s.blk m = true →
      Executes (.magRead q) q (fun b => magDo m [readCmd (pNat q 4 8) 1 (.read o n (originOf q.carrier))]
        (b.replyLater q 0x0615 stOk [] (.magazine (magKey (originOf q.carrier) m)))) s) ∧
    (∀ found : List FoundPart, AtOnce 2 4 q s.blk → Shaped q 4 [1, 2, 3] → m ≤ 1 → s.blk.magState m = 4 →
      Executes (.takeRecover q found) q (fun b =>
        let n := (toRecover b found).length
        if n = 0 then (recoverMag m (originOf q.carrier) found b).reply q 0x0616 stOk (leBytes 2 0 ++ zeros 2)
        else (recoverMag m (originOf q.carrier) found b).replyLater q 0x0616 stOk (leBytes 2 n ++ zeros 2)
          (.magazine (magKey (originOf q.carrier) m))) s)

/-- R524, R533, R535, R536, R540, R552: FB_REDISCOVER starts discovery where no array take is known; FB_REMOTE sends its request on and waits for
the reply; FB_ARRAY_TAKE_OPEN prepares the members and commits or aborts; FB_ARRAY_TAKE_CLOSE sends the members the tick of the close;
FB_SHARED_ARM arms this unit's own channel at once and asks the other members. -/
def Obligations.FabricCommands : Prop :=
  ∀ (q : Req) (s : State) (b : Block), b = touchMaintain q.carrier s.blk →
    (AtOnce 2 0 q s.blk → q.params = [] → arrayAnywhere s.blk = false →
      Completes (.fbRediscover q) s (fun t => Replied q 0x0A02 stOk [] t ∧ t.fb.nodes = [] ∧ t.fb.started = true ∧ t.fb.reports = [])) ∧
    (∀ p : List Byte, p = q.params.drop 4 → AtOnce 0 8 q s.blk → 8 ≤ p.length → pNat q 1 3 = 0 → leAt p 4 2 = p.length - 8 → leAt p 4 2 ≤ 4076 →
      leAt p 0 2 ≠ 0x0A10 →
      ∃ w : Block, w.cmd = (b.replyLater q 0x0A10 stOk [] (.remote (remoteId b))).cmd ∧
        w.fb.remotes = s.blk.fb.remotes ++ [⟨remoteId b, pByte q 0, BitVec.ofNat 8 (leAt p 2 1), leAt p 0 2, s.blk.now, false⟩] ∧
        exec (.fbRemote q) s = .next { s with
          blk := sendRequest (pByte q 0) q (leAt p 0 2) (BitVec.ofNat 8 (leAt p 2 1)) (BitVec.ofNat 8 (leAt p 3 1)) (p.drop 8) w }) ∧
    (∀ (members : List Nat) (me : Nat) (k : Tick), members = bitmapNodes (q.params.take 32) → me = s.blk.fld FB_STAT.NODE →
      k = s.blk.now + BitVec.ofNat 64 (if pNat q 32 4 = 0 then s.blk.fld FB_LEAD.LEAD else pNat q 32 4) → AtOnce 1 40 q s.blk →
      q.params.length = 36 → me ∈ members → s.blk.fb.array = none →
      ∃ w : Block, w.fb.array = some ⟨true, k, s.blk.fld FT_PERIOD.PERIOD, members, [me], s.blk.now, false, none⟩ ∧
        Held q 0x0A20 .array w ∧
        exec (.fbArrayTakeOpen q) s = .next { s with
          blk := if arrayOk (s.blk.fld FT_PERIOD.PERIOD) b then
            tryCommit (sendMembers arrPrepare k (s.blk.fld FT_PERIOD.PERIOD) members [] w) else abortArray stConflict [me] w }) ∧
    (∀ a : ArrayTake, AtOnce 1 40 q s.blk → q.params = [] → s.blk.flag FB_STAT.IN_ARRAY = true → s.blk.fb.array = some a →
      Completes (.fbArrayTakeClose q) s (fun t =>
        ∃ far : List Nat, Replied q 0x0A21 stOk (leBytes 8 (s.blk.now + BitVec.ofNat 64 (s.blk.fld FB_LEAD.LEAD)).toNat ++ bitmap far) t)) ∧
    (∀ (members : List Nat) (arm : List Byte) (me : Nat), members = bitmapNodes (q.params.take 32) → arm = (q.params.drop 32).take 24 →
      me = s.blk.fld FB_STAT.NODE → AtOnce 1 32 q s.blk → Shaped q 60 [56, 57, 58, 59] →
      ∃ w : Block,
        w.fb.shared = smPut s.blk.fb.shared (remoteId b) (if members.contains me && (firstFail (armChecks arm b)).isSome then [me] else []) ∧
        w.regs = (if members.contains me && !(firstFail (armChecks arm b)).isSome then
          armBy (originOf q.carrier) arm (b.replyLater q 0x0A22 stOk [] (.remote (remoteId b))) else b).regs ∧
        exec (.fbSharedArm q) s = .next { s with
          blk := endShared (remoteId b) ((members.filter (fun n => decide (n ≠ me))).foldl
            (fun c n => sendRequest n q 0x0501 q.tag 0 arm c) w) })

/-- R304, R306, R309, R318: KS_ARM writes a channel's settings, clears MISSED and LATE and arms it, with C as given or, under REL, P ticks
from now; KS_DISARM disarms a channel and returns its last match.

R269, R270: FT_TRIGGER in TRIGGERED mode acts as a trigger stamped now: accepted, it answers the number of its frame; missed, BUSY. -/
def Obligations.CompareChannelCommands : Prop :=
  (∀ (q : Req) (s : State) (i : Nat), i = pByte q 0 → i < 64 →
    (AtOnce 1 12 q s.blk → q.params.length = 24 → leAt q.params 1 3 = 0 → pNat q 12 4 ≠ 0 →
      ctlBad i (ctlTaken (BitVec.ofNat 32 (pNat q 16 4))) = false → armedCh s.blk i = false → chanOwned s.blk i = false →
      (s.blk.running = true → ctlConflicts i (ctlTaken (BitVec.ofNat 32 (pNat q 16 4))) = false) →
      Completes (.ksArm q) s (fun t =>
        Replied q 0x0501 stOk (leBytes 8 s.blk.now.toNat ++ leBytes 1 (b2n (smHas t.ks.late i)) ++ zeros 3) t ∧
        armedCh t i = true ∧ t.fld (KS_CH_STAT.MISSED i) = 0 ∧ t.flag (KS_CH_STAT.LATE i) = false ∧
        t.fld (KS_CH_PERIOD.PERIOD i) = pNat q 12 4 ∧ t.fld (KS_CH_POST.WORD i) = pNat q 20 4 ∧
        cmpOf t i = (if t.flag (KS_CH_CTL.REL i) then s.blk.now + BitVec.ofNat 64 (pNat q 12 4)
          else BitVec.ofNat 64 (pNat q 4 4 + 2 ^ 32 * pNat q 8 4)))) ∧
    (AtOnce 1 12 q s.blk → Shaped q 4 [1, 2, 3] → chanOwned s.blk i = false →
      Completes (.ksDisarm q) s (fun t =>
        Replied q 0x0502 stOk (leBytes 8 (matchOf s.blk i) ++ leBytes 2 (s.blk.fld (KS_CH_STAT.MISSED i)) ++ zeros 2) t ∧
        armedCh t i = false))) ∧
  (∀ (q : Req) (s : State), AtOnce 1 4 q s.blk → q.params = [] → trigMode s.blk = true →
    (trigMissed s.blk.now s.blk = false →
      Executes (.ftTrigger q) q (fun b => (takeTrigger b.now b).reply q 0x0203 stOk (leBytes 4 b.ft.nextNum)) s) ∧
    (trigMissed s.blk.now s.blk = true → Completes (.ftTrigger q) s (fun t => Replied q 0x0203 stBusy [] t ∧
      t.fld FT_TRIG_CNT.MISSED = (s.blk.fld FT_TRIG_CNT.MISSED + 1) % 2 ^ FT_TRIG_CNT.MISSED.width ∧ t.flag FT_ERR.TRIG_MISSED = true ∧
      t.evtStatus 1020 = true ∧ t.ft = s.blk.ft)))

/-- R104, R575, R599, R600, R605: AG_RECOMPUTE starts a plan computation and answers at its end; RSV_TEST answers the test's outcome and sets its
fault; RSV_SHIP acts as the long press; TW_XFER gives its transaction to the bus and answers when it ends. -/
def Obligations.AgeingReserveBusCommands : Prop :=
  ∀ (q : Req) (s : State),
    (AtOnce 2 4 q s.blk → q.params = [] → s.blk.th.planRun = none →
      Completes (.agRecompute q) s (fun t => Held q 0x0B04 .plan t ∧ t.th.planRun = some s.blk.now ∧ t.flag AG_STAT.RUNNING = true)) ∧
    (∀ pg low : Bool, AtOnce 2 4 q s.blk → q.params = [] → s.blk.rsv.closeOut = none → s.blk.takeOpen = false →
      Completes (.rsvTest q pg low) s (fun t => Replied q 0x0C02 stOk (leBytes 1 (if pg then 1 else if low then 2 else 0) ++ zeros 3) t ∧
        (pg = true → t.flag RSV_STAT.BOOST_FAULT = true ∧ t.evtStatus 951 = true) ∧
        (pg = false → low = true → t.flag RSV_STAT.CELL_FAULT = true ∧ t.evtStatus 950 = true) ∧
        (pg = false → low = false → t.regs = s.blk.regs))) ∧
    (AtOnce 1 0 q s.blk → q.params = [] → s.blk.rsv.closeOut = none → (s.blk.takeOpen = true → forced q = true) →
      Executes (.rsvShip q) q (fun b => shipPress (originOf q.carrier) (b.reply q 0x0C03 stOk [])) s) ∧
    (∀ (st : BusStart) (r : BusResult) (x : Xfer), AtOnce 1 (2 + pNat q 6 2) q s.blk → q.params.length = 8 + pNat q 4 2 → 8 ≤ pByte q 0 →
      pByte q 0 ≤ 0x77 → pByte q 1 ≤ 2 → pNat q 4 2 ≤ 256 → pNat q 6 2 ≤ 256 → s.blk.fld TW_CFG.ROLE = 1 → ownAddr s.blk (pByte q 0) = false →
      s.blk.tw.xfer = none → x = { target := pByte q 0, sends := pByte q 1 + pNat q 4 2, reads := pNat q 6 2, losses := 0 } →
      ∃ w : Block, w.tw.xfer = some x ∧ Held q 0x0E00 .bus w ∧ exec (.twXfer q st r) s = .next { s with blk := xferTry x st r w })

/-- R294, R300, R307, R308: at all ones the counter wraps to 0, with WRAPPED, event 1022 and its cairn; the last part of a slew ends it; a chain
target is armed at the tick after its source fired. Where its moment has not come none of these rows changes anything.

R305, R306, R310: an armed channel that the schedule does not own fires when the counter equals its point, and one found late fires at the
next tick, with LATE and its event; MATCH takes the tick, and a channel that does not repeat is disarmed. -/
def Obligations.KeystoneEvents : Prop :=
  (∀ s : State,
    (s.blk.now = BitVec.ofNat 64 (2 ^ 64 - 1) → s.blk.ks.stopped = false → s.blk.log.queue.length < 4096 →
      Completes .keystoneWrap s (fun t => t.now = 0 ∧ t.flag KS_STAT.WRAPPED = true ∧ t.evtStatus 1022 = true ∧ t.ft = s.blk.ft ∧
        Logged oFirmware 0x0508 (KS_NOW.addr 1) 0xFFFFFFFF 0 t)) ∧
    (s.blk.now ≠ BitVec.ofNat 64 (2 ^ 64 - 1) → Becomes .keystoneWrap s s.blk) ∧
    (s.blk.ks.slew ≠ 0 → s.blk.ks.slew = slewPart s.blk →
      Completes .slewEnd s (fun t => t.ks.slew = 0 ∧ t.flag KS_STAT.SLEWING = false ∧ t.fld KS_SLEW.REMAIN = 0 ∧ t.now = s.blk.now)) ∧
    (s.blk.ks.slew = 0 → Becomes .slewEnd s s.blk) ∧
    (∀ (i : BitVec 6) (at_ : Tick), s.blk.ks.chains.find? (fun e => decide (e.1 = i.toNat)) = some (i.toNat, at_) → s.blk.now = at_ + 1 →
      Completes (.chainArm i) s (fun t => armedCh t i.toNat = true ∧ smHas t.ks.chains i.toNat = false ∧
        cmpOf t i.toNat = (if t.flag (KS_CH_CTL.REL i.toNat) then at_ + BitVec.ofNat 64 (perOf t i.toNat) else cmpOf s.blk i.toNat)))) ∧
  (∀ (i : BitVec 6) (k : Nat) (s : State), k = i.toNat → armedCh s.blk k = true →
    (s.blk.ft.sched.find? (fun m => decide (m.tick = s.blk.now) && decide (m.mark.chan = k)) = none → chanOwned s.blk k = false →
      smHas s.blk.ks.late k = false → pointOf s.blk k = s.blk.now →
      Becomes (.compareFire i) s (fireChannel k s.blk) ∧ matchOf (fireChannel k s.blk) k = s.blk.now.toNat ∧
        (s.blk.flag (KS_CH_CTL.REPEAT k) = false → armedCh (fireChannel k s.blk) k = false)) ∧
    (∀ m : MarkAt, s.blk.ft.sched.find? (fun m => decide (m.tick = s.blk.now) && decide (m.mark.chan = k)) = some m →
      Becomes (.compareFire i) s (fireMark m s.blk)) ∧
    (∀ at_ : Tick, s.blk.ks.late.find? (fun e => decide (e.1 = k)) = some (k, at_) → s.blk.now = at_ + 1 →
      Becomes (.compareLateFire i) s (fireLate k s.blk) ∧ matchOf (fireLate k s.blk) k = s.blk.now.toNat ∧
        (fireLate k s.blk).evtStatus (840 + k) = true))

/-- R151, R265, R267 to R269: the transfer pulse starts tTX ticks before a scheduled GTX; at READY, with the profile's permission, capture starts
by itself; an edge stamp acts as a trigger in TRIGGERED mode; genlock edges are followed, and two missing ones begin holdover. -/
def Obligations.TimingEvents : Prop :=
  ∀ s : State,
    (∀ (node : Bool) (m : MarkAt), s.blk.pix.pulse = none →
      s.blk.ft.sched.find? (fun m => decide (m.mark.chan = 1 + b2n node) && decide (m.tick = s.blk.now + BitVec.ofNat 64 (ttx s.blk))) = some m →
      Becomes (.txPulseLead node) s { s.blk with pix := { s.blk.pix with pulse := some (node, s.blk.now) } }) ∧
    (s.blk.fld SYS_BOOT.STAGE = 9 → permCapture s.blk = true → s.blk.running = false → startTooEarly s.blk = false →
      captureWaits s.blk = false → conflictArmed s.blk = false → inService s.blk ≠ [] → s.blk.rsv.closeOut = none →
      Becomes .captureAutoStart s (startCapture (oProfile (s.blk.fld PRF_STATE.ACTIVE)) s.blk)) ∧
    (permCapture s.blk = false → Becomes .captureAutoStart s s.blk) ∧
    (∀ te : Tick, trigMode s.blk = true → s.blk.eng.sunk.find? (fun k => decide (k.sink = 3)) = none → s.blk.fld FT_TRIG.SRC ≠ 3 →
      Becomes (.triggerStamp te) s (takeTrigger te s.blk)) ∧
    (∀ te : Tick, trigMode s.blk = false → Becomes (.triggerStamp te) s (popSunk 3 s.blk)) ∧
    (∀ te : Tick, glOn s.blk = false → s.blk.eng.sunk.find? (fun k => decide (k.sink = 3)) = none → Becomes (.genlockEdge te) s s.blk) ∧
    (∀ (te l : Tick), glOn s.blk = true → s.blk.eng.sunk.find? (fun k => decide (k.sink = 3)) = none → s.blk.ft.glLast = some l →
      99 * s.blk.fld FT_GL_REF.REF ≤ 100 * (te - l).toNat → 100 * (te - l).toNat ≤ 101 * s.blk.fld FT_GL_REF.REF → s.blk.ft.glStart = false →
      s.blk.flag FT_STAT.HOLDOVER = false → s.blk.fld KS_CFG.DISC ≠ 1 →
      Completes (.genlockEdge te) s (fun t => t.ft.glLast = some te ∧ t.ft.glGood = s.blk.ft.glGood + 1 ∧ t.ks = s.blk.ks ∧
        t.ft.glIntervals = ((te - l).toNat :: s.blk.ft.glIntervals).take 16)) ∧
    (glOn s.blk = true → s.blk.flag FT_STAT.HOLDOVER = false → glMissed s.blk = true →
      Completes .genlockRefLost s (fun t => t.flag FT_STAT.HOLDOVER = true ∧ t.flag FT_STAT.LOCKED = false ∧ t.flag FT_ERR.REF_LOST = true ∧
        t.ft.glIntervals = [] ∧ t.fld KS_TRIM.TRIM = s.blk.fld KS_TRIM.TRIM)) ∧
    (glMissed s.blk = false → Becomes .genlockRefLost s s.blk)

/-- R43, R53, R54, R56: a rail that leaves its window holds the part in reset with event 1017, but the four RC rails, which end capture
and close the take with cause 8; while the part does not run only its status follows. A rail that comes in is OK; one that starts before
its group may sets SEQ_ERR; with VDD_IO, VID carries code 40. -/
def Obligations.RailEvents : Prop :=
  ∀ (rail : BitVec 4) (r : Nat) (s : State), r = rail.toNat → r < 11 →
    (r = 0 → Completes (.railFault rail) s (fun t => t.pwr.selfHeld = true ∧ t.pwr.mainEn = false ∧ t.fld SYS_BOOT.STAGE = 0 ∧
      t.evtStatus 1017 = true ∧ t.cmd.accepted = [] ∧ t.acc.maintain = [])) ∧
    (r ≠ 0 → notRunning s.blk = true →
      Completes (.railFault rail) s (fun t => railOk t r = false ∧ t.evt = s.blk.evt ∧ t.rcd = s.blk.rcd ∧ t.ft = s.blk.ft)) ∧
    (3 ≤ r → r ≤ 6 → notRunning s.blk = false → ∃ u v : Block,
      u = abortCapture (noteRail r (setRailOk r false s.blk)) ∧
      v = closeTake oFirmware 8 { u with pwr := { u.pwr with rcFault := true, rcValidAt := none } } ∧
      Becomes (.railFault rail) s (if v.rcd.take.isSome then v else v.setFld SYS_DOMAIN.RC_ON 0)) ∧
    (r = 1 ∨ r = 2 ∨ 7 ≤ r → notRunning s.blk = false →
      Completes (.railFault rail) s (fun t => t.pwr.selfHeld = true ∧ railOk t r = false ∧ t.fld SYS_BOOT.STAGE = 0 ∧
        t.evtStatus 1017 = true ∧ t.cmd.accepted = [] ∧ t.ks = Block.reset.ks)) ∧
    Completes (.railValid rail) s (fun t => railOk t r = true ∧ t.evt = s.blk.evt ∧ t.ks = s.blk.ks ∧ t.rcd = s.blk.rcd ∧
      t.fld SYS_BOOT.STAGE = s.blk.fld SYS_BOOT.STAGE ∧
      (s.blk.fld SYS_BOOT.STAGE = 0 → railOk s.blk r = false → (∃ x ∈ railsBefore r, railOk s.blk x = false) →
        t.flag SYS_SUPPLY.SEQ_ERR = true ∧ t.pwr.heldEarly = true) ∧
      (s.blk.fld SYS_BOOT.STAGE ≠ 0 → t.flag SYS_SUPPLY.SEQ_ERR = s.blk.flag SYS_SUPPLY.SEQ_ERR) ∧
      (r = 1 → s.blk.pwr.vidDriven = false → t.fld SYS_VID.CODE = 40 ∧ t.pwr.vidDriven = true) ∧
      (s.blk.pwr.rcFault = true → s.blk.pwr.rcValidAt = none → (∀ x ∈ [3, 4, 5, 6], x ≠ r → railOk s.blk x = true) → 3 ≤ r → r ≤ 6 →
        t.pwr.rcValidAt = some s.blk.now))

/-- R42, R53, R54, R57 to R59, R645: SUP_MAIN_EN rises only while no latch, standby or the reserve forbids it; RST_N low resets every
domain, but waits for the end of a close-out; its release latches the pins, starts the keystone at 0, and goes on to start-up once the
rails and TREFCLK are valid; losing VDD_AON clears the thermal latch and every kept field. -/
def Obligations.ResetEvents : Prop :=
  ∀ s : State,
    (railOk s.blk 0 = true → railOk s.blk 1 = true → s.blk.pwr.shipLatch = false → s.blk.pwr.thermalLatch = false → s.blk.pwr.standby = false →
      s.blk.fld RSV_STAT.STATE < 2 → Becomes .supMainEnRise s { s.blk with pwr := { s.blk.pwr with mainEn := true } }) ∧
    (s.blk.pwr.shipLatch = true ∨ s.blk.pwr.thermalLatch = true ∨ s.blk.pwr.standby = true ∨ 2 ≤ s.blk.fld RSV_STAT.STATE →
      Becomes .supMainEnRise s s.blk) ∧
    Completes .vddAonRemoved s (fun t => t.pwr.thermalLatch = false ∧ t.pwr.mainEn = false ∧ t.pwr.rstLow = true ∧
      t.fld SYS_SUPPLY.OK = 0 ∧ t.flag SYS_SUPPLY.SEQ_ERR = false ∧ t.evt.count = []) ∧
    (s.blk.rsv.closeOut = none →
      Completes .rstNLow s (fun t => t.pwr.rstLow = true ∧ t.fld SYS_BOOT.STAGE = 0 ∧ t.cmd.accepted = [] ∧ t.acc.maintain = [] ∧
        t.ks = Block.reset.ks ∧ t.rcd = Block.reset.rcd ∧ t.ft = Block.reset.ft ∧ t.fld SYS_SUPPLY.OK = s.blk.fld SYS_SUPPLY.OK)) ∧
    (s.blk.rsv.closeOut.isSome = true → Becomes .rstNLow s { s.blk with
      pwr := { s.blk.pwr with resetAfterCloseOut := true, resetPins := none } }) ∧
    (∀ pins : Pins, s.blk.pwr.resetAfterCloseOut = false → s.blk.pwr.rstLow = true → s.blk.pwr.shipLatch = false →
      s.blk.pwr.thermalLatch = false →
      Completes (.rstNRelease pins) s (fun t => t.pwr.rstLow = false ∧ t.now = 0 ∧ t.fld SYS_BOOT.PRF = pins.prf.toNat ∧
        t.flag SYS_BOOT.ROOT_PIN = pins.root ∧ t.flag SYS_BOOT.ADDR_IN_BOOT = pins.addrIn ∧
        (pins.testEn = true → t.fld SYS_BOOT.STAGE = s.blk.fld SYS_BOOT.STAGE) ∧
        (pins.testEn = false → allRails s.blk = true → s.blk.flag SYS_CLK.TREF_OK = true → s.blk.pwr.heldEarly = false →
          t.fld SYS_BOOT.STAGE = 1))) ∧
    (s.blk.pwr.heldEarly = true → allRails s.blk = true → s.blk.flag SYS_CLK.TREF_OK = true → s.blk.pwr.rstLow = false →
      s.blk.pwr.selfHeld = false → s.blk.pwr.thermalLatch = false → s.blk.pwr.shipLatch = false → s.blk.pwr.standby = false →
      Completes .heldExit s (fun t => t.fld SYS_BOOT.STAGE = 1 ∧ t.pwr.heldEarly = false)) ∧
    (s.blk.pwr.heldEarly = false → Becomes .heldExit s s.blk)

/-- R47 to R49, R68, R69, R79, R102, R474, R650: the reference clocks' loss and return, a domain's power, the ends of standby and ship
mode, and the reply that waits 2 s for its boundary: it is TIMEOUT, with the same result, and the change stays pending. -/
def Obligations.ClockPowerEvents : Prop :=
  ∀ s : State,
    (s.blk.pwr.rstLow = true → Completes .trefclkLost s (fun t => t.flag SYS_CLK.TREF_OK = false ∧ t.flag KS_STAT.LOCK = false ∧
      t.evt = s.blk.evt ∧ t.ft = s.blk.ft ∧ t.rcd = s.blk.rcd)) ∧
    (s.blk.pwr.rstLow = false → ∃ u : Block,
      u.flag SYS_CLK.TREF_OK = false ∧ u.flag SYS_CLK.TREF_LOST = true ∧ u.flag KS_STAT.LOCK = false ∧ u.evtStatus 1017 = true ∧
      u.pwr.trefBlocked = true ∧ u.pwr.trefValidAt = none ∧ u.ft = s.blk.ft ∧ u.rcd = s.blk.rcd ∧
      Becomes .trefclkLost s (closeTake oFirmware 7 (abortCapture (match u.ft.inFlight with
        | some n => u.mark n fKsUnlocked
        | none => u)))) ∧
    Completes .trefclkRestored s (fun t => t.flag SYS_CLK.TREF_OK = true ∧ t.flag KS_STAT.LOCK = true ∧ t.pwr.trefBlocked = false ∧
      t.ft = s.blk.ft ∧ t.ks = s.blk.ks ∧ t.evt = s.blk.evt) ∧
    ((∀ p, p < 8 → portPowered s.blk p = false) →
      Completes .lrefclkLost s (fun t => t.flag SYS_CLK.LREF_OK = false ∧ t.pwr.lrefValidAt = none ∧ t.ft = s.blk.ft ∧ t.ks = s.blk.ks ∧
        (∀ l, l < 40 → t.flag (LN_STAT.LOCK l) = false) ∧
        (s.blk.pwr.rstLow = false → t.flag SYS_CLK.LREF_LOST = true ∧ t.evtStatus 1017 = true) ∧
        (s.blk.takeOpen = true → s.blk.rcd.lrefLostAt = none → t.rcd.lrefLostAt = some s.blk.now))) ∧
    Completes .lrefclkRestored s (fun t => t.flag SYS_CLK.LREF_OK = true ∧ t.pwr.lrefValidAt = some s.blk.now ∧ t.ft = s.blk.ft) ∧
    (∀ (d : BitVec 5), d.toNat ∈ s.blk.pwr.switching → s.blk.pwr.domainWords = [] →
      Completes (.domainPowered d) s (fun t => (t.reg SYS_DOMAIN.addr).getLsbD d.toNat = true ∧ d.toNat ∉ t.pwr.switching ∧
        t.evt = s.blk.evt ∧ t.ks = s.blk.ks)) ∧
    (∀ (d : BitVec 5), d.toNat ∉ s.blk.pwr.switching → Becomes (.domainPowered d) s s.blk) ∧
    (∀ a : BitVec 7, s.blk.pwr.standby = true → (twMatch s.blk a).isSome = true → allRails s.blk = true → s.blk.flag SYS_CLK.TREF_OK = true →
      s.blk.pwr.heldEarly = false →
      Completes (.wakeMatch a) s (fun t => t.tw.sclHeld = true ∧ t.evtStatus 961 = true ∧ t.pwr.standby = false ∧ t.pwr.mainEn = true ∧
        t.fld SYS_BOOT.STAGE = 1 ∧ t.ks = s.blk.ks)) ∧
    (∀ a : BitVec 7, twMatch s.blk a = none → Becomes (.wakeMatch a) s s.blk) ∧
    (s.blk.pwr.shipLatch = true → Completes .shipExit s (fun t => t.pwr.shipLatch = false ∧ t.pwr.rstLow = true ∧ t.ks = s.blk.ks ∧
      t.reg SYS_DOMAIN.addr = regReset SYS_DOMAIN.addr)) ∧
    (s.blk.pwr.shipLatch = false → Becomes .shipExit s s.blk) ∧
    Completes .completeTimeout s (fun t => t.held = s.blk.held ∧ t.regs = s.blk.regs ∧ t.cmd.replies = s.blk.cmd.replies.map (fun r =>
      match r.wait with
      | .fcp _ => if 2 * secT ≤ s.blk.sinceT r.since then { r with status := stTimeout, wait := .none } else r
      | .swap _ => if 2 * secT ≤ s.blk.sinceT r.since then { r with status := stTimeout, wait := .none } else r
      | _ => r))

/-- R60, R61, R86, R113, R118, R138, R187, R575, R599: start-up goes from step to step in order, and a row of a step that is not the next
one changes nothing. Neither image verified leaves RECOVERY; a profile that is not valid gives way to profile 0, then to the built-in
defaults; a channel that fails its training twice is retired; a bad block degrades the table; the reserve's test leaves its fault. -/
def Obligations.StartUp : Prop :=
  ∀ s : State,
    (∀ ok0 ok1 chainOk : Bool, atStage s.blk 1 = true →
      (((ok0 && s.blk.nvm.fw0.valid) || (ok1 && s.blk.nvm.fw1.valid)) = true →
        Completes (.bootFirmware ok0 ok1 chainOk) s (fun t => t.fld SYS_BOOT.STAGE = 3 ∧ t.flt.imageTried = 0 ∧
          (chainOk = false → t.flag LOG_STAT.CHAIN_ERR = true ∧ t.evtStatus 979 = true) ∧
          ((ok0 && s.blk.nvm.fw0.valid) = true → (imageOrder s.blk).1 = 0 → t.fld SYS_BOOT.IMAGE = 0) ∧
          (s.blk.flt.imageTried ≤ 2 → (ok0 && s.blk.nvm.fw0.valid) = false → t.fld SYS_BOOT.IMAGE = 1))) ∧
      (((ok0 && s.blk.nvm.fw0.valid) || (ok1 && s.blk.nvm.fw1.valid)) = false →
        Completes (.bootFirmware ok0 ok1 chainOk) s (fun t => t.fld SYS_BOOT.STAGE = 10 ∧ t.fld SYS_BOOT.FAIL_STAGE = 1 ∧ t.log = s.blk.log))) ∧
    (atStage s.blk 3 = true →
      (profileValid s.blk (s.blk.fld SYS_BOOT.PRF) = true →
        Becomes .profileLoad s ((loadProfile (s.blk.fld SYS_BOOT.PRF) s.blk).setFld SYS_BOOT.STAGE 4)) ∧
      (profileValid s.blk (s.blk.fld SYS_BOOT.PRF) = false → profileValid s.blk 0 = true → s.blk.log.queue.length < 4096 →
        ∃ u : Block, u.flag SYS_BOOT.PROFILE_FALLBACK = true ∧ u.evtStatus 973 = true ∧ u.fld SYS_BOOT.FAIL_STAGE = 3 ∧
          Logged oFirmware 0x0105 PRF_STATE.addr (BitVec.ofNat 32 (s.blk.fld SYS_BOOT.PRF)) 0 u ∧
          Becomes .profileLoad s ((loadProfile 0 u).setFld SYS_BOOT.STAGE 4)) ∧
      (profileValid s.blk (s.blk.fld SYS_BOOT.PRF) = false → profileValid s.blk 0 = false →
        ∃ u : Block, u.flag SYS_BOOT.DEFAULTS = true ∧ u.flag PRF_STATE.DEFAULTS = true ∧ u.evtStatus 973 = true ∧
          u.acc.perms = 0 ∧ u.fld PRF_STATE.ACTIVE = 0 ∧
          Becomes .profileLoad s ((startEngines [] (standardPads u)).setFld SYS_BOOT.STAGE 4))) ∧
    (∀ f1 f2 : BitVec 8, atStage s.blk 4 = true → f1 &&& f2 = 0 →
      Completes (.dramTrain f1 f2) s (fun t => t.fld SYS_BOOT.STAGE = 5 ∧ t.fld SYS_BOOT.DRAM_RETRIED = f1.toNat ∧
        t.fld SYS_BOOT.DRAM_RETIRED = s.blk.fld SYS_BOOT.DRAM_RETIRED ∧
        ∀ r, r < 8 → f1.getLsbD r = true → t.evtStatus (549 + 8 * r) = true)) ∧
    (∀ (f1 f2 : BitVec 8), atStage s.blk 4 = true → f1 &&& f2 ≠ 0 →
      Completes (.dramTrain f1 f2) s (fun t => t.fld SYS_BOOT.STAGE = 5)) ∧
    (∀ bad : List (BitVec 13), atStage s.blk 5 = true →
      Completes (.calLoad bad) s (fun t => t.fld SYS_BOOT.STAGE = 6 ∧ t.cal.entries = s.blk.cal.stored ∧
        t.cal.defects = s.blk.cal.defectsStored ∧ t.cal.badBlocks = (bad.map (fun k => k.toNat)).filter (fun k => decide (k < 602)) ∧
        ((∃ k ∈ bad, k.toNat < 602) → t.fld SYS_BOOT.FAIL_STAGE = 5 ∧ t.flag CNV_STAT.TABLE_DEGRADED = true))) ∧
    (∀ pgFell cellLow : Bool, atStage s.blk 6 = true →
      Completes (.reserveCheck pgFell cellLow) s (fun t => t.fld SYS_BOOT.STAGE = 7 ∧
        (s.blk.flag RSV_STAT.CELL_PRESENT = false → t.evtStatus 949 = true ∧ t.fld SYS_BOOT.FAIL_STAGE = 6) ∧
        (s.blk.flag RSV_STAT.CELL_PRESENT = true → pgFell = true → t.flag RSV_STAT.BOOST_FAULT = true ∧ t.fld SYS_BOOT.FAIL_STAGE = 6) ∧
        (s.blk.flag RSV_STAT.CELL_PRESENT = true → pgFell = false → cellLow = true →
          t.flag RSV_STAT.CELL_FAULT = true ∧ t.fld SYS_BOOT.FAIL_STAGE = 6) ∧
        (s.blk.flag RSV_STAT.CELL_PRESENT = true → pgFell = false → cellLow = false →
          t.fld SYS_BOOT.FAIL_STAGE = s.blk.fld SYS_BOOT.FAIL_STAGE))) ∧
    (∀ margins : List Byte, atStage s.blk 7 = true → Completes (.lanesStage margins) s (fun t => t.fld SYS_BOOT.STAGE = 8)) ∧
    (atStage s.blk 8 = true → s.blk.flag SYS_DOMAIN.FX_ON = false ∨ s.blk.flag FB_STAT.READY = true →
      Completes .ready s (fun t => t.fld SYS_BOOT.STAGE = 9 ∧ t.evtStatus 1016 = true ∧ t.th.planRun.isSome = true ∧ t.th.afterReady = true)) ∧
    (s.blk.flag SYS_DOMAIN.FX_ON = true → s.blk.flag FB_STAT.READY = false → Becomes .ready s s.blk) ∧
    (∀ n, n < 9 → atStage s.blk n = false →
      (n = 1 → ∀ a b c, Becomes (.bootFirmware a b c) s s.blk) ∧ (n = 3 → Becomes .profileLoad s s.blk) ∧
      (n = 4 → ∀ a b, Becomes (.dramTrain a b) s s.blk) ∧ (n = 5 → ∀ l, Becomes (.calLoad l) s s.blk) ∧
      (n = 6 → ∀ a b, Becomes (.reserveCheck a b) s s.blk) ∧ (n = 7 → ∀ l, Becomes (.lanesStage l) s s.blk) ∧
      (n = 8 → Becomes .ready s s.blk))

/-- R112, R139: what is written to NVM reads back, every other byte is as it was, and the memory keeps its one form (addresses rising, no
entry for a byte that reads zero).

R113, R115, R125, R126, R131, R137: what waits ends by itself: MAINTAIN after 15 minutes, the lock-out, the staging buffer after
60 s; the cairn queue reaches NVM, with the lost entries recorded; a word in the journal slot is written and read back, or fails after the
second attempt. -/
def Obligations.MaintainNvmEvents : Prop :=
  (∀ (b : Block) (a : Nat) (l : List Byte),
    (b.nvmPut a l).nvmBytes a l.length = l ∧ (∀ x, (x < a ∨ a + l.length ≤ x) → (b.nvmPut a l).nvmByte x = b.nvmByte x) ∧
    (smWf (fun _ => (0 : Byte)) b.nvm.mem = true → smWf (fun _ => (0 : Byte)) (b.nvmPut a l).nvm.mem = true)) ∧
  (∀ s : State,
    (s.blk.log.queue.length + s.blk.acc.maintain.length ≤ 4096 →
      Completes .maintainTimeout s (fun t => t.acc.maintain = s.blk.acc.maintain.filter (fun m => decide (s.blk.sinceT m.last < 900 * secT)) ∧
        t.log.queue.length = s.blk.log.queue.length + (s.blk.acc.maintain.filter (fun m => decide (900 * secT ≤ s.blk.sinceT m.last))).length ∧
        ((∃ m ∈ s.blk.acc.maintain, 900 * secT ≤ s.blk.sinceT m.last) → t.evtStatus 975 = true))) ∧
    (s.blk.acc.maintain = [] → Becomes .maintainTimeout s s.blk) ∧
    (∀ u : Tick, s.blk.acc.lockUntil = some u → laterThan u s.blk.now = false →
      Becomes .challengeLockoutEnd s { s.blk with acc := { s.blk.acc with lockUntil := none } }) ∧
    (s.blk.nvm.stageOwner.isSome = true → 60 * secT ≤ s.blk.sinceT s.blk.nvm.stageSince →
      Becomes .stagingRelease s { s.blk with nvm := { s.blk.nvm with stageOwner := none } }) ∧
    (s.blk.log.lost = 0 → Completes .cairnFlush s (fun t => t.log.queue = [] ∧ t.log.entries = s.blk.log.queue.foldl storeCairn s.blk.log.entries ∧
      t.fld LOG_STAT.QUEUED = 0 ∧ t.evt = s.blk.evt)) ∧
    (s.blk.log.lost ≠ 0 → Completes .cairnFlush s (fun t => t.log.lost = 0 ∧ t.flag LOG_STAT.GAP = true ∧ t.evtStatus 978 = true ∧
      t.log.entries = s.blk.log.queue.foldl storeCairn s.blk.log.entries ∧
      Logged oFirmware 0x0121 0 0 (BitVec.ofNat 32 s.blk.log.lost) t)) ∧
    (∀ (w : NvmWrite) (rest : List NvmWrite) (ok1 ok2 : Bool), s.blk.nvm.journal = w :: rest → w.owner = .bytes →
      ((ok1 || ok2) = true → Becomes (.nvmWordWrite ok1 ok2) s
        (({ s.blk with nvm := { s.blk.nvm with journal := rest } } : Block).nvmPut w.offset w.data)) ∧
      ((ok1 || ok2) = false → s.blk.log.queue.length < 4096 →
        Completes (.nvmWordWrite ok1 ok2) s (fun t => t.nvm.journal = rest ∧ t.evtStatus 983 = true ∧
          Logged oFirmware 0x0123 w.offset 0 1 t))) ∧
    (∀ (w : NvmWrite) (rest : List NvmWrite) (ok1 ok2 : Bool), s.blk.nvm.journal = w :: rest → w.owner = .key → (ok1 || ok2) = true →
      ∃ u : Block, u.acc.key = some (w.data.take 32) ∧ u.nvm.journal = rest ∧
        Becomes (.nvmWordWrite ok1 ok2) s (u.releaseFirst .nvm id)))

/-- R176, R185, R186, R190, R193, R196, R364: a unit that stops is retired, with its words handed on; a visit of background calibration
counts; a region without a pass in 4 × INTERVAL sets PASS_LATE; the write-back stores the working copy; a full calibration ends with its
table stored, an epoch committed and event 420 + 16r of every region, or dark-limited with the table as it was. -/
def Obligations.UnitCalibrationEvents : Prop :=
  ∀ s : State,
    (∀ (u : BitVec 22) (nodeB : Bool) (px : List Sample) (a : Action) (f : FrameRec), u.toNat < 2462720 →
      convOf s.blk u.toNat nodeB = some a → s.blk.frame? a.frame = some f →
      Completes (.unitTimeout u nodeB px) s (fun t => u.toNat ∈ t.cal.stoppedUnits ∧ (t.calEntry u.toNat).getLsbD 63 = true ∧
        ((s.blk.calEntry u.toNat).getLsbD 63 = false → t.evtStatus (3 * clusterOf u.toNat + 2) = true))) ∧
    (∀ (u : BitVec 22) (nodeB : Bool) (px : List Sample), u.toNat < 2462720 → convOf s.blk u.toNat nodeB = none →
      Becomes (.unitTimeout u nodeB px) s s.blk) ∧
    (∀ (u : BitVec 22) (nodeB : Bool) (ns : BitVec 18) (px : List Sample) (a : Action) (f : FrameRec), u.toNat < 2462720 →
      convOf s.blk u.toNat nodeB = some a → s.blk.frame? a.frame = some f → px.length = 64 → a.test = false →
      (∀ x ∈ px, sunActs f x = false) → ∃ (l : List (Nat × Bool)) (v : Block),
        l = px.map (pixelWord f (a.mode f) (threshold f (calFor s.blk f u.toNat))) ∧
        v = noteTime (regionOf a.cluster) f.num ((ns.toNat + 9) / 10) (bufferUnit f a u.toNat l s.blk) ∧
        v.pix.bufs = s.blk.pix.bufs ++ [⟨u.toNat, a.node, f.num % 65536, unitOutputs f u.toNat l, (l.filter (fun w => w.2)).length⟩] ∧
        Becomes (.nodeConversionDone u nodeB ns px) s (withEdges (unitEnded a u.toNat (l.filter (fun w => w.2)).length false) v)) ∧
    (∀ (c pair : BitVec 7) (meas : List (BitVec 22 × BitVec 64)) (a : Action), actionOn s.blk c.toNat pair.toNat = some a → a.action = 1 →
      ∃ v : Block, v = visitCounted (regionOf c.toNat) (c.toNat * 128 + pair.toNat) a.ofs
          (((meas.map (fun m => (m.1.toNat, m.2))).filter (fun m => a.units.contains m.1)).foldl (visitUnit a.ofs)
            (withEdges (endAction a) s.blk)) ∧
        Becomes (.calVisitDone c pair meas) s (if v.running then v else epochAtFcp v)) ∧
    (∀ (c pair : BitVec 7) (meas : List (BitVec 22 × BitVec 64)), actionOn s.blk c.toNat pair.toNat = none →
      Becomes (.calVisitDone c pair meas) s s.blk) ∧
    (∀ r : BitVec 3, s.blk.flag CNV_CFG.BGCAL_EN = true →
      4 * s.blk.fld CNV_BGCAL.INTERVAL * msT ≤ s.blk.sinceT (smGet 0 s.blk.cal.passStart r.toNat) →
      Completes (.bgcalPassLate r) s (fun t => t.flag CNV_STAT.PASS_LATE = true ∧ t.evtStatus (419 + 16 * r.toNat) = true ∧ t.cal = s.blk.cal)) ∧
    (∀ r : BitVec 3, s.blk.flag CNV_CFG.BGCAL_EN = false → Becomes (.bgcalPassLate r) s s.blk) ∧
    (s.blk.pwr.coreDown = false → s.blk.rsv.closeOut = none →
      Completes .calWriteback s (fun t => t.cal.stored = s.blk.cal.entries ∧ t.cal.entries = s.blk.cal.entries ∧
        t.cal.writtenEpoch = s.blk.fld CNV_STAT.EPOCH)) ∧
    (s.blk.pwr.coreDown = true ∨ s.blk.rsv.closeOut.isSome = true → Becomes .calWriteback s s.blk) ∧
    (∀ (r : BitVec 3) (hdr : BitVec 64) (c pair : BitVec 7) (meas : List (BitVec 22 × BitVec 64)),
      ((∀ n, (r.toNat, n) ∉ s.blk.rcd.openFrame) → Becomes (.calPacketRx r hdr c pair meas) s s.blk) ∧
      (∀ n, s.blk.rcd.openFrame.find? (fun e => decide (e.1 = r.toNat)) = some (r.toNat, n) →
        Completes (.calPacketRx r hdr c pair meas) s (fun t => t.cal = s.blk.cal ∧ t.rcd.ingest = s.blk.rcd.ingest ∧
          t.fld (ING_STAT.EXCESS r.toNat) = (s.blk.fld (ING_STAT.EXCESS r.toNat) + 1) % 256))) ∧
    (∀ (run : FullCal) (nd : Bool) (entries : List (BitVec 22 × BitVec 64)) (defects : List Word) (temp : BitVec 16),
      s.blk.cal.full = some run →
      (nd = true → Completes (.fullCalDone nd entries defects temp) s (fun t => t.cal.full = none ∧ t.cal.entries = s.blk.cal.entries ∧
        t.flag CNV_STAT.FULL_RUNNING = false ∧ t.fld CNV_STAT.EPOCH = s.blk.fld CNV_STAT.EPOCH ∧
        ∀ r, r < 8 → t.evtStatus (420 + 16 * r) = true)) ∧
      (nd = false → (∀ e ∈ entries, e.1.toNat < unitCount) → ∃ v : Block,
        v.cal.full = none ∧ v.cal.fullCount = (s.blk.cal.fullCount + 1) % 2 ^ 32 ∧ v.cal.fullTemp = temp.toInt ∧ v.cal.badBlocks = [] ∧
        v.flag CNV_STAT.FULL_RUNNING = false ∧ (∀ r, r < 8 → v.evtStatus (420 + 16 * r) = true) ∧
        Becomes (.fullCalDone nd entries defects temp) s
          (if run.restart && !v.running then startCaptureIn run.origin 88000000 false v else v))) ∧
    (∀ (nd : Bool) (entries : List (BitVec 22 × BitVec 64)) (defects : List Word) (temp : BitVec 16), s.blk.cal.full = none →
      Becomes (.fullCalDone nd entries defects temp) s s.blk)

/-- R361 to R366, R378: a frame start opens the region's frame; a segment of the expected set that is new is kept, any other is counted and
its frame marked; a full buffer discards the rest; a frame end, or the deadline, closes a region with its missing courses filled; words
of the record sink go to the frame or to the timecode; the header is completed when its wait ends. -/
def Obligations.IngestEvents : Prop :=
  ∀ (s : State),
    (∀ (r : BitVec 3) (hdr : BitVec 64) (u : Block),
      u = (match s.blk.rcd.openFrame.find? (fun e => decide (e.1 = r.toNat)) with
        | some (_, n) => closeRegion n r.toNat (bit8 cShort) [fShort, fIncomplete] s.blk
        | none => s.blk) →
      (∀ n, frameOfLow u (hdr.toNat % 65536) = some n → Becomes (.frameStartRx r hdr) s { u with rcd := { u.rcd with
        openFrame := smPut u.rcd.openFrame r.toNat n, overflowed := u.rcd.overflowed.filter (fun x => decide (x ≠ r.toNat)),
        stalled := u.rcd.stalled.filter (fun x => decide (x ≠ r.toNat)) } }) ∧
      (frameOfLow u (hdr.toNat % 65536) = none → Becomes (.frameStartRx r hdr) s u)) ∧
    (∀ (r : BitVec 3) (hdr : BitVec 64) (n : Nat), s.blk.rcd.openFrame.find? (fun e => decide (e.1 = r.toNat)) = some (r.toNat, n) →
      (n % 65536 = hdr.toNat % 65536 → Becomes (.frameEndRx r hdr) s (closeRegion n r.toNat (bit8 cShort) [fShort, fIncomplete] s.blk)) ∧
      (n % 65536 ≠ hdr.toNat % 65536 → Becomes (.frameEndRx r hdr) s s.blk)) ∧
    (∀ (r : BitVec 3) (hdr : BitVec 64) (beats : List (BitVec 64)) (full : Bool) (n : Nat) (f : FrameRec) (g : Ingest) (u : Block),
      s.blk.rcd.openFrame.find? (fun e => decide (e.1 = r.toNat)) = some (r.toNat, n) → s.blk.frame? n = some f → s.blk.ingest? n = some g →
      u = freeBufs f r.toNat (hdr.toNat / 65536 % 2048) (decide (hdr.toNat / 2 ^ 27 % 2 = 1)) s.blk →
      (r.toNat ∈ s.blk.rcd.overflowed → Becomes (.courseSegmentRx r hdr beats full) s u) ∧
      (r.toNat ∉ s.blk.rcd.overflowed → full = true → Completes (.courseSegmentRx r hdr beats full) s (fun t =>
        r.toNat ∈ t.rcd.overflowed ∧ t.fld (ING_PEAK.PEAK r.toNat) = 512 ∧
        t.fld (ING_STAT.OVERFLOWS r.toNat) = (s.blk.fld (ING_STAT.OVERFLOWS r.toNat) + 1) % 256)) ∧
      (r.toNat ∉ s.blk.rcd.overflowed → full = false → hdr.toNat % 65536 = n % 65536 → hdr.toNat / 2 ^ 28 % 4 = 0 →
        hdr.toNat / 2 ^ 30 % 1024 = (expUnits f r.toNat (hdr.toNat / 65536 % 2048)).length →
        (hdr.toNat / 65536 % 2048, decide (hdr.toNat / 2 ^ 27 % 2 = 1)) ∈ expSegs f r.toNat →
        beats.length = blockBeats f.bin * (expUnits f r.toNat (hdr.toNat / 65536 % 2048)).length →
        (∀ sg ∈ g.segs, ¬ (sg.region = r.toNat ∧ sg.course = hdr.toNat / 65536 % 2048 ∧ sg.node = decide (hdr.toNat / 2 ^ 27 % 2 = 1))) →
        Completes (.courseSegmentRx r hdr beats full) s (fun t => ∃ (g' : Ingest) (sg : Seg), t.ingest? n = some g' ∧ g'.segs = g.segs ++ [sg] ∧
          sg.region = r.toNat ∧ sg.course = hdr.toNat / 65536 % 2048 ∧ sg.node = decide (hdr.toNat / 2 ^ 27 % 2 = 1) ∧
          sg.outs.length = (expUnits f r.toNat (hdr.toNat / 65536 % 2048)).length ∧ t.evt = u.evt)) ∧
      (r.toNat ∉ s.blk.rcd.overflowed → full = false → hdr.toNat % 65536 ≠ n % 65536 →
        Becomes (.courseSegmentRx r hdr beats full) s (dropSegment (some n) r.toNat u))) ∧
    (∀ (n : BitVec 32) (f : FrameRec) (g : Ingest), s.blk.frame? n.toNat = some f → s.blk.ingest? n.toNat = some g →
      Completes (.frameDeadline n) s (fun t => ∃ g' : Ingest, t.ingest? n.toNat = some g' ∧ (∀ r, r < 8 → r ∈ g'.ended) ∧
        ((∀ r, r < 8 → r ∈ g.ended) → t = s.blk))) ∧
    (∀ (e : BitVec 8) (ch : BitVec 7) (w a b : Word), e.toNat = 128 + s.blk.fld REC_TC.ENGINE → ch.toNat = s.blk.fld REC_TC.CHAN →
      s.blk.flag REC_TC.EN = true → s.blk.rcd.tcPart = [a, b] → w = 0 →
      Becomes (.recordSinkWord e ch w) s { s.blk with rcd := { s.blk.rcd with
        tcPart := [], tcKept := ((s.blk.now, b ++ a) :: s.blk.rcd.tcKept).take 16 } }) ∧
    (∀ (e : BitVec 8) (ch : BitVec 7) (w : Word) (f : FrameRec) (g : Ingest), s.blk.flag REC_TC.EN = false →
      s.blk.ft.frames.find? (fun f => !laterThan f.fcp s.blk.now) = some f → s.blk.ingest? f.num = some g →
      (g.recWords.length < 512 → Becomes (.recordSinkWord e ch w) s
        (s.blk.onIngest f.num (fun i => { i with recWords := i.recWords ++ [w] }))) ∧
      (512 ≤ g.recWords.length → Completes (.recordSinkWord e ch w) s (fun t => t.evtStatus 803 = true ∧
        ∃ g', t.ingest? f.num = some g' ∧ g'.recWords = g.recWords ∧ g'.recDropped = g.recDropped + 1))) ∧
    (∀ (n : BitVec 32) (l : Slot) (g : Ingest), s.blk.slot? n.toNat = some l → s.blk.ingest? n.toNat = some g →
      (g.whole.isSome = true → l.drains = [] → l.draining = [] → l.header = none →
        Becomes (.headerCloseTimeout n) s (sweepSlots (completeHeader n.toNat s.blk))) ∧
      (l.header.isSome = true → Becomes (.headerCloseTimeout n) s s.blk))

/-- R428, R432, R433, R435 to R440: a whole frame's statistics are published with event 992 once the map is complete, or at the time-out
with MAP_INCOMPLETE and event 993; a loop that is off, or whose core is down, does nothing; one without statistics holds with code 1;
auto exposure on a witness frame changes FT_EXPOSURE under POLICY. -/
def Obligations.StatisticsEvents : Prop :=
  ∀ s : State,
    (∀ (n : BitVec 32) (f : FrameRec) (g : Ingest), s.blk.frame? n.toNat = some f → s.blk.ingest? n.toNat = some g → f.num = n.toNat →
      g.whole.isSome = true → g.stats = none → statsStopped s.blk f.num = false →
      (mapComplete s.blk f = true → Completes (.statsPublish n) s (fun t => t.fld STAT_LAST.FRAME = n.toNat ∧ t.evtStatus 992 = true ∧
        t.stat.kept.head? = some (statArea f g s.blk.now false))) ∧
      (mapComplete s.blk f = false → Becomes (.statsPublish n) s s.blk) ∧
      (mapComplete s.blk f = false → Completes (.statsMapTimeout n) s (fun t => t.fld STAT_LAST.FRAME = n.toNat ∧ t.evtStatus 992 = true ∧
        t.evtStatus 993 = true ∧ t.flag STAT_STAT.MAP_INCOMPLETE = true ∧ t.stat.kept.head? = some (statArea f g s.blk.now true)))) ∧
    (s.blk.pwr.coreDown = true ∨ s.blk.flag AE_CFG.EN = false → Becomes .aeUpdate s s.blk) ∧
    (s.blk.pwr.coreDown = true ∨ s.blk.flag AWB_CFG.EN = false → Becomes .awbUpdate s s.blk) ∧
    (s.blk.pwr.coreDown = false → s.blk.flag AE_CFG.EN = true → loopArea s.blk = none →
      Completes .aeUpdate s (fun t => t.fld AE_STAT.HOLD = 1 ∧ (s.blk.fld AE_STAT.HOLD = 0 → t.evtStatus 994 = true) ∧
        (s.blk.fld AE_STAT.HOLD ≠ 0 → t.evt = s.blk.evt))) ∧
    (s.blk.pwr.coreDown = false → s.blk.flag AWB_CFG.EN = true → loopArea s.blk = none →
      Completes .awbUpdate s (fun t => t.fld AWB_STAT.HOLD = 1 ∧ (s.blk.fld AWB_STAT.HOLD = 0 → t.evtStatus 995 = true))) ∧
    (∀ a : StatArea, s.blk.pwr.coreDown = false → s.blk.flag AE_CFG.EN = true → loopArea s.blk = some a → s.blk.fld AE_CFG.MODE = 0 →
      Becomes .aeUpdate s (monLoops true (loopsShare s.blk) a s.blk)) ∧
    (∀ a : StatArea, s.blk.pwr.coreDown = false → s.blk.flag AE_CFG.EN = true → loopArea s.blk = some a → s.blk.fld AE_CFG.MODE ≠ 0 →
      loopDue s.blk.stat.aeFirst (s.blk.fld AE_CFG.INTERVAL) a.frame = true →
      (aeHold s.blk a ≠ 0 → Completes .aeUpdate s (fun t => t.fld AE_STAT.HOLD = aeHold s.blk a ∧ t.reg FT_EXPOSURE.addr = s.blk.reg FT_EXPOSURE.addr)) ∧
      (aeHold s.blk a = 0 → Becomes .aeUpdate s (aeWitness a s.blk) ∧
        (15 / 16 ≤ aeRatio s.blk (aeMetric a) → aeRatio s.blk (aeMetric a) ≤ 17 / 16 →
          (aeWitness a s.blk).reg FT_EXPOSURE.addr = s.blk.reg FT_EXPOSURE.addr ∧ (aeWitness a s.blk).fld AE_STAT.HOLD = 0))) ∧
    (∀ a : StatArea, s.blk.pwr.coreDown = false → s.blk.flag AWB_CFG.EN = true → loopArea s.blk = some a →
      Becomes .awbUpdate s (monLoops (loopsShare s.blk) true a s.blk))

/-- R328, R333 to R336, R339, R340, R342, R345: rows close on idle and at a refresh; a refresh is owed only up to its band's limit, and is
paid back; a die temperature comes into force with its band; a recentring pass that finds the eye low raises 549 + 8r; an uncorrectable
access is counted with its address, and the fourth address in 1 s, or no response, retires the channel. -/
def Obligations.FrameMemoryEvents : Prop :=
  ∀ (r : BitVec 3) (k : Nat) (s : State), k = r.toNat →
    (∀ bank : BitVec 5, Completes (.pageIdleTimeout r bank) s (fun t => smGet 0 t.mc.openRows (k * 32 + bank.toNat) = 0 ∧
      (∀ j, j ≠ k * 32 + bank.toNat → smGet 0 t.mc.openRows j = smGet 0 s.blk.mc.openRows j) ∧ t.regs = s.blk.regs)) ∧
    (∀ busy : Bool, k ∈ inService s.blk →
      (busy = true → s.blk.fld (MC_CH_STAT.OWED k) < owedLimit (s.blk.fld (MC_CH_STAT.RBAND k)) →
        Completes (.refreshDue r busy) s (fun t => t.fld (MC_CH_STAT.OWED k) = s.blk.fld (MC_CH_STAT.OWED k) + 1 ∧ t.mc = s.blk.mc)) ∧
      (busy = false ∨ owedLimit (s.blk.fld (MC_CH_STAT.RBAND k)) ≤ s.blk.fld (MC_CH_STAT.OWED k) →
        Becomes (.refreshDue r busy) s (closeRows k s.blk))) ∧
    (∀ busy : Bool, k ∉ inService s.blk → Becomes (.refreshDue r busy) s s.blk) ∧
    Completes (.refreshPayback r) s (fun t => t.fld (MC_CH_STAT.OWED k) = 0 ∧
      (s.blk.fld (MC_CH_STAT.OWED k) = 0 → t = s.blk) ∧ (s.blk.fld (MC_CH_STAT.OWED k) ≠ 0 → ∀ e ∈ t.mc.openRows, e.1 / 32 ≠ k)) ∧
    (∀ temp : BitVec 16, Completes (.dramTempRead r temp) s (fun t => t.flag (MC_CH_STAT.TEMP_OK k) = true ∧
      t.fld (MC_CH_STAT.TEMP k) = temp.toNat ∧ t.fld (MC_CH_STAT.RBAND k) = refreshBand (s.blk.fld (MC_CH_STAT.RBAND k)) temp.toInt ∧
      (140 * 16 < temp.toInt → sgn 16 (s.blk.fld (MC_CH_STAT.TEMP k)) ≤ 140 * 16 → t.evtStatus (551 + 8 * k) = true))) ∧
    Completes (.dramTempMissing r) s (fun t => t.flag (MC_CH_STAT.TEMP_OK k) = false ∧
      (s.blk.flag (MC_CH_STAT.TEMP_OK k) = true → t.evtStatus (551 + 8 * k) = true)) ∧
    (k ∈ inService s.blk → Completes (.recentrePass r) s (fun t => t.flag (MC_CH_STAT.PASS k) = true ∧ t.evt = s.blk.evt)) ∧
    (k ∉ inService s.blk → Becomes (.recentrePass r) s s.blk) ∧
    (∀ low : Bool, s.blk.flag (MC_CH_STAT.PASS k) = true → Completes (.recentrePassEnd r low) s (fun t =>
      t.flag (MC_CH_STAT.PASS k) = false ∧ (low = true → t.evtStatus (549 + 8 * k) = true) ∧ (low = false → t.evt = s.blk.evt))) ∧
    (∀ low : Bool, s.blk.flag (MC_CH_STAT.PASS k) = false → Becomes (.recentrePassEnd r low) s s.blk) ∧
    (smGet 0 s.blk.mc.rateWant k ≠ 0 → s.blk.flag (MC_CH_STAT.PASS k) = false → k ∈ inService s.blk →
      Completes (.dataRateChange r true) s (fun t => t.flag (MC_CH_STAT.AT_5600 k) = decide (smGet 0 s.blk.mc.rateWant k = 1) ∧
        smGet 0 t.mc.rateWant k = 0 ∧ t.evtStatus (548 + 8 * k) = true ∧ t.fld (MC_CH_STAT.OWED k) = 0 ∧ ∀ e ∈ t.mc.openRows, e.1 / 32 ≠ k)) ∧
    (∀ ok : Bool, smGet 0 s.blk.mc.rateWant k = 0 ∨ s.blk.flag (MC_CH_STAT.PASS k) = true ∨ k ∉ inService s.blk →
      Becomes (.dataRateChange r ok) s s.blk) ∧
    (∀ (pa : BitVec 33) (port : BitVec 4) (bad : Bool), k ∈ inService s.blk → s.blk.mc.recent = [] →
      Completes (.uncorrectableAccess r pa port bad) s (fun t => t.evtStatus (545 + 8 * k) = true ∧
        t.fld (MC_CH_ECC.UNCORR k) = min 65535 (s.blk.fld (MC_CH_ECC.UNCORR k) + 1) ∧
        t.fld (MC_CH_ERR_LO.ADDRESS k) = pa.toNat % 2 ^ 32 ∧ t.fld (MC_CH_ERR_HI.ADDR32 k) = pa.toNat / 2 ^ 32 ∧
        t.fld (MC_CH_ERR_HI.PORT k) = port.toNat ∧ t.mc.recent = [⟨s.blk.now, k, port.toNat, pa.toNat⟩] ∧
        t.flag (MC_CH_STAT.RETIRED k) = s.blk.flag (MC_CH_STAT.RETIRED k))) ∧
    (∀ (pa : BitVec 33) (port : BitVec 4) (bad : Bool), k ∉ inService s.blk → Becomes (.uncorrectableAccess r pa port bad) s s.blk) ∧
    (k ∈ inService s.blk → Becomes (.channelNoResponse r) s (retireRun k 4 none s.blk) ∧
      (2 ≤ (inService s.blk).length → (retireRun k 4 none s.blk).flag (MC_CH_STAT.RETIRED k) = true ∧
        (retireRun k 4 none s.blk).fld (MC_CH_STAT.CAUSE k) = 4 ∧ k ∉ inService (retireRun k 4 none s.blk) ∧
        (retireRun k 4 none s.blk).evtStatus (546 + 8 * k) = true)) ∧
    (k ∉ inService s.blk → inService s.blk ≠ [] → Becomes (.channelNoResponse r) s s.blk)

/-- R209 to R217, R225, R240: what the data instructions of a mason or a pin engine do to their channel: SET, OUT, IN, PULL, PUSH, MOV, ADD
and JMP, each with the program counter moved on; an undefined opcode or a reserved bit stops the channel with its program error. -/
def Obligations.DataInstructions : Prop :=
  ∀ (e : BitVec 8) (ch : BitVec 7) (w : Word) (s : State) (c : Chan) (t : Block), c = nextChan s.blk e ch →
    t = takeTurn e.toNat ch.toNat s.blk →
    (∀ pos n dest : Nat, ∀ timed : Bool, pos = wfield w 23 5 → n = wfield w 18 5 + 1 → dest = wfield w 16 2 → timed = w.getLsbD 15 →
      InstrDue 1 e ch w s.blk → pos + n ≤ 32 →
      (dest = 0 → timed = false → e.toNat < 128 → Retires (.setImm e ch) e ch s { c with
        ol := (c.ol &&& ~~~ wmask pos n) ||| (BitVec.ofNat 32 (wfield w 0 15 % 2 ^ n * 2 ^ pos) &&& wmask pos n) }) ∧
      (dest = 2 → timed = false → Retires (.setImm e ch) e ch s { c with
        flags := (c.flags &&& ~~~ (wmask pos n).setWidth 8) |||
          ((BitVec.ofNat 32 (wfield w 0 15 % 2 ^ n * 2 ^ pos)).setWidth 8 &&& (wmask pos n).setWidth 8) }) ∧
      (dest ≤ 1 → 128 ≤ e.toNat → Becomes (.setImm e ch) s (drivePins e.toNat ch.toNat (decide (dest = 1)) timed (wmask pos n)
        (BitVec.ofNat 32 (wfield w 0 15 % 2 ^ n * 2 ^ pos)) (t.setChan e.toNat ch.toNat c))) ∧
      (dest = 3 → Becomes (.setImm e ch) s (progErr 2 e.toNat ch.toNat t))) ∧
    (∀ n : Nat, n = wfield w 15 5 + 1 → InstrDue 2 e ch w s.blk → wfield w 0 15 = 0 → wfield w 20 5 = 0 → n ≤ 32 - c.consumed →
      (wfield w 25 3 = 2 → Retires (.outBits e ch) e ch s
        { c with consumed := c.consumed + n, x := BitVec.ofNat 32 (wfield c.so c.consumed n) }) ∧
      (wfield w 25 3 = 3 → Retires (.outBits e ch) e ch s
        { c with consumed := c.consumed + n, y := BitVec.ofNat 32 (wfield c.so c.consumed n) })) ∧
    (∀ n : Nat, n = wfield w 15 5 + 1 → InstrDue 3 e ch w s.blk → wfield w 0 15 = 0 → wfield w 20 5 + n ≤ 32 → wfield w 25 3 = 1 →
      c.stall = .none → c.filled + n ≤ 32 → Retires (.inBits e ch) e ch s { c with
        si := c.si ||| BitVec.ofNat 32 (wfield c.x (wfield w 20 5) n * 2 ^ c.filled), filled := c.filled + n }) ∧
    (InstrDue 4 e ch w s.blk → wfield w 0 27 = 0 → (queueDepths t e.toNat ch.toNat).1 ≠ 0 →
      (∀ (q : Word) (l : List Word), c.inq = q :: l → Becomes (.pull e ch) s ((wordTaken e.toNat ch.toNat q t).setChan e.toNat ch.toNat
        { (({ c with inq := l } : Chan).flow (queueDepths t e.toNat ch.toNat).1) with so := q, consumed := 0, stall := .none })) ∧
      (c.inq = [] → w.getLsbD 27 = true → Retires (.pull e ch) e ch s { c with flags := c.flags ||| 0x02 }) ∧
      (c.inq = [] → w.getLsbD 27 = false → Becomes (.pull e ch) s (giveUp e.toNat (t.setChan e.toNat ch.toNat { c with
        pc := c.pcOf, state := 3, stall := .onQueue })))) ∧
    (InstrDue 5 e ch w s.blk → wfield w 0 27 = 0 → (queueDepths t e.toNat ch.toNat).2 ≠ 0 →
      t.fld (CH_CFG.QSINK (t.cfgEng e.toNat ch.toNat) (ch.toNat % 64)) = 0 →
      (c.outq.length < (queueDepths t e.toNat ch.toNat).2 → Completes (.push e ch) s (fun u =>
        u.chan e.toNat ch.toNat = { c with outq := c.outq ++ [c.si], si := 0, filled := 0, stall := .none } ∧ u.regs = s.blk.regs ∧
        ∀ e' k', chanKey e' k' ≠ chanKey e.toNat ch.toNat → u.chan e' k' = s.blk.chan e' k')) ∧
      ((queueDepths t e.toNat ch.toNat).2 ≤ c.outq.length → w.getLsbD 27 = true →
        Retires (.push e ch) e ch s { c with si := 0, filled := 0, flags := c.flags ||| 0x04 })) ∧
    (InstrDue 6 e ch w s.blk → wfield w 0 18 = 0 → wfield w 20 4 < 11 → ∃ v : Word,
      v = movOp (wfield w 18 2) (movSource t e.toNat ch.toNat (wfield w 20 4) c) ∧
      (wfield w 24 4 = 0 → Retires (.mov e ch) e ch s { c with x := v }) ∧ (wfield w 24 4 = 1 → Retires (.mov e ch) e ch s { c with y := v }) ∧
      (wfield w 24 4 = 2 → Retires (.mov e ch) e ch s { c with so := v, consumed := 0 }) ∧
      (wfield w 24 4 = 3 → Retires (.mov e ch) e ch s { c with si := v, filled := 0 }) ∧
      (wfield w 24 4 = 5 → Retires (.mov e ch) e ch s { c with pc := wfield v 0 10 }) ∧
      (wfield w 24 4 = 6 → Retires (.mov e ch) e ch s { c with flags := v.setWidth 8 })) ∧
    (InstrDue 7 e ch w s.blk → wfield w 16 10 = 0 →
      (w.getLsbD 27 = false → w.getLsbD 26 = false → Retires (.add e ch) e ch s { c with
        x := c.x + (w.setWidth 16).signExtend 32,
        flags := if 2 ^ 32 ≤ c.x.toNat + ((w.setWidth 16).signExtend 32 : Word).toNat then c.flags ||| 0x01 else c.flags &&& 0xFE }) ∧
      (w.getLsbD 27 = true → w.getLsbD 26 = true → Retires (.add e ch) e ch s { c with
        y := c.y + c.x, flags := if 2 ^ 32 ≤ c.y.toNat + c.x.toNat then c.flags ||| 0x01 else c.flags &&& 0xFE })) ∧
    (InstrDue 7 e ch w s.blk → wfield w 16 10 ≠ 0 → Becomes (.add e ch) s (progErr 2 e.toNat ch.toNat t)) ∧
    (InstrDue 8 e ch w s.blk → wfield w 10 9 = 0 →
      (wfield w 24 4 = 0 → Retires (.jmp e ch) e ch s { c with pc := wfield w 0 10 }) ∧
      (wfield w 24 4 = 7 → Retires (.jmp e ch) e ch s { c with
        x := c.x - 1, pc := if c.x = 1 then c.pc else wfield w 0 10 }) ∧
      (wfield w 24 4 = 5 → Retires (.jmp e ch) e ch s { c with pc := if c.x = c.y then wfield w 0 10 else c.pc })) ∧
    (∀ op : Nat, 14 ≤ op → InstrDue op e ch w s.blk →
      Becomes (.add e ch) s (progErr 1 e.toNat ch.toNat t) ∧ Becomes (.mov e ch) s (progErr 1 e.toNat ch.toNat t))

/-- R208, R210, R218 to R221, R223: the instructions that give up the engine. HALT, YIELD, a DELAY of n ticks, a WAIT that its source has
satisfied or not, a STROBE that the converter die accepts or that stalls, a SYNC that waits at its barrier. -/
def Obligations.FlowInstructions : Prop :=
  ∀ (e : BitVec 8) (ch : BitVec 7) (w : Word) (s : State) (c : Chan) (t : Block), c = nextChan s.blk e ch →
    t = takeTurn e.toNat ch.toNat s.blk →
    (InstrDue 0 e ch w s.blk → w = 0 →
      Becomes (.halt e ch) s (giveUp e.toNat (t.setChan e.toNat ch.toNat { c with state := 5 }))) ∧
    (InstrDue 13 e ch w s.blk → wfield w 0 28 = 0 → Becomes (.yield e ch) s (giveUp e.toNat (t.setChan e.toNat ch.toNat c))) ∧
    (InstrDue 9 e ch w s.blk → wfield w 20 8 = 0 → Becomes (.delay e ch) s (giveUp e.toNat (t.setChan e.toNat ch.toNat { c with
      state := 1, delayEnd := some (s.blk.now + BitVec.ofNat 64 (wfield w 0 20 + 1)), timedFrom := none }))) ∧
    (InstrDue 9 e ch w s.blk → wfield w 0 27 = 0 → w.getLsbD 27 = true → 1 ≤ c.x.toNat → c.x.toNat ≤ 1048576 →
      Becomes (.delay e ch) s (giveUp e.toNat (t.setChan e.toNat ch.toNat { c with
        state := 1, delayEnd := some (s.blk.now + BitVec.ofNat 64 c.x.toNat), timedFrom := none }))) ∧
    (∀ (k : Nat) (l : Latch), InstrDue 10 e ch w s.blk → waitSrc w = some (.strobe k) → wfield w 23 2 = 0 →
      c.latches.find? (fun x => decide (x.1 = k)) = some (k, l) →
      Becomes (.wait e ch) s (giveUp e.toNat (t.setChan e.toNat ch.toNat { c with
        latches := smDel c.latches k, lastWait := smPut c.lastWait (64 + k) l.stamp, waitOn := none, wokeAt := none, timedFrom := none }))) ∧
    (∀ k : Nat, InstrDue 10 e ch w s.blk → waitSrc w = some (.strobe k) → smHas c.latches k = false →
      Becomes (.wait e ch) s (giveUp e.toNat (t.setChan e.toNat ch.toNat { c with
        state := 2, waitOn := some (.strobe k), waitStamp := wfield w 23 2, wokeAt := none, timedFrom := none }))) ∧
    (∀ i : Nat, InstrDue 10 e ch w s.blk → waitSrc w = some (.compare i) → c.armed ≠ some (.compare i) →
      Becomes (.wait e ch) s (giveUp e.toNat (t.setChan e.toNat ch.toNat { c with
        armed := some (.compare i), heldAt := none,
        state := 2, waitOn := some (.compare i), waitStamp := wfield w 23 2, wokeAt := none, timedFrom := none }))) ∧
    (InstrDue 10 e ch w s.blk → waitSrc w = none → Becomes (.wait e ch) s (progErr 2 e.toNat ch.toNat t)) ∧
    (∀ (pair : Nat) (a : Action), InstrDue 11 e ch w s.blk → wfield w 26 2 ≠ 3 → wfield w 23 2 ≠ 3 → wfield w 0 22 = 0 → e.toNat < 128 →
      c.ol.getLsbD 3 = false → pair = ch.toNat % 64 →
      a = { cluster := t.cfgEng e.toNat ch.toNat, pair := pair, action := wfield w 26 2, node := w.getLsbD 25, frame := 0,
            chan := chanKey e.toNat ch.toNat, gain := wfield w 23 2, test := c.ol.getLsbD 11, ofs := c.ol.getLsbD 10,
            units := enabledUnits t (t.cfgEng e.toNat ch.toNat) pair (w.getLsbD 22), left := [], tmo := false,
            gated := false, dup := false, sats := [] } →
      (actionOn t a.cluster pair = none → allFree t a.units = true → Becomes (.strobe e ch) s (withEdges (acceptAction a (w.getLsbD 22))
        (t.setChan e.toNat ch.toNat { c with pairNo := pair, stall := .none }))) ∧
      ((actionOn t a.cluster pair).isSome = true → Becomes (.strobe e ch) s (giveUp e.toNat (t.setChan e.toNat ch.toNat { c with
        pairNo := pair, pc := c.pcOf, state := 3, stall := .onConverter })))) ∧
    (InstrDue 11 e ch w s.blk → wfield w 26 2 ≠ 3 → wfield w 23 2 ≠ 3 → wfield w 0 22 = 0 → 128 ≤ e.toNat →
      Becomes (.strobe e ch) s (progErr 4 e.toNat ch.toNat t)) ∧
    (InstrDue 12 e ch w s.blk → wfield w 0 23 = 0 →
      (t.fld (ENG_SYNC.NEED (t.cfgEng e.toNat ch.toNat) (wfield w 24 4)) ≠ 0 → Becomes (.sync e ch) s (giveUp e.toNat
        (t.setChan e.toNat ch.toNat { c with state := 4, barrier := some (wfield w 24 4, w.getLsbD 23) }))) ∧
      (t.fld (ENG_SYNC.NEED (t.cfgEng e.toNat ch.toNat) (wfield w 24 4)) = 0 →
        Becomes (.sync e ch) s (progErr 6 e.toNat ch.toNat t)))

/-- R208, R214, R218, R219, R221, R224, R225, R227, R231, R237, R243, R251: what happens to the engines of itself, and by a register write.
A delay or a wait ends, a stall resumes, a barrier releases, a quantum expires, timed outputs change together, a pin's level changes, a
swap takes place at its swap point, a restored mason gets its channels back; a posted word enters the in-queue, or is dropped and counted. -/
def Obligations.EngineEvents : Prop :=
  ∀ (e : BitVec 8) (s : State), e.toNat < 144 →
    (∀ (ch : BitVec 7) (u : Tick), (128 ≤ e.toNat → ch.toNat < 16) → (s.blk.chan e.toNat ch.toNat).delayEnd = some u →
      (s.blk.chan e.toNat ch.toNat).state = 1 → (laterThan u s.blk.now = false → Becomes (.delayExpire e ch) s (s.blk.setChan e.toNat ch.toNat
        { (s.blk.chan e.toNat ch.toNat).wake with delayEnd := none, timedFrom := some u })) ∧
      (laterThan u s.blk.now = true → Becomes (.delayExpire e ch) s s.blk)) ∧
    (∀ (ch : BitVec 7) (src : Src) (u : Tick), (128 ≤ e.toNat → ch.toNat < 16) → (s.blk.chan e.toNat ch.toNat).waitOn = some src →
      (s.blk.chan e.toNat ch.toNat).state = 2 → (s.blk.chan e.toNat ch.toNat).wokeAt = some u → (s.blk.chan e.toNat ch.toNat).waitStamp = 1 →
      Completes (.waitSatisfied e ch) s (fun t => (t.chan e.toNat ch.toNat).x = u.setWidth 32 ∧ (t.chan e.toNat ch.toNat).waitOn = none ∧
        ((s.blk.chan e.toNat ch.toNat).stopReq = false → (t.chan e.toNat ch.toNat).state = 0) ∧ t.regs = s.blk.regs)) ∧
    (∀ ch : BitVec 7, (128 ≤ e.toNat → ch.toNat < 16) → (s.blk.chan e.toNat ch.toNat).state = 3 → (s.blk.chan e.toNat ch.toNat).stall = .onQueue →
      s.blk.fld (CH_CFG.QSINK (s.blk.cfgEng e.toNat ch.toNat) (ch.toNat % 64)) ≠ 4 →
      wfield (fetchInstr s.blk e.toNat (s.blk.chan e.toNat ch.toNat).pc) 28 4 = 4 →
      ((s.blk.chan e.toNat ch.toNat).inq ≠ [] → Becomes (.queueStallResume e ch) s
        (s.blk.setChan e.toNat ch.toNat { s.blk.chan e.toNat ch.toNat with state := 0 })) ∧
      ((s.blk.chan e.toNat ch.toNat).inq = [] → Becomes (.queueStallResume e ch) s s.blk)) ∧
    (∀ b : BitVec 4, s.blk.flag (ENG_STAT.SERVING e.toNat) = false → s.blk.flag (ENG_SYNC.SCOPE e.toNat b.toNat) = false →
      ((atBarrier s.blk e.toNat b.toNat).length < s.blk.fld (ENG_SYNC.NEED e.toNat b.toNat) → Becomes (.barrierRelease e b) s s.blk) ∧
      (s.blk.fld (ENG_SYNC.NEED e.toNat b.toNat) ≠ 0 →
        s.blk.fld (ENG_SYNC.NEED e.toNat b.toNat) ≤ (atBarrier s.blk e.toNat b.toNat).length →
        Completes (.barrierRelease e b) s (fun t => ∀ k ∈ atBarrier s.blk e.toNat b.toNat,
          (t.chan k.1 k.2).barrier = none ∧ ((s.blk.chan k.1 k.2).stopReq = false → (t.chan k.1 k.2).state = 0)))) ∧
    (s.blk.fld (ENG_CTL.QUANTUM e.toNat) ≤ (turnOf s.blk e.toNat).count → Becomes (.quantumExpire e) s (giveUp e.toNat s.blk)) ∧
    ((turnOf s.blk e.toNat).count < s.blk.fld (ENG_CTL.QUANTUM e.toNat) → Becomes (.quantumExpire e) s s.blk) ∧
    Completes (.timedOutputApply e) s (fun t => (∀ p ∈ t.eng.timed, ¬ (p.engine = e.toNat ∧ laterThan p.at_ s.blk.now = false)) ∧
      ((∀ p ∈ s.blk.eng.timed, p.engine ≠ e.toNat) → t.eng.pinOut = s.blk.eng.pinOut ∧ t.eng.pinDir = s.blk.eng.pinDir)) ∧
    (∀ (pin : BitVec 5) (level : Bool), Completes (.pinEdge pin level) s (fun t =>
      t.eng.pinLevel = wput s.blk.eng.pinLevel pin.toNat level ∧ t.eng.pinOut = s.blk.eng.pinOut ∧ t.eng.pinDir = s.blk.eng.pinDir)) ∧
    (s.blk.flag (ENG_CTL.SWAP_REQ e.toNat) = true → (∀ k ∈ onChans s.blk e.toNat, atSwapPoint s.blk e.toNat k = true) →
      s.blk.fld (ENG_STAT.STATE e.toNat) ≠ 2 → Becomes (.engineSwap e) s (doSwap false (smGet oHost s.blk.eng.swapOrigin e.toNat) e.toNat s.blk)) ∧
    (s.blk.flag (ENG_CTL.SWAP_REQ e.toNat) = false → Becomes (.engineSwap e) s s.blk) ∧
    (∀ c : BitVec 7, c.toNat ∈ s.blk.eng.restorePending → clusterIdle s.blk c.toNat = true →
      Becomes (.engRestoreHandover c) s (handOver (smGet oHost s.blk.eng.swapOrigin (1000 + c.toNat)) c.toNat s.blk)) ∧
    (∀ c : BitVec 7, c.toNat ∉ s.blk.eng.restorePending → Becomes (.engRestoreHandover c) s s.blk) ∧
    (∀ (c : BitVec 7) (u : Tick), s.blk.eng.restoreSince.find? (fun x => decide (x.1 = c.toNat)) = some (c.toNat, u) →
      2 * secT ≤ s.blk.sinceT u → Becomes (.engRestoreTimeout c) s
        (s.blk.release (fun w => decide (w = .restore c.toNat)) (fun r => { r with status := stTimeout }))) ∧
    (∀ (c pair : BitVec 7) (nodeB : Bool) (f : FrameRec), pair.toNat ∈ clusterPairs c.toNat → roomFor s.blk c.toNat (pairChan pair.toNat) = true →
      (nextStart s.blk c.toNat pair.toNat = some f → gateOpen s.blk f c.toNat pair.toNat = true → f.nodes.contains true = nodeB →
        Becomes (.dispatcherPost c .start pair nodeB) s (postStart c.toNat pair.toNat f s.blk)) ∧
      (visitOk s.blk c.toNat pair.toNat = true → Becomes (.dispatcherPost c .cal pair nodeB) s (postCal c.toNat pair.toNat s.blk)) ∧
      (nextStart s.blk c.toNat pair.toNat = none → Becomes (.dispatcherPost c .start pair nodeB) s s.blk)) ∧
    (∀ c : Carrier, classOf s.blk c < 2 → Becomes (.engSwapReq c e) s (s.blk.raise 968)) ∧
    (∀ c : Carrier, 2 ≤ classOf s.blk c → (∀ x ∈ swapChecks [e.toNat] ⟨c, 0, 0, 0, []⟩ s.blk, x.1 = false) →
      Completes (.engSwapReq c e) s (fun t => t.flag (ENG_CTL.SWAP_REQ e.toNat) = true ∧ t.log = s.blk.log ∧
        smGet 0 t.eng.swapOrigin e.toNat = originOf c)) ∧
    (∀ (c : Carrier) (k : BitVec 6), (128 ≤ e.toNat → k.toNat < 16) → s.blk.flag (CH_CFG.EN e.toNat k.toNat) = false →
      (classOf s.blk c < 2 → Becomes (.chCfgEnStart c e k) s (s.blk.raise 968)) ∧
      (2 ≤ classOf s.blk c → enBusy s.blk e.toNat k.toNat = false → Becomes (.chCfgEnStart c e k) s (startChan false e.toNat k.toNat
        (s.blk.regCairn (originOf c) (CH_CFG.addr e.toNat k.toNat) (wsetField (s.blk.reg (CH_CFG.addr e.toNat k.toNat)) 10 1 1))))) ∧
    (∀ (c : Carrier) (k : BitVec 6) (w : Word), (128 ≤ e.toNat → k.toNat < 16) → 2 ≤ classOf s.blk c →
      ((s.blk.chan e.toNat k.toNat).inq.length < (queueDepths s.blk e.toNat k.toNat).1 → Becomes (.engInPost c e k w) s
        (s.blk.setChan e.toNat k.toNat { s.blk.chan e.toNat k.toNat with inq := (s.blk.chan e.toNat k.toNat).inq ++ [w] })) ∧
      ((queueDepths s.blk e.toNat k.toNat).1 ≤ (s.blk.chan e.toNat k.toNat).inq.length → Completes (.engInPost c e k w) s (fun t =>
        t.eng = s.blk.eng ∧ t.flag (ENG_ERR.QDROP e.toNat) = true ∧ t.evtStatus (engNoticeEvt e.toNat) = true))) ∧
    (∀ (c : Carrier) (i : BitVec 10) (w : Word), 2 ≤ classOf s.blk c → (∀ x ∈ bcastMasons s.blk, s.blk.flag (ENG_CTL.SWAP_REQ x) = false) →
      Becomes (.engBcastWrite c i w) s (loadAll (originOf c) 0xFFFF i.toNat [w] s.blk)) ∧
    (∀ (c : Carrier) (i : BitVec 10) (w : Word), classOf s.blk c < 2 → Becomes (.engBcastWrite c i w) s (s.blk.raise 968))

/-- R457, R458, R460 to R462, R472, R473, R475, R478, R487, R572: what happens on one lane. Lock, its loss (the lane in service leaves with
event 608 + 3l), slips, markers and their parity, the training block and the partner's words it carries, the return of a lane, eye margins
and the pattern checker. -/
def Obligations.LaneEvents : Prop :=
  ∀ (l : BitVec 6) (n : Nat) (s : State), n = l.toNat → n < 40 →
    Completes (.laneLock l) s (fun t => t.flag (LN_STAT.LOCK n) = true ∧ (t.lane n).cleanSince = some s.blk.now ∧ (t.lane n).markerMiss = 0 ∧
      t.evt = s.blk.evt ∧ ∀ j, j < 40 → j ≠ n → t.flag (LN_STAT.LOCK j) = s.blk.flag (LN_STAT.LOCK j)) ∧
    (s.blk.flag (LN_STAT.IN_SERVICE n) = false → Completes (.laneLockLost l) s (fun t =>
      t.flag (LN_STAT.LOCK n) = false ∧ t.flag (LN_STAT.READY n) = false ∧ (t.lane n).cleanSince = none ∧ t.evt = s.blk.evt)) ∧
    (s.blk.flag (LN_STAT.IN_SERVICE n) = true → ∃ u : Block, u.flag (LN_STAT.LOCK n) = false ∧ u.flag (LN_STAT.READY n) = false ∧
      u.evtStatus (608 + 3 * n) = true ∧ Becomes (.laneLockLost l) s (laneOut n (oPolicy 0x901) u)) ∧
    (s.blk.flag (PT_CFG.AUTO_ALIGN (portOf n)) = true → s.blk.flag (LN_STAT.LOCK n) = false →
      Completes (.bitSlipSweep l) s (fun t => t.fld (LN_STAT.SLIPS n) = (s.blk.fld (LN_STAT.SLIPS n) + 1) % 256 ∧ t.lk = s.blk.lk)) ∧
    (s.blk.flag (LN_STAT.LOCK n) = true → Becomes (.bitSlipSweep l) s s.blk) ∧
    (∀ c : Carrier, s.blk.flag (PT_CFG.AUTO_ALIGN (portOf n)) = false → s.blk.flag (LN_STAT.IN_SERVICE n) = false →
      Completes (.lnSlipWrite c l) s (fun t => t.fld (LN_STAT.SLIPS n) = (s.blk.fld (LN_STAT.SLIPS n) + 1) % 256)) ∧
    (∀ c : Carrier, s.blk.flag (LN_STAT.IN_SERVICE n) = true → Becomes (.lnSlipWrite c l) s s.blk) ∧
    (∀ (body : List Byte) (ok : Bool) (skew : Byte) (bad : Nat), bad = ((((!ok) :: (s.blk.lane n).bip).take 16).filter (fun b => b)).length →
      s.blk.fld (PT_STAT.STATE (portOf n)) ≠ 3 →
      (s.blk.flag (LN_STAT.IN_SERVICE n) = false ∨ bad < 8 → Completes (.markerRx l body ok skew) s (fun t =>
        t.fld (LN_STAT.BIP_MARKERS n) = bad ∧ t.fld (LN_STAT.SKEW n) = skew.toNat ∧
        (t.lane n).count = ((s.blk.lane n).count + 1) % 2 ^ 32 ∧ (ok = false → (t.lane n).cleanSince = some s.blk.now) ∧ t.evt = s.blk.evt)) ∧
      (s.blk.flag (LN_STAT.IN_SERVICE n) = true → 8 ≤ bad → ∃ u : Block, u.evtStatus (609 + 3 * n) = true ∧
        u.fld (LN_STAT.BIP_MARKERS n) = bad ∧ Becomes (.markerRx l body ok skew) s (laneOut n (oPolicy 0x901) u))) ∧
    (∀ body : List Byte, s.blk.fld (PT_STAT.STATE (portOf n)) = 4 → leAt body 5 1 / 16 ≠ 1 → Completes (.trainingBlockRx l body) s (fun t =>
      t.flag (PT_ERR.VERSION (portOf n)) = true ∧ t.fld (PT_STAT.STATE (portOf n)) = 4 ∧ t.fld (PT_PARTNER.KIND (portOf n)) = leAt body 2 1 ∧
      t.fld (PT_PARTNER.VERSION (portOf n)) = leAt body 5 1 ∧ t.fld (PT_PARTNER_SN_LO.SN (portOf n)) = leAt body 8 4)) ∧
    (∀ body : List Byte, s.blk.fld (PT_STAT.STATE (portOf n)) = 4 → leAt body 5 1 / 16 = 1 → smGet 0 (s.blk.port (portOf n)).seen (physOf n) < 15 →
      lockedSet s.blk (portOf n) &&& leAt body 3 1 &&& 2 ^ physOf n ≠ 0 → (s.blk.port (portOf n)).set = 0 →
      Completes (.trainingBlockRx l body) s (fun t => t.fld (PT_STAT.STATE (portOf n)) = 4 ∧
        smGet 0 (t.port (portOf n)).seen (physOf n) = smGet 0 (s.blk.port (portOf n)).seen (physOf n) + 1 ∧
        (t.port (portOf n)).partnerSet = leAt body 3 1)) ∧
    (∀ body : List Byte, s.blk.fld (PT_STAT.STATE (portOf n)) ≠ 4 → Becomes (.trainingBlockRx l body) s s.blk) ∧
    (s.blk.flag (LN_STAT.LOCK n) = false ∨ s.blk.flag (LN_STAT.IN_SERVICE n) = true → Becomes (.laneReadmit l) s s.blk) ∧
    (s.blk.flag (LN_STAT.LOCK n) = true → s.blk.flag (LN_STAT.IN_SERVICE n) = false → s.blk.flag (PT_CFG.READMIT (portOf n)) = false →
      Completes (.laneReadmit l) s (fun t => t.flag (LN_STAT.READY n) = true ∧ t.lk = s.blk.lk)) ∧
    (s.blk.flag (LN_STAT.LOCK n) = true → s.blk.flag (LN_STAT.IN_SERVICE n) = false → s.blk.flag (PT_CFG.READMIT (portOf n)) = true →
      (s.blk.lane n).barred = false → (s.blk.lane n).byCommand = false → s.blk.fld (PT_STAT.STATE (portOf n)) = 5 →
      (s.blk.fld (PT_CFG.LANES_ALLOWED (portOf n))).testBit (physOf n) = true → ∃ u : Block,
        u.flag (LN_STAT.READY n) = true ∧ (u.lane n).readmittedAt = some s.blk.now ∧
        Becomes (.laneReadmit l) s (startRestripe (portOf n) (s.blk.fld (PT_STAT.LANES_IN (portOf n)) ||| 2 ^ physOf n) (oPolicy 0x901) u)) ∧
    (∀ m : Byte, s.blk.flag (LN_STAT.IN_SERVICE n) = false → secT ≤ s.blk.sinceT (s.blk.lane n).outSince →
      Completes (.eyeSweep [(l, m)]) s (fun t => (t.lane n).margin = m.toNat ∧ (m.toNat < 16 → t.evtStatus 1011 = true) ∧
        (16 ≤ m.toNat → t.evt = s.blk.evt))) ∧
    (∀ m : Byte, s.blk.flag (LN_STAT.IN_SERVICE n) = true → Becomes (.eyeSweep [(l, m)]) s s.blk) ∧
    (∀ bits errs run : BitVec 32,
      (s.blk.flag (LN_CTL.PRBS_RX n) = false → Becomes (.prbsPatternRx l bits errs run) s s.blk) ∧
      (s.blk.flag (LN_CTL.PRBS_RX n) = true → s.blk.flag (LN_STAT.IN_SERVICE n) = false →
        s.blk.flag (LN_STAT.PRBS_LOCK n) = true ∨ 64 ≤ run.toNat → Completes (.prbsPatternRx l bits errs run) s (fun t =>
          t.flag (LN_STAT.PRBS_LOCK n) = true ∧ (t.lane n).prbsErr = min (2 ^ 48 - 1) ((s.blk.lane n).prbsErr + errs.toNat) ∧
          (t.lane n).prbsBits = min (2 ^ 48 - 1) ((s.blk.lane n).prbsBits + bits.toNat) ∧
          ((s.blk.lane n).prbsErr = 0 → errs ≠ 0 → t.evtStatus (610 + 3 * n) = true)))) ∧
    Completes (.lnPrbsErrLatch l) s (fun t => t.fld (LN_PRBS_ERR_HI.ERR n) = (s.blk.lane n).prbsErr / 2 ^ 32 % 2 ^ 16 ∧
      t.fld (LN_PRBS_BITS_LO.BITS n) = (s.blk.lane n).prbsBits % 2 ^ 32 ∧ t.fld (LN_PRBS_BITS_HI.BITS n) = (s.blk.lane n).prbsBits / 2 ^ 32 % 2 ^ 16)

/-- R470, R472 to R479, R512: how a port comes up, and how it leaves. From DISABLED to DETECT with its domain on, to ALIGN with the PLL locked
and a signal, to DESKEW; a training that takes too long sets TRAIN_FAIL with event 734 + 8t and waits; RECOVER ends in DETECT or DISABLED;
DOWN, or a re-striping without an answer, ends in RECOVER. A set the partner asks for is answered with the same set and epoch. -/
def Obligations.PortEvents : Prop :=
  ∀ (t : BitVec 3) (k : Nat) (s : State), k = t.toNat →
    (portPowered s.blk k = true → s.blk.fld (PT_STAT.STATE k) = 0 → 7 ≤ s.blk.fld SYS_BOOT.STAGE → s.blk.fld SYS_BOOT.STAGE ≤ 9 →
      Becomes (.portDomainOn t) s (enterDetect k s.blk) ∧ (enterDetect k s.blk).fld (PT_STAT.STATE k) = 1 ∧
        ((enterDetect k s.blk).port k).detectAt = s.blk.now) ∧
    (portPowered s.blk k = false → Becomes (.portDomainOn t) s s.blk) ∧
    (∀ sig : Byte, s.blk.fld (PT_STAT.STATE k) = 1 → (s.blk.port k).waiting = false → lrefStable s.blk = true →
      sig.toNat &&& s.blk.fld (PT_CFG.LANES_ALLOWED k) ≠ 0 → Completes (.portPllLock t sig) s (fun u => u.fld (PT_STAT.STATE k) = 2 ∧
        (u.port k).since = s.blk.now)) ∧
    (∀ sig : Byte, s.blk.fld (PT_STAT.STATE k) ≠ 1 ∨ lrefStable s.blk = false → Becomes (.portPllLock t sig) s s.blk) ∧
    (s.blk.fld (PT_STAT.STATE k) = 2 → lockedSet s.blk k ≠ 0 → Completes (.alignWindowEnd t) s (fun u => u.fld (PT_STAT.STATE k) = 3 ∧
      (u.port k).set = lockedSet s.blk k ∧ (u.port k).go = 0)) ∧
    (s.blk.fld (PT_STAT.STATE k) ≠ 2 → Becomes (.alignWindowEnd t) s s.blk) ∧
    (s.blk.fld (PT_STAT.STATE k) = 7 → Completes (.portRecoverEnd t) s (fun u =>
      u.fld (PT_STAT.STATE k) = (if portPowered s.blk k then 1 else 0) ∧ (u.port k).since = s.blk.now)) ∧
    (s.blk.fld (PT_STAT.STATE k) ≠ 7 → Becomes (.portRecoverEnd t) s s.blk) ∧
    (1 ≤ s.blk.fld (PT_STAT.STATE k) → s.blk.fld (PT_STAT.STATE k) ≤ 4 → (s.blk.port k).waiting = false →
      Completes (.portTrainTimeout t) s (fun u => u.fld (PT_STAT.STATE k) = 1 ∧ (u.port k).waiting = true ∧ u.flag (PT_ERR.TRAIN_FAIL k) = true ∧
        u.evtStatus (734 + 8 * k) = true)) ∧
    ((s.blk.port k).waiting = true → Completes (.portRetryWaitEnd t) s (fun u => u.fld (PT_STAT.STATE k) = 1 ∧ (u.port k).waiting = false)) ∧
    ((s.blk.port k).waiting = false → Becomes (.portRetryWaitEnd t) s s.blk) ∧
    (∀ reason : Byte, (s.blk.fld (PT_STAT.STATE k) = 0 ∨ s.blk.fld (PT_STAT.STATE k) = 7 → Becomes (.linkDownRx t reason) s s.blk) ∧
      (s.blk.fld (PT_STAT.STATE k) ≠ 0 → s.blk.fld (PT_STAT.STATE k) ≠ 7 → Becomes (.linkDownRx t reason) s (enterRecover k true s.blk)) ∧
      (1 ≤ s.blk.fld (PT_STAT.STATE k) → s.blk.fld (PT_STAT.STATE k) ≤ 4 → Completes (.linkDownRx t reason) s (fun u =>
        u.fld (PT_STAT.STATE k) = 7 ∧ u.fld (PT_STAT.LANES_IN k) = 0 ∧ (u.port k).replay = []))) ∧
    (∀ set epoch : Byte, s.blk.fld (PT_STAT.STATE k) = 5 →
      (set = 0 → Becomes (.restripeRx t set epoch) s (portFault k false s.blk)) ∧
      (set ≠ 0 → Completes (.restripeRx t set epoch) s (fun u => u.fld (PT_STAT.STATE k) = 6 ∧ u.flag (PT_ERR.RESTRIPED k) = true ∧
        u.fld (PT_STAT.LANES_IN k) = set.toNat &&& s.blk.fld (PT_STAT.LANES_IN k) ∧ (u.port k).epoch = epoch.toNat ∧
        (u.port k).restripe = some ⟨set.toNat, epoch.toNat, s.blk.fld (PT_STAT.LANES_IN k), s.blk.now, oPolicy 0x901, 0, true⟩))) ∧
    (∀ (set epoch : Byte) (r : Restripe), s.blk.fld (PT_STAT.STATE k) = 6 → (s.blk.port k).restripe = some r → r.set ≠ set.toNat →
      (r.set &&& set.toNat = 0 → Becomes (.restripeRx t set epoch) s (portFault k false s.blk)) ∧
      (r.set &&& set.toNat ≠ 0 → Completes (.restripeRx t set epoch) s (fun u => (u.port k).epoch = (max r.epoch epoch.toNat + 1) % 256 ∧
        ∃ r', (u.port k).restripe = some r' ∧ r'.set = r.set &&& set.toNat ∧ r'.answered = false ∧ r'.epoch = (max r.epoch epoch.toNat + 1) % 256))) ∧
    (∀ set epoch : Byte, s.blk.fld (PT_STAT.STATE k) ≠ 5 → s.blk.fld (PT_STAT.STATE k) ≠ 6 → Becomes (.restripeRx t set epoch) s s.blk) ∧
    (∀ (lanes : Byte) (r : Restripe), (s.blk.port k).restripe = some r → r.answered = false → Completes (.switchBlockRx t lanes) s (fun u =>
      (u.port k).restripe = some { r with followed := r.followed ||| lanes.toNat } ∧ u.regs = s.blk.regs)) ∧
    (∀ (lanes : Byte) (r : Restripe), (s.blk.port k).restripe = some r → r.answered = true → (r.followed ||| lanes.toNat) &&& r.set = r.set →
      Completes (.switchBlockRx t lanes) s (fun u => u.fld (PT_STAT.STATE k) = 5 ∧ (u.port k).restripe = none ∧
        u.evtStatus (730 + 8 * k) = true)) ∧
    (∀ r : Restripe, (s.blk.port k).restripe = some r → (r.answered = false → Becomes (.restripeTimeout t) s (portFault k false s.blk)) ∧
      (r.answered = true → Becomes (.restripeTimeout t) s s.blk))

/-- R463 to R469: a DATA packet in sequence is delivered, acknowledged and credited; one received before is acknowledged again; any other,
or a bad one, is not accepted and a NAK is sent at most once per microsecond. An ACK releases the replay buffer up to its packet; a NAK or
the time-out replays; CREDIT sets the limits; DATA is sent only with credit and room, and is held for replay. -/
def Obligations.PacketEvents : Prop :=
  ∀ (t : BitVec 3) (k : Nat) (s : State), k = t.toNat →
    (∀ (good framing : Bool) (hdr payload : List Byte), portUp s.blk k = false → Becomes (.dataPacketRx t good framing hdr payload) s s.blk) ∧
    (∀ (good : Bool) (hdr payload : List Byte), portUp s.blk k = true →
      Completes (.dataPacketRx t good true hdr payload) s (fun u => u.flag (PT_ERR.FRAMING k) = true ∧
        u.fld (PT_SEQ_RX.SEQ k) = s.blk.fld (PT_SEQ_RX.SEQ k) ∧ u.cmd.accepted = s.blk.cmd.accepted ∧ (u.port k).discarding = true) ∧
      Completes (.dataPacketRx t false false hdr payload) s (fun u => u.flag (PT_ERR.CRC k) = true ∧
        u.fld (PT_SEQ_RX.SEQ k) = s.blk.fld (PT_SEQ_RX.SEQ k) ∧ u.cmd.accepted = s.blk.cmd.accepted ∧ (u.port k).discarding = true)) ∧
    (∀ (hdr payload : List Byte), portUp s.blk k = true → leAt hdr 4 4 = s.blk.fld (PT_SEQ_RX.SEQ k) → ∃ u : Block,
      u.fld (PT_SEQ_RX.SEQ k) = (s.blk.fld (PT_SEQ_RX.SEQ k) + 1) % 2 ^ 32 ∧ (u.port k).discarding = false ∧ u.evt = s.blk.evt ∧
      Becomes (.dataPacketRx t true false hdr payload) s (deliverPkt k ⟨0xC1, leAt hdr 1 1 % 4, (leAt hdr 1 1).testBit 2, (leAt hdr 1 1).testBit 3,
        leAt hdr 4 4, leAt hdr 8 2, leAt hdr 12 1, leAt hdr 13 1, payload⟩ (sendCredit k (sendAck k u)))) ∧
    (∀ (hdr payload : List Byte), portUp s.blk k = true → leAt hdr 4 4 ≠ s.blk.fld (PT_SEQ_RX.SEQ k) →
      (seqLater (s.blk.fld (PT_SEQ_RX.SEQ k)) (leAt hdr 4 4) = true → Becomes (.dataPacketRx t true false hdr payload) s (sendAck k s.blk)) ∧
      (seqLater (s.blk.fld (PT_SEQ_RX.SEQ k)) (leAt hdr 4 4) = false → Becomes (.dataPacketRx t true false hdr payload) s (sendNak k s.blk))) ∧
    (∀ seq : Word, Completes (.ackRx t seq) s (fun u =>
      (u.port k).replay = (s.blk.port k).replay.filter (fun x => seqLater x.seq seq.toNat) ∧ u.regs = s.blk.regs ∧
      ((u.port k).replay ≠ (s.blk.port k).replay → (u.port k).noAck = 0))) ∧
    (∀ seq : Word, portUp s.blk k = false → Becomes (.nakRx t seq) s s.blk) ∧
    (∀ seq : Word, portUp s.blk k = true →
      (∀ x ∈ (s.blk.port k).replay, seqLater x.seq ((seq.toNat + (2 ^ 32 - 1)) % 2 ^ 32) = true) → (s.blk.port k).noAck < 2 →
      (s.blk.port k).replay ≠ [] → Completes (.nakRx t seq) s (fun u => (u.port k).resend = (s.blk.port k).replay ∧
        u.flag (PT_ERR.REPLAY k) = true ∧ (u.port k).noAck = (s.blk.port k).noAck + 1 ∧ (u.port k).sentAt = s.blk.now)) ∧
    (∀ l0 l1 l2 : Word, Completes (.creditRx t l0 l1 l2) s (fun u => (u.port k).limit = [l0.toNat, l1.toNat, l2.toNat] ∧
      (u.port k).creditSeen = true ∧ (u.port k).stallSince = [] ∧ u.regs = s.blk.regs)) ∧
    (portUp s.blk k = false → Becomes (.packetTransmit t) s s.blk) ∧
    (∀ (x : Pkt) (rest : List Pkt), portUp s.blk k = true → (s.blk.port k).linkq = x :: rest →
      Becomes (.packetTransmit t) s (s.blk.setPort k { s.blk.port k with linkq := rest, sent := some x })) ∧
    (∀ (x : Pkt) (rest : List Pkt), portUp s.blk k = true → s.blk.fld (PT_STAT.STATE k) ≠ 6 → (s.blk.port k).linkq = [] →
      (s.blk.port k).resend = x :: rest →
      Becomes (.packetTransmit t) s (s.blk.setPort k { s.blk.port k with resend := rest, sent := some x, sentAt := s.blk.now })) ∧
    (∀ x : Pkt, portUp s.blk k = true → s.blk.fld (PT_STAT.STATE k) ≠ 6 → (s.blk.port k).linkq = [] → (s.blk.port k).resend = [] →
      nextData (s.blk.port k) = some x → Completes (.packetTransmit t) s (fun u =>
        u.fld (PT_SEQ_TX.SEQ k) = (s.blk.fld (PT_SEQ_TX.SEQ k) + 1) % 2 ^ 32 ∧
        (u.port k).replay = (s.blk.port k).replay ++ [{ x with seq := s.blk.fld (PT_SEQ_TX.SEQ k) }] ∧
        (u.port k).sent = some { x with seq := s.blk.fld (PT_SEQ_TX.SEQ k) } ∧ (u.port k).dataq = (s.blk.port k).dataq.erase x)) ∧
    (∀ x : Pkt, nextData (s.blk.port k) = some x → (s.blk.port k).creditSeen = true ∧
      ((s.blk.port k).replay.map (fun y => y.payload.length)).sum + x.payload.length ≤ 524288) ∧
    (s.blk.fld (PT_STAT.STATE k) = 5 → (s.blk.port k).replay ≠ [] → Becomes (.replayTimeout t) s (replay k s.blk)) ∧
    (s.blk.fld (PT_STAT.STATE k) ≠ 5 → Becomes (.replayTimeout t) s s.blk) ∧
    (portUp s.blk k = true → Completes (.creditUpdateTimer t) s (fun u => (u.port k).creditAt = s.blk.now ∧
      (u.port k).linkq = (s.blk.port k).linkq ++ [⟨0xC4, 0, false, false, 0, 0, 0, 0, (s.blk.port k).granted.flatMap (leBytes 4)⟩])) ∧
    (portUp s.blk k = false → Becomes (.creditUpdateTimer t) s s.blk) ∧
    (∀ vc : BitVec 2, portUp s.blk k = true → Completes (.creditStall t vc) s (fun u => u.flag (PT_ERR.CREDIT_STALL k) = true ∧
      u.evtStatus (733 + 8 * k) = true ∧ u.lk = s.blk.lk)) ∧
    (∀ vc : BitVec 2, portUp s.blk k = false → Becomes (.creditStall t vc) s s.blk)

/-- R405, R407, R409 to R412: the next development starts with the lowest due frame, unless the context's destination is down, which skips it
with bit 7 and event 990; its rows become the context's output, with the frame's number; a sent output is noted in MON_CTX_LAST, and a
waiting one follows. -/
def Obligations.MonitorEvents : Prop :=
  ∀ s : State,
    (s.blk.mon.due = [] → Becomes .monDevelopStart s (syncMon s.blk)) ∧
    (∀ (u : Block) (n x : Nat), u = dropOld s.blk → nextDue u = some (n, x) → x < 4 → u.th.shedCtx.contains x = false →
      u.effFlag (MON_CTX_CFG.EN x) = true →
      ((monPort u (u.effFld (MON_CTX_CFG.DEST x)) (u.effFld (MON_CTX_NODE.NODE x))).isSome = true →
        Completes .monDevelopStart s (fun t => (t.ctx x).developing = some n ∧ (t.ctx x).memErr = false ∧ t.mon.current = some x ∧
          t.flag MON_STAT.REBUILDING = false ∧ t.flag MON_STAT.BUSY = true ∧ t.rcd = u.rcd)) ∧
      ((monPort u (u.effFld (MON_CTX_CFG.DEST x)) (u.effFld (MON_CTX_NODE.NODE x))) = none →
        Completes .monDevelopStart s (fun t => t.evtStatus 990 = true ∧
          t.fld (MON_CTX_STAT.SKIPPED x) = (u.fld (MON_CTX_STAT.SKIPPED x) + 1) % 65536 ∧
          t.fld (MON_CTX_FLAGS.FLAGS x) = u.fld (MON_CTX_FLAGS.FLAGS x) ||| 128 ∧ (n, x) ∉ t.mon.due))) ∧
    (∀ (x : BitVec 2) (rows : List Word), (s.blk.ctx x.toNat).developing = none → Becomes (.monOutputWhole x rows) s s.blk) ∧
    (∀ (x : BitVec 2) (rows : List Word) (n : Nat) (f : FrameRec) (g : Ingest) (sl : Slot), (s.blk.ctx x.toNat).developing = some n →
      s.blk.frame? n = some f → s.blk.ingest? n = some g → s.blk.slot? n = some sl →
      Completes (.monOutputWhole x rows) s (fun t => (t.ctx x.toNat).developing = none ∧ (t.ctx x.toNat).restart = false ∧
        (t.ctx x.toNat).count = ((s.blk.ctx x.toNat).count + 1) % 2 ^ 32 ∧
        t.fld (MON_CTX_STAT.DEVELOPED x.toNat) = (s.blk.fld (MON_CTX_STAT.DEVELOPED x.toNat) + 1) % 65536 ∧
        (∃ o, (t.ctx x.toNat).last = some o ∧ o.frame = n ∧ o.rows = rows) ∧ (n, x.toNat) ∉ t.mon.due)) ∧
    (∀ x : BitVec 2, (s.blk.ctx x.toNat).sending = none → Becomes (.monSendDone x) s s.blk) ∧
    (∀ (x : BitVec 2) (o : OutFrame), (s.blk.ctx x.toNat).sending = some o → (s.blk.ctx x.toNat).waiting = none →
      Completes (.monSendDone x) s (fun t => (t.ctx x.toNat).sending = none ∧ t.fld (MON_CTX_LAST.FRAME x.toNat) = o.frame % 2 ^ 32 ∧
        t.fld (MON_CTX_FLAGS.FLAGS x.toNat) = o.flags % 2 ^ 32)) ∧
    (∀ (x : BitVec 2) (o w : OutFrame), (s.blk.ctx x.toNat).sending = some o → (s.blk.ctx x.toNat).waiting = some w →
      ∃ u : Block, (u.ctx x.toNat).sending = none ∧ (u.ctx x.toNat).waiting = none ∧
        u.fld (MON_CTX_LAST.FRAME x.toNat) = o.frame % 2 ^ 32 ∧ Becomes (.monSendDone x) s (sendOut x.toNat w u))

/-- R492 to R496, R503, R505, R506, R508, R510, R512 to R514: a response completes the command with its CID, BUSY sends it again, and an error
that the magazine cannot mend, or a missed deadline, fails the magazine; a SEAL that fails only sets SEAL_FAIL. The lowest whole frame is
drained, unless the magazine is full; cairns and entries are written again; ports down for 10 s close the take with cause 6. -/
def Obligations.MagazineEvents : Prop :=
  ∀ (m : Bool) (k : Nat) (s : State), k = b2n m →
    (∀ (resp data : List Byte), ((s.blk.mag k).out.find? (fun c => decide (c.cid = leAt resp 2 2))) = none →
      Becomes (.magResponse m resp data) s s.blk) ∧
    (∀ (resp data : List Byte) (c : MagCmd) (u : Block), ((s.blk.mag k).out.find? (fun c => decide (c.cid = leAt resp 2 2))) = some c →
      u = s.blk.setMag k { s.blk.mag k with out := (s.blk.mag k).out.erase c } →
      (leAt resp 4 2 = 0 → ∃ v : Block, v = magDone k c (resp.drop 16) data u ∧
        Becomes (.magResponse m resp data) s (magPump ((v.mag k).todo.length) k v)) ∧
      (leAt resp 4 2 ≠ 0 → ∃ v : Block, v.fld (MG_ERR.ERRORS k) = (s.blk.fld (MG_ERR.ERRORS k) + 1) % 65536 ∧ v.evtStatus 813 = true ∧
        v.rcd = u.rcd ∧
        (isSeal c.purpose = true → Becomes (.magResponse m resp data) s (sealEnded k false c v)) ∧
        (isSeal c.purpose = false → leAt resp 4 2 = 4 ∨ leAt resp 4 2 = 7 ∨ leAt resp 4 2 = 8 →
          Becomes (.magResponse m resp data) s ((magFail k false v).contain 3)) ∧
        (isSeal c.purpose = false → leAt resp 4 2 = 5 ∨ leAt resp 4 2 = 6 → Becomes (.magResponse m resp data) s
          (magPump ((v.mag k).todo.length + 1) k (v.setMag k { v.mag k with todo := c :: (v.mag k).todo }))))) ∧
    (∀ (cid : BitVec 16) (c : MagCmd), ((s.blk.mag k).out.find? (fun c => decide (c.cid = cid.toNat))) = some c → ∃ v : Block,
      v.fld (MG_ERR.TIMEOUTS k) = (s.blk.fld (MG_ERR.TIMEOUTS k) + 1) % 65536 ∧ v.evt = s.blk.evt ∧
      (isSeal c.purpose = true → Becomes (.magDeadlineMiss m cid) s (sealEnded k false c v)) ∧
      (isSeal c.purpose = false → Becomes (.magDeadlineMiss m cid) s ((magFail k false v).contain 3))) ∧
    (∀ cid : BitVec 16, ((s.blk.mag k).out.find? (fun c => decide (c.cid = cid.toNat))) = none → Becomes (.magDeadlineMiss m cid) s s.blk) ∧
    (∀ n : Nat, pickDrain s.blk = some (k, n) →
      (freeBlocks s.blk k < ashlarBlocks s.blk n + 65536 → Becomes .drainAshlarStart s ((magFail k true (s.blk.raise 812)).contain 3)) ∧
      (ashlarBlocks s.blk n + 65536 ≤ freeBlocks s.blk k → Becomes .drainAshlarStart s (startAshlar n k (checkNearFull n k s.blk)))) ∧
    (pickDrain s.blk = none → Becomes .drainAshlarStart s s.blk) ∧
    (s.blk.pwr.coreDown = true → Becomes .metaCairnsWrite s s.blk ∧ Becomes .takeEntryRewrite s s.blk) ∧
    (∀ t : Take, s.blk.pwr.coreDown = false → s.blk.rcd.take = some t → t.closing = none → cairnHead s.blk ≠ s.blk.rcd.metaSeq →
      (∀ x ∈ liveMags s.blk, (s.blk.mag x).busy = none) → Completes .metaCairnsWrite s (fun u =>
        u.rcd.metaSeq = cairnHead s.blk ∧ ∃ t', u.rcd.take = some t' ∧ t'.num = t.num ∧ t'.closing = none)) ∧
    (s.blk.pwr.coreDown = false → cairnHead s.blk = s.blk.rcd.metaSeq ∨ s.blk.rcd.take = none → Becomes .metaCairnsWrite s s.blk) ∧
    (s.blk.pwr.coreDown = false → s.blk.takeOpen = true → ∃ u : Block, u = (liveMags s.blk).foldl (fun (a : Block) x => rewriteEntry x .other a) s.blk ∧
      Becomes .takeEntryRewrite s { u with rcd := { u.rcd with entryAt := u.now } }) ∧
    (s.blk.rcd.take = none → s.blk.takeOpen = false → Becomes .takeEntryRewrite s s.blk) ∧
    (s.blk.rcd.lrefLostAt.isSome = true → s.blk.takeOpen = true → portUp s.blk 0 = false → portUp s.blk 1 = false → ∃ u : Block,
      u = (dropAllDrains s.blk).onTake (fun t => { t with parts := t.parts.map (fun p => { p with state := 9 }) }) ∧
      Becomes .magPortsDownTimeout s (closeTake (oPolicy 0x603) 6 { u with rcd := { u.rcd with lrefLostAt := none } })) ∧
    (s.blk.rcd.lrefLostAt = none ∨ portUp s.blk 0 = true ∨ portUp s.blk 1 = true → Becomes .magPortsDownTimeout s s.blk) ∧
    (∀ found : List FoundPart, (s.blk.magState k = 4 → Becomes (.magRecoveryScan m found) s (recoverMag k oFirmware found s.blk)) ∧
      (s.blk.magState k ≠ 4 → Becomes (.magRecoveryScan m found) s s.blk))

/-- R522 to R526, R543, R618: election and discovery. A unit that takes part starts from its own key; a root counts its heartbeat in every
HELLO and is declared after 20 ms; a root silent for 10 ms is given up; a REPORT is kept and relayed towards the root, a TABLE is relayed
by the reverse path, kept for its switch tick or applied at once, and a lower generation is ignored; 10 ms of quiet issue the tables, and
a unit that no fabric admits becomes a fabric of one. While the core restarts the timers do nothing and the messages wait. -/
def Obligations.DiscoveryEvents : Prop :=
  ∀ s : State,
    (s.blk.pwr.coreDown = true → Becomes .discoveryStage s s.blk ∧ Becomes .helloTimer s s.blk ∧ Becomes .rootDeclare s s.blk ∧
      Becomes .rootLost s s.blk ∧ Becomes .discoveryQuiet s s.blk ∧ Becomes .fabricAloneTimeout s s.blk ∧
      (∀ (d : BitVec 3) (p : List Byte), Completes (.helloRx d p) s (fun t => t.flt.waiting = s.blk.flt.waiting ++ [.hello d p] ∧ t.fb = s.blk.fb) ∧
        Completes (.reportRx d p) s (fun t => t.flt.waiting = s.blk.flt.waiting ++ [.report d p] ∧ t.fb = s.blk.fb)) ∧
      (∀ p : List Byte, Completes (.tableRx p) s (fun t => t.flt.waiting = s.blk.flt.waiting ++ [.table p] ∧ t.fb = s.blk.fb))) ∧
    (s.blk.pwr.coreDown = false →
      (s.blk.fld SYS_BOOT.STAGE = 8 → s.blk.flag SYS_DOMAIN.FX_ON = true → s.blk.fb.started = false →
        Completes .discoveryStage s (fun t => t.fb.started = true ∧ t.fb.bestKey = ownKey s.blk ∧ t.fb.bestHops = 0 ∧ t.fb.parent = 0 ∧
          t.fb.declared = false ∧ t.fb.bestSince = s.blk.now ∧ t.fb.reports = [] ∧ t.regs = s.blk.regs)) ∧
      (s.blk.fb.started = true → Becomes .discoveryStage s s.blk) ∧
      (fabricOn s.blk = false → Becomes .helloTimer s s.blk) ∧
      (fabricOn s.blk = true → s.blk.fb.started = true → s.blk.fb.declared = true → Completes .helloTimer s (fun t =>
        t.fb.heartbeat = (s.blk.fb.heartbeat + 1) % 2 ^ 32 ∧ t.fb.bestKey = s.blk.fb.bestKey ∧ t.regs = s.blk.regs)) ∧
      (fabricOn s.blk = true → s.blk.fb.started = true → s.blk.fb.declared = false → Completes .helloTimer s (fun t =>
        t.fb.heartbeat = s.blk.fb.heartbeat ∧ t.fb.bestKey = s.blk.fb.bestKey ∧ t.regs = s.blk.regs)) ∧
      (fabricOn s.blk = true → s.blk.fb.started = true → s.blk.fb.declared = false → s.blk.fb.bestKey = ownKey s.blk →
        20 * msT ≤ s.blk.sinceT s.blk.fb.bestSince → Completes .rootDeclare s (fun t => t.fb.declared = true ∧
          t.fb.reportAt = some s.blk.now ∧ t.regs = s.blk.regs)) ∧
      (s.blk.fb.bestKey ≠ ownKey s.blk ∨ s.blk.sinceT s.blk.fb.bestSince < 20 * msT → Becomes .rootDeclare s s.blk) ∧
      (fabricOn s.blk = true → s.blk.fb.started = true → s.blk.fb.bestKey ≠ ownKey s.blk → 10 * msT ≤ s.blk.sinceT s.blk.fb.beatAt →
        Completes .rootLost s (fun t => t.fb.bestKey = ownKey s.blk ∧ t.fb.bestHops = 0 ∧ t.fb.parent = 0 ∧ t.fb.bestSince = s.blk.now ∧
          t.regs = s.blk.regs)) ∧
      (s.blk.fb.bestKey = ownKey s.blk ∨ s.blk.sinceT s.blk.fb.beatAt < 10 * msT → Becomes .rootLost s s.blk) ∧
      (∀ (d : BitVec 3) (p : List Byte), 1 ≤ d.toNat → d.toNat ≤ 4 →
        (leAt p 0 2 ≠ 0x0AF0 ∨ fabricOn s.blk = false ∨ portUp s.blk (passPort d.toNat) = false → Becomes (.helloRx d p) s s.blk) ∧
        (leAt p 0 2 = 0x0AF0 → fabricOn s.blk = true → s.blk.fb.started = true → portUp s.blk (passPort d.toNat) = true →
          (∀ u v : Block, u = meetPass d.toNat p s.blk → v = (if passUsable u d.toNat then meetKey d.toNat p u else u) →
            (ownReport v = ownReport s.blk → v.fb.parent = s.blk.fb.parent → v.fb.bestKey = s.blk.fb.bestKey → Becomes (.helloRx d p) s v) ∧
            (v.fb.parent ≠ s.blk.fb.parent ∨ v.fb.bestKey ≠ s.blk.fb.bestKey → Becomes (.helloRx d p) s (report v)) ∧
            (leAt p 30 1 = opposite d.toNat → s.blk.fld (PT_PARTNER.KIND (passPort d.toNat)) = 6 → u.fld (FB_PASS.STATE d.toNat) = 1 ∧
              u.evt = s.blk.evt) ∧
            (leAt p 30 1 ≠ opposite d.toNat → s.blk.fld (FB_PASS.STATE d.toNat) ≠ 2 → u.fld (FB_PASS.STATE d.toNat) = 2 ∧
              u.evtStatus 837 = true))) ∧
        (leAt p 0 2 = 0x0AF1 → fabricOn s.blk = true →
          (s.blk.fb.bestKey = ownKey s.blk → Completes (.reportRx d p) s (fun t => parseReport p d.toNat ∈ t.fb.reports ∧
            t.fb.reportAt = some s.blk.now ∧ t.regs = s.blk.regs ∧ t.lk = s.blk.lk)) ∧
          (s.blk.fb.bestKey ≠ ownKey s.blk → s.blk.fb.parent ≠ 0 → Completes (.reportRx d p) s (fun t =>
            parseReport p d.toNat ∈ t.fb.reports ∧ t.fb.reportAt = s.blk.fb.reportAt ∧ t.regs = s.blk.regs))) ∧
        (leAt p 0 2 ≠ 0x0AF1 ∨ fabricOn s.blk = false → Becomes (.reportRx d p) s s.blk)) ∧
      (∀ at_ : Tick, s.blk.fb.reportAt = some at_ → fabricOn s.blk = true → s.blk.fb.declared = true → 10 * msT ≤ s.blk.sinceT at_ →
        s.blk.fb.nodes ≠ [] ∨ s.blk.fb.reports ≠ [] → Becomes .discoveryQuiet s (issueTable s.blk) ∧ (issueTable s.blk).fb.reportAt = none) ∧
      (∀ at_ : Tick, s.blk.fb.reportAt = some at_ → s.blk.sinceT at_ < 10 * msT ∨ s.blk.fb.declared = false → Becomes .discoveryQuiet s s.blk) ∧
      (s.blk.fb.reportAt = none → Becomes .discoveryQuiet s s.blk) ∧
      (fabricOn s.blk = true → s.blk.fb.started = true → s.blk.flag FB_STAT.READY = false → 500 * msT ≤ s.blk.sinceT s.blk.fb.stageAt →
        Completes .fabricAloneTimeout s (fun t => t.flag FB_STAT.READY = true ∧ t.fld FB_STAT.NODE = 0 ∧ t.flag FB_STAT.ROOT = true ∧
          t.fld FB_STAT.NODES = 1 ∧ t.fld FB_GEN.GEN = 1 ∧ t.fb.nodes = [⟨Config.serial.toNat, 0, 0, true, true⟩] ∧
          t.fld FB_ID.ID = s.blk.drawn.toNat ∧ t.flag FB_STAT.PARTITIONED = false)) ∧
      (s.blk.flag FB_STAT.READY = true ∨ s.blk.sinceT s.blk.fb.stageAt < 100 * msT → Becomes .fabricAloneTimeout s s.blk) ∧
      (∀ (p : List Byte) (m : TableMsg) (x : Node), leAt p 0 2 = 0x0AF2 → fabricOn s.blk = true → m = parseTable p → m.nodes[m.node]? = some x →
        (x.serial = Config.serial.toNat → s.blk.flag FB_STAT.READY = true → m.id = s.blk.fld FB_ID.ID → m.gen < s.blk.fld FB_GEN.GEN →
          Becomes (.tableRx p) s s.blk) ∧
        (x.serial = Config.serial.toNat → s.blk.flag FB_STAT.READY = false ∨ m.id ≠ s.blk.fld FB_ID.ID ∨ s.blk.fld FB_GEN.GEN ≤ m.gen →
          (laterThan m.switchAt s.blk.now = true → Completes (.tableRx p) s (fun t => t.fb.table = some m ∧ t.regs = s.blk.regs ∧ t.fb.nodes = s.blk.fb.nodes)) ∧
          (laterThan m.switchAt s.blk.now = false → Becomes (.tableRx p) s (applyTable m s.blk))) ∧
        (∀ r : Report, x.serial ≠ Config.serial.toNat → s.blk.fb.reports.find? (fun r => decide (r.serial = x.serial)) = some r →
          Becomes (.tableRx p) s (sendMsg (passPort r.via) 0 0 (s.blk.fld FB_STAT.NODE) p s.blk)) ∧
        (x.serial ≠ Config.serial.toNat → s.blk.fb.reports.find? (fun r => decide (r.serial = x.serial)) = none →
          Becomes (.tableRx p) s (s.blk.satFld FB_STAT.DROPS 1)))) ∧
    (∀ m : TableMsg, s.blk.fb.table = some m →
      (laterThan m.switchAt s.blk.now = true → Becomes .tableSwitch s s.blk) ∧
      (laterThan m.switchAt s.blk.now = false → Becomes .tableSwitch s (applyTable m s.blk))) ∧
    (∀ m : TableMsg, (applyTable m s.blk).flag FB_STAT.READY = true ∧ (applyTable m s.blk).flag FB_STAT.ADMIT_WAIT = false ∧
      (applyTable m s.blk).fb.nodes = m.nodes ∧ (applyTable m s.blk).fb.table = none ∧
      (m.gen < 2 ^ 32 → (applyTable m s.blk).fld FB_GEN.GEN = m.gen) ∧
      (m.node < 256 → (applyTable m s.blk).fld FB_STAT.NODE = m.node))

/-- R528 to R530, R532, R618: fabric time. A time exchange asks the parent; a request is answered with the stamps of the exchange before it;
a response completes the exchange before, unless it is late or of another number. -/
def Obligations.FabricTimeEvents : Prop :=
  ∀ s : State,
    (s.blk.pwr.coreDown = true → (∀ t1 : BitVec 72, Becomes (.timeExchangeTimer t1) s s.blk) ∧
      (∀ (n : Byte) (p : List Byte) (a e : BitVec 72), Completes (.timeMsgRx n p a e) s (fun t =>
        t.flt.waiting = s.blk.flt.waiting ++ [.time n p a e] ∧ t.fb = s.blk.fb ∧ t.regs = s.blk.regs))) ∧
    (s.blk.pwr.coreDown = false →
      (∀ (t1 : BitVec 72) (d : Nat), d = s.blk.fld FB_POS.PARENT →
        (s.blk.flag FB_STAT.READY = false ∨ s.blk.flag FB_STAT.ROOT = true ∨ d = 0 ∨ 4 < d ∨ portUp s.blk (passPort d) = false →
          Becomes (.timeExchangeTimer t1) s s.blk) ∧
        (s.blk.flag FB_STAT.READY = true → s.blk.flag FB_STAT.ROOT = false → 1 ≤ d → d ≤ 4 → portUp s.blk (passPort d) = true →
          Completes (.timeExchangeTimer t1) s (fun t => t.fb.ex.number = (s.blk.fb.ex.number + 1) % 2 ^ 32 ∧ t.fb.ex.t1 = t1.toNat ∧
            t.fb.ex.waiting = true ∧ t.fb.ex.prev = (if s.blk.fb.ex.waiting then none else s.blk.fb.ex.prev) ∧
            t.fb.ex.offsets = s.blk.fb.ex.offsets ∧ t.regs = s.blk.regs))) ∧
      (∀ (n : Byte) (p : List Byte) (a e : BitVec 72),
        (leAt p 0 2 ≠ 0x0AF8 ∨ s.blk.flag FB_STAT.READY = false → Becomes (.timeMsgRx n p a e) s s.blk) ∧
        (leAt p 0 2 = 0x0AF8 → s.blk.flag FB_STAT.READY = true →
          (leAt p 6 1 = 0 → ∃ u : Block, u = fabSend n.toNat 1 0x0AF8 (timeBytes (leAt p 2 4) 1 a.toNat (smGet 0 s.blk.fb.sentAt n.toNat)) s.blk ∧
            Becomes (.timeMsgRx n p a e) s { u with fb := { u.fb with sentAt := smPut u.fb.sentAt n.toNat e.toNat } }) ∧
          (leAt p 6 1 = 1 → s.blk.fb.ex.waiting = false ∨ leAt p 2 4 ≠ s.blk.fb.ex.number ∨ s.blk.flag FB_STAT.ROOT = true →
            Becomes (.timeMsgRx n p a e) s s.blk) ∧
          (leAt p 6 1 = 1 → s.blk.fb.ex.waiting = true → leAt p 2 4 = s.blk.fb.ex.number → s.blk.flag FB_STAT.ROOT = false →
            ∃ u : Block, u.fb.ex.waiting = false ∧ u.fb.ex.t4 = a.toNat ∧ u.fb.ex.prev = some (s.blk.fb.ex.t1, stampAt p 10, a.toNat) ∧
              u.fb.ex.offsets = s.blk.fb.ex.offsets ∧ u.fb.ex.delays = s.blk.fb.ex.delays ∧ u.regs = s.blk.regs ∧
              (s.blk.fb.ex.prev = none → Becomes (.timeMsgRx n p a e) s u) ∧
              (∀ a1 a2 a4 : Nat, s.blk.fb.ex.prev = some (a1, a2, a4) → Becomes (.timeMsgRx n p a e) s
                (exchange ((stampDiff a1 a2 + stampDiff a4 (stampAt p 19)).tdiv 2) ((stampDiff a4 a1 - stampDiff (stampAt p 19) a2).tdiv 2) u)))))) ∧
    (∀ θ δ : Int, s.blk.fb.ex.delays.length = 16 → 512 * 16 < (16 * δ - s.blk.fb.ex.delays.sum).natAbs → exchange θ δ s.blk = s.blk) ∧
    (∀ θ δ : Int, s.blk.fb.ex.delays.length < 16 → s.blk.fb.joining = false → s.blk.fld KS_CFG.DISC ≠ 2 → -2147483648 ≤ θ → θ < 2147483648 →
      -2147483648 ≤ δ → δ < 2147483648 → (exchange θ δ s.blk).fld FB_TIME_OFS.OFS = unsgn 32 θ ∧
        (exchange θ δ s.blk).fld FB_TIME_DLY.DLY = unsgn 32 δ ∧ (exchange θ δ s.blk).fb.ex.offsets = (θ :: s.blk.fb.ex.offsets).take 16)

/-- R533 to R541: what the messages of array takes, triggers, peers and remote requests do. A member answers PREPARE; the coordinator
commits when all are READY and aborts on a refusal or after 20 ms; at the close tick the take closes and the schedule stops; a frame goes to
the peer in messages of 1 MiB, and again after BUSY; a remote request without reply ends after 2 s, and its reply is its result. -/
def Obligations.FabricTakeEvents : Prop :=
  ∀ s : State,
    (s.blk.pwr.coreDown = true → Becomes .arrayPrepareTimeout s s.blk ∧ Becomes .arrayCloseTick s s.blk ∧ Becomes .remoteTimeout s s.blk ∧
      (∀ (n : Byte) (p : List Byte),
        Completes (.arrayMsgRx n p) s (fun t => t.flt.waiting = s.blk.flt.waiting ++ [.array n p] ∧ t.fb = s.blk.fb) ∧
        Completes (.remoteReplyRx n p) s (fun t => t.flt.waiting = s.blk.flt.waiting ++ [.reply n p] ∧ t.fb = s.blk.fb) ∧
        Completes (.fabricNoticeRx n p) s (fun t => t.flt.waiting = s.blk.flt.waiting ++ [.notice n p] ∧ t.cmd = s.blk.cmd))) ∧
    (s.blk.pwr.coreDown = false →
      (∀ (n : Byte) (p : List Byte), leAt p 0 2 = 0x0AF3 → s.blk.flag FB_STAT.READY = true →
        (leAt p 2 1 = arrPrepare → Becomes (.arrayMsgRx n p) s
          (prepareArray n.toNat (BitVec.ofNat 64 (leAt p 6 8)) (leAt p 14 4) (bitmapNodes ((p.drop 18).take 32)) s.blk)) ∧
        (∀ a : ArrayTake, s.blk.fb.array = some a →
          (a.k ≠ BitVec.ofNat 64 (leAt p 6 8) → leAt p 2 1 ≠ arrPrepare → leAt p 2 1 ≠ arrClose → Becomes (.arrayMsgRx n p) s s.blk) ∧
          (a.k = BitVec.ofNat 64 (leAt p 6 8) → a.committed = false →
            (leAt p 2 1 = arrReady → a.coordinator = true → Becomes (.arrayMsgRx n p) s
              (tryCommit { s.blk with fb := { s.blk.fb with array := some { a with ready := n.toNat :: a.ready } } })) ∧
            (leAt p 2 1 = arrRefuse → a.coordinator = true → Becomes (.arrayMsgRx n p) s (abortArray stConflict [n.toNat] s.blk)) ∧
            (leAt p 2 1 = arrCommit → a.coordinator = false → commitLate a s.blk = false →
              Becomes (.arrayMsgRx n p) s (commitArray (0x3000 + n.toNat) a s.blk)) ∧
            (leAt p 2 1 = arrAbort → a.coordinator = false → Completes (.arrayMsgRx n p) s (fun t => t.fb.array = none ∧
              t.evtStatus 832 = true ∧ t.rcd = s.blk.rcd))) ∧
          (leAt p 2 1 = arrClose → a.committed = true → Completes (.arrayMsgRx n p) s (fun t =>
            t.fb.array = some { a with closeAt := some (BitVec.ofNat 64 (leAt p 6 8)) } ∧ t.regs = s.blk.regs ∧ t.rcd = s.blk.rcd))) ∧
        (s.blk.fb.array = none → leAt p 2 1 ≠ arrPrepare → Becomes (.arrayMsgRx n p) s s.blk)) ∧
      (∀ (n : Byte) (p : List Byte), leAt p 0 2 ≠ 0x0AF3 ∨ s.blk.flag FB_STAT.READY = false → Becomes (.arrayMsgRx n p) s s.blk) ∧
      (∀ a : ArrayTake, s.blk.fb.array = some a →
        (a.coordinator = true → a.committed = false → 20 * msT ≤ s.blk.sinceT a.since →
          Becomes .arrayPrepareTimeout s (abortArray stTimeout (a.members.filter (fun n => !a.ready.contains n)) s.blk)) ∧
        (a.coordinator = false ∨ a.committed = true ∨ s.blk.sinceT a.since < 20 * msT → Becomes .arrayPrepareTimeout s s.blk) ∧
        (∀ kc : Tick, a.closeAt = some kc → laterThan kc s.blk.now = false → Becomes .arrayCloseTick s
          (stopCapture (closeTake oFirmware 0 { s.blk with fb := { s.blk.fb with array := some { a with closeAt := none } } }))) ∧
        (∀ kc : Tick, a.closeAt = some kc → laterThan kc s.blk.now = true → Becomes .arrayCloseTick s s.blk) ∧
        (a.closeAt = none → Becomes .arrayCloseTick s s.blk)) ∧
      (s.blk.fb.array = none → Becomes .arrayPrepareTimeout s s.blk ∧ Becomes .arrayCloseTick s s.blk) ∧
      (∀ (n : Byte) (p : List Byte) (r : Remote), s.blk.fb.remotes.find? (fun r => decide (r.node = n.toNat) && decide (r.tag.toNat = leAt p 2 1) &&
          decide (r.opcode = leAt p 0 2)) = some r → ∃ u : Block, u = { s.blk with fb := { s.blk.fb with remotes := s.blk.fb.remotes.erase r } } ∧
        (r.shared = false → Becomes (.remoteReplyRx n p) s (u.release (fun w => decide (w = .remote r.id)) (fun x => { x with result := p }))) ∧
        (r.shared = true → leAt p 6 2 = stOk → Becomes (.remoteReplyRx n p) s (endShared r.id u)) ∧
        (r.shared = true → leAt p 6 2 ≠ stOk → Becomes (.remoteReplyRx n p) s (endShared r.id (sharedFailed r.id r.node u)))) ∧
      (∀ (n : Byte) (p : List Byte), (∀ r ∈ s.blk.fb.remotes, r.node ≠ n.toNat) → Becomes (.remoteReplyRx n p) s s.blk) ∧
      ((∀ r ∈ s.blk.fb.remotes, s.blk.sinceT r.since < 2 * secT) → s.blk.fb.openWait = none → Becomes .remoteTimeout s s.blk) ∧
      (∀ r : Remote, s.blk.fb.remotes = [r] → 2 * secT ≤ s.blk.sinceT r.since → r.shared = false → s.blk.fb.openWait = none →
        Completes .remoteTimeout s (fun t => t.fb.remotes = [] ∧ t.evtStatus 836 = true ∧
          ∀ x ∈ s.blk.cmd.replies, x.wait = .remote r.id → ∃ y ∈ t.cmd.replies, y.tag = x.tag ∧ y.carrier = x.carrier ∧
            y.status = stTimeout ∧ y.result = [])) ∧
      (∀ (n : Byte) (p : List Byte), (leAt p 0 2 ≠ 0x0DFF → Becomes (.fabricNoticeRx n p) s s.blk) ∧
        (leAt p 0 2 = 0x0DFF → Completes (.fabricNoticeRx n p) s (fun t => t.cmd.notices = s.blk.cmd.notices ++ [⟨leAt p 8 2, leAt p 10 2,
          decide (leAt p 12 1 % 2 = 1), BitVec.ofNat 64 (leAt p 16 8), none, some n.toNat⟩] ∧ t.regs = s.blk.regs ∧ t.evt = s.blk.evt)))) ∧
    (∀ p : List Byte, leAt p 0 2 = 0x0AF9 → s.blk.fld FT_TRIG.SRC = 3 → trigMode s.blk = true →
      (bitmapNodes ((p.drop 14).take 32)).contains (s.blk.fld FB_STAT.NODE) = true →
      Becomes (.triggerMsgRx p) s (takeTrigger (BitVec.ofNat 64 (leAt p 2 8)) s.blk)) ∧
    (∀ p : List Byte, leAt p 0 2 ≠ 0x0AF9 ∨ s.blk.fld FT_TRIG.SRC ≠ 3 ∨ trigMode s.blk = false → Becomes (.triggerMsgRx p) s s.blk) ∧
    (∀ (n : Byte) (p : List Byte), (leAt p 0 2 ≠ 0x0AF4 → Becomes (.peerMsgRx n p) s s.blk) ∧
      (leAt p 0 2 = 0x0AF4 → leAt p 2 1 = peerPrepare → Becomes (.peerMsgRx n p) s (preparePeer n.toNat p s.blk)) ∧
      (∀ o : PeerOut, s.blk.fb.peerOut = some o → leAt p 0 2 = 0x0AF4 →
        (o.node = n.toNat → leAt p 2 1 = peerGrant → Becomes (.peerMsgRx n p) s (peerGranted s.blk)) ∧
        (o.node = n.toNat → leAt p 2 1 = peerRefuse → Becomes (.peerMsgRx n p) s (peerRefused s.blk)) ∧
        (o.node = n.toNat → leAt p 2 1 = peerLanded → Becomes (.peerMsgRx n p) s (messageLanded s.blk)) ∧
        (o.node = n.toNat → leAt p 2 1 = peerBusy → o.stalled = false → Completes (.peerMsgRx n p) s (fun t =>
          t.fb.peerOut = some { o with stalled := true } ∧ t.evtStatus 835 = true ∧ t.rcd = s.blk.rcd)) ∧
        (o.node ≠ n.toNat → leAt p 2 1 ≠ peerPrepare → leAt p 2 1 ≠ peerActivate → Becomes (.peerMsgRx n p) s s.blk))) ∧
    (s.blk.fb.peerOut = none ∨ nextForward s.blk = none → Becomes .forwardFrameStart s s.blk) ∧
    (∀ (o : PeerOut) (n : Nat), s.blk.fb.peerOut = some o → nextForward s.blk = some n →
      (o.granted = false ∨ o.frame ≠ none ∨ chainReady s.blk n = false → Becomes .forwardFrameStart s s.blk) ∧
      (∀ (u : Block) (sl : Slot) (f : FrameRec) (g : Ingest) (ms : List (Nat × List Byte)), o.granted = true → o.frame = none → chainReady s.blk n = true →
        u = completeHeader n (s.blk.onSlot n (fun l => { l with drains := l.drains.filter (fun d => decide (d ≠ 2)), draining := l.draining ++ [22] })) →
        u.slot? n = some sl → u.frame? n = some f → u.ingest? n = some g → sl.stub = false →
        ms = bulkMessages ((padTo 65536 (payloadOf f sl g.final)).length / 1048576 + 1) 0 (padTo 65536 (payloadOf f sl g.final)) ++
          [(peerHeader, sl.header.getD [])] →
        Becomes .forwardFrameStart s (ms.foldl (fun a m => fabBulk o.node m.1 m.2 a)
          { u with fb := { u.fb with peerOut := some { o with frame := some n, messages := ms, landed := 0, stalled := false } } }))) ∧
    (s.blk.fb.peerOut = none → Becomes .forwardRetry s s.blk) ∧
    (∀ o : PeerOut, s.blk.fb.peerOut = some o →
      (o.stalled = true → o.frame.isSome = true → Becomes .forwardRetry s
        ((o.messages.drop o.landed).foldl (fun a m => fabBulk o.node m.1 m.2 a) s.blk)) ∧
      (o.stalled = false → Becomes .forwardRetry s s.blk))

/-- R46, R241, R555, R558, R560 to R570: the thermal system. A diode's reading, and the shutdown at the second reading of 145 °C; the
external sensors; the shedding steps leave one at a time and rise every 500 ms under a fast rise; a band rises at once and falls 3 K below
its limit; the cooling controller runs while CT drives it; the tachometer ends a stall, and a fan that stays silent 2 s loses cooling;
the core voltage moves one code per step, down only outside the readout.

R573 to R577, R580: the hourly record of ageing adds an operating hour, writes one history record at its place and starts a plan; a
computed plan is published at once without a schedule, and else waits for the next FCP. -/
def Obligations.ThermalEvents : Prop :=
  (∀ s : State,
    (∀ (c : BitVec 7) (temp : BitVec 16) (dly : BitVec 12), s.blk.pwr.thermalLatch = true → ∃ u : Block,
      Becomes (.diodeSample c temp dly) s u ∧ (u.diode c.toNat).temp = temp.toInt ∧ (u.diode c.toNat).sampleAt = s.blk.now) ∧
    (∀ (c : BitVec 7) (temp : BitVec 16) (dly : BitVec 12), (s.blk.diode c.toNat).valid = true → 2320 ≤ temp.toInt → temp.toInt ≤ 2720 →
      (s.blk.diode c.toNat).awayAt = none →
      (s.blk.diode c.toNat).hotRun = 0 → ∃ u : Block, Becomes (.diodeSample c temp dly) s u ∧ (u.diode c.toNat).hotRun = 1 ∧
        u.fld (MSN_CLUSTER.TEMP c.toNat) = temp.toNat ∧ u.fld (MSN_CLUSTER.DLY c.toNat) = dly.toNat ∧ u.flag TH_STAT.TRIP_NEAR = true ∧
        u.pwr = s.blk.pwr) ∧
    (∀ (c : BitVec 7) (temp : BitVec 16) (dly : BitVec 12), (s.blk.diode c.toNat).valid = true → 2320 ≤ temp.toInt → temp.toInt ≤ 2720 →
      (s.blk.diode c.toNat).awayAt = none →
      1 ≤ (s.blk.diode c.toNat).hotRun → s.blk.pwr.thermalLatch = false → ∃ u : Block, Becomes (.diodeSample c temp dly) s (thermalShutdown u) ∧
        (thermalShutdown u).pwr.thermalLatch = true ∧ (thermalShutdown u).pwr.mainEn = false) ∧
    (∀ (n : BitVec 2) (temp : BitVec 16) (ok : Bool), s.blk.fld (TH_TD0.TYPE n.toNat) = 0 → Becomes (.tdSample n temp ok) s s.blk) ∧
    (∀ (n : BitVec 2) (temp : BitVec 16), s.blk.fld (TH_TD0.TYPE n.toNat) ≠ 0 →
      Completes (.tdSample n temp true) s (fun t => t.fld (TH_TD1.TEMP n.toNat) = temp.toNat ∧ t.flag (TH_TD1.OK n.toNat) = true ∧
        t.flag (TH_TD1.OVER n.toNat) = decide (sgn 8 (s.blk.fld (TH_TD0.LIMIT n.toNat)) * 16 < temp.toInt)) ∧
      Completes (.tdSample n temp false) s (fun t => t.flag (TH_TD1.OK n.toNat) = false ∧ t.flag (TH_TD1.OVER n.toNat) = false ∧
        t.fld (TH_TD1.TEMP n.toNat) = s.blk.fld (TH_TD1.TEMP n.toNat) ∧ t.evtLive 912 = true)) ∧
    (s.blk.fld TH_STAT.SHED_STEP = 0 → Becomes .shedStepExit s s.blk) ∧
    (∀ at_ : Tick, s.blk.fld TH_STAT.SHED_STEP ≠ 0 → s.blk.th.belowSince = some at_ → 10 * secT ≤ s.blk.sinceT at_ →
      10 * secT ≤ s.blk.sinceT s.blk.th.stepAt →
      (s.blk.flag TH_STAT.RISE_ACT = false → s.blk.flag TH_STAT.COOLING_LOST = false → ∃ u : Block, u = setShed (s.blk.fld TH_STAT.SHED_STEP - 1) s.blk ∧
        Becomes .shedStepExit s (shedBelow { u with th := { u.th with stepAt := u.now, belowSince := none } })) ∧
      (s.blk.flag TH_STAT.RISE_ACT = true → s.blk.fld TH_STAT.SHED_STEP ≤ 4 → Becomes .shedStepExit s s.blk) ∧
      (s.blk.flag TH_STAT.COOLING_LOST = true → s.blk.fld TH_STAT.SHED_STEP ≤ 3 → Becomes .shedStepExit s s.blk)) ∧
    (s.blk.flag TH_STAT.RISE_ACT = false → Becomes .riseShedAdvance s s.blk) ∧
    (s.blk.flag TH_STAT.RISE_ACT = true → 500 * msT ≤ s.blk.sinceT s.blk.th.actStepAt →
      (s.blk.fld TH_STAT.SHED_STEP < 4 → ∃ u : Block, u = setShed (s.blk.fld TH_STAT.SHED_STEP + 1) s.blk ∧
        Becomes .riseShedAdvance s { u with th := { u.th with actStepAt := u.now } }) ∧
      (4 ≤ s.blk.fld TH_STAT.SHED_STEP → Becomes .riseShedAdvance s { s.blk with th := { s.blk.th with actStepAt := s.blk.now } })) ∧
    (∀ (r : BitVec 3) (rl rc : BitVec 16), ∃ t : Block, Becomes (.regionModelStep r rl rc) s t ∧
      t.th.bandsSeen.testBit (t.fld TH_STAT.BAND) = true) ∧
    (∀ (b : Nat) (v : Rat), b ≤ 5 → nextBand b v ≤ 5 ∧ (b < nextBand b v → ((bandLow (nextBand b v) : Int) : Rat) ≤ v) ∧
      (nextBand b v < b → v ≤ ((bandLow b - 3 : Int) : Rat))) ∧
    (s.blk.flag SYS_DOMAIN.CT_ON = true → notRunning s.blk = false → Becomes .tecControl s (flushRuns (coolingCheck (coolDemand s.blk)))) ∧
    (s.blk.flag SYS_DOMAIN.CT_ON = false → Becomes .tecControl s s.blk) ∧
    (∀ w : Word, 0 < w.toNat * Config.fanPulses.toNat → 48000000000 / (w.toNat * Config.fanPulses.toNat) ≤ 65535 →
      Completes (.fanTachWord w) s (fun t => t.fld TH_COOL_STAT.FAN_RPM = 48000000000 / (w.toNat * Config.fanPulses.toNat) ∧
        t.th.fanAt = some s.blk.now ∧ t.th.fanStalled = false ∧ t.evtLive 916 = false ∧ t.free = s.blk.free)) ∧
    (∀ w : Word, w.toNat * Config.fanPulses.toNat = 0 → Completes (.fanTachWord w) s (fun t =>
      t.fld TH_COOL_STAT.FAN_RPM = s.blk.drawn.toNat % 65536 ∧ t.th.fanAt = some s.blk.now ∧ t.th.fanStalled = false)) ∧
    (s.blk.fld TH_COOL_STAT.FAN_DUTY < 20 ∨ lasted s.blk s.blk.th.fanAt (2 * secT) = false → Becomes .fanStall s s.blk) ∧
    (20 ≤ s.blk.fld TH_COOL_STAT.FAN_DUTY → lasted s.blk s.blk.th.fanAt (2 * secT) = true → s.blk.th.fanStalled = false → ∃ u : Block,
      u.th.fanStalled = true ∧ u.evtLive 916 = true ∧ u.flag TH_STAT.COOLING_LOST = s.blk.flag TH_STAT.COOLING_LOST ∧
      Becomes .fanStall s (coolingLost 2 u)) ∧
    (∀ (e : BitVec 8) (cause : BitVec 3), e.toNat < 144 → 1 ≤ cause.toNat → cause.toNat ≤ 5 →
      (s.blk.fld (ENG_STAT.STATE e.toNat) = 2 → Becomes (.engineFault e cause) s s.blk) ∧
      (s.blk.fld (ENG_STAT.STATE e.toNat) ≠ 2 → Becomes (.engineFault e cause) s (engineFault e.toNat cause.toNat s.blk)) ∧
      (s.blk.fld (ENG_STAT.STATE e.toNat) ≠ 2 → 128 ≤ e.toNat → e.toNat ≠ 132 → e.toNat ≠ 133 → Completes (.engineFault e cause) s (fun t =>
        t.fld (ENG_STAT.STATE e.toNat) = 2 ∧ t.fld (ENG_STAT.CAUSE e.toNat) = cause.toNat ∧ t.evtStatus (engFaultEvt e.toNat) = true))) ∧
    (s.blk.fld TH_VID_TGT.DLY_RAISE < slowest s.blk → s.blk.fld SYS_VID.CODE < 50 → vidMin s.blk ≤ 50 → Completes .vidControlTick s (fun t =>
      t.pwr.vidTarget = max (s.blk.fld SYS_VID.CODE + 1) (vidMin s.blk) ∧ t.fld SYS_VID.CODE = s.blk.fld SYS_VID.CODE ∧ t.evtLive 918 = false)) ∧
    (slowest s.blk ≤ s.blk.fld TH_VID_TGT.DLY_RAISE → s.blk.fld TH_VID_TGT.DLY_LOWER ≤ slowest s.blk → Completes .vidControlTick s (fun t =>
      t.pwr.vidTarget = max (vidMin s.blk) (s.blk.fld SYS_VID.CODE) ∧ t.th.vidLowSince = none)) ∧
    (s.blk.pwr.vidDriven = false ∨ s.blk.sinceT s.blk.pwr.lastVidStep < 10 * usT → Becomes .vidStep s s.blk) ∧
    (s.blk.pwr.vidDriven = true → 10 * usT ≤ s.blk.sinceT s.blk.pwr.lastVidStep →
      (s.blk.fld SYS_VID.CODE < s.blk.pwr.vidTarget → s.blk.fld SYS_VID.CODE < 50 → Completes .vidStep s (fun t =>
        t.fld SYS_VID.CODE = s.blk.fld SYS_VID.CODE + 1 ∧ t.pwr.lastVidStep = s.blk.now)) ∧
      (s.blk.pwr.vidTarget < s.blk.fld SYS_VID.CODE → inReadout s.blk = false → Completes .vidStep s (fun t =>
        t.fld SYS_VID.CODE = s.blk.fld SYS_VID.CODE - 1 ∧ t.pwr.lastVidStep = s.blk.now)) ∧
      (s.blk.pwr.vidTarget ≤ s.blk.fld SYS_VID.CODE → inReadout s.blk = true → Becomes .vidStep s s.blk))) ∧
  (∀ s : State,
    (∀ (l : List (BitVec 16)) (w : BitVec 16),
      (s.blk.pwr.coreDown = true ∨ s.blk.flag SYS_DOMAIN.CT_ON = false → Becomes (.ageingHourly l w) s s.blk) ∧
      (s.blk.pwr.coreDown = false → s.blk.flag SYS_DOMAIN.CT_ON = true → Completes (.ageingHourly l w) s (fun t =>
        t.th.historySeq = s.blk.th.historySeq + 1 ∧ t.th.slowHour = [] ∧ t.th.slowPast = s.blk.th.slowHour ∧ t.th.hottest = -32768 ∧
        t.th.planRun.isSome = true ∧ t.th.bandsSeen = 0))) ∧
    (s.blk.th.planRun = none ∨ s.blk.pwr.coreDown = true → Becomes .planComputeDone s s.blk) ∧
    (s.blk.th.planRun.isSome = true → s.blk.pwr.coreDown = false →
      (s.blk.running = true → Completes .planComputeDone s (fun t => t.th.planRun = none ∧ t.th.planNext = some (planModel s.blk) ∧
        t.th.plan = s.blk.th.plan ∧ t.flag AG_STAT.RUNNING = false)) ∧
      (s.blk.running = false → ∃ u : Block, u.th.planRun = none ∧ u.th.planNext = some (planModel s.blk) ∧ u.flag AG_STAT.RUNNING = false ∧
        Becomes .planComputeDone s (rateCheck (publishPlan u)))) ∧
    (∀ m : PlanModel, s.blk.th.planNext = some m → (publishPlan s.blk).th.plan = m ∧ (publishPlan s.blk).th.planNext = none) ∧
    (planModel s.blk).num = s.blk.th.plan.num + 1)

/-- R69, R510, R589 to R592, R594 to R598, R600, R601: the reserve. VIN's loss hands over and starts a close-out, which ends with the
supplies off or, when VIN is back, in normal operation; the energy check stubs what no longer fits; the charger's search, its phases and
their inhibition; the cell's removal and insertion; the button's three presses and the lamps. In ship mode the path does nothing. -/
def Obligations.ReserveEvents : Prop :=
  ∀ s : State,
    (s.blk.pwr.shipLatch = true → (∀ pg : Bool, Becomes (.vinLoss pg) s s.blk) ∧ (∀ v : BitVec 16, Becomes (.vinReturnStable v) s s.blk ∧
      Becomes (.cellInserted v) s s.blk) ∧ (∀ v w : BitVec 16, Becomes (.chargePhaseTimer v w) s s.blk) ∧ Becomes .reserveLimitUpdate s s.blk) ∧
    (s.blk.rcd.take = none → Becomes .takeCloseDone s s.blk) ∧
    (∀ t : Take, s.blk.rcd.take = some t →
      (closeEnded s.blk t = false → Becomes .takeCloseDone s s.blk) ∧
      (closeEnded s.blk t = true → (finishClose s.blk).rsv.shipDue = none → Becomes .takeCloseDone s (finishClose s.blk)) ∧
      (∀ o : Nat, closeEnded s.blk t = true → (finishClose s.blk).rsv.shipDue = some o → Becomes .takeCloseDone s (doShip o (finishClose s.blk)))) ∧
    (∀ pg : Bool, s.blk.pwr.shipLatch = false → s.blk.rsv.closeOut = none → s.blk.fld RSV_STAT.STATE = 0 →
      Becomes (.vinLoss pg) s (startCloseOut (toReserve pg s.blk)) ∧ (toReserve pg s.blk).fld RSV_STAT.STATE = 1 ∧
      (toReserve pg s.blk).flag RSV_STAT.VIN_STABLE = false ∧ (toReserve pg s.blk).rsv.oring = false ∧
      (toReserve pg s.blk).rsv.duty = false ∧ (toReserve pg s.blk).evtLive 944 = true ∧
      (pg = false → (toReserve pg s.blk).flag RSV_STAT.BOOST_FAULT = true)) ∧
    (∀ (pg : Bool) (c : CloseOut), s.blk.pwr.shipLatch = false → s.blk.rsv.closeOut = some c → c.vinBack = false → Becomes (.vinLoss pg) s s.blk) ∧
    (∀ vin : BitVec 16, s.blk.pwr.shipLatch = false →
      (vin.toNat ≤ 10 * s.blk.fld RSV_VIN_CFG.VIN_OK → Becomes (.vinReturnStable vin) s s.blk) ∧
      (10 * s.blk.fld RSV_VIN_CFG.VIN_OK < vin.toNat → Completes (.vinReturnStable vin) s (fun t => t.flag RSV_STAT.VIN_STABLE = true ∧
        t.fld RSV_VIN.VIN = vin.toNat ∧ t.rsv.oring = true ∧ t.evtLive 944 = false ∧
        t.rsv.closeOut = s.blk.rsv.closeOut.map (fun c => { c with vinBack := true })))) ∧
    (∀ mv ma : BitVec 16, s.blk.rsv.closeOut = none → Becomes (.energyCheck mv ma) s s.blk) ∧
    (∀ (mv ma : BitVec 16) (c c1 : CloseOut) (u : Block), s.blk.rsv.closeOut = some c → c1 = { c with drawn := c.drawn + mv.toNat * (-ma.toInt).toNat } →
      u = (s.blk.setFld RSV_CELL.I_CELL ma.toNat).onRsv (fun r => { r with closeOut := some c1 }) →
      (c.ended = true ∨ s.blk.takeOpen = false ∨ energyShort c1 mv.toNat u = false → Becomes (.energyCheck mv ma) s u) ∧
      (c.ended = false → s.blk.takeOpen = true → mv.toNat < 3000 → Becomes (.energyCheck mv ma) s (endDrain c1 u))) ∧
    (s.blk.rsv.closeOut = none ∨ s.blk.takeOpen = true ∨ s.blk.pwr.coreDown = true → Becomes .closeOutDone s s.blk) ∧
    (∀ c : CloseOut, s.blk.rsv.closeOut = some c → s.blk.takeOpen = false → s.blk.pwr.coreDown = false → s.blk.pwr.resetAfterCloseOut = false →
      Completes .closeOutDone s (fun t => t.rsv.closeOut = none ∧ t.fld RSV_STAT.STATE = (if c.vinBack then 0 else 2) ∧
        (c.vinBack = false → t.pwr.mainEn = false ∧ t.rsv.boost = false) ∧ (c.vinBack = true → t.pwr.mainEn = s.blk.pwr.mainEn) ∧
        t.evtStatus 946 = true)) ∧
    (s.blk.pwr.shipLatch = false → s.blk.pwr.rstLow = false → Becomes .reserveLimitUpdate s (flushRuns (updateLimit s.blk))) ∧
    (∀ vin : BitVec 16, s.blk.pwr.shipLatch = false → charging s.blk = false → Completes (.chargeCurrentSearch vin) s (fun t =>
      t.rsv.search = none ∧ t.fld RSV_VIN.VIN = vin.toNat ∧ t.fld RSV_VIN.ILIM = s.blk.fld RSV_VIN.ILIM)) ∧
    (∀ (vin : BitVec 16) (k : Nat), s.blk.pwr.shipLatch = false → charging s.blk = true → s.blk.rsv.search = some k →
      (s.blk.rsv.vinBase * 97 < vin.toNat * 100 → 50 + 25 * k < 10 * s.blk.fld RSV_CFG.ICHG_MAX → Completes (.chargeCurrentSearch vin) s (fun t =>
        t.rsv.search = some (k + 1) ∧ t.fld RSV_VIN.ILIM = s.blk.fld RSV_VIN.ILIM)) ∧
      (vin.toNat * 100 ≤ s.blk.rsv.vinBase * 97 → 25 * k / 10 < 256 → Completes (.chargeCurrentSearch vin) s (fun t =>
        t.rsv.search = none ∧ t.fld RSV_VIN.ILIM = 25 * k / 10 ∧
        (s.blk.fld RSV_VIN.ILIM + 5 ≤ 25 * k / 10 → t.evtStatus 956 = true)))) ∧
    (∀ vin : BitVec 16, s.blk.pwr.shipLatch = false → charging s.blk = true → s.blk.rsv.search = none → s.blk.rsv.searchAt = none →
      Completes (.chargeCurrentSearch vin) s (fun t => t.rsv.search = some 0 ∧ t.rsv.searchAt = some s.blk.now ∧ t.rsv.vinBase = vin.toNat)) ∧
    (∀ mv ma : BitVec 16, s.blk.pwr.shipLatch = false →
      (s.blk.fld RSV_STAT.STATE = 0 → s.blk.flag RSV_STAT.CELL_PRESENT = true → Becomes (.chargePhaseTimer mv ma) s (chargeStep mv.toNat ma.toInt s.blk)) ∧
      (s.blk.fld RSV_STAT.STATE ≠ 0 ∨ s.blk.flag RSV_STAT.CELL_PRESENT = false → Becomes (.chargePhaseTimer mv ma) s (stopCharge s.blk) ∧
        (stopCharge s.blk).rsv.duty = false)) ∧
    (∀ (mv : Nat) (ma : Int), (inhibits (s.blk.setFld RSV_CELL.I_CELL (unsgn 16 ma))).flag RSV_STAT.TD3_BAD = true →
      (chargeStep mv ma s.blk).fld RSV_STAT.CHARGE = 6) ∧
    (charging s.blk = false → Becomes .cellRemoved s s.blk) ∧
    (charging s.blk = true → ∃ u : Block, u.flag RSV_STAT.CELL_PRESENT = false ∧ u.evtLive 949 = true ∧ u.rsv.duty = false ∧ u.rsv.boost = false ∧
      u.fld RSV_STAT.CHARGE = 0 ∧ Becomes .cellRemoved s (updateLimit u)) ∧
    (∀ mv : BitVec 16, (s.blk.rsv.duty = true ∨ s.blk.flag RSV_STAT.CELL_PRESENT = true ∨ mv.toNat < 3000 ∨ 4200 < mv.toNat →
        Becomes (.cellInserted mv) s s.blk) ∧
      (s.blk.pwr.shipLatch = false → s.blk.rsv.duty = false → s.blk.flag RSV_STAT.CELL_PRESENT = false → 3000 ≤ mv.toNat → mv.toNat ≤ 4200 →
        ∃ u : Block, u.flag RSV_STAT.CELL_PRESENT = true ∧ u.evtLive 949 = false ∧ u.fld RSV_CELL.V_REST = mv.toNat ∧
          (s.blk.fld RSV_STAT.STATE = 0 → u.rsv.boost = true ∧ Becomes (.cellInserted mv) s (updateLimit (chargeStep mv.toNat 0 u))) ∧
          (s.blk.fld RSV_STAT.STATE ≠ 0 → Becomes (.cellInserted mv) s (updateLimit u)))) ∧
    (buttonCounts s.blk = false → Becomes .buttonShortPress s s.blk ∧ Becomes .buttonResetPress s s.blk ∧ Becomes .buttonShipHold s s.blk) ∧
    (buttonCounts s.blk = true →
      (s.blk.pwr.standby = true → Becomes .buttonShortPress s (wake s.blk)) ∧
      (s.blk.pwr.standby = false → Becomes .buttonShortPress s (s.blk.raise 953)) ∧
      Completes .buttonResetPress s (fun t => t.fld RSV_STAT.STATE = 3 ∧ t.pwr.rstLow = true ∧ t.pwr.mainEn = false) ∧
      Becomes .buttonShipHold s (shipPress oFirmware s.blk)) ∧
    (s.blk.fld RSV_STAT.STATE = 3 → Completes .resetHoldEnd s (fun t => t.fld RSV_STAT.STATE = 0 ∧
      t.rsv.boost = s.blk.flag RSV_STAT.CELL_PRESENT ∧ t.pwr.rstLow = s.blk.pwr.rstLow)) ∧
    (s.blk.fld RSV_STAT.STATE ≠ 3 → Becomes .resetHoldEnd s s.blk) ∧
    (∀ past8 : Bool, Completes (.statusLampSlot past8) s (fun t => t.rsv.lampSlot = (s.blk.rsv.lampSlot + 1) % 8 ∧
      t.rsv.flashes = s.blk.rsv.flashes - 1 ∧ t.regs = s.blk.regs ∧
      (s.blk.rsv.flashes = 0 → s.blk.pwr.shipLatch = true → t.rsv.lampA = false ∧ t.rsv.lampB = false) ∧
      (s.blk.rsv.flashes = 0 → s.blk.pwr.shipLatch = false → past8 = true → t.rsv.lampA = true ∧ t.rsv.lampB = true) ∧
      (s.blk.rsv.flashes = 0 → s.blk.pwr.shipLatch = false → past8 = false → s.blk.flag RSV_STAT.CELL_PRESENT = false → t.rsv.lampA = false)))

/-- R94 to R97, R101, R105, R108, R109: the two-wire target. A transaction at another address, or without service, changes nothing; a byte
of BANK or of the mailbox is kept; a whole window word is one write, an incomplete one is not; a read that a word holds up goes on with
0xFF after the timeout; a submit makes the mailbox BUSY and adds one request, a release makes it IDLE; bus conditions end a transaction. -/
def Obligations.TwoWireEvents : Prop :=
  ∀ s : State,
    (∀ (a : BitVec 7) (g : Bool) (ptr : BitVec 16) (data : List Byte), twAlive s.blk = false ∨ twMatch s.blk a ≠ some g →
      Becomes (.twWindowWrite a g ptr data) s s.blk ∧ Becomes (.mbxSubmit a g) s s.blk ∧ Becomes (.mbxRelease a g) s s.blk) ∧
    (∀ (a : BitVec 7) (g : Bool), twAlive s.blk = true → twMatch s.blk a = some g →
      (∀ ptr : BitVec 16, Completes (.twWindowWrite a g ptr []) s (fun t => t.tw.pointer = ptr.toNat ∧ t.regs = s.blk.regs ∧
        t.tw.sclHeld = false ∧ t.tw.reqBuf = s.blk.tw.reqBuf)) ∧
      (∀ b : Byte, Completes (.twWindowWrite a g 0x15 [b]) s (fun t => t.tw.bank = withByte s.blk.tw.bank 1 b &&& 0xFFFFF000 ∧
        t.tw.pointer = 0x16 ∧ t.regs = s.blk.regs)) ∧
      (∀ b : Byte, twFull s.blk = true → s.blk.tw.mbxStat ≠ 1 → Completes (.twWindowWrite a g 0x107 [b]) s (fun t =>
        smGet 0 t.tw.reqBuf 7 = b ∧ t.regs = s.blk.regs ∧ ∀ i, i ≠ 7 → smGet 0 t.tw.reqBuf i = smGet 0 s.blk.tw.reqBuf i)) ∧
      (∀ b : Byte, twFull s.blk = true → s.blk.tw.mbxStat = 1 → Completes (.twWindowWrite a g 0x107 [b]) s (fun t =>
        t.flag TW_ERR.MBX_OVERRUN = true ∧ t.evtStatus 966 = true ∧ t.tw.reqBuf = s.blk.tw.reqBuf)) ∧
      (∀ b0 b1 b2 b3 : Byte, twFull s.blk = true → ∃ u : Block, u.regs = s.blk.regs ∧ u.tw.bank = s.blk.tw.bank ∧
        Becomes (.twWindowWrite a g 0x1008 [b0, b1, b2, b3]) s
          (let t := commitWindow (.twoWire a g) (s.blk.tw.bank.toNat + 8) [b0, b1, b2, b3] u
           { t with tw := { t.tw with pointer := 0x100C } })) ∧
      (∀ b0 b1 : Byte, twFull s.blk = true → Completes (.twWindowWrite a g 0x1008 [b0, b1]) s (fun t =>
        t.flag TW_ERR.WINDOW_PARTIAL = true ∧ t.rcd = s.blk.rcd ∧ t.evt = s.blk.evt))) ∧
    (∀ (a : BitVec 7) (ptr : Option (BitVec 16)) (n : Nat), twAlive s.blk = false ∨ twMatch s.blk a = none ∨ twGroup s.blk a.toNat = true →
      Becomes (.twWindowRead a ptr n) s s.blk) ∧
    (∀ (a : BitVec 7) (p : BitVec 16), twAlive s.blk = true → (twMatch s.blk a).isSome = true → twGroup s.blk a.toNat = false → p.toNat < 0x1000 →
      Completes (.twWindowRead a (some p) 1) s (fun t => t.tw.readOut = [readLow s.blk p.toNat] ∧ t.tw.pointer = p.toNat + 1 ∧
        t.tw.readWait = none ∧ t.regs = s.blk.regs)) ∧
    (s.blk.tw.readWait = none → Becomes .twWindowReadTimeout s s.blk) ∧
    (∀ n : Nat, s.blk.tw.readWait = some n → n ≤ 4 - s.blk.tw.pointer % 4 → Completes .twWindowReadTimeout s (fun t =>
      t.tw.readOut = s.blk.tw.readOut ++ List.replicate n 0xFF ∧ t.tw.readWait = none ∧ t.tw.sclHeld = false ∧
      t.flag TW_ERR.WINDOW_TIMEOUT = true ∧ t.tw.pointer = (s.blk.tw.pointer + n) % 65536)) ∧
    (∀ (a : BitVec 7) (g : Bool), twFull s.blk = true → twMatch s.blk a = some g →
      (s.blk.tw.mbxStat ≠ 1 → Completes (.mbxRelease a g) s (fun t => t.tw.mbxStat = 0 ∧ t.cmd = s.blk.cmd ∧ t.regs = s.blk.regs)) ∧
      (s.blk.tw.mbxStat ≠ 1 → ∃ u : Block, u.tw.mbxStat = 1 ∧ u.tw.repBuf = [] ∧ u.cmd = s.blk.cmd ∧ u.regs = s.blk.regs ∧
        Becomes (.mbxSubmit a g) s (acceptReq (mbxRequest s.blk a g).1 (mbxRequest s.blk a g).2 u)) ∧
      (s.blk.tw.mbxStat = 1 → Completes (.mbxSubmit a g) s (fun t => t.flag TW_ERR.MBX_OVERRUN = true ∧ t.evtStatus 966 = true ∧
        t.cmd.accepted = s.blk.cmd.accepted ∧ t.tw.mbxStat = 1))) ∧
    (s.blk.tw.mbxStat = 1 → Completes .mbxOverrun s (fun t => t.flag TW_ERR.MBX_OVERRUN = true ∧ t.evtStatus 966 = true ∧ t.tw.mbxStat = 1)) ∧
    (s.blk.tw.mbxStat ≠ 1 → Becomes .mbxOverrun s s.blk) ∧
    (∀ data : List Byte, (twAlive s.blk = false ∨ s.blk.flag TW_CFG.IND_VALID = true → Becomes (.addrAssign data) s s.blk) ∧
      (twAlive s.blk = true → s.blk.flag TW_CFG.IND_VALID = false →
        Becomes (.addrAssign data) s (twWrite 0x3A false 0x20 data { s.blk with tw := { s.blk.tw with addrIn := true } }))) ∧
    (twAlive s.blk = true → Completes .partialByte s (fun t => t.flag TW_ERR.PARTIAL_BYTE = true ∧ t.evtStatus 962 = true ∧
        t.tw.readWait = none ∧ t.tw.sclHeld = false) ∧
      Completes .twTargetSclStuck s (fun t => t.flag TW_ERR.BUS_STUCK = true ∧ t.tw.waitStart = true ∧ t.tw.sclHeld = false ∧ t.evt = s.blk.evt)) ∧
    (twAlive s.blk = false → Becomes .partialByte s s.blk ∧ Becomes .twTargetSclStuck s s.blk) ∧
    (∀ (b : BusStart) (r : BusResult), (s.blk.tw.xfer = none ∨ s.blk.pwr.coreDown = true → Becomes (.twBusFree b r) s s.blk) ∧
      (∀ x : Xfer, s.blk.tw.xfer = some x → s.blk.flag SYS_DOMAIN.CT_ON = true → s.blk.pwr.coreDown = false →
        Becomes (.twBusFree b r) s (xferTry x b r s.blk)))

/-- R80, R126, R617, R619, R624 to R626, R630: a locked-up core ends MAINTAIN and stops the core alone; its restart discards what waited for
it and resumes, or stays in RECOVERY with no image; the end of a self-test records what ran and what failed, and acts on the failures. -/
def Obligations.CoreEvents : Prop :=
  ∀ s : State,
    (s.blk.pwr.coreDown = true ∨ notRunning s.blk = true ∨ s.blk.flag SYS_DOMAIN.CT_ON = false → Becomes .watchdogLockup s s.blk) ∧
    (s.blk.pwr.coreDown = false → notRunning s.blk = false → s.blk.flag SYS_DOMAIN.CT_ON = true → Completes .watchdogLockup s (fun t =>
      t.pwr.coreDown = true ∧ t.fld FLT_STAT.KIND = 7 ∧ t.ft = s.blk.ft ∧ t.rcd = s.blk.rcd)) ∧
    (s.blk.pwr.coreDown = false ∨ s.blk.fld SYS_BOOT.STAGE = 10 → Becomes .coreRestartDone s s.blk) ∧
    (s.blk.pwr.coreDown = true → s.blk.fld SYS_BOOT.STAGE ≠ 10 → restartImage s.blk = none → Completes .coreRestartDone s (fun t =>
      t.fld SYS_BOOT.STAGE = 10 ∧ t.flag WDG_STAT.STUCK = true ∧ t.pwr.coreDown = true ∧ t.cmd.accepted = [] ∧
      t.rcd.afterClose = [])) ∧
    (∀ b : Nat, s.blk.pwr.coreDown = true → s.blk.fld SYS_BOOT.STAGE ≠ 10 → restartImage s.blk = some b → b < 2 → ∃ u : Block,
      u.pwr.coreDown = false ∧ u.flt.waiting = [] ∧ u.cmd.accepted = [] ∧ u.fld SYS_BOOT.IMAGE = b ∧
      u.flag WDG_STAT.IMAGE_CHANGED = decide (s.blk.fld SYS_BOOT.IMAGE ≠ b) ∧
      (s.blk.takeOpen = false → Becomes .coreRestartDone s (closeSteps (s.blk.flt.waiting.foldl runWaiting u)))) ∧
    (∀ fails : List (BitVec 3 × BitVec 22), s.blk.flag ST_STAT.RUNNING = false → Becomes (.selfTestEnd fails) s s.blk) ∧
    (s.blk.flag ST_STAT.RUNNING = true → s.blk.flt.stCut = false → s.blk.flt.stRestart = false → s.blk.flt.stItems < 256 →
      Completes (.selfTestEnd []) s (fun t => t.flag ST_STAT.RUNNING = false ∧ t.fld ST_STAT.RAN = s.blk.flt.stItems ∧
        t.fld ST_STAT.FAILED = 0 ∧ t.flt.stEnd = s.blk.now ∧ t.evt = s.blk.evt)) ∧
    (∀ x : BitVec 22, s.blk.flag ST_STAT.RUNNING = true → s.blk.flt.stCut = false → s.blk.flt.stRestart = false → s.blk.flt.stItems = 255 → 602 ≤ x.toNat →
      Completes (.selfTestEnd [(6, x)]) s (fun t => t.flag ST_STAT.RUNNING = false ∧ t.fld ST_STAT.FAILED = 64 ∧ t.evtStatus 1023 = true ∧
        t.cal.badBlocks = s.blk.cal.badBlocks)) ∧
    (∀ fails : List (BitVec 3 × BitVec 22), s.blk.flag ST_STAT.RUNNING = true → s.blk.flt.stCut = false →
      (∃ f ∈ fails, f.1 = 1 ∧ 16 ≤ f.2.toNat ∧ s.blk.flt.stItems.testBit 1 = true) → exec (.selfTestEnd fails) s = .fault .noSuchEngine)

/-- R260, R261: SINGLE builds one entry: START 0, WIDTH FT_EXPOSURE, NODE SN-A; TERRACED_SEQ builds two merged entries, the long terrace of
L = FT_EXPOSURE in the node of LONG_NODE and the short one of floor(L ÷ R) in the other, the long one first unless SHORT_FIRST is 1. Beyond
these, TERRACED_INT (R262) builds 2M + 1 entries that follow each other without a gap and lie symmetrically about the middle of the extent. -/
def Obligations.GeneratedTables : Prop :=
  ∀ (rd : Nat → Word) (x r : Nat) (n : Bool), x = rdFld rd FT_EXPOSURE.EXPOSURE → r = rdFld rd FT_TERRACE.RATIO →
    n = decide (rdFld rd FT_TERRACE.LONG_NODE = 1) →
    (rdFld rd FT_CFG.EXPO = 0 → tableOf rd = [⟨0, x, false⟩]) ∧
    (rdFld rd FT_CFG.EXPO = 1 →
      (rdFld rd FT_TERRACE.SHORT_FIRST = 0 → tableOf rd = [⟨0, x, n⟩, ⟨x, x / r, !n⟩]) ∧
      (rdFld rd FT_TERRACE.SHORT_FIRST = 1 → tableOf rd = [⟨0, x / r, !n⟩, ⟨x / r, x, n⟩])) ∧
    (∀ m : Nat, m = rdFld rd FT_TERRACE.SLICES → rdFld rd FT_CFG.EXPO = 2 → 1 ≤ m →
      (tableOf rd).length = 2 * m + 1 ∧
      (((tableOf rd).filter (fun e => e.node == n)).map (fun e => e.width)).sum = 2 * (x / (2 * m)) * m ∧
      (((tableOf rd).filter (fun e => e.node != n)).map (fun e => e.width)).sum = 2 * (x / (2 * m)) / r * m ∧
      ∀ (k : Nat) (a b : SubExp), (tableOf rd)[k]? = some a → (tableOf rd)[2 * m - k]? = some b →
        a.width = b.width ∧ a.node = b.node ∧ a.start + b.start + b.width = extentOf (tableOf rd))

/-- R216: ADD adds modulo 2³² and sets C to the carry out; DST selects X or Y, REG the sign-extended immediate or the other register; a word
whose reserved bits are not zero is a program error. -/
def Obligations.AddInstruction : Prop :=
  ∀ (e : BitVec 8) (ch : BitVec 7) (w : Word) (s : State) (c : Chan) (a b : Word), c = nextChan s.blk e ch → InstrDue 7 e ch w s.blk →
    a = (if w.getLsbD 27 then c.y else c.x) →
    b = (if w.getLsbD 26 then (if w.getLsbD 27 then c.x else c.y) else (w.setWidth 16).signExtend 32) →
    (wfield w 16 10 = 0 → ∃ c' : Chan, Retires (.add e ch) e ch s c' ∧
      (if w.getLsbD 27 then c'.y = a + b ∧ c'.x = c.x else c'.x = a + b ∧ c'.y = c.y) ∧
      c'.flags.getLsbD 0 = decide (2 ^ 32 ≤ a.toNat + b.toNat) ∧ (∀ i, 1 ≤ i → c'.flags.getLsbD i = c.flags.getLsbD i) ∧
      c' = { c with x := c'.x, y := c'.y, flags := c'.flags }) ∧
    (wfield w 16 10 ≠ 0 → Becomes (.add e ch) s (progErr 2 e.toNat ch.toNat (takeTurn e.toNat ch.toNat s.blk)))

/-- R546: with TW_DERIVE set, each node assignment (a first table, or one with another number) writes IND_ADDR = TW_BASE + node and
IND_VALID = 1 with origin FIRMWARE, and ADDR_OUT rises; a result out of 0x08 to 0x77, 0x3A or an enabled GROUP_ADDR leaves TW_CFG as it was
and raises event 838. -/
def Obligations.NodeAddress : Prop :=
  ∀ (m : TableMsg) (root : Bool) (b : Block) (a : Nat), b.flag FB_CFG.TW_DERIVE = true → m.node < 256 →
    b.flag FB_STAT.READY = false ∨ b.fld FB_STAT.NODE ≠ m.node → a = b.fld FB_CFG.TW_BASE + m.node →
    (8 ≤ a → a ≤ 0x77 → a ≠ 0x3A → ¬ (b.flag TW_CFG.GROUP_EN = true ∧ b.fld TW_CFG.GROUP_ADDR = a) →
      (setNode m root b).fld TW_CFG.IND_ADDR = a ∧ (setNode m root b).flag TW_CFG.IND_VALID = true ∧
      (setNode m root b).flag TW_CFG.ADDR_OUT = true ∧
      (b.log.queue.length + 2 ≤ 4096 → b.fld TW_CFG.IND_ADDR ≠ a ∨ b.flag TW_CFG.IND_VALID = false →
        Logged oFirmware 0x0001 TW_CFG.addr (b.reg TW_CFG.addr)
          (wsetField (wsetField (b.reg TW_CFG.addr) 0 7 a) 7 1 1) (setNode m root b))) ∧
    (a < 8 ∨ 0x77 < a ∨ a = 0x3A ∨ (b.flag TW_CFG.GROUP_EN = true ∧ b.fld TW_CFG.GROUP_ADDR = a) →
      (setNode m root b).reg TW_CFG.addr = b.reg TW_CFG.addr ∧ (setNode m root b).evtStatus 838 = true)

/-- R127: a cairn is 32 bytes: the sequence at byte 0, the stamp at 4, the origin at 12, the kind at 14, the target at 16, the old value at 20,
the new value at 24 and the chain check at 28. The bytes tell the cairn: two entries with the same bytes are the same. -/
def Obligations.CairnBytes : Prop :=
  ∀ e : Entry, e.seq < 2 ^ 32 → e.cairn.origin < 2 ^ 16 → e.cairn.kind < 2 ^ 16 → e.cairn.target < 2 ^ 32 →
    (entryBytes e).length = 32 ∧ leAt (entryBytes e) 0 4 = e.seq ∧ leAt (entryBytes e) 4 8 = e.cairn.stamp.toNat ∧
    leAt (entryBytes e) 12 2 = e.cairn.origin ∧ leAt (entryBytes e) 14 2 = e.cairn.kind ∧ leAt (entryBytes e) 16 4 = e.cairn.target ∧
    leAt (entryBytes e) 20 4 = e.cairn.old.toNat ∧ leAt (entryBytes e) 24 4 = e.cairn.new.toNat ∧
    leAt (entryBytes e) 28 4 = e.chain.toNat ∧
    ∀ f : Entry, f.seq < 2 ^ 32 → f.cairn.origin < 2 ^ 16 → f.cairn.kind < 2 ^ 16 → f.cairn.target < 2 ^ 32 →
      entryBytes f = entryBytes e → f = e
end

