-- ==== Sys2Proof/Laws/Fields.lean ====
section
/-! SUPPORT. Fields of words: reading a field after writing it, or another. -/

namespace Sys2Proof.Machine

theorem testBit_wmask (lo width i : Nat) (hi : i < 32) : (wmask lo width).getLsbD i = (decide (lo ≤ i) && decide (i < lo + width)) := by
  unfold wmask
  rw [BitVec.getLsbD_ofNat]
  simp only [hi, decide_true, Bool.true_and]
  rw [Nat.testBit_mul_two_pow, Nat.testBit_two_pow_sub_one]
  by_cases h : lo ≤ i
  · simp only [h, decide_true, Bool.true_and, decide_eq_decide]; omega
  · simp [h]

/-- Bit `i` of a word with a field replaced. -/
theorem getLsbD_wsetField (w : Word) (lo width v i : Nat) (hi : i < 32) :
    (wsetField w lo width v).getLsbD i = if lo ≤ i ∧ i < lo + width then v.testBit (i - lo) else w.getLsbD i := by
  unfold wsetField
  rw [BitVec.getLsbD_or, BitVec.getLsbD_and, BitVec.getLsbD_not, testBit_wmask lo width i hi, BitVec.getLsbD_ofNat]
  simp only [hi, decide_true, Bool.true_and]
  rw [Nat.testBit_mul_two_pow, Nat.testBit_mod_two_pow]
  by_cases h1 : lo ≤ i
  · by_cases h2 : i < lo + width
    · have : i - lo < width := by omega
      simp [h1, h2, this]
    · have : ¬ i - lo < width := by omega
      simp [h1, h2, this]
  · simp [h1]

theorem testBit_wfield (w : Word) (lo width i : Nat) : (wfield w lo width).testBit i = (decide (i < width) && w.getLsbD (lo + i)) := by
  unfold wfield
  rw [Nat.testBit_mod_two_pow, Nat.testBit_div_two_pow]
  simp [BitVec.getLsbD, Nat.add_comm]

theorem wfield_lt (w : Word) (lo width : Nat) : wfield w lo width < 2 ^ width := Nat.mod_lt _ (Nat.two_pow_pos width)

/-- A field reads as written. -/
theorem wfield_wsetField (w : Word) (lo width v : Nat) (h : lo + width ≤ 32) : wfield (wsetField w lo width v) lo width = v % 2 ^ width := by
  apply Nat.eq_of_testBit_eq
  intro i
  rw [testBit_wfield, Nat.testBit_mod_two_pow]
  by_cases hi : i < width
  · rw [getLsbD_wsetField _ _ _ _ _ (by omega)]
    simp [hi]
  · simp [hi]

/-- A field keeps its value when a disjoint field is written. -/
theorem wfield_wsetField_disjoint (w : Word) (lo width v lo' width' : Nat) (h : lo' + width' ≤ lo ∨ lo + width ≤ lo') :
    wfield (wsetField w lo width v) lo' width' = wfield w lo' width' := by
  apply Nat.eq_of_testBit_eq
  intro i
  rw [testBit_wfield, testBit_wfield]
  by_cases hi : i < width'
  · simp only [hi, decide_true, Bool.true_and]
    by_cases h32 : lo' + i < 32
    · rw [getLsbD_wsetField _ _ _ _ _ h32, if_neg (by omega)]
    · rw [BitVec.getLsbD_of_ge _ _ (by omega), BitVec.getLsbD_of_ge _ _ (by omega)]
  · simp [hi]

theorem getLsbD_wput (w : Word) (i j : Nat) (b : Bool) (hj : j < 32) : (wsetField w i 1 (b2n b)).getLsbD j = if j = i then b else w.getLsbD j := by
  rw [getLsbD_wsetField _ _ _ _ _ hj]
  by_cases h : j = i
  · subst h; cases b <;> simp [b2n]
  · rw [if_neg (by omega), if_neg h]

end Sys2Proof.Machine
end

