-- ==== Sys2Proof/Laws/Sparse.lean ====
section
/-! SUPPORT. Sparse maps: reading after writing, and the canonical form that every operation keeps. -/

namespace Sys2Proof.Machine

theorem smGet_smPut {α : Type} (d : α) (m : List (Nat × α)) (k j : Nat) (v : α) :
    smGet d (smPut m k v) j = if j = k then v else smGet d m j := by
  induction m with
  | nil =>
    by_cases h : j = k
    · simp [smPut, smGet, h]
    · have : ¬ k = j := fun x => h x.symm
      simp [smPut, smGet, h, this]
  | cons e t ih =>
    obtain ⟨i, w⟩ := e
    unfold smPut
    by_cases h1 : k < i
    · by_cases h : j = k
      · simp [h1, smGet, h]
      · have : ¬ k = j := fun x => h x.symm
        simp [h1, smGet, h, this]
    · by_cases h2 : k = i
      · subst h2
        by_cases h : j = k
        · simp [smGet, h]
        · have : ¬ k = j := fun x => h x.symm
          simp [smGet, h, this]
      · simp only [h1, h2, if_false, smGet, ih]
        by_cases h : j = k
        · subst h
          have : ¬ i = j := fun x => h2 x.symm
          simp [this]
        · simp [h]

theorem smGet_smDel {α : Type} (d : α) (m : List (Nat × α)) (k j : Nat) :
    smGet d (smDel m k) j = if j = k then d else smGet d m j := by
  induction m with
  | nil => simp [smDel, smGet]
  | cons e t ih =>
    obtain ⟨i, w⟩ := e
    simp only [smDel] at ih ⊢
    by_cases h1 : i = k
    · subst h1
      simp only [List.filter_cons, ne_eq, not_true, decide_false, smGet]
      rw [if_neg (by simp), ih]
      by_cases h : j = i
      · simp [h]
      · have : ¬ i = j := fun x => h x.symm
        simp [h, this]
    · simp only [List.filter_cons, ne_eq, h1, not_false_eq_true, decide_true, if_true, smGet, ih]
      by_cases h : j = k
      · subst h
        simp [h1]
      · simp [h]

theorem smGet_smSet {α : Type} [DecidableEq α] (d : α) (m : List (Nat × α)) (k j : Nat) (v : α) :
    smGet d (smSet d m k v) j = if j = k then v else smGet d m j := by
  unfold smSet
  split
  · subst_vars
    rw [smGet_smDel]
  · rw [smGet_smPut]

/-- Writing a key whose default differs from the reader's leaves every other key as it was. -/
theorem smGet_smSet_other {α : Type} [DecidableEq α] (d e : α) (m : List (Nat × α)) (k j : Nat) (v : α) (h : j ≠ k) :
    smGet e (smSet d m k v) j = smGet e m j := by
  unfold smSet
  split
  · rw [smGet_smDel, if_neg h]
  · rw [smGet_smPut, if_neg h]

/-! ### The canonical form -/

theorem smSorted_weaken {α : Type} {lo lo' : Nat} {m : List (Nat × α)} (h : smSorted (some lo) m = true) (hl : lo' ≤ lo) :
    smSorted (some lo') m = true := by
  cases m with
  | nil => rfl
  | cons e t => simp only [smSorted, Bool.and_eq_true, decide_eq_true_eq] at h ⊢; exact ⟨by omega, h.2⟩

theorem smSorted_smPut_above {α : Type} (m : List (Nat × α)) (lo k : Nat) (v : α) (h : smSorted (some lo) m = true) (hk : lo < k) :
    smSorted (some lo) (smPut m k v) = true := by
  induction m generalizing lo with
  | nil => simp [smPut, smSorted, hk]
  | cons e t ih =>
    obtain ⟨i, w⟩ := e
    simp only [smSorted, Bool.and_eq_true, decide_eq_true_eq] at h
    unfold smPut
    by_cases h1 : k < i
    · simp [h1, smSorted, hk, h.2]
    · by_cases h2 : k = i
      · subst h2; simp [smSorted, hk, h.2]
      · simp only [h1, h2, if_false, smSorted, Bool.and_eq_true, decide_eq_true_eq]
        exact ⟨h.1, ih i h.2 (by omega)⟩

theorem smSorted_smPut {α : Type} (m : List (Nat × α)) (k : Nat) (v : α) (h : smSorted none m = true) :
    smSorted none (smPut m k v) = true := by
  cases m with
  | nil => rfl
  | cons e t =>
    obtain ⟨i, w⟩ := e
    simp only [smSorted] at h
    unfold smPut
    by_cases h1 : k < i
    · simp [h1, smSorted, h]
    · by_cases h2 : k = i
      · subst h2; simp [smSorted, h]
      · simp only [h1, h2, if_false, smSorted]
        exact smSorted_smPut_above t i k v h (by omega)

theorem smSorted_smDel_above {α : Type} (m : List (Nat × α)) (lo k : Nat) (h : smSorted (some lo) m = true) :
    smSorted (some lo) (smDel m k) = true := by
  induction m generalizing lo with
  | nil => rfl
  | cons e t ih =>
    obtain ⟨i, w⟩ := e
    simp only [smSorted, Bool.and_eq_true, decide_eq_true_eq] at h
    simp only [smDel] at ih ⊢
    by_cases h1 : i = k
    · rw [List.filter_cons_of_neg (by simp [h1])]
      exact smSorted_weaken (ih i h.2) (by omega)
    · rw [List.filter_cons_of_pos (by simp [h1])]
      simp only [smSorted, Bool.and_eq_true, decide_eq_true_eq]
      exact ⟨h.1, ih i h.2⟩

theorem smSorted_none_of_some {α : Type} {lo : Nat} {m : List (Nat × α)} (h : smSorted (some lo) m = true) : smSorted none m = true := by
  cases m with
  | nil => rfl
  | cons e t => simp only [smSorted, Bool.and_eq_true] at h ⊢; exact h.2

theorem smSorted_smDel {α : Type} (m : List (Nat × α)) (k : Nat) (h : smSorted none m = true) : smSorted none (smDel m k) = true := by
  cases m with
  | nil => rfl
  | cons e t =>
    obtain ⟨i, w⟩ := e
    simp only [smSorted] at h
    have := smSorted_smDel_above t i k h
    simp only [smDel] at this ⊢
    by_cases h1 : i = k
    · rw [List.filter_cons_of_neg (by simp [h1])]
      exact smSorted_none_of_some this
    · rw [List.filter_cons_of_pos (by simp [h1])]
      exact this

theorem all_smPut {α : Type} (p : Nat × α → Bool) (m : List (Nat × α)) (k : Nat) (v : α) (h : m.all p = true) (hv : p (k, v) = true) :
    (smPut m k v).all p = true := by
  induction m with
  | nil => simpa [smPut] using hv
  | cons e t ih =>
    obtain ⟨i, w⟩ := e
    simp only [List.all_cons, Bool.and_eq_true] at h
    unfold smPut
    split
    · simp [List.all_cons, hv, h.1, h.2]
    · split
      · simp [List.all_cons, hv, h.2]
      · simp [List.all_cons, h.1, ih h.2]

/-- A write keeps the canonical form. -/
theorem smSet_wf {α : Type} [DecidableEq α] (d : Nat → α) (m : List (Nat × α)) (k : Nat) (v : α) (h : smWf d m = true) :
    smWf d (smSet (d k) m k v) = true := by
  simp only [smWf, Bool.and_eq_true] at h ⊢
  unfold smSet
  split
  · refine ⟨smSorted_smDel m k h.1, ?_⟩
    rw [List.all_eq_true] at h ⊢
    intro x hx
    exact h.2 x (List.mem_filter.mp hx).1
  · rename_i hv
    exact ⟨smSorted_smPut m k v h.1, all_smPut _ m k v h.2 (by simpa using hv)⟩

theorem smWf_nil {α : Type} [DecidableEq α] (d : Nat → α) : smWf d [] = true := rfl

theorem smHas_smPut {α : Type} (m : List (Nat × α)) (k j : Nat) (v : α) : smHas (smPut m k v) j = (decide (j = k) || smHas m j) := by
  unfold smHas
  induction m with
  | nil => by_cases h : j = k <;> simp [smPut, h, eq_comm]
  | cons e t ih =>
    obtain ⟨i, w⟩ := e
    unfold smPut
    split
    · by_cases h : j = k <;> simp [h, eq_comm]
    · split
      · subst_vars
        by_cases h : j = i <;> simp [h, eq_comm]
      · simp only [List.any_cons, ih]
        by_cases h : j = k <;> by_cases h' : i = j <;> simp [h, h']

theorem smHas_smDel {α : Type} (m : List (Nat × α)) (k j : Nat) : smHas (smDel m k) j = (!decide (j = k) && smHas m j) := by
  unfold smHas smDel
  induction m with
  | nil => simp
  | cons e t ih =>
    obtain ⟨i, w⟩ := e
    by_cases h1 : i = k
    · rw [List.filter_cons_of_neg (by simp [h1]), ih]
      subst h1
      by_cases h : j = i <;> simp [h, eq_comm]
    · rw [List.filter_cons_of_pos (by simp [h1])]
      simp only [List.any_cons, ih]
      by_cases h : j = k <;> by_cases h' : i = j <;> simp_all

end Sys2Proof.Machine
end

