-- ==== Sys2Proof/Laws/State.lean ====
section
/-! SUPPORT. What each elementary update leaves alone, field by field. -/

namespace Sys2Proof.Machine

/-! ### setReg -/

@[simp] theorem setReg_held (s : Block) (a : Nat) (w : Word) : (s.setReg a w).held = s.held := rfl
@[simp] theorem setReg_cmd (s : Block) (a : Nat) (w : Word) : (s.setReg a w).cmd = s.cmd := rfl
@[simp] theorem setReg_tw (s : Block) (a : Nat) (w : Word) : (s.setReg a w).tw = s.tw := rfl
@[simp] theorem setReg_evt (s : Block) (a : Nat) (w : Word) : (s.setReg a w).evt = s.evt := rfl
@[simp] theorem setReg_log (s : Block) (a : Nat) (w : Word) : (s.setReg a w).log = s.log := rfl
@[simp] theorem setReg_acc (s : Block) (a : Nat) (w : Word) : (s.setReg a w).acc = s.acc := rfl
@[simp] theorem setReg_nvm (s : Block) (a : Nat) (w : Word) : (s.setReg a w).nvm = s.nvm := rfl
@[simp] theorem setReg_pwr (s : Block) (a : Nat) (w : Word) : (s.setReg a w).pwr = s.pwr := rfl
@[simp] theorem setReg_flt (s : Block) (a : Nat) (w : Word) : (s.setReg a w).flt = s.flt := rfl
@[simp] theorem setReg_ks (s : Block) (a : Nat) (w : Word) : (s.setReg a w).ks = s.ks := rfl
@[simp] theorem setReg_ft (s : Block) (a : Nat) (w : Word) : (s.setReg a w).ft = s.ft := rfl
@[simp] theorem setReg_pix (s : Block) (a : Nat) (w : Word) : (s.setReg a w).pix = s.pix := rfl
@[simp] theorem setReg_cal (s : Block) (a : Nat) (w : Word) : (s.setReg a w).cal = s.cal := rfl
@[simp] theorem setReg_eng (s : Block) (a : Nat) (w : Word) : (s.setReg a w).eng = s.eng := rfl
@[simp] theorem setReg_mc (s : Block) (a : Nat) (w : Word) : (s.setReg a w).mc = s.mc := rfl
@[simp] theorem setReg_rcd (s : Block) (a : Nat) (w : Word) : (s.setReg a w).rcd = s.rcd := rfl
@[simp] theorem setReg_mon (s : Block) (a : Nat) (w : Word) : (s.setReg a w).mon = s.mon := rfl
@[simp] theorem setReg_stat (s : Block) (a : Nat) (w : Word) : (s.setReg a w).stat = s.stat := rfl
@[simp] theorem setReg_lk (s : Block) (a : Nat) (w : Word) : (s.setReg a w).lk = s.lk := rfl
@[simp] theorem setReg_fb (s : Block) (a : Nat) (w : Word) : (s.setReg a w).fb = s.fb := rfl
@[simp] theorem setReg_th (s : Block) (a : Nat) (w : Word) : (s.setReg a w).th = s.th := rfl
@[simp] theorem setReg_rsv (s : Block) (a : Nat) (w : Word) : (s.setReg a w).rsv = s.rsv := rfl
@[simp] theorem setReg_free (s : Block) (a : Nat) (w : Word) : (s.setReg a w).free = s.free := rfl

/-! ### setFld -/

@[simp] theorem setFld_held (s : Block) (f : RF) (v : Nat) : (s.setFld f v).held = s.held := rfl
@[simp] theorem setFld_cmd (s : Block) (f : RF) (v : Nat) : (s.setFld f v).cmd = s.cmd := rfl
@[simp] theorem setFld_tw (s : Block) (f : RF) (v : Nat) : (s.setFld f v).tw = s.tw := rfl
@[simp] theorem setFld_evt (s : Block) (f : RF) (v : Nat) : (s.setFld f v).evt = s.evt := rfl
@[simp] theorem setFld_log (s : Block) (f : RF) (v : Nat) : (s.setFld f v).log = s.log := rfl
@[simp] theorem setFld_acc (s : Block) (f : RF) (v : Nat) : (s.setFld f v).acc = s.acc := rfl
@[simp] theorem setFld_nvm (s : Block) (f : RF) (v : Nat) : (s.setFld f v).nvm = s.nvm := rfl
@[simp] theorem setFld_pwr (s : Block) (f : RF) (v : Nat) : (s.setFld f v).pwr = s.pwr := rfl
@[simp] theorem setFld_flt (s : Block) (f : RF) (v : Nat) : (s.setFld f v).flt = s.flt := rfl
@[simp] theorem setFld_ks (s : Block) (f : RF) (v : Nat) : (s.setFld f v).ks = s.ks := rfl
@[simp] theorem setFld_ft (s : Block) (f : RF) (v : Nat) : (s.setFld f v).ft = s.ft := rfl
@[simp] theorem setFld_pix (s : Block) (f : RF) (v : Nat) : (s.setFld f v).pix = s.pix := rfl
@[simp] theorem setFld_cal (s : Block) (f : RF) (v : Nat) : (s.setFld f v).cal = s.cal := rfl
@[simp] theorem setFld_eng (s : Block) (f : RF) (v : Nat) : (s.setFld f v).eng = s.eng := rfl
@[simp] theorem setFld_mc (s : Block) (f : RF) (v : Nat) : (s.setFld f v).mc = s.mc := rfl
@[simp] theorem setFld_rcd (s : Block) (f : RF) (v : Nat) : (s.setFld f v).rcd = s.rcd := rfl
@[simp] theorem setFld_mon (s : Block) (f : RF) (v : Nat) : (s.setFld f v).mon = s.mon := rfl
@[simp] theorem setFld_stat (s : Block) (f : RF) (v : Nat) : (s.setFld f v).stat = s.stat := rfl
@[simp] theorem setFld_lk (s : Block) (f : RF) (v : Nat) : (s.setFld f v).lk = s.lk := rfl
@[simp] theorem setFld_fb (s : Block) (f : RF) (v : Nat) : (s.setFld f v).fb = s.fb := rfl
@[simp] theorem setFld_th (s : Block) (f : RF) (v : Nat) : (s.setFld f v).th = s.th := rfl
@[simp] theorem setFld_rsv (s : Block) (f : RF) (v : Nat) : (s.setFld f v).rsv = s.rsv := rfl
@[simp] theorem setFld_free (s : Block) (f : RF) (v : Nat) : (s.setFld f v).free = s.free := rfl

/-! ### setFlag -/

@[simp] theorem setFlag_held (s : Block) (f : RF) (b : Bool) : (s.setFlag f b).held = s.held := rfl
@[simp] theorem setFlag_cmd (s : Block) (f : RF) (b : Bool) : (s.setFlag f b).cmd = s.cmd := rfl
@[simp] theorem setFlag_tw (s : Block) (f : RF) (b : Bool) : (s.setFlag f b).tw = s.tw := rfl
@[simp] theorem setFlag_evt (s : Block) (f : RF) (b : Bool) : (s.setFlag f b).evt = s.evt := rfl
@[simp] theorem setFlag_log (s : Block) (f : RF) (b : Bool) : (s.setFlag f b).log = s.log := rfl
@[simp] theorem setFlag_acc (s : Block) (f : RF) (b : Bool) : (s.setFlag f b).acc = s.acc := rfl
@[simp] theorem setFlag_nvm (s : Block) (f : RF) (b : Bool) : (s.setFlag f b).nvm = s.nvm := rfl
@[simp] theorem setFlag_pwr (s : Block) (f : RF) (b : Bool) : (s.setFlag f b).pwr = s.pwr := rfl
@[simp] theorem setFlag_flt (s : Block) (f : RF) (b : Bool) : (s.setFlag f b).flt = s.flt := rfl
@[simp] theorem setFlag_ks (s : Block) (f : RF) (b : Bool) : (s.setFlag f b).ks = s.ks := rfl
@[simp] theorem setFlag_ft (s : Block) (f : RF) (b : Bool) : (s.setFlag f b).ft = s.ft := rfl
@[simp] theorem setFlag_pix (s : Block) (f : RF) (b : Bool) : (s.setFlag f b).pix = s.pix := rfl
@[simp] theorem setFlag_cal (s : Block) (f : RF) (b : Bool) : (s.setFlag f b).cal = s.cal := rfl
@[simp] theorem setFlag_eng (s : Block) (f : RF) (b : Bool) : (s.setFlag f b).eng = s.eng := rfl
@[simp] theorem setFlag_mc (s : Block) (f : RF) (b : Bool) : (s.setFlag f b).mc = s.mc := rfl
@[simp] theorem setFlag_rcd (s : Block) (f : RF) (b : Bool) : (s.setFlag f b).rcd = s.rcd := rfl
@[simp] theorem setFlag_mon (s : Block) (f : RF) (b : Bool) : (s.setFlag f b).mon = s.mon := rfl
@[simp] theorem setFlag_stat (s : Block) (f : RF) (b : Bool) : (s.setFlag f b).stat = s.stat := rfl
@[simp] theorem setFlag_lk (s : Block) (f : RF) (b : Bool) : (s.setFlag f b).lk = s.lk := rfl
@[simp] theorem setFlag_fb (s : Block) (f : RF) (b : Bool) : (s.setFlag f b).fb = s.fb := rfl
@[simp] theorem setFlag_th (s : Block) (f : RF) (b : Bool) : (s.setFlag f b).th = s.th := rfl
@[simp] theorem setFlag_rsv (s : Block) (f : RF) (b : Bool) : (s.setFlag f b).rsv = s.rsv := rfl
@[simp] theorem setFlag_free (s : Block) (f : RF) (b : Bool) : (s.setFlag f b).free = s.free := rfl

/-! ### incFld -/

@[simp] theorem incFld_held (s : Block) (f : RF) (n : Nat) : (s.incFld f n).held = s.held := rfl
@[simp] theorem incFld_cmd (s : Block) (f : RF) (n : Nat) : (s.incFld f n).cmd = s.cmd := rfl
@[simp] theorem incFld_tw (s : Block) (f : RF) (n : Nat) : (s.incFld f n).tw = s.tw := rfl
@[simp] theorem incFld_evt (s : Block) (f : RF) (n : Nat) : (s.incFld f n).evt = s.evt := rfl
@[simp] theorem incFld_log (s : Block) (f : RF) (n : Nat) : (s.incFld f n).log = s.log := rfl
@[simp] theorem incFld_acc (s : Block) (f : RF) (n : Nat) : (s.incFld f n).acc = s.acc := rfl
@[simp] theorem incFld_nvm (s : Block) (f : RF) (n : Nat) : (s.incFld f n).nvm = s.nvm := rfl
@[simp] theorem incFld_pwr (s : Block) (f : RF) (n : Nat) : (s.incFld f n).pwr = s.pwr := rfl
@[simp] theorem incFld_flt (s : Block) (f : RF) (n : Nat) : (s.incFld f n).flt = s.flt := rfl
@[simp] theorem incFld_ks (s : Block) (f : RF) (n : Nat) : (s.incFld f n).ks = s.ks := rfl
@[simp] theorem incFld_ft (s : Block) (f : RF) (n : Nat) : (s.incFld f n).ft = s.ft := rfl
@[simp] theorem incFld_pix (s : Block) (f : RF) (n : Nat) : (s.incFld f n).pix = s.pix := rfl
@[simp] theorem incFld_cal (s : Block) (f : RF) (n : Nat) : (s.incFld f n).cal = s.cal := rfl
@[simp] theorem incFld_eng (s : Block) (f : RF) (n : Nat) : (s.incFld f n).eng = s.eng := rfl
@[simp] theorem incFld_mc (s : Block) (f : RF) (n : Nat) : (s.incFld f n).mc = s.mc := rfl
@[simp] theorem incFld_rcd (s : Block) (f : RF) (n : Nat) : (s.incFld f n).rcd = s.rcd := rfl
@[simp] theorem incFld_mon (s : Block) (f : RF) (n : Nat) : (s.incFld f n).mon = s.mon := rfl
@[simp] theorem incFld_stat (s : Block) (f : RF) (n : Nat) : (s.incFld f n).stat = s.stat := rfl
@[simp] theorem incFld_lk (s : Block) (f : RF) (n : Nat) : (s.incFld f n).lk = s.lk := rfl
@[simp] theorem incFld_fb (s : Block) (f : RF) (n : Nat) : (s.incFld f n).fb = s.fb := rfl
@[simp] theorem incFld_th (s : Block) (f : RF) (n : Nat) : (s.incFld f n).th = s.th := rfl
@[simp] theorem incFld_rsv (s : Block) (f : RF) (n : Nat) : (s.incFld f n).rsv = s.rsv := rfl
@[simp] theorem incFld_free (s : Block) (f : RF) (n : Nat) : (s.incFld f n).free = s.free := rfl

/-! ### satFld -/

@[simp] theorem satFld_held (s : Block) (f : RF) (n : Nat) : (s.satFld f n).held = s.held := rfl
@[simp] theorem satFld_cmd (s : Block) (f : RF) (n : Nat) : (s.satFld f n).cmd = s.cmd := rfl
@[simp] theorem satFld_tw (s : Block) (f : RF) (n : Nat) : (s.satFld f n).tw = s.tw := rfl
@[simp] theorem satFld_evt (s : Block) (f : RF) (n : Nat) : (s.satFld f n).evt = s.evt := rfl
@[simp] theorem satFld_log (s : Block) (f : RF) (n : Nat) : (s.satFld f n).log = s.log := rfl
@[simp] theorem satFld_acc (s : Block) (f : RF) (n : Nat) : (s.satFld f n).acc = s.acc := rfl
@[simp] theorem satFld_nvm (s : Block) (f : RF) (n : Nat) : (s.satFld f n).nvm = s.nvm := rfl
@[simp] theorem satFld_pwr (s : Block) (f : RF) (n : Nat) : (s.satFld f n).pwr = s.pwr := rfl
@[simp] theorem satFld_flt (s : Block) (f : RF) (n : Nat) : (s.satFld f n).flt = s.flt := rfl
@[simp] theorem satFld_ks (s : Block) (f : RF) (n : Nat) : (s.satFld f n).ks = s.ks := rfl
@[simp] theorem satFld_ft (s : Block) (f : RF) (n : Nat) : (s.satFld f n).ft = s.ft := rfl
@[simp] theorem satFld_pix (s : Block) (f : RF) (n : Nat) : (s.satFld f n).pix = s.pix := rfl
@[simp] theorem satFld_cal (s : Block) (f : RF) (n : Nat) : (s.satFld f n).cal = s.cal := rfl
@[simp] theorem satFld_eng (s : Block) (f : RF) (n : Nat) : (s.satFld f n).eng = s.eng := rfl
@[simp] theorem satFld_mc (s : Block) (f : RF) (n : Nat) : (s.satFld f n).mc = s.mc := rfl
@[simp] theorem satFld_rcd (s : Block) (f : RF) (n : Nat) : (s.satFld f n).rcd = s.rcd := rfl
@[simp] theorem satFld_mon (s : Block) (f : RF) (n : Nat) : (s.satFld f n).mon = s.mon := rfl
@[simp] theorem satFld_stat (s : Block) (f : RF) (n : Nat) : (s.satFld f n).stat = s.stat := rfl
@[simp] theorem satFld_lk (s : Block) (f : RF) (n : Nat) : (s.satFld f n).lk = s.lk := rfl
@[simp] theorem satFld_fb (s : Block) (f : RF) (n : Nat) : (s.satFld f n).fb = s.fb := rfl
@[simp] theorem satFld_th (s : Block) (f : RF) (n : Nat) : (s.satFld f n).th = s.th := rfl
@[simp] theorem satFld_rsv (s : Block) (f : RF) (n : Nat) : (s.satFld f n).rsv = s.rsv := rfl
@[simp] theorem satFld_free (s : Block) (f : RF) (n : Nat) : (s.satFld f n).free = s.free := rfl

/-! ### clearEvt -/

@[simp] theorem clearEvt_held (s : Block) (e : Nat) : (s.clearEvt e).held = s.held := rfl
@[simp] theorem clearEvt_cmd (s : Block) (e : Nat) : (s.clearEvt e).cmd = s.cmd := rfl
@[simp] theorem clearEvt_tw (s : Block) (e : Nat) : (s.clearEvt e).tw = s.tw := rfl
@[simp] theorem clearEvt_log (s : Block) (e : Nat) : (s.clearEvt e).log = s.log := rfl
@[simp] theorem clearEvt_acc (s : Block) (e : Nat) : (s.clearEvt e).acc = s.acc := rfl
@[simp] theorem clearEvt_nvm (s : Block) (e : Nat) : (s.clearEvt e).nvm = s.nvm := rfl
@[simp] theorem clearEvt_pwr (s : Block) (e : Nat) : (s.clearEvt e).pwr = s.pwr := rfl
@[simp] theorem clearEvt_flt (s : Block) (e : Nat) : (s.clearEvt e).flt = s.flt := rfl
@[simp] theorem clearEvt_ks (s : Block) (e : Nat) : (s.clearEvt e).ks = s.ks := rfl
@[simp] theorem clearEvt_ft (s : Block) (e : Nat) : (s.clearEvt e).ft = s.ft := rfl
@[simp] theorem clearEvt_pix (s : Block) (e : Nat) : (s.clearEvt e).pix = s.pix := rfl
@[simp] theorem clearEvt_cal (s : Block) (e : Nat) : (s.clearEvt e).cal = s.cal := rfl
@[simp] theorem clearEvt_eng (s : Block) (e : Nat) : (s.clearEvt e).eng = s.eng := rfl
@[simp] theorem clearEvt_mc (s : Block) (e : Nat) : (s.clearEvt e).mc = s.mc := rfl
@[simp] theorem clearEvt_rcd (s : Block) (e : Nat) : (s.clearEvt e).rcd = s.rcd := rfl
@[simp] theorem clearEvt_mon (s : Block) (e : Nat) : (s.clearEvt e).mon = s.mon := rfl
@[simp] theorem clearEvt_stat (s : Block) (e : Nat) : (s.clearEvt e).stat = s.stat := rfl
@[simp] theorem clearEvt_lk (s : Block) (e : Nat) : (s.clearEvt e).lk = s.lk := rfl
@[simp] theorem clearEvt_fb (s : Block) (e : Nat) : (s.clearEvt e).fb = s.fb := rfl
@[simp] theorem clearEvt_th (s : Block) (e : Nat) : (s.clearEvt e).th = s.th := rfl
@[simp] theorem clearEvt_rsv (s : Block) (e : Nat) : (s.clearEvt e).rsv = s.rsv := rfl
@[simp] theorem clearEvt_free (s : Block) (e : Nat) : (s.clearEvt e).free = s.free := rfl

/-! ### notify -/

@[simp] theorem notify_regs (s : Block) (e : Nat) : (s.notify e).regs = s.regs := rfl
@[simp] theorem notify_held (s : Block) (e : Nat) : (s.notify e).held = s.held := rfl
@[simp] theorem notify_tw (s : Block) (e : Nat) : (s.notify e).tw = s.tw := rfl
@[simp] theorem notify_evt (s : Block) (e : Nat) : (s.notify e).evt = s.evt := rfl
@[simp] theorem notify_log (s : Block) (e : Nat) : (s.notify e).log = s.log := rfl
@[simp] theorem notify_acc (s : Block) (e : Nat) : (s.notify e).acc = s.acc := rfl
@[simp] theorem notify_nvm (s : Block) (e : Nat) : (s.notify e).nvm = s.nvm := rfl
@[simp] theorem notify_pwr (s : Block) (e : Nat) : (s.notify e).pwr = s.pwr := rfl
@[simp] theorem notify_flt (s : Block) (e : Nat) : (s.notify e).flt = s.flt := rfl
@[simp] theorem notify_ks (s : Block) (e : Nat) : (s.notify e).ks = s.ks := rfl
@[simp] theorem notify_ft (s : Block) (e : Nat) : (s.notify e).ft = s.ft := rfl
@[simp] theorem notify_pix (s : Block) (e : Nat) : (s.notify e).pix = s.pix := rfl
@[simp] theorem notify_cal (s : Block) (e : Nat) : (s.notify e).cal = s.cal := rfl
@[simp] theorem notify_eng (s : Block) (e : Nat) : (s.notify e).eng = s.eng := rfl
@[simp] theorem notify_mc (s : Block) (e : Nat) : (s.notify e).mc = s.mc := rfl
@[simp] theorem notify_rcd (s : Block) (e : Nat) : (s.notify e).rcd = s.rcd := rfl
@[simp] theorem notify_mon (s : Block) (e : Nat) : (s.notify e).mon = s.mon := rfl
@[simp] theorem notify_stat (s : Block) (e : Nat) : (s.notify e).stat = s.stat := rfl
@[simp] theorem notify_lk (s : Block) (e : Nat) : (s.notify e).lk = s.lk := rfl
@[simp] theorem notify_fb (s : Block) (e : Nat) : (s.notify e).fb = s.fb := rfl
@[simp] theorem notify_th (s : Block) (e : Nat) : (s.notify e).th = s.th := rfl
@[simp] theorem notify_rsv (s : Block) (e : Nat) : (s.notify e).rsv = s.rsv := rfl
@[simp] theorem notify_free (s : Block) (e : Nat) : (s.notify e).free = s.free := rfl

/-! ### policy -/

@[simp] theorem policy_held (s : Block) (c : Nat) : (s.policy c).held = s.held := rfl
@[simp] theorem policy_cmd (s : Block) (c : Nat) : (s.policy c).cmd = s.cmd := rfl
@[simp] theorem policy_tw (s : Block) (c : Nat) : (s.policy c).tw = s.tw := rfl
@[simp] theorem policy_evt (s : Block) (c : Nat) : (s.policy c).evt = s.evt := rfl
@[simp] theorem policy_log (s : Block) (c : Nat) : (s.policy c).log = s.log := rfl
@[simp] theorem policy_acc (s : Block) (c : Nat) : (s.policy c).acc = s.acc := rfl
@[simp] theorem policy_nvm (s : Block) (c : Nat) : (s.policy c).nvm = s.nvm := rfl
@[simp] theorem policy_pwr (s : Block) (c : Nat) : (s.policy c).pwr = s.pwr := rfl
@[simp] theorem policy_flt (s : Block) (c : Nat) : (s.policy c).flt = s.flt := rfl
@[simp] theorem policy_ks (s : Block) (c : Nat) : (s.policy c).ks = s.ks := rfl
@[simp] theorem policy_ft (s : Block) (c : Nat) : (s.policy c).ft = s.ft := rfl
@[simp] theorem policy_pix (s : Block) (c : Nat) : (s.policy c).pix = s.pix := rfl
@[simp] theorem policy_cal (s : Block) (c : Nat) : (s.policy c).cal = s.cal := rfl
@[simp] theorem policy_eng (s : Block) (c : Nat) : (s.policy c).eng = s.eng := rfl
@[simp] theorem policy_mc (s : Block) (c : Nat) : (s.policy c).mc = s.mc := rfl
@[simp] theorem policy_rcd (s : Block) (c : Nat) : (s.policy c).rcd = s.rcd := rfl
@[simp] theorem policy_mon (s : Block) (c : Nat) : (s.policy c).mon = s.mon := rfl
@[simp] theorem policy_stat (s : Block) (c : Nat) : (s.policy c).stat = s.stat := rfl
@[simp] theorem policy_lk (s : Block) (c : Nat) : (s.policy c).lk = s.lk := rfl
@[simp] theorem policy_fb (s : Block) (c : Nat) : (s.policy c).fb = s.fb := rfl
@[simp] theorem policy_th (s : Block) (c : Nat) : (s.policy c).th = s.th := rfl
@[simp] theorem policy_rsv (s : Block) (c : Nat) : (s.policy c).rsv = s.rsv := rfl
@[simp] theorem policy_free (s : Block) (c : Nat) : (s.policy c).free = s.free := rfl

/-! ### draw -/

@[simp] theorem draw_regs (s : Block) : (s.draw).regs = s.regs := rfl
@[simp] theorem draw_held (s : Block) : (s.draw).held = s.held := rfl
@[simp] theorem draw_cmd (s : Block) : (s.draw).cmd = s.cmd := rfl
@[simp] theorem draw_tw (s : Block) : (s.draw).tw = s.tw := rfl
@[simp] theorem draw_evt (s : Block) : (s.draw).evt = s.evt := rfl
@[simp] theorem draw_log (s : Block) : (s.draw).log = s.log := rfl
@[simp] theorem draw_acc (s : Block) : (s.draw).acc = s.acc := rfl
@[simp] theorem draw_nvm (s : Block) : (s.draw).nvm = s.nvm := rfl
@[simp] theorem draw_pwr (s : Block) : (s.draw).pwr = s.pwr := rfl
@[simp] theorem draw_flt (s : Block) : (s.draw).flt = s.flt := rfl
@[simp] theorem draw_ks (s : Block) : (s.draw).ks = s.ks := rfl
@[simp] theorem draw_ft (s : Block) : (s.draw).ft = s.ft := rfl
@[simp] theorem draw_pix (s : Block) : (s.draw).pix = s.pix := rfl
@[simp] theorem draw_cal (s : Block) : (s.draw).cal = s.cal := rfl
@[simp] theorem draw_eng (s : Block) : (s.draw).eng = s.eng := rfl
@[simp] theorem draw_mc (s : Block) : (s.draw).mc = s.mc := rfl
@[simp] theorem draw_rcd (s : Block) : (s.draw).rcd = s.rcd := rfl
@[simp] theorem draw_mon (s : Block) : (s.draw).mon = s.mon := rfl
@[simp] theorem draw_stat (s : Block) : (s.draw).stat = s.stat := rfl
@[simp] theorem draw_lk (s : Block) : (s.draw).lk = s.lk := rfl
@[simp] theorem draw_fb (s : Block) : (s.draw).fb = s.fb := rfl
@[simp] theorem draw_th (s : Block) : (s.draw).th = s.th := rfl
@[simp] theorem draw_rsv (s : Block) : (s.draw).rsv = s.rsv := rfl

/-! ### replyLater -/

@[simp] theorem replyLater_regs (s : Block) (q : Req) (op st : Nat) (r : List Byte) (w : WaitOn) : (s.replyLater q op st r w).regs = s.regs := rfl
@[simp] theorem replyLater_held (s : Block) (q : Req) (op st : Nat) (r : List Byte) (w : WaitOn) : (s.replyLater q op st r w).held = s.held := rfl
@[simp] theorem replyLater_tw (s : Block) (q : Req) (op st : Nat) (r : List Byte) (w : WaitOn) : (s.replyLater q op st r w).tw = s.tw := rfl
@[simp] theorem replyLater_evt (s : Block) (q : Req) (op st : Nat) (r : List Byte) (w : WaitOn) : (s.replyLater q op st r w).evt = s.evt := rfl
@[simp] theorem replyLater_log (s : Block) (q : Req) (op st : Nat) (r : List Byte) (w : WaitOn) : (s.replyLater q op st r w).log = s.log := rfl
@[simp] theorem replyLater_acc (s : Block) (q : Req) (op st : Nat) (r : List Byte) (w : WaitOn) : (s.replyLater q op st r w).acc = s.acc := rfl
@[simp] theorem replyLater_nvm (s : Block) (q : Req) (op st : Nat) (r : List Byte) (w : WaitOn) : (s.replyLater q op st r w).nvm = s.nvm := rfl
@[simp] theorem replyLater_pwr (s : Block) (q : Req) (op st : Nat) (r : List Byte) (w : WaitOn) : (s.replyLater q op st r w).pwr = s.pwr := rfl
@[simp] theorem replyLater_flt (s : Block) (q : Req) (op st : Nat) (r : List Byte) (w : WaitOn) : (s.replyLater q op st r w).flt = s.flt := rfl
@[simp] theorem replyLater_ks (s : Block) (q : Req) (op st : Nat) (r : List Byte) (w : WaitOn) : (s.replyLater q op st r w).ks = s.ks := rfl
@[simp] theorem replyLater_ft (s : Block) (q : Req) (op st : Nat) (r : List Byte) (w : WaitOn) : (s.replyLater q op st r w).ft = s.ft := rfl
@[simp] theorem replyLater_pix (s : Block) (q : Req) (op st : Nat) (r : List Byte) (w : WaitOn) : (s.replyLater q op st r w).pix = s.pix := rfl
@[simp] theorem replyLater_cal (s : Block) (q : Req) (op st : Nat) (r : List Byte) (w : WaitOn) : (s.replyLater q op st r w).cal = s.cal := rfl
@[simp] theorem replyLater_eng (s : Block) (q : Req) (op st : Nat) (r : List Byte) (w : WaitOn) : (s.replyLater q op st r w).eng = s.eng := rfl
@[simp] theorem replyLater_mc (s : Block) (q : Req) (op st : Nat) (r : List Byte) (w : WaitOn) : (s.replyLater q op st r w).mc = s.mc := rfl
@[simp] theorem replyLater_rcd (s : Block) (q : Req) (op st : Nat) (r : List Byte) (w : WaitOn) : (s.replyLater q op st r w).rcd = s.rcd := rfl
@[simp] theorem replyLater_mon (s : Block) (q : Req) (op st : Nat) (r : List Byte) (w : WaitOn) : (s.replyLater q op st r w).mon = s.mon := rfl
@[simp] theorem replyLater_stat (s : Block) (q : Req) (op st : Nat) (r : List Byte) (w : WaitOn) : (s.replyLater q op st r w).stat = s.stat := rfl
@[simp] theorem replyLater_lk (s : Block) (q : Req) (op st : Nat) (r : List Byte) (w : WaitOn) : (s.replyLater q op st r w).lk = s.lk := rfl
@[simp] theorem replyLater_fb (s : Block) (q : Req) (op st : Nat) (r : List Byte) (w : WaitOn) : (s.replyLater q op st r w).fb = s.fb := rfl
@[simp] theorem replyLater_th (s : Block) (q : Req) (op st : Nat) (r : List Byte) (w : WaitOn) : (s.replyLater q op st r w).th = s.th := rfl
@[simp] theorem replyLater_rsv (s : Block) (q : Req) (op st : Nat) (r : List Byte) (w : WaitOn) : (s.replyLater q op st r w).rsv = s.rsv := rfl
@[simp] theorem replyLater_free (s : Block) (q : Req) (op st : Nat) (r : List Byte) (w : WaitOn) : (s.replyLater q op st r w).free = s.free := rfl

/-! ### nvmPut -/

@[simp] theorem nvmPut_regs (s : Block) (a : Nat) (l : List Byte) : (s.nvmPut a l).regs = s.regs := rfl
@[simp] theorem nvmPut_held (s : Block) (a : Nat) (l : List Byte) : (s.nvmPut a l).held = s.held := rfl
@[simp] theorem nvmPut_cmd (s : Block) (a : Nat) (l : List Byte) : (s.nvmPut a l).cmd = s.cmd := rfl
@[simp] theorem nvmPut_tw (s : Block) (a : Nat) (l : List Byte) : (s.nvmPut a l).tw = s.tw := rfl
@[simp] theorem nvmPut_evt (s : Block) (a : Nat) (l : List Byte) : (s.nvmPut a l).evt = s.evt := rfl
@[simp] theorem nvmPut_log (s : Block) (a : Nat) (l : List Byte) : (s.nvmPut a l).log = s.log := rfl
@[simp] theorem nvmPut_acc (s : Block) (a : Nat) (l : List Byte) : (s.nvmPut a l).acc = s.acc := rfl
@[simp] theorem nvmPut_pwr (s : Block) (a : Nat) (l : List Byte) : (s.nvmPut a l).pwr = s.pwr := rfl
@[simp] theorem nvmPut_flt (s : Block) (a : Nat) (l : List Byte) : (s.nvmPut a l).flt = s.flt := rfl
@[simp] theorem nvmPut_ks (s : Block) (a : Nat) (l : List Byte) : (s.nvmPut a l).ks = s.ks := rfl
@[simp] theorem nvmPut_ft (s : Block) (a : Nat) (l : List Byte) : (s.nvmPut a l).ft = s.ft := rfl
@[simp] theorem nvmPut_pix (s : Block) (a : Nat) (l : List Byte) : (s.nvmPut a l).pix = s.pix := rfl
@[simp] theorem nvmPut_cal (s : Block) (a : Nat) (l : List Byte) : (s.nvmPut a l).cal = s.cal := rfl
@[simp] theorem nvmPut_eng (s : Block) (a : Nat) (l : List Byte) : (s.nvmPut a l).eng = s.eng := rfl
@[simp] theorem nvmPut_mc (s : Block) (a : Nat) (l : List Byte) : (s.nvmPut a l).mc = s.mc := rfl
@[simp] theorem nvmPut_rcd (s : Block) (a : Nat) (l : List Byte) : (s.nvmPut a l).rcd = s.rcd := rfl
@[simp] theorem nvmPut_mon (s : Block) (a : Nat) (l : List Byte) : (s.nvmPut a l).mon = s.mon := rfl
@[simp] theorem nvmPut_stat (s : Block) (a : Nat) (l : List Byte) : (s.nvmPut a l).stat = s.stat := rfl
@[simp] theorem nvmPut_lk (s : Block) (a : Nat) (l : List Byte) : (s.nvmPut a l).lk = s.lk := rfl
@[simp] theorem nvmPut_fb (s : Block) (a : Nat) (l : List Byte) : (s.nvmPut a l).fb = s.fb := rfl
@[simp] theorem nvmPut_th (s : Block) (a : Nat) (l : List Byte) : (s.nvmPut a l).th = s.th := rfl
@[simp] theorem nvmPut_rsv (s : Block) (a : Nat) (l : List Byte) : (s.nvmPut a l).rsv = s.rsv := rfl
@[simp] theorem nvmPut_free (s : Block) (a : Nat) (l : List Byte) : (s.nvmPut a l).free = s.free := rfl

/-! ### nvmWord -/

@[simp] theorem nvmWord_regs (s : Block) (w : NvmWrite) : (s.nvmWord w).regs = s.regs := rfl
@[simp] theorem nvmWord_held (s : Block) (w : NvmWrite) : (s.nvmWord w).held = s.held := rfl
@[simp] theorem nvmWord_cmd (s : Block) (w : NvmWrite) : (s.nvmWord w).cmd = s.cmd := rfl
@[simp] theorem nvmWord_tw (s : Block) (w : NvmWrite) : (s.nvmWord w).tw = s.tw := rfl
@[simp] theorem nvmWord_evt (s : Block) (w : NvmWrite) : (s.nvmWord w).evt = s.evt := rfl
@[simp] theorem nvmWord_log (s : Block) (w : NvmWrite) : (s.nvmWord w).log = s.log := rfl
@[simp] theorem nvmWord_acc (s : Block) (w : NvmWrite) : (s.nvmWord w).acc = s.acc := rfl
@[simp] theorem nvmWord_pwr (s : Block) (w : NvmWrite) : (s.nvmWord w).pwr = s.pwr := rfl
@[simp] theorem nvmWord_flt (s : Block) (w : NvmWrite) : (s.nvmWord w).flt = s.flt := rfl
@[simp] theorem nvmWord_ks (s : Block) (w : NvmWrite) : (s.nvmWord w).ks = s.ks := rfl
@[simp] theorem nvmWord_ft (s : Block) (w : NvmWrite) : (s.nvmWord w).ft = s.ft := rfl
@[simp] theorem nvmWord_pix (s : Block) (w : NvmWrite) : (s.nvmWord w).pix = s.pix := rfl
@[simp] theorem nvmWord_cal (s : Block) (w : NvmWrite) : (s.nvmWord w).cal = s.cal := rfl
@[simp] theorem nvmWord_eng (s : Block) (w : NvmWrite) : (s.nvmWord w).eng = s.eng := rfl
@[simp] theorem nvmWord_mc (s : Block) (w : NvmWrite) : (s.nvmWord w).mc = s.mc := rfl
@[simp] theorem nvmWord_rcd (s : Block) (w : NvmWrite) : (s.nvmWord w).rcd = s.rcd := rfl
@[simp] theorem nvmWord_mon (s : Block) (w : NvmWrite) : (s.nvmWord w).mon = s.mon := rfl
@[simp] theorem nvmWord_stat (s : Block) (w : NvmWrite) : (s.nvmWord w).stat = s.stat := rfl
@[simp] theorem nvmWord_lk (s : Block) (w : NvmWrite) : (s.nvmWord w).lk = s.lk := rfl
@[simp] theorem nvmWord_fb (s : Block) (w : NvmWrite) : (s.nvmWord w).fb = s.fb := rfl
@[simp] theorem nvmWord_th (s : Block) (w : NvmWrite) : (s.nvmWord w).th = s.th := rfl
@[simp] theorem nvmWord_rsv (s : Block) (w : NvmWrite) : (s.nvmWord w).rsv = s.rsv := rfl
@[simp] theorem nvmWord_free (s : Block) (w : NvmWrite) : (s.nvmWord w).free = s.free := rfl

/-! ### syncLog -/

@[simp] theorem syncLog_held (s : Block) : (s.syncLog).held = s.held := rfl
@[simp] theorem syncLog_cmd (s : Block) : (s.syncLog).cmd = s.cmd := rfl
@[simp] theorem syncLog_tw (s : Block) : (s.syncLog).tw = s.tw := rfl
@[simp] theorem syncLog_evt (s : Block) : (s.syncLog).evt = s.evt := rfl
@[simp] theorem syncLog_log (s : Block) : (s.syncLog).log = s.log := rfl
@[simp] theorem syncLog_acc (s : Block) : (s.syncLog).acc = s.acc := rfl
@[simp] theorem syncLog_nvm (s : Block) : (s.syncLog).nvm = s.nvm := rfl
@[simp] theorem syncLog_pwr (s : Block) : (s.syncLog).pwr = s.pwr := rfl
@[simp] theorem syncLog_flt (s : Block) : (s.syncLog).flt = s.flt := rfl
@[simp] theorem syncLog_ks (s : Block) : (s.syncLog).ks = s.ks := rfl
@[simp] theorem syncLog_ft (s : Block) : (s.syncLog).ft = s.ft := rfl
@[simp] theorem syncLog_pix (s : Block) : (s.syncLog).pix = s.pix := rfl
@[simp] theorem syncLog_cal (s : Block) : (s.syncLog).cal = s.cal := rfl
@[simp] theorem syncLog_eng (s : Block) : (s.syncLog).eng = s.eng := rfl
@[simp] theorem syncLog_mc (s : Block) : (s.syncLog).mc = s.mc := rfl
@[simp] theorem syncLog_rcd (s : Block) : (s.syncLog).rcd = s.rcd := rfl
@[simp] theorem syncLog_mon (s : Block) : (s.syncLog).mon = s.mon := rfl
@[simp] theorem syncLog_stat (s : Block) : (s.syncLog).stat = s.stat := rfl
@[simp] theorem syncLog_lk (s : Block) : (s.syncLog).lk = s.lk := rfl
@[simp] theorem syncLog_fb (s : Block) : (s.syncLog).fb = s.fb := rfl
@[simp] theorem syncLog_th (s : Block) : (s.syncLog).th = s.th := rfl
@[simp] theorem syncLog_rsv (s : Block) : (s.syncLog).rsv = s.rsv := rfl
@[simp] theorem syncLog_free (s : Block) : (s.syncLog).free = s.free := rfl

/-! ### raiseAt -/

@[simp] theorem raiseAt_held (s : Block) (e : Nat) (t : Tick) : (s.raiseAt e t).held = s.held := by unfold Block.raiseAt; dsimp only; split <;> first | rfl | (split <;> rfl)
@[simp] theorem raiseAt_tw (s : Block) (e : Nat) (t : Tick) : (s.raiseAt e t).tw = s.tw := by unfold Block.raiseAt; dsimp only; split <;> first | rfl | (split <;> rfl)
@[simp] theorem raiseAt_log (s : Block) (e : Nat) (t : Tick) : (s.raiseAt e t).log = s.log := by unfold Block.raiseAt; dsimp only; split <;> first | rfl | (split <;> rfl)
@[simp] theorem raiseAt_acc (s : Block) (e : Nat) (t : Tick) : (s.raiseAt e t).acc = s.acc := by unfold Block.raiseAt; dsimp only; split <;> first | rfl | (split <;> rfl)
@[simp] theorem raiseAt_nvm (s : Block) (e : Nat) (t : Tick) : (s.raiseAt e t).nvm = s.nvm := by unfold Block.raiseAt; dsimp only; split <;> first | rfl | (split <;> rfl)
@[simp] theorem raiseAt_pwr (s : Block) (e : Nat) (t : Tick) : (s.raiseAt e t).pwr = s.pwr := by unfold Block.raiseAt; dsimp only; split <;> first | rfl | (split <;> rfl)
@[simp] theorem raiseAt_flt (s : Block) (e : Nat) (t : Tick) : (s.raiseAt e t).flt = s.flt := by unfold Block.raiseAt; dsimp only; split <;> first | rfl | (split <;> rfl)
@[simp] theorem raiseAt_ks (s : Block) (e : Nat) (t : Tick) : (s.raiseAt e t).ks = s.ks := by unfold Block.raiseAt; dsimp only; split <;> first | rfl | (split <;> rfl)
@[simp] theorem raiseAt_ft (s : Block) (e : Nat) (t : Tick) : (s.raiseAt e t).ft = s.ft := by unfold Block.raiseAt; dsimp only; split <;> first | rfl | (split <;> rfl)
@[simp] theorem raiseAt_pix (s : Block) (e : Nat) (t : Tick) : (s.raiseAt e t).pix = s.pix := by unfold Block.raiseAt; dsimp only; split <;> first | rfl | (split <;> rfl)
@[simp] theorem raiseAt_cal (s : Block) (e : Nat) (t : Tick) : (s.raiseAt e t).cal = s.cal := by unfold Block.raiseAt; dsimp only; split <;> first | rfl | (split <;> rfl)
@[simp] theorem raiseAt_eng (s : Block) (e : Nat) (t : Tick) : (s.raiseAt e t).eng = s.eng := by unfold Block.raiseAt; dsimp only; split <;> first | rfl | (split <;> rfl)
@[simp] theorem raiseAt_mc (s : Block) (e : Nat) (t : Tick) : (s.raiseAt e t).mc = s.mc := by unfold Block.raiseAt; dsimp only; split <;> first | rfl | (split <;> rfl)
@[simp] theorem raiseAt_rcd (s : Block) (e : Nat) (t : Tick) : (s.raiseAt e t).rcd = s.rcd := by unfold Block.raiseAt; dsimp only; split <;> first | rfl | (split <;> rfl)
@[simp] theorem raiseAt_mon (s : Block) (e : Nat) (t : Tick) : (s.raiseAt e t).mon = s.mon := by unfold Block.raiseAt; dsimp only; split <;> first | rfl | (split <;> rfl)
@[simp] theorem raiseAt_stat (s : Block) (e : Nat) (t : Tick) : (s.raiseAt e t).stat = s.stat := by unfold Block.raiseAt; dsimp only; split <;> first | rfl | (split <;> rfl)
@[simp] theorem raiseAt_lk (s : Block) (e : Nat) (t : Tick) : (s.raiseAt e t).lk = s.lk := by unfold Block.raiseAt; dsimp only; split <;> first | rfl | (split <;> rfl)
@[simp] theorem raiseAt_fb (s : Block) (e : Nat) (t : Tick) : (s.raiseAt e t).fb = s.fb := by unfold Block.raiseAt; dsimp only; split <;> first | rfl | (split <;> rfl)
@[simp] theorem raiseAt_th (s : Block) (e : Nat) (t : Tick) : (s.raiseAt e t).th = s.th := by unfold Block.raiseAt; dsimp only; split <;> first | rfl | (split <;> rfl)
@[simp] theorem raiseAt_rsv (s : Block) (e : Nat) (t : Tick) : (s.raiseAt e t).rsv = s.rsv := by unfold Block.raiseAt; dsimp only; split <;> first | rfl | (split <;> rfl)
@[simp] theorem raiseAt_free (s : Block) (e : Nat) (t : Tick) : (s.raiseAt e t).free = s.free := by unfold Block.raiseAt; dsimp only; split <;> first | rfl | (split <;> rfl)

/-! ### raise -/

@[simp] theorem raise_held (s : Block) (e : Nat) : (s.raise e).held = s.held := by simp [Block.raise]
@[simp] theorem raise_tw (s : Block) (e : Nat) : (s.raise e).tw = s.tw := by simp [Block.raise]
@[simp] theorem raise_log (s : Block) (e : Nat) : (s.raise e).log = s.log := by simp [Block.raise]
@[simp] theorem raise_acc (s : Block) (e : Nat) : (s.raise e).acc = s.acc := by simp [Block.raise]
@[simp] theorem raise_nvm (s : Block) (e : Nat) : (s.raise e).nvm = s.nvm := by simp [Block.raise]
@[simp] theorem raise_pwr (s : Block) (e : Nat) : (s.raise e).pwr = s.pwr := by simp [Block.raise]
@[simp] theorem raise_flt (s : Block) (e : Nat) : (s.raise e).flt = s.flt := by simp [Block.raise]
@[simp] theorem raise_ks (s : Block) (e : Nat) : (s.raise e).ks = s.ks := by simp [Block.raise]
@[simp] theorem raise_ft (s : Block) (e : Nat) : (s.raise e).ft = s.ft := by simp [Block.raise]
@[simp] theorem raise_pix (s : Block) (e : Nat) : (s.raise e).pix = s.pix := by simp [Block.raise]
@[simp] theorem raise_cal (s : Block) (e : Nat) : (s.raise e).cal = s.cal := by simp [Block.raise]
@[simp] theorem raise_eng (s : Block) (e : Nat) : (s.raise e).eng = s.eng := by simp [Block.raise]
@[simp] theorem raise_mc (s : Block) (e : Nat) : (s.raise e).mc = s.mc := by simp [Block.raise]
@[simp] theorem raise_rcd (s : Block) (e : Nat) : (s.raise e).rcd = s.rcd := by simp [Block.raise]
@[simp] theorem raise_mon (s : Block) (e : Nat) : (s.raise e).mon = s.mon := by simp [Block.raise]
@[simp] theorem raise_stat (s : Block) (e : Nat) : (s.raise e).stat = s.stat := by simp [Block.raise]
@[simp] theorem raise_lk (s : Block) (e : Nat) : (s.raise e).lk = s.lk := by simp [Block.raise]
@[simp] theorem raise_fb (s : Block) (e : Nat) : (s.raise e).fb = s.fb := by simp [Block.raise]
@[simp] theorem raise_th (s : Block) (e : Nat) : (s.raise e).th = s.th := by simp [Block.raise]
@[simp] theorem raise_rsv (s : Block) (e : Nat) : (s.raise e).rsv = s.rsv := by simp [Block.raise]
@[simp] theorem raise_free (s : Block) (e : Nat) : (s.raise e).free = s.free := by simp [Block.raise]

/-! ### setLive -/

@[simp] theorem setLive_held (s : Block) (e : Nat) (b : Bool) : (s.setLive e b).held = s.held := by unfold Block.setLive; dsimp only; split <;> simp
@[simp] theorem setLive_tw (s : Block) (e : Nat) (b : Bool) : (s.setLive e b).tw = s.tw := by unfold Block.setLive; dsimp only; split <;> simp
@[simp] theorem setLive_log (s : Block) (e : Nat) (b : Bool) : (s.setLive e b).log = s.log := by unfold Block.setLive; dsimp only; split <;> simp
@[simp] theorem setLive_acc (s : Block) (e : Nat) (b : Bool) : (s.setLive e b).acc = s.acc := by unfold Block.setLive; dsimp only; split <;> simp
@[simp] theorem setLive_nvm (s : Block) (e : Nat) (b : Bool) : (s.setLive e b).nvm = s.nvm := by unfold Block.setLive; dsimp only; split <;> simp
@[simp] theorem setLive_pwr (s : Block) (e : Nat) (b : Bool) : (s.setLive e b).pwr = s.pwr := by unfold Block.setLive; dsimp only; split <;> simp
@[simp] theorem setLive_flt (s : Block) (e : Nat) (b : Bool) : (s.setLive e b).flt = s.flt := by unfold Block.setLive; dsimp only; split <;> simp
@[simp] theorem setLive_ks (s : Block) (e : Nat) (b : Bool) : (s.setLive e b).ks = s.ks := by unfold Block.setLive; dsimp only; split <;> simp
@[simp] theorem setLive_ft (s : Block) (e : Nat) (b : Bool) : (s.setLive e b).ft = s.ft := by unfold Block.setLive; dsimp only; split <;> simp
@[simp] theorem setLive_pix (s : Block) (e : Nat) (b : Bool) : (s.setLive e b).pix = s.pix := by unfold Block.setLive; dsimp only; split <;> simp
@[simp] theorem setLive_cal (s : Block) (e : Nat) (b : Bool) : (s.setLive e b).cal = s.cal := by unfold Block.setLive; dsimp only; split <;> simp
@[simp] theorem setLive_eng (s : Block) (e : Nat) (b : Bool) : (s.setLive e b).eng = s.eng := by unfold Block.setLive; dsimp only; split <;> simp
@[simp] theorem setLive_mc (s : Block) (e : Nat) (b : Bool) : (s.setLive e b).mc = s.mc := by unfold Block.setLive; dsimp only; split <;> simp
@[simp] theorem setLive_rcd (s : Block) (e : Nat) (b : Bool) : (s.setLive e b).rcd = s.rcd := by unfold Block.setLive; dsimp only; split <;> simp
@[simp] theorem setLive_mon (s : Block) (e : Nat) (b : Bool) : (s.setLive e b).mon = s.mon := by unfold Block.setLive; dsimp only; split <;> simp
@[simp] theorem setLive_stat (s : Block) (e : Nat) (b : Bool) : (s.setLive e b).stat = s.stat := by unfold Block.setLive; dsimp only; split <;> simp
@[simp] theorem setLive_lk (s : Block) (e : Nat) (b : Bool) : (s.setLive e b).lk = s.lk := by unfold Block.setLive; dsimp only; split <;> simp
@[simp] theorem setLive_fb (s : Block) (e : Nat) (b : Bool) : (s.setLive e b).fb = s.fb := by unfold Block.setLive; dsimp only; split <;> simp
@[simp] theorem setLive_th (s : Block) (e : Nat) (b : Bool) : (s.setLive e b).th = s.th := by unfold Block.setLive; dsimp only; split <;> simp
@[simp] theorem setLive_rsv (s : Block) (e : Nat) (b : Bool) : (s.setLive e b).rsv = s.rsv := by unfold Block.setLive; dsimp only; split <;> simp
@[simp] theorem setLive_free (s : Block) (e : Nat) (b : Bool) : (s.setLive e b).free = s.free := by unfold Block.setLive; dsimp only; split <;> simp

/-! ### cairnAt -/

@[simp] theorem cairnAt_held (s : Block) (t : Tick) (o k a : Nat) (x y : Word) : (s.cairnAt t o k a x y).held = s.held := by unfold Block.cairnAt; dsimp only; split <;> first | rfl | (split <;> rfl)
@[simp] theorem cairnAt_cmd (s : Block) (t : Tick) (o k a : Nat) (x y : Word) : (s.cairnAt t o k a x y).cmd = s.cmd := by unfold Block.cairnAt; dsimp only; split <;> first | rfl | (split <;> rfl)
@[simp] theorem cairnAt_tw (s : Block) (t : Tick) (o k a : Nat) (x y : Word) : (s.cairnAt t o k a x y).tw = s.tw := by unfold Block.cairnAt; dsimp only; split <;> first | rfl | (split <;> rfl)
@[simp] theorem cairnAt_evt (s : Block) (t : Tick) (o k a : Nat) (x y : Word) : (s.cairnAt t o k a x y).evt = s.evt := by unfold Block.cairnAt; dsimp only; split <;> first | rfl | (split <;> rfl)
@[simp] theorem cairnAt_acc (s : Block) (t : Tick) (o k a : Nat) (x y : Word) : (s.cairnAt t o k a x y).acc = s.acc := by unfold Block.cairnAt; dsimp only; split <;> first | rfl | (split <;> rfl)
@[simp] theorem cairnAt_nvm (s : Block) (t : Tick) (o k a : Nat) (x y : Word) : (s.cairnAt t o k a x y).nvm = s.nvm := by unfold Block.cairnAt; dsimp only; split <;> first | rfl | (split <;> rfl)
@[simp] theorem cairnAt_pwr (s : Block) (t : Tick) (o k a : Nat) (x y : Word) : (s.cairnAt t o k a x y).pwr = s.pwr := by unfold Block.cairnAt; dsimp only; split <;> first | rfl | (split <;> rfl)
@[simp] theorem cairnAt_flt (s : Block) (t : Tick) (o k a : Nat) (x y : Word) : (s.cairnAt t o k a x y).flt = s.flt := by unfold Block.cairnAt; dsimp only; split <;> first | rfl | (split <;> rfl)
@[simp] theorem cairnAt_ks (s : Block) (t : Tick) (o k a : Nat) (x y : Word) : (s.cairnAt t o k a x y).ks = s.ks := by unfold Block.cairnAt; dsimp only; split <;> first | rfl | (split <;> rfl)
@[simp] theorem cairnAt_ft (s : Block) (t : Tick) (o k a : Nat) (x y : Word) : (s.cairnAt t o k a x y).ft = s.ft := by unfold Block.cairnAt; dsimp only; split <;> first | rfl | (split <;> rfl)
@[simp] theorem cairnAt_pix (s : Block) (t : Tick) (o k a : Nat) (x y : Word) : (s.cairnAt t o k a x y).pix = s.pix := by unfold Block.cairnAt; dsimp only; split <;> first | rfl | (split <;> rfl)
@[simp] theorem cairnAt_cal (s : Block) (t : Tick) (o k a : Nat) (x y : Word) : (s.cairnAt t o k a x y).cal = s.cal := by unfold Block.cairnAt; dsimp only; split <;> first | rfl | (split <;> rfl)
@[simp] theorem cairnAt_eng (s : Block) (t : Tick) (o k a : Nat) (x y : Word) : (s.cairnAt t o k a x y).eng = s.eng := by unfold Block.cairnAt; dsimp only; split <;> first | rfl | (split <;> rfl)
@[simp] theorem cairnAt_mc (s : Block) (t : Tick) (o k a : Nat) (x y : Word) : (s.cairnAt t o k a x y).mc = s.mc := by unfold Block.cairnAt; dsimp only; split <;> first | rfl | (split <;> rfl)
@[simp] theorem cairnAt_rcd (s : Block) (t : Tick) (o k a : Nat) (x y : Word) : (s.cairnAt t o k a x y).rcd = s.rcd := by unfold Block.cairnAt; dsimp only; split <;> first | rfl | (split <;> rfl)
@[simp] theorem cairnAt_mon (s : Block) (t : Tick) (o k a : Nat) (x y : Word) : (s.cairnAt t o k a x y).mon = s.mon := by unfold Block.cairnAt; dsimp only; split <;> first | rfl | (split <;> rfl)
@[simp] theorem cairnAt_stat (s : Block) (t : Tick) (o k a : Nat) (x y : Word) : (s.cairnAt t o k a x y).stat = s.stat := by unfold Block.cairnAt; dsimp only; split <;> first | rfl | (split <;> rfl)
@[simp] theorem cairnAt_lk (s : Block) (t : Tick) (o k a : Nat) (x y : Word) : (s.cairnAt t o k a x y).lk = s.lk := by unfold Block.cairnAt; dsimp only; split <;> first | rfl | (split <;> rfl)
@[simp] theorem cairnAt_fb (s : Block) (t : Tick) (o k a : Nat) (x y : Word) : (s.cairnAt t o k a x y).fb = s.fb := by unfold Block.cairnAt; dsimp only; split <;> first | rfl | (split <;> rfl)
@[simp] theorem cairnAt_th (s : Block) (t : Tick) (o k a : Nat) (x y : Word) : (s.cairnAt t o k a x y).th = s.th := by unfold Block.cairnAt; dsimp only; split <;> first | rfl | (split <;> rfl)
@[simp] theorem cairnAt_rsv (s : Block) (t : Tick) (o k a : Nat) (x y : Word) : (s.cairnAt t o k a x y).rsv = s.rsv := by unfold Block.cairnAt; dsimp only; split <;> first | rfl | (split <;> rfl)
@[simp] theorem cairnAt_free (s : Block) (t : Tick) (o k a : Nat) (x y : Word) : (s.cairnAt t o k a x y).free = s.free := by unfold Block.cairnAt; dsimp only; split <;> first | rfl | (split <;> rfl)

/-! ### cairn -/

@[simp] theorem cairn_held (s : Block) (o k a : Nat) (x y : Word) : (s.cairn o k a x y).held = s.held := by simp [Block.cairn]
@[simp] theorem cairn_cmd (s : Block) (o k a : Nat) (x y : Word) : (s.cairn o k a x y).cmd = s.cmd := by simp [Block.cairn]
@[simp] theorem cairn_tw (s : Block) (o k a : Nat) (x y : Word) : (s.cairn o k a x y).tw = s.tw := by simp [Block.cairn]
@[simp] theorem cairn_evt (s : Block) (o k a : Nat) (x y : Word) : (s.cairn o k a x y).evt = s.evt := by simp [Block.cairn]
@[simp] theorem cairn_acc (s : Block) (o k a : Nat) (x y : Word) : (s.cairn o k a x y).acc = s.acc := by simp [Block.cairn]
@[simp] theorem cairn_nvm (s : Block) (o k a : Nat) (x y : Word) : (s.cairn o k a x y).nvm = s.nvm := by simp [Block.cairn]
@[simp] theorem cairn_pwr (s : Block) (o k a : Nat) (x y : Word) : (s.cairn o k a x y).pwr = s.pwr := by simp [Block.cairn]
@[simp] theorem cairn_flt (s : Block) (o k a : Nat) (x y : Word) : (s.cairn o k a x y).flt = s.flt := by simp [Block.cairn]
@[simp] theorem cairn_ks (s : Block) (o k a : Nat) (x y : Word) : (s.cairn o k a x y).ks = s.ks := by simp [Block.cairn]
@[simp] theorem cairn_ft (s : Block) (o k a : Nat) (x y : Word) : (s.cairn o k a x y).ft = s.ft := by simp [Block.cairn]
@[simp] theorem cairn_pix (s : Block) (o k a : Nat) (x y : Word) : (s.cairn o k a x y).pix = s.pix := by simp [Block.cairn]
@[simp] theorem cairn_cal (s : Block) (o k a : Nat) (x y : Word) : (s.cairn o k a x y).cal = s.cal := by simp [Block.cairn]
@[simp] theorem cairn_eng (s : Block) (o k a : Nat) (x y : Word) : (s.cairn o k a x y).eng = s.eng := by simp [Block.cairn]
@[simp] theorem cairn_mc (s : Block) (o k a : Nat) (x y : Word) : (s.cairn o k a x y).mc = s.mc := by simp [Block.cairn]
@[simp] theorem cairn_rcd (s : Block) (o k a : Nat) (x y : Word) : (s.cairn o k a x y).rcd = s.rcd := by simp [Block.cairn]
@[simp] theorem cairn_mon (s : Block) (o k a : Nat) (x y : Word) : (s.cairn o k a x y).mon = s.mon := by simp [Block.cairn]
@[simp] theorem cairn_stat (s : Block) (o k a : Nat) (x y : Word) : (s.cairn o k a x y).stat = s.stat := by simp [Block.cairn]
@[simp] theorem cairn_lk (s : Block) (o k a : Nat) (x y : Word) : (s.cairn o k a x y).lk = s.lk := by simp [Block.cairn]
@[simp] theorem cairn_fb (s : Block) (o k a : Nat) (x y : Word) : (s.cairn o k a x y).fb = s.fb := by simp [Block.cairn]
@[simp] theorem cairn_th (s : Block) (o k a : Nat) (x y : Word) : (s.cairn o k a x y).th = s.th := by simp [Block.cairn]
@[simp] theorem cairn_rsv (s : Block) (o k a : Nat) (x y : Word) : (s.cairn o k a x y).rsv = s.rsv := by simp [Block.cairn]
@[simp] theorem cairn_free (s : Block) (o k a : Nat) (x y : Word) : (s.cairn o k a x y).free = s.free := by simp [Block.cairn]

/-! ### cairnN -/

@[simp] theorem cairnN_held (s : Block) (o k a x y : Nat) : (s.cairnN o k a x y).held = s.held := by simp [Block.cairnN]
@[simp] theorem cairnN_cmd (s : Block) (o k a x y : Nat) : (s.cairnN o k a x y).cmd = s.cmd := by simp [Block.cairnN]
@[simp] theorem cairnN_tw (s : Block) (o k a x y : Nat) : (s.cairnN o k a x y).tw = s.tw := by simp [Block.cairnN]
@[simp] theorem cairnN_evt (s : Block) (o k a x y : Nat) : (s.cairnN o k a x y).evt = s.evt := by simp [Block.cairnN]
@[simp] theorem cairnN_acc (s : Block) (o k a x y : Nat) : (s.cairnN o k a x y).acc = s.acc := by simp [Block.cairnN]
@[simp] theorem cairnN_nvm (s : Block) (o k a x y : Nat) : (s.cairnN o k a x y).nvm = s.nvm := by simp [Block.cairnN]
@[simp] theorem cairnN_pwr (s : Block) (o k a x y : Nat) : (s.cairnN o k a x y).pwr = s.pwr := by simp [Block.cairnN]
@[simp] theorem cairnN_flt (s : Block) (o k a x y : Nat) : (s.cairnN o k a x y).flt = s.flt := by simp [Block.cairnN]
@[simp] theorem cairnN_ks (s : Block) (o k a x y : Nat) : (s.cairnN o k a x y).ks = s.ks := by simp [Block.cairnN]
@[simp] theorem cairnN_ft (s : Block) (o k a x y : Nat) : (s.cairnN o k a x y).ft = s.ft := by simp [Block.cairnN]
@[simp] theorem cairnN_pix (s : Block) (o k a x y : Nat) : (s.cairnN o k a x y).pix = s.pix := by simp [Block.cairnN]
@[simp] theorem cairnN_cal (s : Block) (o k a x y : Nat) : (s.cairnN o k a x y).cal = s.cal := by simp [Block.cairnN]
@[simp] theorem cairnN_eng (s : Block) (o k a x y : Nat) : (s.cairnN o k a x y).eng = s.eng := by simp [Block.cairnN]
@[simp] theorem cairnN_mc (s : Block) (o k a x y : Nat) : (s.cairnN o k a x y).mc = s.mc := by simp [Block.cairnN]
@[simp] theorem cairnN_rcd (s : Block) (o k a x y : Nat) : (s.cairnN o k a x y).rcd = s.rcd := by simp [Block.cairnN]
@[simp] theorem cairnN_mon (s : Block) (o k a x y : Nat) : (s.cairnN o k a x y).mon = s.mon := by simp [Block.cairnN]
@[simp] theorem cairnN_stat (s : Block) (o k a x y : Nat) : (s.cairnN o k a x y).stat = s.stat := by simp [Block.cairnN]
@[simp] theorem cairnN_lk (s : Block) (o k a x y : Nat) : (s.cairnN o k a x y).lk = s.lk := by simp [Block.cairnN]
@[simp] theorem cairnN_fb (s : Block) (o k a x y : Nat) : (s.cairnN o k a x y).fb = s.fb := by simp [Block.cairnN]
@[simp] theorem cairnN_th (s : Block) (o k a x y : Nat) : (s.cairnN o k a x y).th = s.th := by simp [Block.cairnN]
@[simp] theorem cairnN_rsv (s : Block) (o k a x y : Nat) : (s.cairnN o k a x y).rsv = s.rsv := by simp [Block.cairnN]
@[simp] theorem cairnN_free (s : Block) (o k a x y : Nat) : (s.cairnN o k a x y).free = s.free := by simp [Block.cairnN]

/-! ### policyCairn -/

@[simp] theorem policyCairn_held (s : Block) (c k a x y : Nat) : (s.policyCairn c k a x y).held = s.held := by simp [Block.policyCairn]
@[simp] theorem policyCairn_cmd (s : Block) (c k a x y : Nat) : (s.policyCairn c k a x y).cmd = s.cmd := by simp [Block.policyCairn]
@[simp] theorem policyCairn_tw (s : Block) (c k a x y : Nat) : (s.policyCairn c k a x y).tw = s.tw := by simp [Block.policyCairn]
@[simp] theorem policyCairn_evt (s : Block) (c k a x y : Nat) : (s.policyCairn c k a x y).evt = s.evt := by simp [Block.policyCairn]
@[simp] theorem policyCairn_acc (s : Block) (c k a x y : Nat) : (s.policyCairn c k a x y).acc = s.acc := by simp [Block.policyCairn]
@[simp] theorem policyCairn_nvm (s : Block) (c k a x y : Nat) : (s.policyCairn c k a x y).nvm = s.nvm := by simp [Block.policyCairn]
@[simp] theorem policyCairn_pwr (s : Block) (c k a x y : Nat) : (s.policyCairn c k a x y).pwr = s.pwr := by simp [Block.policyCairn]
@[simp] theorem policyCairn_flt (s : Block) (c k a x y : Nat) : (s.policyCairn c k a x y).flt = s.flt := by simp [Block.policyCairn]
@[simp] theorem policyCairn_ks (s : Block) (c k a x y : Nat) : (s.policyCairn c k a x y).ks = s.ks := by simp [Block.policyCairn]
@[simp] theorem policyCairn_ft (s : Block) (c k a x y : Nat) : (s.policyCairn c k a x y).ft = s.ft := by simp [Block.policyCairn]
@[simp] theorem policyCairn_pix (s : Block) (c k a x y : Nat) : (s.policyCairn c k a x y).pix = s.pix := by simp [Block.policyCairn]
@[simp] theorem policyCairn_cal (s : Block) (c k a x y : Nat) : (s.policyCairn c k a x y).cal = s.cal := by simp [Block.policyCairn]
@[simp] theorem policyCairn_eng (s : Block) (c k a x y : Nat) : (s.policyCairn c k a x y).eng = s.eng := by simp [Block.policyCairn]
@[simp] theorem policyCairn_mc (s : Block) (c k a x y : Nat) : (s.policyCairn c k a x y).mc = s.mc := by simp [Block.policyCairn]
@[simp] theorem policyCairn_rcd (s : Block) (c k a x y : Nat) : (s.policyCairn c k a x y).rcd = s.rcd := by simp [Block.policyCairn]
@[simp] theorem policyCairn_mon (s : Block) (c k a x y : Nat) : (s.policyCairn c k a x y).mon = s.mon := by simp [Block.policyCairn]
@[simp] theorem policyCairn_stat (s : Block) (c k a x y : Nat) : (s.policyCairn c k a x y).stat = s.stat := by simp [Block.policyCairn]
@[simp] theorem policyCairn_lk (s : Block) (c k a x y : Nat) : (s.policyCairn c k a x y).lk = s.lk := by simp [Block.policyCairn]
@[simp] theorem policyCairn_fb (s : Block) (c k a x y : Nat) : (s.policyCairn c k a x y).fb = s.fb := by simp [Block.policyCairn]
@[simp] theorem policyCairn_th (s : Block) (c k a x y : Nat) : (s.policyCairn c k a x y).th = s.th := by simp [Block.policyCairn]
@[simp] theorem policyCairn_rsv (s : Block) (c k a x y : Nat) : (s.policyCairn c k a x y).rsv = s.rsv := by simp [Block.policyCairn]
@[simp] theorem policyCairn_free (s : Block) (c k a x y : Nat) : (s.policyCairn c k a x y).free = s.free := by simp [Block.policyCairn]

/-! ### shadowSet -/

@[simp] theorem shadowSet_cmd (s : Block) (a : Nat) (w : Word) : (s.shadowSet a w).cmd = s.cmd := by unfold Block.shadowSet; dsimp only; (repeat' split) <;> rfl
@[simp] theorem shadowSet_tw (s : Block) (a : Nat) (w : Word) : (s.shadowSet a w).tw = s.tw := by unfold Block.shadowSet; dsimp only; (repeat' split) <;> rfl
@[simp] theorem shadowSet_evt (s : Block) (a : Nat) (w : Word) : (s.shadowSet a w).evt = s.evt := by unfold Block.shadowSet; dsimp only; (repeat' split) <;> rfl
@[simp] theorem shadowSet_log (s : Block) (a : Nat) (w : Word) : (s.shadowSet a w).log = s.log := by unfold Block.shadowSet; dsimp only; (repeat' split) <;> rfl
@[simp] theorem shadowSet_acc (s : Block) (a : Nat) (w : Word) : (s.shadowSet a w).acc = s.acc := by unfold Block.shadowSet; dsimp only; (repeat' split) <;> rfl
@[simp] theorem shadowSet_nvm (s : Block) (a : Nat) (w : Word) : (s.shadowSet a w).nvm = s.nvm := by unfold Block.shadowSet; dsimp only; (repeat' split) <;> rfl
@[simp] theorem shadowSet_pwr (s : Block) (a : Nat) (w : Word) : (s.shadowSet a w).pwr = s.pwr := by unfold Block.shadowSet; dsimp only; (repeat' split) <;> rfl
@[simp] theorem shadowSet_flt (s : Block) (a : Nat) (w : Word) : (s.shadowSet a w).flt = s.flt := by unfold Block.shadowSet; dsimp only; (repeat' split) <;> rfl
@[simp] theorem shadowSet_ks (s : Block) (a : Nat) (w : Word) : (s.shadowSet a w).ks = s.ks := by unfold Block.shadowSet; dsimp only; (repeat' split) <;> rfl
@[simp] theorem shadowSet_ft (s : Block) (a : Nat) (w : Word) : (s.shadowSet a w).ft = s.ft := by unfold Block.shadowSet; dsimp only; (repeat' split) <;> rfl
@[simp] theorem shadowSet_pix (s : Block) (a : Nat) (w : Word) : (s.shadowSet a w).pix = s.pix := by unfold Block.shadowSet; dsimp only; (repeat' split) <;> rfl
@[simp] theorem shadowSet_cal (s : Block) (a : Nat) (w : Word) : (s.shadowSet a w).cal = s.cal := by unfold Block.shadowSet; dsimp only; (repeat' split) <;> rfl
@[simp] theorem shadowSet_eng (s : Block) (a : Nat) (w : Word) : (s.shadowSet a w).eng = s.eng := by unfold Block.shadowSet; dsimp only; (repeat' split) <;> rfl
@[simp] theorem shadowSet_mc (s : Block) (a : Nat) (w : Word) : (s.shadowSet a w).mc = s.mc := by unfold Block.shadowSet; dsimp only; (repeat' split) <;> rfl
@[simp] theorem shadowSet_rcd (s : Block) (a : Nat) (w : Word) : (s.shadowSet a w).rcd = s.rcd := by unfold Block.shadowSet; dsimp only; (repeat' split) <;> rfl
@[simp] theorem shadowSet_mon (s : Block) (a : Nat) (w : Word) : (s.shadowSet a w).mon = s.mon := by unfold Block.shadowSet; dsimp only; (repeat' split) <;> rfl
@[simp] theorem shadowSet_stat (s : Block) (a : Nat) (w : Word) : (s.shadowSet a w).stat = s.stat := by unfold Block.shadowSet; dsimp only; (repeat' split) <;> rfl
@[simp] theorem shadowSet_lk (s : Block) (a : Nat) (w : Word) : (s.shadowSet a w).lk = s.lk := by unfold Block.shadowSet; dsimp only; (repeat' split) <;> rfl
@[simp] theorem shadowSet_fb (s : Block) (a : Nat) (w : Word) : (s.shadowSet a w).fb = s.fb := by unfold Block.shadowSet; dsimp only; (repeat' split) <;> rfl
@[simp] theorem shadowSet_th (s : Block) (a : Nat) (w : Word) : (s.shadowSet a w).th = s.th := by unfold Block.shadowSet; dsimp only; (repeat' split) <;> rfl
@[simp] theorem shadowSet_rsv (s : Block) (a : Nat) (w : Word) : (s.shadowSet a w).rsv = s.rsv := by unfold Block.shadowSet; dsimp only; (repeat' split) <;> rfl
@[simp] theorem shadowSet_free (s : Block) (a : Nat) (w : Word) : (s.shadowSet a w).free = s.free := by unfold Block.shadowSet; dsimp only; (repeat' split) <;> rfl

/-! ### regCairn -/

@[simp] theorem regCairn_cmd (s : Block) (o a : Nat) (w : Word) : (s.regCairn o a w).cmd = s.cmd := by unfold Block.regCairn; split <;> simp
@[simp] theorem regCairn_tw (s : Block) (o a : Nat) (w : Word) : (s.regCairn o a w).tw = s.tw := by unfold Block.regCairn; split <;> simp
@[simp] theorem regCairn_evt (s : Block) (o a : Nat) (w : Word) : (s.regCairn o a w).evt = s.evt := by unfold Block.regCairn; split <;> simp
@[simp] theorem regCairn_acc (s : Block) (o a : Nat) (w : Word) : (s.regCairn o a w).acc = s.acc := by unfold Block.regCairn; split <;> simp
@[simp] theorem regCairn_nvm (s : Block) (o a : Nat) (w : Word) : (s.regCairn o a w).nvm = s.nvm := by unfold Block.regCairn; split <;> simp
@[simp] theorem regCairn_pwr (s : Block) (o a : Nat) (w : Word) : (s.regCairn o a w).pwr = s.pwr := by unfold Block.regCairn; split <;> simp
@[simp] theorem regCairn_flt (s : Block) (o a : Nat) (w : Word) : (s.regCairn o a w).flt = s.flt := by unfold Block.regCairn; split <;> simp
@[simp] theorem regCairn_ks (s : Block) (o a : Nat) (w : Word) : (s.regCairn o a w).ks = s.ks := by unfold Block.regCairn; split <;> simp
@[simp] theorem regCairn_ft (s : Block) (o a : Nat) (w : Word) : (s.regCairn o a w).ft = s.ft := by unfold Block.regCairn; split <;> simp
@[simp] theorem regCairn_pix (s : Block) (o a : Nat) (w : Word) : (s.regCairn o a w).pix = s.pix := by unfold Block.regCairn; split <;> simp
@[simp] theorem regCairn_cal (s : Block) (o a : Nat) (w : Word) : (s.regCairn o a w).cal = s.cal := by unfold Block.regCairn; split <;> simp
@[simp] theorem regCairn_eng (s : Block) (o a : Nat) (w : Word) : (s.regCairn o a w).eng = s.eng := by unfold Block.regCairn; split <;> simp
@[simp] theorem regCairn_mc (s : Block) (o a : Nat) (w : Word) : (s.regCairn o a w).mc = s.mc := by unfold Block.regCairn; split <;> simp
@[simp] theorem regCairn_rcd (s : Block) (o a : Nat) (w : Word) : (s.regCairn o a w).rcd = s.rcd := by unfold Block.regCairn; split <;> simp
@[simp] theorem regCairn_mon (s : Block) (o a : Nat) (w : Word) : (s.regCairn o a w).mon = s.mon := by unfold Block.regCairn; split <;> simp
@[simp] theorem regCairn_stat (s : Block) (o a : Nat) (w : Word) : (s.regCairn o a w).stat = s.stat := by unfold Block.regCairn; split <;> simp
@[simp] theorem regCairn_lk (s : Block) (o a : Nat) (w : Word) : (s.regCairn o a w).lk = s.lk := by unfold Block.regCairn; split <;> simp
@[simp] theorem regCairn_fb (s : Block) (o a : Nat) (w : Word) : (s.regCairn o a w).fb = s.fb := by unfold Block.regCairn; split <;> simp
@[simp] theorem regCairn_th (s : Block) (o a : Nat) (w : Word) : (s.regCairn o a w).th = s.th := by unfold Block.regCairn; split <;> simp
@[simp] theorem regCairn_rsv (s : Block) (o a : Nat) (w : Word) : (s.regCairn o a w).rsv = s.rsv := by unfold Block.regCairn; split <;> simp
@[simp] theorem regCairn_free (s : Block) (o a : Nat) (w : Word) : (s.regCairn o a w).free = s.free := by unfold Block.regCairn; split <;> simp

/-! ### deliver -/

@[simp] theorem deliver_regs (s : Block) (r : Reply) : (s.deliver r).regs = s.regs := by unfold Block.deliver; split <;> rfl
@[simp] theorem deliver_held (s : Block) (r : Reply) : (s.deliver r).held = s.held := by unfold Block.deliver; split <;> rfl
@[simp] theorem deliver_cmd (s : Block) (r : Reply) : (s.deliver r).cmd = s.cmd := by unfold Block.deliver; split <;> rfl
@[simp] theorem deliver_evt (s : Block) (r : Reply) : (s.deliver r).evt = s.evt := by unfold Block.deliver; split <;> rfl
@[simp] theorem deliver_log (s : Block) (r : Reply) : (s.deliver r).log = s.log := by unfold Block.deliver; split <;> rfl
@[simp] theorem deliver_acc (s : Block) (r : Reply) : (s.deliver r).acc = s.acc := by unfold Block.deliver; split <;> rfl
@[simp] theorem deliver_nvm (s : Block) (r : Reply) : (s.deliver r).nvm = s.nvm := by unfold Block.deliver; split <;> rfl
@[simp] theorem deliver_pwr (s : Block) (r : Reply) : (s.deliver r).pwr = s.pwr := by unfold Block.deliver; split <;> rfl
@[simp] theorem deliver_flt (s : Block) (r : Reply) : (s.deliver r).flt = s.flt := by unfold Block.deliver; split <;> rfl
@[simp] theorem deliver_ks (s : Block) (r : Reply) : (s.deliver r).ks = s.ks := by unfold Block.deliver; split <;> rfl
@[simp] theorem deliver_ft (s : Block) (r : Reply) : (s.deliver r).ft = s.ft := by unfold Block.deliver; split <;> rfl
@[simp] theorem deliver_pix (s : Block) (r : Reply) : (s.deliver r).pix = s.pix := by unfold Block.deliver; split <;> rfl
@[simp] theorem deliver_cal (s : Block) (r : Reply) : (s.deliver r).cal = s.cal := by unfold Block.deliver; split <;> rfl
@[simp] theorem deliver_eng (s : Block) (r : Reply) : (s.deliver r).eng = s.eng := by unfold Block.deliver; split <;> rfl
@[simp] theorem deliver_mc (s : Block) (r : Reply) : (s.deliver r).mc = s.mc := by unfold Block.deliver; split <;> rfl
@[simp] theorem deliver_rcd (s : Block) (r : Reply) : (s.deliver r).rcd = s.rcd := by unfold Block.deliver; split <;> rfl
@[simp] theorem deliver_mon (s : Block) (r : Reply) : (s.deliver r).mon = s.mon := by unfold Block.deliver; split <;> rfl
@[simp] theorem deliver_stat (s : Block) (r : Reply) : (s.deliver r).stat = s.stat := by unfold Block.deliver; split <;> rfl
@[simp] theorem deliver_lk (s : Block) (r : Reply) : (s.deliver r).lk = s.lk := by unfold Block.deliver; split <;> rfl
@[simp] theorem deliver_fb (s : Block) (r : Reply) : (s.deliver r).fb = s.fb := by unfold Block.deliver; split <;> rfl
@[simp] theorem deliver_th (s : Block) (r : Reply) : (s.deliver r).th = s.th := by unfold Block.deliver; split <;> rfl
@[simp] theorem deliver_rsv (s : Block) (r : Reply) : (s.deliver r).rsv = s.rsv := by unfold Block.deliver; split <;> rfl
@[simp] theorem deliver_free (s : Block) (r : Reply) : (s.deliver r).free = s.free := by unfold Block.deliver; split <;> rfl

/-! ### reply -/

@[simp] theorem reply_regs (s : Block) (q : Req) (op st : Nat) (r : List Byte) : (s.reply q op st r).regs = s.regs := by unfold Block.reply; split <;> simp
@[simp] theorem reply_held (s : Block) (q : Req) (op st : Nat) (r : List Byte) : (s.reply q op st r).held = s.held := by unfold Block.reply; split <;> simp
@[simp] theorem reply_evt (s : Block) (q : Req) (op st : Nat) (r : List Byte) : (s.reply q op st r).evt = s.evt := by unfold Block.reply; split <;> simp
@[simp] theorem reply_log (s : Block) (q : Req) (op st : Nat) (r : List Byte) : (s.reply q op st r).log = s.log := by unfold Block.reply; split <;> simp
@[simp] theorem reply_acc (s : Block) (q : Req) (op st : Nat) (r : List Byte) : (s.reply q op st r).acc = s.acc := by unfold Block.reply; split <;> simp
@[simp] theorem reply_nvm (s : Block) (q : Req) (op st : Nat) (r : List Byte) : (s.reply q op st r).nvm = s.nvm := by unfold Block.reply; split <;> simp
@[simp] theorem reply_pwr (s : Block) (q : Req) (op st : Nat) (r : List Byte) : (s.reply q op st r).pwr = s.pwr := by unfold Block.reply; split <;> simp
@[simp] theorem reply_flt (s : Block) (q : Req) (op st : Nat) (r : List Byte) : (s.reply q op st r).flt = s.flt := by unfold Block.reply; split <;> simp
@[simp] theorem reply_ks (s : Block) (q : Req) (op st : Nat) (r : List Byte) : (s.reply q op st r).ks = s.ks := by unfold Block.reply; split <;> simp
@[simp] theorem reply_ft (s : Block) (q : Req) (op st : Nat) (r : List Byte) : (s.reply q op st r).ft = s.ft := by unfold Block.reply; split <;> simp
@[simp] theorem reply_pix (s : Block) (q : Req) (op st : Nat) (r : List Byte) : (s.reply q op st r).pix = s.pix := by unfold Block.reply; split <;> simp
@[simp] theorem reply_cal (s : Block) (q : Req) (op st : Nat) (r : List Byte) : (s.reply q op st r).cal = s.cal := by unfold Block.reply; split <;> simp
@[simp] theorem reply_eng (s : Block) (q : Req) (op st : Nat) (r : List Byte) : (s.reply q op st r).eng = s.eng := by unfold Block.reply; split <;> simp
@[simp] theorem reply_mc (s : Block) (q : Req) (op st : Nat) (r : List Byte) : (s.reply q op st r).mc = s.mc := by unfold Block.reply; split <;> simp
@[simp] theorem reply_rcd (s : Block) (q : Req) (op st : Nat) (r : List Byte) : (s.reply q op st r).rcd = s.rcd := by unfold Block.reply; split <;> simp
@[simp] theorem reply_mon (s : Block) (q : Req) (op st : Nat) (r : List Byte) : (s.reply q op st r).mon = s.mon := by unfold Block.reply; split <;> simp
@[simp] theorem reply_stat (s : Block) (q : Req) (op st : Nat) (r : List Byte) : (s.reply q op st r).stat = s.stat := by unfold Block.reply; split <;> simp
@[simp] theorem reply_lk (s : Block) (q : Req) (op st : Nat) (r : List Byte) : (s.reply q op st r).lk = s.lk := by unfold Block.reply; split <;> simp
@[simp] theorem reply_fb (s : Block) (q : Req) (op st : Nat) (r : List Byte) : (s.reply q op st r).fb = s.fb := by unfold Block.reply; split <;> simp
@[simp] theorem reply_th (s : Block) (q : Req) (op st : Nat) (r : List Byte) : (s.reply q op st r).th = s.th := by unfold Block.reply; split <;> simp
@[simp] theorem reply_rsv (s : Block) (q : Req) (op st : Nat) (r : List Byte) : (s.reply q op st r).rsv = s.rsv := by unfold Block.reply; split <;> simp
@[simp] theorem reply_free (s : Block) (q : Req) (op st : Nat) (r : List Byte) : (s.reply q op st r).free = s.free := by unfold Block.reply; split <;> simp

/-! ### contain -/

@[simp] theorem contain_held (s : Block) (k : Nat) : (s.contain k).held = s.held := by unfold Block.contain; dsimp only; split <;> simp
@[simp] theorem contain_tw (s : Block) (k : Nat) : (s.contain k).tw = s.tw := by unfold Block.contain; dsimp only; split <;> simp
@[simp] theorem contain_log (s : Block) (k : Nat) : (s.contain k).log = s.log := by unfold Block.contain; dsimp only; split <;> simp
@[simp] theorem contain_acc (s : Block) (k : Nat) : (s.contain k).acc = s.acc := by unfold Block.contain; dsimp only; split <;> simp
@[simp] theorem contain_nvm (s : Block) (k : Nat) : (s.contain k).nvm = s.nvm := by unfold Block.contain; dsimp only; split <;> simp
@[simp] theorem contain_pwr (s : Block) (k : Nat) : (s.contain k).pwr = s.pwr := by unfold Block.contain; dsimp only; split <;> simp
@[simp] theorem contain_ks (s : Block) (k : Nat) : (s.contain k).ks = s.ks := by unfold Block.contain; dsimp only; split <;> simp
@[simp] theorem contain_ft (s : Block) (k : Nat) : (s.contain k).ft = s.ft := by unfold Block.contain; dsimp only; split <;> simp
@[simp] theorem contain_pix (s : Block) (k : Nat) : (s.contain k).pix = s.pix := by unfold Block.contain; dsimp only; split <;> simp
@[simp] theorem contain_cal (s : Block) (k : Nat) : (s.contain k).cal = s.cal := by unfold Block.contain; dsimp only; split <;> simp
@[simp] theorem contain_eng (s : Block) (k : Nat) : (s.contain k).eng = s.eng := by unfold Block.contain; dsimp only; split <;> simp
@[simp] theorem contain_mc (s : Block) (k : Nat) : (s.contain k).mc = s.mc := by unfold Block.contain; dsimp only; split <;> simp
@[simp] theorem contain_rcd (s : Block) (k : Nat) : (s.contain k).rcd = s.rcd := by unfold Block.contain; dsimp only; split <;> simp
@[simp] theorem contain_mon (s : Block) (k : Nat) : (s.contain k).mon = s.mon := by unfold Block.contain; dsimp only; split <;> simp
@[simp] theorem contain_stat (s : Block) (k : Nat) : (s.contain k).stat = s.stat := by unfold Block.contain; dsimp only; split <;> simp
@[simp] theorem contain_lk (s : Block) (k : Nat) : (s.contain k).lk = s.lk := by unfold Block.contain; dsimp only; split <;> simp
@[simp] theorem contain_fb (s : Block) (k : Nat) : (s.contain k).fb = s.fb := by unfold Block.contain; dsimp only; split <;> simp
@[simp] theorem contain_th (s : Block) (k : Nat) : (s.contain k).th = s.th := by unfold Block.contain; dsimp only; split <;> simp
@[simp] theorem contain_rsv (s : Block) (k : Nat) : (s.contain k).rsv = s.rsv := by unfold Block.contain; dsimp only; split <;> simp

end Sys2Proof.Machine
end

