-- ==== Sys2Proof/Laws/Ops.lean ====
section
/-! SUPPORT. What the shared operations do: registers, events, cairns, replies and the request path. -/

namespace Sys2Proof.Machine

/-! ### Registers -/

@[simp] theorem reg_setReg (s : Block) (a b : Nat) (w : Word) : (s.setReg a w).reg b = if b = a then w else s.reg b := by
  unfold Block.reg Block.setReg
  by_cases h : b = a
  · subst h; simp [smGet_smSet]
  · simp [h, smGet_smSet_other]

/-- Blocks with the same register file read alike. -/
theorem reg_of_regs {s t : Block} (h : t.regs = s.regs) (a : Nat) : t.reg a = s.reg a := by unfold Block.reg; rw [h]

/-- A fold whose every step leaves a register word alone leaves it alone. -/
theorem reg_foldl {α : Type} (f : Block → α → Block) (a : Nat) (h : ∀ s x, (f s x).reg a = s.reg a) (l : List α) (s : Block) :
    (l.foldl f s).reg a = s.reg a := by
  induction l generalizing s with
  | nil => rfl
  | cons x t ih => rw [List.foldl_cons, ih, h]

/-- Two fields do not overlap. -/
abbrev RF.apart (f g : RF) : Prop := f.addr ≠ g.addr ∨ f.lo + f.width ≤ g.lo ∨ g.lo + g.width ≤ f.lo

/-- A field lies in its word. -/
abbrev RF.inWord (f : RF) : Prop := f.lo + f.width ≤ 32

theorem reg_setFld (s : Block) (f : RF) (v b : Nat) :
    (s.setFld f v).reg b = if b = f.addr then wsetField (s.reg f.addr) f.lo f.width v else s.reg b := by
  simp [Block.setFld]

theorem fld_setFld (s : Block) (f : RF) (v : Nat) (h : f.inWord) : (s.setFld f v).fld f = v % 2 ^ f.width := by
  simp [Block.fld, reg_setFld, wfield_wsetField _ _ _ _ h]

theorem fld_setFld_apart (s : Block) (f g : RF) (v : Nat) (h : f.apart g) : (s.setFld f v).fld g = s.fld g := by
  unfold Block.fld
  rw [reg_setFld]
  by_cases ha : g.addr = f.addr
  · rw [if_pos ha, ha]
    apply wfield_wsetField_disjoint
    rcases h with h | h | h
    · exact absurd ha.symm h
    · exact Or.inr h
    · exact Or.inl h
  · rw [if_neg ha]

theorem flag_setFlag (s : Block) (f : RF) (b : Bool) (h : f.inWord) (hw : f.width = 1) : (s.setFlag f b).flag f = b := by
  unfold Block.flag Block.setFlag
  rw [fld_setFld s f _ h, hw]
  cases b <;> simp [b2n]

theorem flag_setFlag_apart (s : Block) (f g : RF) (b : Bool) (h : f.apart g) : (s.setFlag f b).flag g = s.flag g := by
  simp [Block.flag, Block.setFlag, fld_setFld_apart s f g _ h]

theorem fld_setFlag_apart (s : Block) (f g : RF) (b : Bool) (h : f.apart g) : (s.setFlag f b).fld g = s.fld g := by
  simp [Block.setFlag, fld_setFld_apart s f g _ h]

theorem flag_setFld_apart (s : Block) (f g : RF) (v : Nat) (h : f.apart g) : (s.setFld f v).flag g = s.flag g := by
  simp [Block.flag, fld_setFld_apart s f g _ h]

theorem fld_setReg_other (s : Block) (a : Nat) (w : Word) (f : RF) (h : f.addr ≠ a) : (s.setReg a w).fld f = s.fld f := by
  simp [Block.fld, h]

theorem fld_lt (s : Block) (f : RF) : s.fld f < 2 ^ f.width := wfield_lt _ _ _

/-- A field depends on its register word alone. -/
theorem fld_congr (s t : Block) (f : RF) (h : t.reg f.addr = s.reg f.addr) : t.fld f = s.fld f := by unfold Block.fld; rw [h]
theorem flag_congr (s t : Block) (f : RF) (h : t.reg f.addr = s.reg f.addr) : t.flag f = s.flag f := by
  unfold Block.flag; rw [fld_congr s t f h]

/-! ### Events -/

/-- Is `a` one of the status words of the events? -/
def isEvtWord (a : Nat) : Prop := 0x2800000 ≤ a

theorem evtStatusA_eq (e : Nat) : evtStatusA e = 0x2800000 + 4 * (e / 32) := rfl
theorem evtLiveA_eq (e : Nat) : evtLiveA e = 0x2800080 + 4 * (e / 32) := rfl
theorem evtMaskA_eq (e : Nat) : evtMaskA e = 0x2800100 + 4 * (e / 32) := rfl

theorem reg_raiseAt (s : Block) (e : Nat) (t : Tick) (a : Nat) :
    (s.raiseAt e t).reg a = if a = evtStatusA e then wput (s.reg (evtStatusA e)) (e % 32) true else s.reg a := by
  rw [← reg_setReg s (evtStatusA e) a (wput (s.reg (evtStatusA e)) (e % 32) true)]
  unfold Block.raiseAt
  dsimp only
  split
  · rfl
  · split <;> rfl

theorem reg_raise (s : Block) (e a : Nat) :
    (s.raise e).reg a = if a = evtStatusA e then wput (s.reg (evtStatusA e)) (e % 32) true else s.reg a := reg_raiseAt s e s.now a

/-- A raised event's status bit is set; no other event's is touched (R610). -/
theorem evtStatus_raise (s : Block) (e d : Nat) : (s.raise e).evtStatus d = (decide (d = e) || s.evtStatus d) := by
  unfold Block.evtStatus
  rw [reg_raise]
  by_cases h : evtStatusA d = evtStatusA e
  · rw [if_pos h, h]
    rw [evtStatusA_eq, evtStatusA_eq] at h
    unfold wput
    rw [getLsbD_wput _ _ _ _ (by omega)]
    by_cases h2 : d = e
    · simp [h2]
    · have : ¬ d % 32 = e % 32 := by omega
      simp [h2, this]
  · rw [if_neg h]
    have : d ≠ e := fun x => h (by rw [x])
    simp [this]

theorem fld_raise (s : Block) (e : Nat) (f : RF) (h : f.addr < 0x2800000) : (s.raise e).fld f = s.fld f := by
  apply fld_congr; rw [reg_raise, if_neg]; rw [evtStatusA_eq]; omega

theorem flag_raise (s : Block) (e : Nat) (f : RF) (h : f.addr < 0x2800000) : (s.raise e).flag f = s.flag f := by
  simp [Block.flag, fld_raise s e f h]

theorem evtStatus_congr (s t : Block) (e : Nat) (h : t.reg (evtStatusA e) = s.reg (evtStatusA e)) : t.evtStatus e = s.evtStatus e := by
  unfold Block.evtStatus; rw [h]

theorem evtStatus_setReg (s : Block) (a : Nat) (w : Word) (e : Nat) (h : a < 0x2800000) : (s.setReg a w).evtStatus e = s.evtStatus e := by
  apply evtStatus_congr; rw [reg_setReg, if_neg]; rw [evtStatusA_eq]; omega

theorem evtStatus_setFld (s : Block) (f : RF) (v e : Nat) (h : f.addr < 0x2800000) : (s.setFld f v).evtStatus e = s.evtStatus e :=
  evtStatus_setReg s _ _ e h

theorem evtStatus_setFlag (s : Block) (f : RF) (b : Bool) (e : Nat) (h : f.addr < 0x2800000) : (s.setFlag f b).evtStatus e = s.evtStatus e :=
  evtStatus_setReg s _ _ e h

/-! ### Cairns -/

theorem reg_cairnAt (s : Block) (t : Tick) (o k a : Nat) (x y : Word) (b : Nat) (h1 : b ≠ LOG_STAT.addr) (h2 : b ≠ LOG_HEAD.addr) :
    (s.cairnAt t o k a x y).reg b = s.reg b := by
  unfold Block.cairnAt
  dsimp only
  split
  · rw [reg_setFld, show LOG_STAT.QUEUED.addr = LOG_STAT.addr from rfl, if_neg h1]; rfl
  · split
    · rfl
    · unfold Block.syncLog
      rw [reg_setFld, show LOG_STAT.QUEUED.addr = LOG_STAT.addr from rfl, if_neg h1, reg_setFld,
        show LOG_HEAD.SEQ.addr = LOG_HEAD.addr from rfl, if_neg h2]; rfl

theorem reg_cairn (s : Block) (o k a : Nat) (x y : Word) (b : Nat) (h1 : b ≠ LOG_STAT.addr) (h2 : b ≠ LOG_HEAD.addr) :
    (s.cairn o k a x y).reg b = s.reg b := reg_cairnAt s _ o k a x y b h1 h2

theorem reg_cairnN (s : Block) (o k a x y b : Nat) (h1 : b ≠ LOG_STAT.addr) (h2 : b ≠ LOG_HEAD.addr) :
    (s.cairnN o k a x y).reg b = s.reg b := reg_cairn s o k a _ _ b h1 h2

theorem fld_cairn (s : Block) (o k a : Nat) (x y : Word) (f : RF) (h1 : f.addr ≠ LOG_STAT.addr) (h2 : f.addr ≠ LOG_HEAD.addr) :
    (s.cairn o k a x y).fld f = s.fld f := fld_congr _ _ _ (reg_cairn s o k a x y _ h1 h2)

theorem fld_cairnN (s : Block) (o k a x y : Nat) (f : RF) (h1 : f.addr ≠ LOG_STAT.addr) (h2 : f.addr ≠ LOG_HEAD.addr) :
    (s.cairnN o k a x y).fld f = s.fld f := fld_cairn s o k a _ _ f h1 h2

theorem evtStatus_cairn (s : Block) (o k a : Nat) (x y : Word) (e : Nat) : (s.cairn o k a x y).evtStatus e = s.evtStatus e := by
  apply evtStatus_congr
  apply reg_cairn <;> rw [evtStatusA_eq] <;> simp only [LOG_STAT.addr, LOG_HEAD.addr] <;> omega

theorem evtStatus_cairnN (s : Block) (o k a x y e : Nat) : (s.cairnN o k a x y).evtStatus e = s.evtStatus e := evtStatus_cairn s o k a _ _ e

/-- With room in the queue a cairn joins its end (R131). -/
theorem queue_cairn (s : Block) (o k a : Nat) (x y : Word) (h : s.log.queue.length < 4096) :
    (s.cairn o k a x y).log.queue = s.log.queue ++ [⟨s.now, o, k, a, x, y⟩] := by
  unfold Block.cairn Block.cairnAt
  simp [h]

theorem logged_cairn (s : Block) (o k a : Nat) (x y : Word) (h : s.log.queue.length < 4096) : Logged o k a x y (s.cairn o k a x y) :=
  ⟨⟨s.now, o, k, a, x, y⟩, by rw [queue_cairn s o k a x y h]; simp, rfl, rfl, rfl, rfl, rfl⟩

theorem logged_cairnN (s : Block) (o k a x y : Nat) (h : s.log.queue.length < 4096) :
    Logged o k a (BitVec.ofNat 32 x) (BitVec.ofNat 32 y) (s.cairnN o k a x y) := logged_cairn s o k a _ _ h

theorem logged_congr {s t : Block} {o k a : Nat} {x y : Word} (h : t.log = s.log) : Logged o k a x y t ↔ Logged o k a x y s := by
  unfold Logged; rw [h]

/-! ### Replies -/

@[simp] theorem deliver_replies (s : Block) (r : Reply) : (s.deliver r).cmd = s.cmd := by
  unfold Block.deliver; split <;> rfl

@[simp] theorem reg_reply (s : Block) (q : Req) (op st : Nat) (r : List Byte) (a : Nat) : (s.reply q op st r).reg a = s.reg a := by
  unfold Block.reg; rw [reply_regs]

@[simp] theorem fld_reply (s : Block) (q : Req) (op st : Nat) (r : List Byte) (f : RF) : (s.reply q op st r).fld f = s.fld f :=
  fld_congr _ _ _ (reg_reply ..)

@[simp] theorem flag_reply (s : Block) (q : Req) (op st : Nat) (r : List Byte) (f : RF) : (s.reply q op st r).flag f = s.flag f :=
  flag_congr _ _ _ (reg_reply ..)

@[simp] theorem evtStatus_reply (s : Block) (q : Req) (op st : Nat) (r : List Byte) (e : Nat) :
    (s.reply q op st r).evtStatus e = s.evtStatus e := evtStatus_congr _ _ _ (reg_reply ..)

theorem not_dropped {q : Req} (hp : ∀ e p, q.carrier ≠ .pin e p) (hl : q.flags.getLsbD 1 = false) (st : Nat) : replyDropped q st = false := by
  unfold replyDropped
  split
  · rename_i e p h; exact absurd h (hp e p)
  · rfl
  · rw [hl]; rfl

/-- A reply that is not dropped joins the list's end. -/
theorem replies_reply (s : Block) (q : Req) (op st : Nat) (res : List Byte) (h : replyDropped q st = false) :
    (s.reply q op st res).cmd.replies = s.cmd.replies ++ [⟨q.carrier, op, q.tag, st, res, .none, s.now, false⟩] := by
  unfold Block.reply; simp [h]

theorem replied_reply (s : Block) (q : Req) (op st : Nat) (res : List Byte) (h : replyDropped q st = false) :
    Replied q op st res (s.reply q op st res) :=
  ⟨⟨q.carrier, op, q.tag, st, res, .none, s.now, false⟩, by rw [replies_reply s q op st res h]; simp, rfl, rfl, rfl, rfl, rfl, rfl⟩

theorem held_replyLater (s : Block) (q : Req) (op st : Nat) (res : List Byte) (w : WaitOn) : Held q op w (s.replyLater q op st res w) :=
  ⟨⟨q.carrier, op, q.tag, st, res, w, s.now, replyDropped q stOk⟩, by simp [Block.replyLater], rfl, rfl, rfl, rfl⟩

/-! ### The request path -/

@[simp] theorem touchMaintain_regs (c : Carrier) (s : Block) : (touchMaintain c s).regs = s.regs := rfl
@[simp] theorem touchMaintain_reg (c : Carrier) (s : Block) (a : Nat) : (touchMaintain c s).reg a = s.reg a := rfl
@[simp] theorem touchMaintain_fld (c : Carrier) (s : Block) (f : RF) : (touchMaintain c s).fld f = s.fld f := rfl
@[simp] theorem touchMaintain_flag (c : Carrier) (s : Block) (f : RF) : (touchMaintain c s).flag f = s.flag f := rfl
@[simp] theorem touchMaintain_evtStatus (c : Carrier) (s : Block) (e : Nat) : (touchMaintain c s).evtStatus e = s.evtStatus e := rfl
@[simp] theorem touchMaintain_log (c : Carrier) (s : Block) : (touchMaintain c s).log = s.log := rfl
@[simp] theorem touchMaintain_ks (c : Carrier) (s : Block) : (touchMaintain c s).ks = s.ks := rfl
@[simp] theorem touchMaintain_now (c : Carrier) (s : Block) : (touchMaintain c s).now = s.now := rfl
@[simp] theorem touchMaintain_running (c : Carrier) (s : Block) : (touchMaintain c s).running = s.running := rfl
@[simp] theorem touchMaintain_takeOpen (c : Carrier) (s : Block) : (touchMaintain c s).takeOpen = s.takeOpen := rfl

/-- A command keeps MAINTAIN but changes no class. -/
@[simp] theorem classOf_touchMaintain (c d : Carrier) (s : Block) : classOf (touchMaintain c s) d = classOf s d := by
  unfold classOf touchMaintain
  simp only [List.any_map]
  have : ((fun m : Maint => decide (m.origin = originOf d)) ∘ fun m => if m.origin = originOf c then { m with last := s.now } else m) =
      fun m => decide (m.origin = originOf d) := by
    funext m; simp only [Function.comp]; split <;> rfl
  rw [this]

/-- The status of a request whose every check passes. -/
theorem firstFail_none (l : List Check) (h : ∀ c ∈ l, c.1 = false) : firstFail l = none := by
  unfold firstFail
  rw [List.find?_eq_none]
  intro st _
  rw [Bool.not_eq_true, List.any_eq_false]
  intro c hc
  simp [h c hc]

/-- A request that executes at once and passes its own checks has its body's effect (R76, R77). -/
theorem runReq_ok {cls maxRes op : Nat} {q : Req} {b : Block} {checks : Block → List Check} {body : Block → Block} (h : AtOnce cls maxRes q b)
    (hc : ∀ c ∈ checks (touchMaintain q.carrier b), c.1 = false) :
    runReq op cls maxRes q checks body b = .next (body (touchMaintain q.carrier b)) := by
  unfold runReq
  have h1 : (touchMaintain q.carrier b).fld SYS_BOOT.STAGE = 9 := h.ready
  have h2 : firstFail (((!headerOk q || decide (lenLimit q.carrier < maxRes)), stBadParam) ::
      ((decide (classOf (touchMaintain q.carrier b) q.carrier < cls)), stDenied) :: checks (touchMaintain q.carrier b)) = none := by
    apply firstFail_none
    intro c hm
    rcases List.mem_cons.mp hm with rfl | hm
    · have := h.fits; simp [h.header]; omega
    rcases List.mem_cons.mp hm with rfl | hm
    · have := h.class_; rw [classOf_touchMaintain]; simp; omega
    · exact hc c hm
  simp only [h.core, h.turn, h.served, h1, Bool.false_and, Bool.or_self, Bool.not_true, if_false, Bool.false_eq_true]
  simp only [show decide ((9 : Nat) = 10) = false from rfl, if_false, Bool.false_eq_true]
  rw [h2]

theorem AtOnce_mono {c c' m m' : Nat} {q : Req} {b : Block} (h : AtOnce c m q b) (hc : c' ≤ c) (hm : m' ≤ m) : AtOnce c' m' q b :=
  ⟨h.core, h.turn, h.served, h.ready, h.header, le_trans hm h.fits, le_trans hc h.class_, h.notPin, h.loud⟩

theorem onBlock_next {s : State} {f : Block → Host.Outcome Block Fault Refusal} {b : Block} (h : f s.blk = .next b) :
    s.onBlock f = .next { s with blk := b } := by
  unfold State.onBlock; rw [h]

/-- Whatever a command does to the block, it leaves the queue alone. -/
theorem onBlock_pending {s t : State} {f : Block → Host.Outcome Block Fault Refusal} (h : s.onBlock f = .next t) : t.pending = s.pending := by
  unfold State.onBlock at h
  split at h
  · injection h with h; rw [← h]
  · cases h
  · cases h

end Sys2Proof.Machine
end

