-- ==== Sys2Proof/Tests/Slice0.lean ====
section
/-! SUPPORT. Tests: ill-formed commands, and for each obligation with hypotheses concrete states and operands that meet them. -/

namespace Sys2Proof.Tests

open Sys2Proof Sys2Proof.Machine

/-- The block READY, with every domain on, out of reset. -/
def ok : Block :=
  let b := Block.reset
  let b1 : Block := { b with pwr := { b.pwr with rstLow := false } }
  ((b1.setFld SYS_BOOT.STAGE 9).setFlag SYS_DOMAIN.DV_ON true).setFlag SYS_DOMAIN.FX_ON true

/-- The same with MAINTAIN held by the host. -/
def okM : Block := { ok with acc := { ok.acc with maintain := [⟨originOf .host, 0⟩] } }

/-- A request of the host with these parameters. -/
def hq (p : List Byte) : Req := ⟨.host, 7, 0, BitVec.ofNat 16 p.length, p⟩

/-- Parameter bytes of numbers, each of that many bytes. -/
def pb (l : List (Nat × Nat)) : List Byte := l.flatMap (fun x => leBytes x.1 x.2)

/-- A state with that block. -/
def st (b : Block) : State := ⟨[], b⟩

/-- The premises of `AtOnce`, decidable. -/
abbrev Now (cls maxRes : Nat) (q : Req) (b : Block) : Prop :=
  b.pwr.coreDown = false ∧ b.mustWait q.carrier = false ∧ serves b q = true ∧ b.fld SYS_BOOT.STAGE = 9 ∧ headerOk q = true ∧
    maxRes ≤ lenLimit q.carrier ∧ cls ≤ classOf b q.carrier ∧ q.carrier = .host ∧ q.flags.getLsbD 1 = false

theorem Now.atOnce {cls maxRes : Nat} {q : Req} {b : Block} (h : Now cls maxRes q b) : AtOnce cls maxRes q b := by
  obtain ⟨h1, h2, h3, h4, h5, h6, h7, h8, h9⟩ := h
  exact ⟨h1, h2, h3, h4, h5, h6, h7, fun e p => by simp [h8], h9⟩

/-- `Shaped`, decidable. -/
abbrev Shp (q : Req) (n : Nat) (res : List Nat) : Prop := q.params.length = n ∧ ∀ o ∈ res, pByte q o = 0

theorem Shp.shaped {q : Req} {n : Nat} {res : List Nat} (h : Shp q n res) : Shaped q n res := h

/-- `WriteAllowed`, decidable. -/
abbrev Allow (b : Block) (cls : Nat) (l : List WordW) : Prop := ∀ c ∈ writeChecks b cls false 0 l, c.1 = false

theorem Allow.allowed {b : Block} {cls : Nat} {l : List WordW} (h : Allow b cls l) : WriteAllowed b cls l := h

/-! ### The request path (O1 to O7) -/

theorem wit_OnlyIllFormedStops : (Instr.halt 0 0).wf = true ∧ channelOk 144 0 = false ∧ channelOk 128 16 = false ∧ laneOk 40 = false ∧
    railOk 11 = false ∧ unitOk 2462720 = false ∧ passOk 0 = false ∧ passOk 5 = false ∧ ok.pwr.coreDown = false := by decide

theorem wit_DeniedChangesNothing : (Instr.fwBegin (hq [])).request = some ⟨hq [], 0x0130, 3⟩ ∧ ok.pwr.coreDown = false ∧
    ok.mustWait .host = false ∧ serves ok (hq []) = true ∧ ok.fld SYS_BOOT.STAGE = 9 ∧ classOf ok .host < 3 :=
  ⟨rfl, by decide⟩

/-- The host with one request waiting, and with its queue full. -/
def busy1 : Block := { ok with cmd := { ok.cmd with accepted := [⟨0, hq []⟩] } }
def busy16 : Block := { ok with cmd := { ok.cmd with accepted := List.replicate 16 ⟨0, hq []⟩ } }

theorem wit_RequestPath : headerOk { hq [] with plen := 1 } = false ∧ serves ok { hq [] with plen := 1 } = true ∧ ok.mustWait .host = false ∧
    busy1.mustWait .host = true ∧ busy1.outstanding .host < queueLimit .host ∧
    busy16.mustWait .host = true ∧ queueLimit .host ≤ busy16.outstanding .host ∧
    Block.reset.pwr.coreDown = false ∧ Block.reset.mustWait .host = false ∧ serves Block.reset (hq []) = false ∧
    opDefined 0x0FFF = false := by decide

theorem wit_IdleTick : State.reset.pending = [] ∧ Block.reset.cmd.accepted = [] ∧ Block.reset.ks.stopped = false ∧ Block.reset.ks.slew = 0 ∧
    Block.reset.now ≠ BitVec.ofNat 64 (2 ^ 64 - 1) := by decide

theorem wit_ReplyFrames : (hq []).flags.getLsbD 1 = false ∧ ∀ e p, (hq []).carrier ≠ .pin e p := ⟨by decide, fun e p => by simp [hq]⟩

/-! ### Reads -/

theorem wit_StateReads : Now 0 100 (hq []) ok ∧ (hq []).params = [] ∧ ok.flag SYS_DOMAIN.DV_ON = true ∧
    ok.flag SYS_DOMAIN.FX_ON = true ∧ ok.rsv.closeOut = none := by decide

/-- A record of frame 5, its slot with and without a header, a defect, an error, statistics, a node, an output, MA on. -/
def fr : FrameRec := newFrame 5 0 false ok
def sl : Slot := newSlot ok 5 0 false
def okF : Block :=
  let b : Block := { ok with
    ft := { ok.ft with frames := [fr], nextNum := 6 },
    rcd := { ok.rcd with slots := [{ sl with header := some (zeros 4) }, { sl with frame := 6 }] },
    cal := { ok.cal with defects := [0, 0] },
    mc := { ok.mc with ring := [⟨0, 0, 0, 0⟩] },
    stat := { ok.stat with kept := [⟨5, zeros 4, [], 0, 0⟩], maps := [(5, [])] },
    fb := { ok.fb with nodes := [⟨1, 0, 0, true, true⟩] },
    th := { ok.th with historySeq := 3 } }
  let b1 := (b.setFlag SYS_DOMAIN.MA_ON true).onCtx 3 (fun c => { c with last := some ⟨5, zeros 8, [], 0⟩ })
  (b1.setFld (PT_STAT.STATE 0) 5).setFld (MG_STAT.STATE 0) 3

theorem wit_ParameterReads_1 : ∀ q, q = hq (pb [(4, 0x2800000), (2, 1), (2, 0)]) → Now 0 (4 * 1) q ok ∧ Shp q 8 [6, 7] ∧ pNat q 4 2 = 1 ∧ spanOk (pNat
    q 0 4) 1 = true ∧ 1 ≤ carrierLimit q 1021 124 ∧ ∀ i < 1, wordPowered ok 0 (pNat q 0 4 + 4 * i) = true := by
  intro q h; subst h; decide
theorem wit_ParameterReads_2 : ∀ q, q = hq (pb [(2, 0), (2, 1024)]) → Now 0 1024 q ok ∧ q.params.length = 4 ∧ pNat q 2 2 = 1024 ∧ pNat q 0 2 + 1024 ≤
    1024 := by
  intro q h; subst h; decide
theorem wit_ParameterReads_3 : ∀ q, q = hq (pb [(2, 769), (2, 255)]) → Now 0 (16 * 255) q ok ∧ q.params.length = 4 ∧ pNat q 2 2 = 255 ∧ 255 ≤
    carrierLimit q 255 31 ∧ pNat q 0 2 + 255 ≤ 1024 := by
  intro q h; subst h; decide
theorem wit_ParameterReads_4 : ∀ q, q = hq (pb [(1, 7), (3, 0)]) → Now 0 68 q ok ∧ Shp q 4 [1, 2, 3] ∧ pByte q 0 ≤ 7 := by
  intro q h; subst h; decide
theorem wit_ParameterReads_5 : ∀ q, q = hq (pb [(1, 7), (3, 0), (4, 262143), (2, 1), (2, 0)]) → Now 0 1 q ok ∧ Shp q 12 [1, 2, 3, 10, 11] ∧ pByte q 0
    ≤ 7 ∧ pNat q 8 2 = 1 ∧ pNat q 4 4 + 1 ≤ 262144 := by
  intro q h; subst h; decide
theorem wit_ParameterReads_6 : ∀ q, q = hq (pb [(4, 0), (2, 127), (2, 0)]) → Now 0 (32 * 127) q ok ∧ Shp q 8 [6, 7] ∧ pNat q 4 2 = 127 ∧ (logHead ok +
    2 ^ 32 - pNat q 0 4) % 2 ^ 32 < ok.log.entries.length := by
  intro q h; subst h; decide
theorem wit_ParameterReads_7 : ∀ q, q = hq (pb [(4, 5)]) → Now 0 36 q okF ∧ q.params.length = 4 ∧ (frameKept okF (pNat q 0 4)).isSome = true := by
  intro q h; subst h; decide
theorem wit_UnitEngineFrameReads_1 : ∀ q, q = hq (pb [(4, 2462719), (2, 1), (2, 0)]) → Now 0 8 q ok ∧ Shp q 8 [6, 7] ∧ pNat q 4 2 = 1 ∧ 1 ≤
    carrierLimit q 500 62 ∧ pNat q 0 4 + 1 ≤ unitCount ∧ Now 0 2 q ok ∧ 1 ≤ carrierLimit q 2000 248 := by
  intro q h; subst h; decide
theorem wit_UnitEngineFrameReads_2 : ∀ q, q = hq (pb [(4, 0), (2, 2), (2, 0)]) → Now 0 8 q okF ∧ Shp q 8 [6, 7] ∧ pNat q 4 2 = 2 ∧ 2 ≤ carrierLimit q
    1000 124 ∧ pNat q 0 4 + 2 ≤ okF.cal.defects.length := by
  intro q h; subst h; decide
theorem wit_UnitEngineFrameReads_3 : ∀ q, q = hq (pb [(2, 143), (2, 0)]) → Now 0 20 q ok ∧ Shp q 4 [2, 3] ∧ pNat q 0 2 < 144 := by
  intro q h; subst h; decide
theorem wit_UnitEngineFrameReads_4 : ∀ q, q = hq (pb [(2, 143), (1, 1), (1, 0), (2, 2), (2, 1022)]) → Now 0 4088 q ok ∧ Shp q 8 [3] ∧ pNat q 0 2 < 144
    ∧ pByte q 2 ≤ 1 ∧ pNat q 6 2 = 1022 ∧ 1022 ≤ carrierLimit q 1022 124 ∧ pNat q 4 2 + 1022 ≤ 1024 := by
  intro q h; subst h; decide
theorem wit_UnitEngineFrameReads_5 : ∀ q, q = hq (pb [(2, 0), (2, 1)]) → Now 0 16 q okF ∧ q.params.length = 4 ∧ pNat q 2 2 = 1 ∧ pNat q 0 2 + 1 ≤
    okF.mc.ring.length := by
  intro q h; subst h; decide
theorem wit_UnitEngineFrameReads_6 : ∀ q, q = hq (pb [(4, 5), (4, 65535), (2, 1), (2, 0)]) → Now 0 1 q okF ∧ Shp q 12 [10, 11] ∧ pNat q 8 2 = 1 ∧ pNat
    q 4 4 + 1 ≤ 65536 ∧ (okF.slot? (pNat q 0 4)).bind (fun l => l.header) = some (zeros 4) := by
  intro q h; subst h; decide
theorem wit_UnitEngineFrameReads_7 : ∀ q, q = hq (pb [(4, 6), (4, 0), (2, 4080), (2, 0)]) → Now 0 4080 q okF ∧ Shp q 12 [10, 11] ∧ pNat q 8 2 ≤ 4080 ∧
    (okF.slot? (pNat q 0 4)).map (fun l => l.header) = some none := by
  intro q h; subst h; decide
theorem wit_UnitEngineFrameReads_8 : ∀ q, q = hq (pb [(4, 5)]) → Now 0 12 q okF ∧ q.params.length = 4 ∧ frameFlags okF (pNat q 0 4) = some (fr.flags,
    0, 0) := by
  intro q h; subst h; decide
theorem wit_OutputLinkFabricReads_1 : ∀ q, q = hq (pb [(1, 3), (3, 0), (4, 0), (2, 8), (2, 0)]) → Now 0 8 q okF ∧ Shp q 12 [1, 2, 3, 10, 11] ∧ pByte q
    0 ≤ 3 ∧ (okF.ctx (pByte q 0)).last = some ⟨5, zeros 8, [], 0⟩ ∧ pNat q 4 4 + 8 ≤ (outBytes ⟨5, zeros 8, [], 0⟩).length := by
  intro q h; subst h; decide
theorem wit_OutputLinkFabricReads_2 : ∀ q, q = hq (pb [(4, 5), (4, 0x9FFF), (2, 1), (2, 0)]) → Now 0 1 q okF ∧ Shp q 12 [10, 11] ∧ 0x4000 ≤ pNat q 4 4
    ∧ pNat q 4 4 + 1 ≤ 0xA000 ∧ okF.stat.kept.find? (fun y => decide (y.frame = pNat q 0 4)) = some ⟨5, zeros 4, [], 0, 0⟩ := by
  intro q h; subst h; decide
theorem wit_OutputLinkFabricReads_3 : ∀ q, q = hq (pb [(4, 5), (4, 2359295), (2, 1), (2, 0)]) → Now 0 1 q okF ∧ Shp q 12 [10, 11] ∧ pNat q 4 4 + 1 ≤
    2359296 ∧ okF.stat.maps.find? (fun y => decide (y.1 = pNat q 0 4)) = some (5, []) := by
  intro q h; subst h; decide
theorem wit_OutputLinkFabricReads_4 : ∀ q, q = hq (pb [(1, 7), (3, 0)]) → Now 0 68 q ok ∧ Shp q 4 [1, 2, 3] ∧ pByte q 0 ≤ 7 := by
  intro q h; subst h; decide
theorem wit_OutputLinkFabricReads_5 : ∀ q, q = hq (pb [(1, 39), (1, 1), (2, 0)]) → Now 0 16 q ok ∧ Shp q 4 [2, 3] ∧ pByte q 0 < 40 ∧ portPowered ok
    (portOf (pByte q 0)) = true ∧ pByte q 1 = 1 := by
  intro q h; subst h; decide
theorem wit_OutputLinkFabricReads_6 : ∀ q, q = hq (pb [(1, 20), (1, 0), (2, 0)]) → Now 0 16 q ok ∧ Shp q 4 [2, 3] ∧ portPowered ok (portOf (pByte q
    0)) = true ∧ pByte q 1 = 0 := by
  intro q h; subst h; decide
theorem wit_OutputLinkFabricReads_7 : ∀ q, q = hq (pb [(1, 0), (3, 0)]) → Now 0 208 q okF ∧ Shp q 4 [1, 2, 3] ∧ pByte q 0 ≤ 1 ∧ magThere okF (pByte q
    0) = true := by
  intro q h; subst h; decide
theorem wit_OutputLinkFabricReads_8 : ∀ q, q = hq (pb [(1, 0), (2, 1), (1, 0)]) → Now 0 12 q okF ∧ Shp q 4 [3] ∧ pNat q 1 2 = 1 ∧ 1 ≤ carrierLimit q
    256 41 ∧ pByte q 0 + 1 ≤ okF.fb.nodes.length := by
  intro q h; subst h; decide
theorem wit_OutputLinkFabricReads_9 : ∀ q, q = hq (pb [(4, 0), (2, 3), (2, 0)]) → Now 0 (64 * 3) q okF ∧ Shp q 8 [6, 7] ∧ pNat q 4 2 = 3 ∧ 3 ≤
    carrierLimit q 63 7 ∧ pNat q 0 4 + 3 ≤ okF.th.historySeq ∧ okF.th.historySeq ≤ pNat q 0 4 + 32768 := by
  intro q h; subst h; decide

/-! Plans and writes -/

theorem wit_PlanReads_1 : ∀ q, q = hq (pb [(1, 1), (3, 0)]) → Now 0 412 q ok ∧ Shp q 4 [1, 2, 3] ∧ pByte q 0 = 1 := by
  intro q h; subst h; decide
/-- A frame schedule runs. -/
def okR : Block := { ok.setFlag SYS_STATE.SCHEDULE true with ft := { ok.ft with table := [⟨0, 100000, false⟩], period := 33333333 } }
theorem wit_PlanReads_2 : ∀ q, q = hq (pb [(1, 0), (3, 0)]) → Now 0 412 q okR ∧ Shp q 4 [1, 2, 3] ∧ pByte q 0 = 0 ∧ okR.running = true ∧ okR.ft.table
    ≠ [] := by
  intro q h; subst h; decide
theorem wit_PlanReads_3 : ∀ q, q = hq (pb [(1, 0), (3, 0)]) → Now 0 412 q ok ∧ Shp q 4 [1, 2, 3] ∧ pByte q 0 = 0 ∧ (ok.running = false ∨ ok.ft.table =
    []) := by
  intro q h; subst h; decide
/-- Timing of 120 frames a second, exposed for half of each. -/
def qTiming : Req := hq (pb [(4, 6666667), (4, 3333333), (2, 15), (1, 4), (1, 0)])
theorem wit_PlanReads_4 : Now 0 8 qTiming ok ∧ qTiming.params.length = 12 ∧ pNat qTiming 8 2 ≤ 511 ∧ pByte qTiming 10 ≤ 15 ∧ pByte qTiming 11 ≤ 15 :=
    by
  decide
/-- Profile 0 stored with a body that is its END. -/
def img0 : List Byte :=
  let h := leBytes 4 0x5046524E ++ leBytes 2 1 ++ zeros 2 ++ leBytes 4 8 ++ zeros 36 ++ [2, 2, 1, 1, 0] ++ zeros 7
  let e : List Byte := [0xFF, 0xFF] ++ zeros 6
  h ++ wordBytes (crc32 (h ++ e)) ++ e
def okP : Block := { ok with nvm := { ok.nvm with mem := (img0.zipIdx.filter (fun x => decide (x.1 ≠ 0))).map (fun x => (profileBase 0 + x.2, x.1)) } }
set_option maxRecDepth 40000 in
theorem wit_PlanReads_5 : profileValid okP 0 = true := by
  decide
theorem wit_PlanReads_6 : ∀ q, q = hq (zeros 4) → Now 0 96 q okP ∧ Shp q 4 [1, 2, 3] ∧ pByte q 0 = 0 := by
  intro q h; subst h; decide
theorem wit_ShadowKeepsInForce_1 : okR.running = true ∧ ok.running = false ∧ smHas ok.held 0x200 = false := by
  decide
theorem wit_RegisterWord_1 : WDG_CFG.addr ≠ 0x2900000 ∧ ok.log.queue.length < 4096 ∧ (ok.reg WDG_CFG.addr ^^^ mergeWord (ok.reg WDG_CFG.addr)
    ⟨WDG_CFG.addr, 21, 0xFFFFFFFF⟩) &&& cfgMask WDG_CFG.addr ≠ 0 ∧ (ok.reg WDG_CFG.addr ^^^ mergeWord (ok.reg WDG_CFG.addr) ⟨WDG_CFG.addr, 20,
    0xFFFFFFFF⟩) &&& cfgMask WDG_CFG.addr = 0 := by
  decide
theorem wit_WordWrites_1 : ∀ q, q = hq (pb [(4, 100)]) → Now 3 0 q okM ∧ q.params.length = 4 ∧ Allow (touchMaintain .host okM) 3 (wdgWords q) := by
  intro q h; subst h; decide
theorem wit_WordWrites_2 : ∀ q, q = hq (pb [(4, 0x4A1E0000), (4, 0x7369)]) → Now 2 0 q ok ∧ q.params.length = 8 ∧ ok.rsv.closeOut = none ∧ Allow
    (touchMaintain .host ok) 2 (reserveWords q) := by
  intro q h; subst h; decide
theorem wit_WordWrites_3 : ∀ q, q = hq (pb [(4, 0x1455D028), (4, 0x8683807D)]) → Now 2 0 q ok ∧ q.params.length = 8 ∧ Allow (touchMaintain .host ok) 2
    (coolingWords q) := by
  intro q h; subst h; decide
theorem wit_WordWrites_4 : ∀ q, q = hq (pb [(4, 0x2800100), (2, 1), (2, 0), (4, 5)]) → Now 2 12 q ok ∧ Shp q 12 [6, 7] ∧ pNat q 4 2 = 1 ∧ spanOk (pNat
    q 0 4) 1 = true ∧ 1 ≤ carrierLimit q 1021 124 ∧ Allow (touchMaintain .host ok) 2 ((wordsOf 1 (q.params.drop 8)).zipIdx.map (fun wi => (⟨pNat q 0 4
    + 4 * wi.2, wi.1, 0xFFFFFFFF⟩ : WordW))) := by
  intro q h; subst h; decide
theorem wit_WordWrites_5 : ∀ q, q = hq (pb [(4, 0x2800100), (4, 0xFF), (4, 5)]) → Now 2 16 q ok ∧ q.params.length = 12 ∧ spanOk (pNat q 0 4) 1 = true
    ∧ Allow (touchMaintain .host ok) 2 [⟨pNat q 0 4, BitVec.ofNat 32 (pNat q 8 4), BitVec.ofNat 32 (pNat q 4 4)⟩] := by
  intro q h; subst h; decide
theorem wit_WordWrites_6 : Now 1 12 qTiming ok ∧ qTiming.params.length = 12 ∧ pNat qTiming 8 2 ≤ 511 ∧ pByte qTiming 10 ≤ 15 ∧ pByte qTiming 11 ≤ 15
    := by
  decide
theorem wit_WordWrites_7 : ∀ q, q = hq (pb [(1, 10), (3, 0), (4, 0xFFFF0000), (2, 16), (2, 0)]) → Now 2 4 q ok ∧ Shp q 12 [1, 2, 3, 10, 11] ∧ 2 ≤
    pByte q 0 ∧ pByte q 0 ≤ 10 ∧ Allow (touchMaintain .host ok) 2 (regulatorWords q) := by
  intro q h; subst h; decide
theorem wit_WordWrites_8 : ∀ q, q = hq [2, 2, 2, 0] → Now 2 12 q ok ∧ Shp q 4 [3] ∧ pByte q 0 ≤ 2 ∧ pByte q 1 ≤ 2 ∧ pByte q 2 ≤ 2 ∧ ok.takeOpen =
    false := by
  intro q h; subst h; decide
theorem wit_WordWrites_9 : ∀ q, q = hq (pb [(1, 3), (3, 0)] ++ (List.range 24).flatMap (fun i => wordBytes (ok.reg (MON_CTX_CFG.addr 3 + 4 * i)))) →
    Now 1 12 q ok ∧ Shp q 100 [1, 2, 3, 64, 65, 66, 67] ∧ pByte q 0 ≤ 3 ∧ Allow (touchMaintain .host ok) 2 (contextWords q) := by
  intro q h; subst h; decide
set_option maxRecDepth 40000 in
theorem wit_WordWrites_10 : ∀ q, q = hq (pb [(1, 3), (3, 0)] ++ zeros 2048) → Now 1 12 q ok ∧ pByte q 0 ≤ 3 := by
  intro q h; subst h; decide
theorem wit_WordWrites_11 : ∀ q, q = hq ([AE_CFG.addr, AE_MIN.addr, AE_MAX.addr, AWB_CFG.addr, AWB_RANGE.addr].flatMap (fun a => wordBytes (ok.reg
    a))) → Now 2 0 q ok ∧ q.params.length = 20 ∧ Allow (touchMaintain .host ok) 2 (loopWords q) := by
  intro q h; subst h; decide
theorem wit_DirectWrites_1 : 2 ≤ classOf ok .host ∧ Allow ok 2 [⟨0x2800100, 5, 0xFFFFFFFF⟩] ∧ Allow ok 2 [⟨KS_CH_PERIOD.addr 63, 100, 0xFFFFFFFF⟩] ∧
    Allow ok 2 [⟨SYS_DOMAIN_REQ.addr, 0x00100000, 0xFFFFFFFF⟩] ∧ classOf ok (.pin 0 0) < 2 := by
  decide
theorem wit_EventCommands_1 : ∀ q, q = hq (pb [(2, 0), (2, 1024), (1, 15), (3, 0)]) → Now 2 0 q ok ∧ Shp q 8 [5, 7] ∧ pByte q 4 < 16 ∧ pNat q 0 2 +
    pNat q 2 2 ≤ 1024 := by
  intro q h; subst h; decide
theorem wit_EventCommands_2 : ∀ q, q = hq (pb [(2, 1023), (2, 1)]) → Now 1 0 q ok ∧ q.params.length = 4 ∧ pNat q 0 2 + pNat q 2 2 ≤ 1024 := by
  intro q h; subst h; decide
theorem wit_EventCommands_3 : ∀ q, q = hq (pb [(2, 0), (2, 1), (1, 1), (3, 0)]) → Now 2 0 q ok ∧ Shp q 8 [5, 6, 7] ∧ pByte q 4 ≤ 1 := by
  intro q h; subst h; decide
theorem wit_EventCommands_4 : ok.evtStatus 1023 = false ∧ (ok.raise 1023).evtStatus 1023 = true := by
  decide
/-- A nonce of the host, and MAINTAIN held. -/
def okN : Block := { okM with acc := { okM.acc with nonces := [⟨originOf .host, zeros 16, 0⟩], wrong := [0, 0] } }
theorem wit_MaintainExchange_1 : Now 0 16 (hq []) ok ∧ ok.acc.lockUntil = none := by
  decide
theorem wit_MaintainExchange_2 : ∃ x ∈ okN.acc.nonces, x.origin = originOf .host ∧ okN.sinceT x.since ≤ 60 * secT := by
  decide
theorem wit_MaintainExchange_3 : ∀ q, q = hq (zeros 16) → Now 0 0 q ok ∧ q.params.length = 16 ∧ (∀ x ∈ ok.acc.nonces, x.origin ≠ originOf .host) ∧ 2 ≤
    (okN.acc.wrong.filter (fun w => decide (ok.sinceT w ≤ 60 * secT))).length := by
  intro q h; subst h; decide
theorem wit_MaintainExchange_4 : Now 0 0 (hq []) okM ∧ okM.log.queue.length < 4096 ∧ okM.acc.maintain.filter (fun m => decide (m.origin = originOf
    .host)) = [⟨originOf .host, 0⟩] := by
  decide
theorem wit_MaintainExchange_5 : ∀ q, q = hq (zeros 32) → Now 3 0 q okM ∧ q.params.length = 32 := by
  intro q h; subst h; decide

/-! Commands -/

/-- A request with FORCE. -/
def fq (p : List Byte) : Req := { hq p with flags := 1 }
/-- The image staged, and MAINTAIN held. -/
def okG : Block := { okM with nvm := { okP.nvm with staging := (img0.zipIdx.filter (fun x => decide (x.1 ≠ 0))).map (fun x => (x.2, x.1)) } }
theorem wit_ProfileFirmwareCommands_1 : ∀ q, q = hq (pb [(4, 262143), (2, 1), (2, 0), (1, 7)]) → Now 2 0 q ok ∧ Shp q 9 [6, 7] ∧ pNat q 4 2 = 1 ∧ pNat
    q 0 4 + 1 ≤ 262144 ∧ ok.nvm.stageOwner = none := by
  intro q h; subst h; decide
set_option maxRecDepth 40000 in
theorem wit_ProfileFirmwareCommands_2 : ∀ q, q = hq (zeros 4) → Now 2 4 q okG ∧ Shp q 4 [1, 2, 3] ∧ imageOk (pByte q 0) (stagedImage okG) = true := by
  intro q h; subst h; decide
set_option maxRecDepth 40000 in
theorem wit_ProfileFirmwareCommands_3 : wordsRefused (stagedImage okG) = false ∧ ((stagedImage okG).drop 48).take 5 = okG.nvmBytes (profileBase 0 +
    48) 5 := by
  decide
set_option maxRecDepth 40000 in
theorem wit_ProfileFirmwareCommands_4 : ∀ q, q = hq (zeros 4) → Now 2 12 q okG ∧ Shp q 4 [1, 2, 3] ∧ okG.takeOpen = false ∧ profileValid okG 0 = true
    ∧ (recordsOf (profileImage okG 0)).bind (profRefused okG) = none ∧ okG.running = false ∧ okR.running = true := by
  intro q h; subst h; decide
theorem wit_ProfileFirmwareCommands_5 : ∀ q, q = hq (pb [(1, 1), (3, 0), (4, 4194304)]) → Now 3 0 q okM ∧ Shp q 8 [1, 2, 3] ∧ okM.takeOpen = false ∧
    pByte q 0 ≤ 1 ∧ pByte q 0 ≠ okM.fld SYS_BOOT.IMAGE ∧ 128 ≤ pNat q 4 4 ∧ pNat q 4 4 ≤ 4194304 := by
  intro q h; subst h; decide
/-- Image 1 being written. -/
def okU : Block := { okM with nvm := { okM.nvm with updating := some 1, updateLen := 192 } }
set_option maxRecDepth 40000 in
theorem wit_ProfileFirmwareCommands_6 : ∀ q, q = hq (pb [(4, 128), (2, 64), (2, 0)] ++ zeros 64) → Now 3 0 q okU ∧ Shp q 72 [6, 7] ∧ okU.nvm.updating
    = some 1 ∧ pNat q 0 4 % 64 = 0 ∧ pNat q 4 2 = 64 ∧ 64 ≤ carrierLimit q 4032 448 ∧ pNat q 0 4 + 64 ≤ okU.nvm.updateLen := by
  intro q h; subst h; decide
set_option maxRecDepth 40000 in
theorem wit_ProfileFirmwareCommands_7 : Now 3 4 (hq []) okU ∧ fwVerifies okU 1 = false := by
  decide
theorem wit_ProfileFirmwareCommands_8 : ∀ q, q = hq [1, 0, 0, 0] → Now 3 0 q okM ∧ Shp q 4 [1, 2, 3] ∧ pByte q 0 ≤ 1 ∧ (fwImage okM (pByte q 0)).valid
    = true := by
  intro q h; subst h; decide
theorem wit_CapturePowerCommands_1 : ∀ q, q = hq [1, 0, 0, 0] → Now 1 0 q ok ∧ Shp q 4 [1, 2, 3] ∧ pByte q 0 = 1 ∧ ok.running = false ∧ startTooEarly
    ok = false ∧ captureWaits ok = false ∧ ok.rsv.closeOut = none ∧ ok.flag CNV_STAT.FULL_RUNNING = false ∧ conflictArmed ok = false ∧ inService ok ≠
    [] := by
  intro q h; subst h; decide
theorem wit_CapturePowerCommands_2 : ∀ q, q = hq [1, 0, 0, 0] → Now 1 0 q okR ∧ Shp q 4 [1, 2, 3] ∧ pByte q 0 = 1 ∧ okR.running = true := by
  intro q h; subst h; decide
theorem wit_CapturePowerCommands_3 : ∀ q, q = hq [0, 0, 0, 0] → Now 1 0 q okR ∧ Shp q 4 [1, 2, 3] ∧ pByte q 0 = 0 ∧ okR.takeOpen = false ∧
    okR.rsv.closeOut = none := by
  intro q h; subst h; decide
theorem wit_CapturePowerCommands_4 : Now 1 0 (hq []) ok ∧ ok.takeOpen = false := by
  decide
theorem wit_CapturePowerCommands_5 : ∀ q, q = hq [255, 0, 0, 0] → Now 3 0 q okM ∧ Shp q 4 [1, 2, 3] ∧ (pByte q 0 ≤ 1 ∨ pByte q 0 = 255) ∧ okM.takeOpen
    = false := by
  intro q h; subst h; decide
/-- A take open on magazine A, and its part. -/
def pt : Part := ⟨0, 0, 1, 1, 0, 64, 1000, none, none, 0, 0, 0, 0, [], 0, [], 0, zeros 32, zeros 32, 0, 0, true⟩
def tk : Take := ⟨1, 0, 0, 5, 0, [0], [pt], zeros 32, none, none, false, 0x1000, [], []⟩
def okT : Block := { (okF.setFlag SYS_STATE.TAKE_OPEN true) with acc := okM.acc, rcd := { okF.rcd with take := some tk } }
theorem wit_CapturePowerCommands_6 : okT.takeOpen = true ∧ okT.rsv.closeOut = none ∧ forced (hq []) = false ∧ forced (fq []) = true ∧ Now 1 0 (fq [])
    okT ∧ Now 1 0 (hq []) okT ∧ Now 2 16 (fq []) okT ∧ okT.flag CNV_STAT.FULL_RUNNING = false := by
  decide
theorem wit_CapturePowerCommands_7 : ∀ q, q = fq (zeros 4) → Now 3 0 q okT ∧ Shp q 4 [1, 2, 3] ∧ pByte q 0 = 0 ∧ Now 2 12 q okT ∧ pNat q 0 2 < 128 ∧
    okT.fld (ENG_STAT.STATE (pNat q 0 2)) ≠ 2 ∧ portPowered okT (pByte q 0) = true ∧ takeUses okT (pByte q 0) = true := by
  intro q h; subst h; decide
theorem wit_CapturePowerCommands_8 : ∀ q, q = fq (zeros 12) → Now 3 12 q okT ∧ q.params.length = 12 ∧ pNat q 0 4 < unitCount := by
  intro q h; subst h; decide
theorem wit_CapturePowerCommands_9 : ∀ q, q = fq (pb [(1, 1), (3, 0), (4, 255)]) → Now 2 12 q okT ∧ Shp q 8 [1, 2, 3] ∧ pByte q 0 = 1 ∧ pNat q 4 4 ≤
    255 ∧ okT.flag ST_STAT.RUNNING = false ∧ okT.flag CNV_STAT.FULL_RUNNING = false := by
  intro q h; subst h; decide
theorem wit_KeystoneCommands_1 : ∀ q, q = hq (zeros 4) → Now 2 0 q ok ∧ -trimMax ≤ sgn 32 (pNat q 0 4) ∧ sgn 32 (pNat q 0 4) ≤ trimMax ∧ ok.fld
    KS_CFG.DISC = 0 := by
  intro q h; subst h; decide
theorem wit_KeystoneCommands_2 : ∀ q, q = hq (pb [(4, 0x80000000)]) → Now 2 4 q ok ∧ q.params.length = 4 ∧ -(2147483648 * 4294967296) ≤ ok.ks.slew +
    sgn 32 (pNat q 0 4) * 4294967296 := by
  intro q h; subst h; decide
theorem wit_KeystoneCommands_3 : ∀ q, q = hq (pb [(1, 1), (3, 0), (8, 2 ^ 64 - 1)]) → Now 2 16 q ok ∧ Shp q 12 [1, 2, 3] ∧ pByte q 0 ≤ 1 ∧ anyArmed ok
    = false ∧ ok.fld KS_CFG.DISC = 0 ∧ ok.takeOpen = false := by
  intro q h; subst h; decide
theorem wit_KeystoneCommands_4 : ∀ q, q = hq [2, 0, 0, 0] → Now 2 0 q ok ∧ Shp q 4 [1, 2, 3] ∧ discBad ok (pByte q 0) = false ∧ fabricBound ok = false
    := by
  intro q h; subst h; decide
theorem wit_CalibrationCommands_1 : Now 2 16 (hq []) ok ∧ ok.takeOpen = false ∧ ok.rsv.closeOut = none ∧ ok.flag CNV_STAT.FULL_RUNNING = false ∧
    allNominal ok = true := by
  decide
theorem wit_CalibrationCommands_2 : ∀ q, q = hq (pb [(1, 0), (3, 0), (4, 255)]) → Now 2 12 q ok ∧ Shp q 8 [1, 2, 3] ∧ pNat q 4 4 ≤ 255 ∧ ok.flag
    ST_STAT.RUNNING = false := by
  intro q h; subst h; decide
theorem wit_CalibrationCommands_3 : ∀ q, q = hq (pb [(4, 2462719), (8, 0)]) → Now 3 12 q okM ∧ q.params.length = 12 ∧ pNat q 0 4 < unitCount ∧
    okM.takeOpen = false := by
  intro q h; subst h; decide
theorem wit_CalibrationCommands_4 : ∀ q, q = hq (pb [(4, 0xC0000000)]) → Now 2 12 q ok ∧ q.params.length = 4 ∧ defectBad (BitVec.ofNat 32 (pNat q 0
    4)) = false ∧ wfield (BitVec.ofNat 32 (pNat q 0 4)) 30 2 = 3 ∧ defectCovered ok (BitVec.ofNat 32 (pNat q 0 4)) = false ∧ ok.log.queue.length <
    4096 ∧ defectCovered okF (BitVec.ofNat 32 (pNat q 0 4)) = true := by
  intro q h; subst h; decide
theorem wit_CalibrationCommands_5 : ∀ q, q = hq (pb [(4, 0)]) → Now 3 12 q { okM with cal := okF.cal } ∧ defectBad (BitVec.ofNat 32 (pNat q 0 4)) =
    false ∧ okF.cal.defects.contains (BitVec.ofNat 32 (pNat q 0 4)) = true := by
  intro q h; subst h; decide
theorem wit_EngineCommands_1 : ∀ q, q = hq (pb [(2, 143), (2, 1023), (2, 1), (2, 1), (4, 7)]) → Now 2 16 q ok ∧ q.params.length = 12 ∧ pNat q 0 2 <
    144 ∧ pNat q 2 2 + pNat q 4 2 ≤ 1024 ∧ pNat q 6 2 ≤ 1 ∧ 1 ≤ carrierLimit q 1020 122 ∧ ∀ x ∈ engTargets ok (pNat q 0 2), ok.flag (ENG_CTL.SWAP_REQ
    x) = false ∧ ok.fld (ENG_STAT.STATE x) ≠ 2 := by
  intro q h; subst h; decide
theorem wit_EngineCommands_2 : ∀ q, q = hq (pb [(2, 127), (1, 1), (1, 0)]) → Now 2 12 q ok ∧ Shp q 4 [3] ∧ pNat q 0 2 < 144 ∧ ok.takeOpen = false ∧ (∀
    c ∈ swapChecks (engTargets ok (pNat q 0 2)) q ok, c.1 = false) ∧ pByte q 2 = 1 := by
  intro q h; subst h; decide
theorem wit_EngineCommands_3 : ∀ q, q = hq (pb [(2, 127), (1, 63), (1, 1)]) → Now 2 0 q ok ∧ q.params.length = 4 ∧ pByte q 3 = 1 ∧ ∀ x ∈ engTargets ok
    (pNat q 0 2), pByte q 2 < ownChans x ∧ ok.fld (ENG_STAT.STATE x) ≠ 2 ∧ enBusy ok x (pByte q 2) = false := by
  intro q h; subst h; decide
theorem wit_EngineCommands_4 : ∀ q, q = hq (pb [(2, 128), (1, 15), (1, 0), (2, 16), (2, 0)] ++ zeros 64) → Now 1 2 q ok ∧ q.params.length = 72 ∧ pByte
    q 3 = 0 ∧ pNat q 6 2 = 0 ∧ pNat q 4 2 = 16 ∧ pNat q 0 2 < 144 ∧ pByte q 2 < ownChans (pNat q 0 2) ∧ ok.fld (ENG_STAT.STATE (pNat q 0 2)) ≠ 2 := by
  intro q h; subst h; decide
theorem wit_EngineCommands_5 : ∀ q, q = hq (pb [(2, 128), (1, 15), (1, 0), (2, 16), (2, 0)]) → Now 0 64 q ok ∧ Shp q 8 [3, 6, 7] ∧ pNat q 4 2 = 16 ∧
    pByte q 2 < ownChans (pNat q 0 2) ∧ ok.fld (CH_CFG.QSINK (pNat q 0 2) (pByte q 2)) = 0 := by
  intro q h; subst h; decide
theorem wit_EngineCommands_6 : ∀ q, q = hq (pb [(2, 127), (2, 0)]) → Now 3 0 q (okM.setFld (ENG_STAT.STATE 127) 2) ∧ Shp q 4 [2, 3] ∧ pNat q 0 2 < 128
    ∧ (okM.setFld (ENG_STAT.STATE 127) 2).fld (ENG_STAT.STATE 127) = 2 ∧ clusterIdle okM 127 = true := by
  intro q h; subst h; decide
theorem wit_FrameMemoryCommands_1 : ∀ q, q = hq (pb [(4, 0x8420), (4, 0x10840), (4, 0x21080), (4, 0x42100), (4, 0x84200)]) → Now 2 0 q ok ∧
    q.params.length = 20 ∧ ((wordsOf 5 q.params).zipIdx.all (fun e => maskOk e.2 e.1.toNat)) = true ∧ ok.flag SYS_STATE.CAPTURE_EN = false ∧
    ok.takeOpen = false := by
  intro q h; subst h; decide
theorem wit_FrameMemoryCommands_2 : ∀ q, q = hq [7, 0, 0, 0] → Now 3 4 q okM ∧ Shp q 4 [1, 2, 3] ∧ pByte q 0 ≤ 7 ∧ okM.takeOpen = false ∧ inService
    okM ≠ [pByte q 0] := by
  intro q h; subst h; decide
theorem wit_LinkCommands_1 : ∀ q, q = hq [7, 0, 0, 0] → Now 2 0 q ok ∧ Shp q 4 [1, 2, 3] ∧ pByte q 0 < 8 ∧ portPowered ok (pByte q 0) = true ∧
    takeUses ok (pByte q 0) = false := by
  intro q h; subst h; decide
theorem wit_LinkCommands_2 : ∀ q, q = hq [7, 15, 0, 0] → Now 2 4 q ok ∧ Shp q 4 [2, 3] ∧ pByte q 1 % 2 ^ portWidth (pByte q 0) ≠ 0 ∧ portPowered ok
    (pByte q 0) = true ∧ takeUses ok (pByte q 0) = false := by
  intro q h; subst h; decide
theorem wit_LinkCommands_3 : ∀ q, q = hq [39, 129, 0, 0] → Now 2 4 q (ok.setFlag (PT_CFG.AUTO_ALIGN 7) false) ∧ Shp q 4 [2, 3] ∧ pByte q 0 < 40 ∧
    pByte q 1 ≤ 129 ∧ portPowered ok (portOf (pByte q 0)) = true ∧ mayslip (ok.setFlag (PT_CFG.AUTO_ALIGN 7) false) 39 = true := by
  intro q h; subst h; decide
theorem wit_LinkCommands_4 : ∀ q, q = hq [39, 3, 0, 0] → Now 2 0 q ok ∧ Shp q 4 [2, 3] ∧ pByte q 0 < 40 ∧ pByte q 1 ≤ 3 ∧ portPowered ok (portOf
    (pByte q 0)) = true ∧ ok.flag (LN_STAT.IN_SERVICE (pByte q 0)) = false := by
  intro q h; subst h; decide
/-- Both magazines READY; and one that needs recovery. -/
def okMg : Block := ((okF.setFld (MG_STAT.STATE 0) 4).setFld (MG_STAT.STATE 1) 4)
theorem wit_TakeMagazineCommands_1 : ∀ q, q = hq (zeros 8) → Now 1 16 q okMg ∧ q.params.length = 8 ∧ okMg.takeOpen = false ∧ okMg.fb.openWait = none ∧
    takeReady okMg = true ∧ onPeer okMg = false := by
  intro q h; subst h; decide
/-- REMOTE_REC to a peer behind pass E. -/
def okPeer : Block := ((okMg.setFlag FB_CFG.REMOTE_REC true).setFld FB_CFG.PEER_NODE 3)
theorem wit_TakeMagazineCommands_2 : onPeer okPeer = true := by
  decide
theorem wit_TakeMagazineCommands_3 : Now 1 8 (hq []) okT ∧ okT.rcd.take.isSome = true ∧ okT.rsv.closeOut = none := by
  decide
theorem wit_TakeMagazineCommands_4 : ∀ q, q = hq (zeros 28) → Now 2 16 q okMg ∧ Shp q 28 [1, 2, 3] ∧ okMg.takeOpen = false ∧ okMg.magState 0 ≠ 7 ∧
    magThere okMg 0 = true ∧ (okMg.mag 0).openParts = [] := by
  intro q h; subst h; decide
theorem wit_TakeMagazineCommands_5 : ∀ q, q = hq (pb [(4, 0), (8, 2 ^ 48 - 1), (2, 4095), (2, 1)]) → Now 0 1 q okMg ∧ Shp q 16 [1, 2, 3] ∧ pNat q 4 8
    < 2 ^ 48 ∧ pNat q 12 2 + pNat q 14 2 ≤ 4096 ∧ magThere okMg 0 = true := by
  intro q h; subst h; decide
theorem wit_TakeMagazineCommands_6 : ∀ q, q = hq (zeros 4) → Now 2 4 q okMg ∧ Shp q 4 [1, 2, 3] ∧ okMg.magState 0 = 4 ∧ toRecover okMg [] = [] := by
  intro q h; subst h; decide
theorem wit_FabricCommands_1 : Now 2 0 (hq []) ok ∧ arrayAnywhere ok = false := by
  decide
theorem wit_FabricCommands_2 : ∀ q, q = hq (pb [(4, 3), (2, 0), (1, 9), (1, 0), (2, 0), (2, 0x1000)]) → Now 0 8 q ok ∧ 8 ≤ (q.params.drop 4).length ∧
    pNat q 1 3 = 0 ∧ leAt (q.params.drop 4) 4 2 = (q.params.drop 4).length - 8 ∧ leAt (q.params.drop 4) 0 2 ≠ 0x0A10 := by
  intro q h; subst h; decide
set_option maxRecDepth 40000 in
theorem wit_FabricCommands_3 : ∀ q, q = hq ([1] ++ zeros 35) → Now 1 40 q ok ∧ q.params.length = 36 ∧ ok.fld FB_STAT.NODE ∈ bitmapNodes (q.params.take
    32) ∧ ok.fb.array = none := by
  intro q h; subst h; decide
/-- An array take open here. -/
def okA : Block := { (ok.setFlag FB_STAT.IN_ARRAY true) with fb := { ok.fb with array := some ⟨true, 100, 6666667, [0], [0], 0, true, none⟩ } }
theorem wit_FabricCommands_4 : Now 1 40 (hq []) okA ∧ okA.flag FB_STAT.IN_ARRAY = true ∧ okA.fb.array.isSome = true := by
  decide
theorem wit_FabricCommands_5 : ∀ q, q = hq (zeros 60) → Now 1 32 q ok ∧ Shp q 60 [56, 57, 58, 59] := by
  intro q h; subst h; decide
theorem wit_CompareChannelCommands_1 : ∀ q, q = hq (pb [(1, 63), (3, 0), (8, 100), (4, 1), (4, 0), (4, 0)]) → Now 1 12 q ok ∧ q.params.length = 24 ∧
    leAt q.params 1 3 = 0 ∧ pNat q 12 4 ≠ 0 ∧ ctlBad 63 (ctlTaken (BitVec.ofNat 32 (pNat q 16 4))) = false ∧ armedCh ok 63 = false ∧ chanOwned ok 63 =
    false ∧ ok.running = false := by
  intro q h; subst h; decide
theorem wit_CompareChannelCommands_2 : ∀ q, q = hq [63, 0, 0, 0] → Now 1 12 q ok ∧ Shp q 4 [1, 2, 3] ∧ chanOwned ok 63 = false := by
  intro q h; subst h; decide
/-- A schedule that waits for triggers. -/
def okW : Block := (okR.setFld FT_CFG.TIMING 2)
theorem wit_CompareChannelCommands_3 : Now 1 4 (hq []) okW ∧ trigMode okW = true ∧ trigMissed okW.now okW = true := by
  decide
theorem wit_AgeingReserveBusCommands_1 : Now 2 4 (hq []) ok ∧ ok.th.planRun = none ∧ ok.rsv.closeOut = none ∧ ok.takeOpen = false ∧ Now 1 0 (hq []) ok
    := by
  decide
theorem wit_AgeingReserveBusCommands_2 : ∀ q, q = hq (pb [(1, 8), (1, 2), (2, 1), (2, 256), (1, 7)]) → Now 1 (2 + pNat q 6 2) q (ok.setFld TW_CFG.ROLE
    1) ∧ 8 ≤ pByte q 0 ∧ pByte q 0 ≤ 0x77 ∧ pByte q 1 ≤ 2 ∧ pNat q 6 2 ≤ 256 ∧ ownAddr (ok.setFld TW_CFG.ROLE 1) (pByte q 0) = false ∧ ok.tw.xfer =
    none := by
  intro q h; subst h; decide
/-- The block when the counter stands at `n`. -/
def at_ (n : Nat) (b : Block) : Block := { b with ks := { b.ks with now := BitVec.ofNat 64 n } }

/-! Events of the timebase, power and start-up -/

/-- Armed channel 63 and channel 5 late, chain pending on 6, a slew's last part, a mark due on channel 0. -/
def okK : Block :=
  let b := setArmed 5 true (setArmed 63 true okR)
  { b with ks := { b.ks with late := [(5, BitVec.ofNat 64 (2 ^ 64 - 1))], chains := [(6, BitVec.ofNat 64 (2 ^ 64 - 1))], slew := 1 },
           ft := { b.ft with sched := [⟨0, .fcp 5⟩, ⟨200, .gtx 5 0 false false⟩], lastGrst := none } }
theorem wit_KeystoneEvents_1 : okK.now ≠ BitVec.ofNat 64 (2 ^ 64 - 1) ∧ okK.ks.slew ≠ 0 ∧ ok.ks.slew = 0 ∧ (at_ (2 ^ 64 - 1) ok).now = BitVec.ofNat 64
    (2 ^ 64 - 1) ∧ ok.ks.stopped = false ∧ ok.log.queue.length < 4096 := by
  decide
theorem wit_KeystoneEvents_2 : okK.ks.chains.find? (fun e => decide (e.1 = 6)) = some (6, BitVec.ofNat 64 (2 ^ 64 - 1)) ∧ okK.now = BitVec.ofNat 64 (2
    ^ 64 - 1) + 1 := by
  decide
theorem wit_KeystoneEvents_3 : armedCh okK 63 = true ∧ okK.ft.sched.find? (fun m => decide (m.tick = okK.now) && decide (m.mark.chan = 63)) = none ∧
    chanOwned okK 63 = false ∧ smHas okK.ks.late 63 = false ∧ pointOf okK 63 = okK.now ∧ okK.flag (KS_CH_CTL.REPEAT 63) = false := by
  decide
theorem wit_KeystoneEvents_4 : armedCh okK 5 = true ∧ okK.ks.late.find? (fun e => decide (e.1 = 5)) = some (5, BitVec.ofNat 64 (2 ^ 64 - 1)) ∧ okK.now
    = BitVec.ofNat 64 (2 ^ 64 - 1) + 1 := by
  decide
theorem wit_KeystoneEvents_5 : okK.ft.sched.find? (fun m => decide (m.tick = okK.now) && decide (m.mark.chan = (Mark.fcp 5).chan)) = some ⟨0, .fcp 5⟩
    := by
  decide
/-- A profile with CAPTURE_AUTO in force. -/
def okC : Block := { ok with acc := { ok.acc with perms := 1 } }
theorem wit_TimingEvents_1 : okC.fld SYS_BOOT.STAGE = 9 ∧ permCapture okC = true ∧ okC.running = false ∧ startTooEarly okC = false ∧ captureWaits okC
    = false ∧ conflictArmed okC = false ∧ inService okC ≠ [] ∧ okC.rsv.closeOut = none ∧ permCapture ok = false := by
  decide
theorem wit_TimingEvents_2 : trigMode okW = true ∧ okW.eng.sunk.find? (fun k => decide (k.sink = 3)) = none ∧ okW.fld FT_TRIG.SRC ≠ 3 ∧ trigMode ok =
    false ∧ glOn ok = false := by
  decide
/-- Genlocked, with a last edge at 0. -/
def okGl : Block := { okR.setFld FT_CFG.TIMING 1 with ft := { okR.ft with glLast := some 0 } }
theorem wit_TimingEvents_3 : glOn okGl = true ∧ okGl.ft.glLast = some 0 ∧ 99 * okGl.fld FT_GL_REF.REF ≤ 100 * (BitVec.ofNat 64 (okGl.fld
    FT_GL_REF.REF) - (0 : Tick)).toNat ∧ 100 * (BitVec.ofNat 64 (okGl.fld FT_GL_REF.REF) - (0 : Tick)).toNat ≤ 101 * okGl.fld FT_GL_REF.REF ∧
    okGl.ft.glStart = false ∧ okGl.flag FT_STAT.HOLDOVER = false ∧ okGl.fld KS_CFG.DISC ≠ 1 := by
  decide
theorem wit_TimingEvents_4 : glMissed (at_ 100000000 okGl) = true ∧ glMissed okGl = false := by
  decide
theorem wit_TimingEvents_5 : okK.pix.pulse = none ∧ okK.ft.sched.find? (fun m => decide (m.mark.chan = 1 + b2n false) && decide (m.tick = okK.now +
    200)) = some ⟨200, .gtx 5 0 false false⟩ := by
  decide
theorem wit_RailEvents_1 : notRunning ok = false ∧ notRunning Block.reset = true ∧ Machine.railOk Block.reset 10 = true ∧ Block.reset.fld
    SYS_BOOT.STAGE = 0 ∧ ok.fld SYS_BOOT.STAGE ≠ 0 ∧ Block.reset.pwr.vidDriven = true := by
  decide
theorem wit_RailEvents_2 : Machine.railOk (setRailOk 2 false (setRailOk 7 false Block.reset)) 7 = false ∧ ∃ x ∈ railsBefore 7, Machine.railOk
    (setRailOk 2 false (setRailOk 7 false Block.reset)) x = false := by
  decide
theorem wit_RailEvents_3 : ∀ x ∈ [3, 4, 5, 6], x ≠ 3 → Machine.railOk Block.reset x = true := by
  decide
/-- Close-out under way, and latches set. -/
def okCo : Block := { ok with rsv := { ok.rsv with closeOut := some ⟨0, 0, 0, 0, 0, false, false⟩ } }
def shp : Block := { Block.reset with pwr := { Block.reset.pwr with shipLatch := true } }
theorem wit_ResetEvents_1 : Machine.railOk Block.reset 0 = true ∧ Machine.railOk Block.reset 1 = true ∧ Block.reset.pwr.shipLatch = false ∧
    Block.reset.pwr.thermalLatch = false ∧ Block.reset.pwr.standby = false ∧ Block.reset.fld RSV_STAT.STATE < 2 ∧ shp.pwr.shipLatch = true := by
  decide
theorem wit_ResetEvents_2 : Block.reset.rsv.closeOut = none ∧ Block.reset.pwr.resetAfterCloseOut = false ∧ Block.reset.pwr.rstLow = true ∧ allRails
    Block.reset = true ∧ Block.reset.flag SYS_CLK.TREF_OK = true ∧ Block.reset.pwr.heldEarly = false := by
  decide
/-- Held early with its rails valid. -/
def held : Block := { Block.reset with pwr := { Block.reset.pwr with rstLow := false, heldEarly := true } }
theorem wit_ResetEvents_3 : held.pwr.heldEarly = true ∧ allRails held = true ∧ held.flag SYS_CLK.TREF_OK = true ∧ held.pwr.rstLow = false ∧
    held.pwr.selfHeld = false ∧ held.pwr.thermalLatch = false ∧ held.pwr.shipLatch = false ∧ held.pwr.standby = false := by
  decide
/-- Ports off; a domain being switched on; standby with an address. -/
def dark : Block := Block.reset.setFlag SYS_DOMAIN.HP_ON false
def sby : Block := { (Block.reset.setFld TW_CFG.IND_ADDR 0x10).setFlag TW_CFG.IND_VALID true with pwr := { Block.reset.pwr with standby := true, switching := [17] } }
theorem wit_ClockPowerEvents_1 : Block.reset.pwr.rstLow = true ∧ ok.pwr.rstLow = false ∧ (∀ p, p < 8 → portPowered dark p = false) ∧ okT.takeOpen =
    true ∧ okT.rcd.lrefLostAt = none := by
  decide
theorem wit_ClockPowerEvents_2 : (17 : BitVec 5).toNat ∈ sby.pwr.switching ∧ sby.pwr.domainWords = [] ∧ (18 : BitVec 5).toNat ∉ sby.pwr.switching :=
    by
  decide
theorem wit_ClockPowerEvents_3 : sby.pwr.standby = true ∧ (twMatch sby 0x10).isSome = true ∧ allRails sby = true ∧ sby.flag SYS_CLK.TREF_OK = true ∧
    sby.pwr.heldEarly = false ∧ twMatch sby 0 = none ∧ shp.pwr.shipLatch = true ∧ sby.pwr.shipLatch = false := by
  decide
/-- A part in step `n` of start-up. -/
def up (n : Nat) : Block := { (Block.reset.setFld SYS_BOOT.STAGE n) with pwr := { Block.reset.pwr with rstLow := false } }
theorem wit_StartUp_1 : atStage (up 1) 1 = true ∧ (up 1).nvm.fw0.valid = true ∧ (imageOrder (up 1)).1 = 0 ∧ (up 1).flt.imageTried ≤ 2 ∧ atStage (up 3)
    3 = true ∧ atStage (up 4) 4 = true ∧ atStage (up 5) 5 = true ∧ atStage (up 6) 6 = true ∧ atStage (up 7) 7 = true ∧ atStage (up 8) 8 = true ∧
    atStage (up 8) 7 = false := by
  decide
set_option maxRecDepth 40000 in
theorem wit_StartUp_2 : profileValid (up 3) 0 = false ∧ profileValid { up 3 with nvm := okP.nvm } 0 = true ∧ profileValid { up 3 with nvm := okP.nvm }
    7 = false := by
  decide
theorem wit_StartUp_3 : (1 : BitVec 8) &&& 2 = 0 ∧ (1 : BitVec 8) &&& 1 ≠ 0 ∧ (∃ k ∈ [(601 : BitVec 13)], k.toNat < 602) ∧ (up 6).flag
    RSV_STAT.CELL_PRESENT = false ∧ ((up 6).setFlag RSV_STAT.CELL_PRESENT true).flag RSV_STAT.CELL_PRESENT = true ∧ (up 8).flag SYS_DOMAIN.FX_ON =
    false ∧ ((up 8).setFlag SYS_DOMAIN.FX_ON true).flag FB_STAT.READY = false := by
  decide
/-- NVM with a word in the journal, a challenge lock-out over, MAINTAIN and staging timed out, a cairn lost. -/
def okJ : Block := { okN with ks := { okN.ks with now := BitVec.ofNat 64 (900 * secT) }, nvm := { okN.nvm with journal := [⟨0, zeros 64, .bytes⟩], stageOwner := some 0x1000 }, acc := { okN.acc with lockUntil := some 5 }, log := { okN.log with lost := 2 } }
theorem wit_MaintainNvmEvents_1 : smWf (fun _ => (0 : Byte)) okJ.nvm.mem = true ∧ okJ.log.queue.length + okJ.acc.maintain.length ≤ 4096 ∧ (∃ m ∈
    okJ.acc.maintain, 900 * secT ≤ okJ.sinceT m.last) ∧ ok.acc.maintain = [] ∧ okJ.acc.lockUntil = some 5 ∧ laterThan 5 okJ.now = false := by
  decide
theorem wit_MaintainNvmEvents_2 : okJ.nvm.stageOwner.isSome = true ∧ 60 * secT ≤ okJ.sinceT okJ.nvm.stageSince ∧ ok.log.lost = 0 ∧ okJ.log.lost ≠ 0 ∧
    okJ.nvm.journal = [⟨0, zeros 64, .bytes⟩] ∧ okJ.log.queue.length < 4096 := by
  decide

/-! Converters, ingest, statistics, frame memory -/

/-- Unit 0 converts for frame 5; a calibration visit on pair 3; the ingest of frame 5 is open on region 0. -/
def ac : Action := ⟨0, 0, 0, false, 5, 0, 0, false, false, [0], [0], false, true, false, []⟩
def ig : Ingest := Ingest.start fr
def okX : Block := { okF with
  eng := { okF.eng with actions := [ac, { ac with pair := 3, action := 1, units := [] }] },
  rcd := { okF.rcd with openFrame := [(0, 5)], ingest := [ig] },
  cal := { okF.cal with full := some ⟨0, true, 0x1000⟩ } }
theorem wit_UnitCalibrationEvents_1 : convOf okX 0 false = some ac ∧ (okX.frame? ac.frame).isSome = true ∧ convOf okX 1 false = none ∧ ac.test = false
    ∧ (List.replicate 64 (⟨0, 0, 0⟩ : Sample)).length = 64 ∧ ∀ x ∈ List.replicate 64 (⟨0, 0, 0⟩ : Sample), sunActs fr x = false := by
  decide
theorem wit_UnitCalibrationEvents_2 : (actionOn okX 0 3).map (fun a => a.action) = some 1 ∧ actionOn okX 1 0 = none ∧ okX.flag CNV_CFG.BGCAL_EN = true
    ∧ 4 * okX.fld CNV_BGCAL.INTERVAL * msT ≤ (at_ 4000000000 okX).sinceT (smGet 0 okX.cal.passStart 7) ∧ (ok.setFlag CNV_CFG.BGCAL_EN false).flag
    CNV_CFG.BGCAL_EN = false := by
  decide
theorem wit_UnitCalibrationEvents_3 : okX.pwr.coreDown = false ∧ okX.rsv.closeOut = none ∧ okCo.rsv.closeOut.isSome = true ∧ okX.cal.full.isSome =
    true ∧ ok.cal.full = none ∧ (∀ n ∈ [5], (1, n) ∉ okX.rcd.openFrame) ∧ okX.rcd.openFrame.find? (fun e => decide (e.1 = 0)) = some (0, 5) := by
  decide
theorem wit_IngestEvents_1 : okX.rcd.openFrame.find? (fun e => decide (e.1 = 0)) = some (0, 5) ∧ (okX.frame? 5).isSome = true ∧ (okX.ingest? 5).isSome
    = true ∧ 0 ∉ okX.rcd.overflowed ∧ frameOfLow ok 5 = none := by
  decide
theorem wit_IngestEvents_2 : frameOfLow okX 5 = some 5 := by
  decide
theorem wit_IngestEvents_5 : (ok.setFlag REC_TC.EN false).flag REC_TC.EN = false ∧ ok.flag REC_TC.EN = true ∧ ig.recWords.length < 512 ∧ ig.whole =
    none := by
  decide
/-- Frame 5 whole and nobody's; its segments. -/
def okH : Block := { okX with rcd := { okX.rcd with slots := [sl], ingest := [{ ig with whole := some 0 }] } }
theorem wit_IngestEvents_3 : (okH.slot? 5).map (fun l => (l.drains, l.draining, l.header)) = some ([], [], none) ∧ (okH.ingest? 5).bind (fun g =>
    g.whole) = some 0 ∧ (okX.slot? 5).bind (fun l => l.header) = some (zeros 4) := by
  decide
set_option maxRecDepth 40000 in
theorem wit_IngestEvents_4 : (expSegs fr 0).head? = some (0, false) ∧ 0 < blockBeats fr.bin * (expUnits fr 0 0).length := by
  decide
theorem wit_StatisticsEvents_1 : (okH.ingest? 5).map (fun g => (g.whole.isSome, g.stats)) = some (true, none) ∧ statsStopped okH 5 = false ∧ fr.num =
    5 := by
  decide
/-- The loops on, with and without an area. -/
def okL : Block := { (okF.setFlag AE_CFG.EN true).setFlag AWB_CFG.EN true with stat := okF.stat }
theorem wit_StatisticsEvents_2 : okL.pwr.coreDown = false ∧ okL.flag AE_CFG.EN = true ∧ okL.flag AWB_CFG.EN = true ∧ loopArea okL = some ⟨5, zeros 4,
    [], 0, 0⟩ ∧ loopArea { okL with stat := ok.stat } = none ∧ ok.flag AE_CFG.EN = false ∧ ok.flag AWB_CFG.EN = false ∧ okL.fld AE_CFG.MODE = 0 := by
  decide
theorem wit_StatisticsEvents_3 : (okL.setFld AE_CFG.MODE 1).fld AE_CFG.MODE ≠ 0 ∧ loopDue okL.stat.aeFirst (okL.fld AE_CFG.INTERVAL) 5 = true ∧ aeHold
    (okL.setFld AE_CFG.MODE 1) ⟨5, zeros 4, [], 0, 0⟩ ≠ 0 := by
  decide
theorem wit_FrameMemoryEvents_1 : 7 ∈ inService ok ∧ ok.fld (MC_CH_STAT.OWED 7) < owedLimit (ok.fld (MC_CH_STAT.RBAND 7)) ∧ 7 ∉ inService (ok.setFld
    MC_STAT.IN_SERVICE 0x7F) ∧ 2 ≤ (inService ok).length ∧ inService (ok.setFld MC_STAT.IN_SERVICE 0x7F) ≠ [] ∧ ok.mc.recent = [] := by
  decide
theorem wit_FrameMemoryEvents_2 : ok.flag (MC_CH_STAT.PASS 7) = false ∧ (ok.setFlag (MC_CH_STAT.PASS 7) true).flag (MC_CH_STAT.PASS 7) = true ∧ smGet
    0 ok.mc.rateWant 7 = 0 ∧ smGet 0 ({ ok.mc with rateWant := [(7, 1)] } : McState).rateWant 7 ≠ 0 ∧ sgn 16 (ok.fld (MC_CH_STAT.TEMP 7)) ≤ 140 * 16
    := by
  decide

/-! Engines -/

/-- Engine `e` runs, and its channel 5 is next with the word `w`. -/
def okE (e : Nat) (w : Word) : Block := (((ok.setFld (ENG_STAT.STATE e) 1).setFlag (CH_CFG.EN e 5) true).setReg (engBase e + 0x4000) w).setChan e 5
  { ok.chan e 5 with state := 0 }
/-- `InstrDue` for channel 5, decidable. -/
abbrev Due (op : Nat) (e : BitVec 8) (w : Word) (b : Block) : Prop := e.toNat < 144 ∧ b.fld (ENG_STAT.STATE e.toNat) = 1 ∧ scheduled b e.toNat = some 5 ∧
  fetchInstr b e.toNat (b.chan e.toNat 5).pc = w ∧ wfield w 28 4 = op ∧ (b.chan e.toNat 5).stopReq = false
theorem Due.due {op : Nat} {e : BitVec 8} {w : Word} {b : Block} (h : Due op e w b) : InstrDue op e 5 w b :=
  ⟨h.1, fun _ => by decide, h.2.1, h.2.2.1, h.2.2.2.1, h.2.2.2.2.1, h.2.2.2.2.2⟩
/-- Channel 5 of mason 3 with that context. -/
def okCh (w : Word) (f : Chan → Chan) : Block := (okE 3 w).setChan 3 5 (f ((okE 3 w).chan 3 5))
theorem wit_DataInstructions_1 : Due 1 3 0x120C0009 (okE 3 0x120C0009) ∧ wfield 0x120C0009 23 5 + (wfield 0x120C0009 18 5 + 1) ≤ 32 ∧ wfield
    0x120C0009 16 2 = 0 ∧ wfield 0x120E0009 16 2 = 2 ∧ wfield 0x120F0009 16 2 = 3 ∧ Due 1 3 0x120E0009 (okE 3 0x120E0009) ∧ Due 1 3 0x120F0009 (okE 3
    0x120F0009) := by
  decide
theorem wit_DataInstructions_2 : Due 1 128 0x1F8C8001 (okE 128 0x1F8C8001) ∧ Due 1 143 0x100D0001 (okE 143 0x100D0001) ∧ wfield 0x100D0001 16 2 = 1 ∧
    wfield 0x100D0001 23 5 + (wfield 0x100D0001 18 5 + 1) ≤ 32 := by
  decide
theorem wit_DataInstructions_3 : Due 2 3 0x240F8000 (okCh 0x240F8000 (fun c => { c with consumed := 0 })) ∧ wfield 0x240F8000 25 3 = 2 ∧ wfield
    0x260F8000 25 3 = 3 ∧ wfield 0x240F8000 15 5 + 1 ≤ 32 - ((okCh 0x240F8000 (fun c => { c with consumed := 0 })).chan 3 5).consumed := by
  decide
theorem wit_DataInstructions_4 : Due 3 3 0x320F8000 (okCh 0x320F8000 (fun c => { c with filled := 0 })) ∧ wfield 0x320F8000 25 3 = 1 ∧ wfield
    0x320F8000 20 5 + 32 ≤ 32 ∧ ((okE 3 0x320F8000).chan 3 5).stall = .none ∧ ((okE 3 0x320F8000).chan 3 5).filled + 32 ≤ 32 := by
  decide
theorem wit_DataInstructions_5 : Due 4 3 0x40000000 (okE 3 0x40000000) ∧ (queueDepths (takeTurn 3 5 (okE 3 0x40000000)) 3 5).1 ≠ 0 ∧ ((okE 3
    0x40000000).chan 3 5).inq = [] ∧ Due 4 3 0x48000000 (okE 3 0x48000000) ∧ Due 4 3 0x40000000 (okCh 0x40000000 (fun c => { c with inq := [7] })) ∧
    ((okCh 0x40000000 (fun c => { c with inq := [7] })).chan 3 5).inq = [7] := by
  decide
theorem wit_DataInstructions_6 : Due 5 3 0x50000000 (okE 3 0x50000000) ∧ (queueDepths (takeTurn 3 5 (okE 3 0x50000000)) 3 5).2 = 4 ∧ (takeTurn 3 5
    (okE 3 0x50000000)).fld (CH_CFG.QSINK 3 5) = 0 ∨ (ok.setFld (CH_CFG.QSINK 3 5) 0).fld (CH_CFG.QSINK 3 5) = 0 := by
  decide
theorem wit_DataInstructions_7 : Due 5 3 0x58000000 ((okCh 0x58000000 (fun c => { c with outq := [1, 2, 3, 4] })).setFld (CH_CFG.QSINK 3 5) 0) ∧
    (takeTurn 3 5 ((okCh 0x58000000 (fun c => { c with outq := [1, 2, 3, 4] })).setFld (CH_CFG.QSINK 3 5) 0)).fld (CH_CFG.QSINK 3 5) = 0 := by
  decide
theorem wit_DataInstructions_8 : Due 6 3 0x60000000 (okE 3 0x60000000) ∧ wfield 0x60000000 20 4 < 11 ∧ wfield 0x66A80000 24 4 = 6 ∧ wfield 0x66A80000
    20 4 < 11 ∧ wfield 0x66A80000 0 18 = 0 := by
  decide
theorem wit_DataInstructions_9 : Due 7 3 0x7000FFFF (okE 3 0x7000FFFF) ∧ wfield 0x7000FFFF 16 10 = 0 ∧ Due 7 3 0x7C000000 (okE 3 0x7C000000) ∧ Due 7 3
    0x70010000 (okE 3 0x70010000) ∧ wfield 0x70010000 16 10 ≠ 0 := by
  decide
theorem wit_DataInstructions_10 : Due 8 3 0x870003FF (okE 3 0x870003FF) ∧ wfield 0x870003FF 10 9 = 0 ∧ wfield 0x85000000 24 4 = 5 ∧ wfield 0x80000000
    24 4 = 0 ∧ Due 14 3 0xE0000000 (okE 3 0xE0000000) ∧ Due 15 3 0xF0000000 (okE 3 0xF0000000) := by
  decide
theorem wit_FlowInstructions_1 : Due 0 3 0 (okE 3 0) ∧ Due 13 3 0xD0000000 (okE 3 0xD0000000) ∧ Due 9 3 0x900FFFFF (okE 3 0x900FFFFF) ∧ wfield
    0x900FFFFF 20 8 = 0 := by
  decide
theorem wit_FlowInstructions_2 : Due 9 3 0x98000000 (okCh 0x98000000 (fun c => { c with x := 1048576 })) ∧ ((okCh 0x98000000 (fun c => { c with x :=
    1048576 })).chan 3 5).x.toNat = 1048576 := by
  decide
theorem wit_FlowInstructions_3 : Due 10 3 0xA2000003 (okE 3 0xA2000003) ∧ waitSrc 0xA2000003 = some (.strobe 3) ∧ smHas ((okE 3 0xA2000003).chan 3
    5).latches 3 = false ∧ waitSrc 0xA000003F = some (.compare 63) ∧ Due 10 3 0xA000003F (okE 3 0xA000003F) ∧ ((okE 3 0xA000003F).chan 3 5).armed ≠
    some (.compare 63) ∧ waitSrc 0xA0000040 = none ∧ Due 10 3 0xA0000040 (okE 3 0xA0000040) := by
  decide
theorem wit_FlowInstructions_4 : Due 10 3 0xA2000003 (okCh 0xA2000003 (fun c => { c with latches := [(3, ⟨9, 0⟩)] })) := by
  decide
theorem wit_FlowInstructions_5 : Due 11 3 0xB0000000 (okE 3 0xB0000000) ∧ ((okE 3 0xB0000000).chan 3 5).ol.getLsbD 3 = false ∧ actionOn (takeTurn 3 5
    (okE 3 0xB0000000)) 3 5 = none ∧ (takeTurn 3 5 (okE 3 0xB0000000)).pix.bufs = [] ∧ (takeTurn 3 5 (okE 3 0xB0000000)).cfgEng 3 5 = 3 := by
  decide
def okE5 : Block := { ok with eng := { ok.eng with actions := [{ ac with cluster := 3, pair := 5 }] } }
theorem wit_FlowInstructions_6 : (actionOn okE5 3 5).isSome = true ∧ Due 11 128 0xB0000000 (okE 128 0xB0000000) := by
  decide
theorem wit_FlowInstructions_7 : Due 12 3 0xCF800000 (okE 3 0xCF800000) ∧ (takeTurn 3 5 (okE 3 0xCF800000)).fld (ENG_SYNC.NEED 3 15) = 64 ∧ Due 12 3
    0xC0000000 (okE 3 0xC0000000) ∧ (takeTurn 3 5 (okE 3 0xC0000000)).fld (ENG_SYNC.NEED 3 0) = 0 := by
  decide
theorem wit_AddInstruction_1 : Due 7 3 0x7800FFFF (okE 3 0x7800FFFF) ∧ (0x7800FFFF : Word).getLsbD 27 = true ∧ (0x7800FFFF : Word).getLsbD 26 = false
    := by
  decide
/-- Channel 5 of engine `e` with that context. -/
def okH5 (e : Nat) (f : Chan → Chan) : Block := ok.setChan e 5 (f (ok.chan e 5))
theorem wit_EngineEvents_1 : ((okH5 143 (fun c => { c with delayEnd := some 0, state := 1 })).chan 143 5).delayEnd = some 0 ∧ laterThan 0 ok.now =
    false ∧ laterThan 1 ok.now = true ∧ ((okH5 3 (fun c => { c with waitOn := some .queue, state := 2, wokeAt := some 4, waitStamp := 1 })).chan 3
    5).wokeAt = some 4 := by
  decide
/-- The same, on a queue, at the word PULL. -/
def okQ (l : List Word) : Block := okCh 0x40000000 (fun c => { c with state := 3, stall := .onQueue, inq := l })
theorem wit_EngineEvents_2 : ((okQ [1]).chan 3 5).stall = .onQueue ∧ ((okQ []).chan 3 5).inq = [] ∧ (okQ []).fld (CH_CFG.QSINK 3 5) ≠ 4 ∧ wfield
    (fetchInstr (okQ []) 3 ((okQ []).chan 3 5).pc) 28 4 = 4 := by
  decide
/-- Channels 5 and 6 of mason 3 at barrier 1, which needs 2. -/
def okBar : Block := ((okE 3 0).setFlag (CH_CFG.EN 3 6) true).setFld (ENG_SYNC.NEED 3 1) 2
def okBar1 : Block := okBar.setChan 3 5 { okBar.chan 3 5 with state := 4, barrier := some (1, false) }
def okBar2 : Block := okBar1.setChan 3 6 { okBar1.chan 3 6 with state := 4, barrier := some (1, false) }
theorem wit_EngineEvents_3 : okBar2.flag (ENG_STAT.SERVING 3) = false ∧ okBar2.flag (ENG_SYNC.SCOPE 3 1) = false ∧ (atBarrier okBar1 3 1).length <
    okBar1.fld (ENG_SYNC.NEED 3 1) ∧ okBar2.fld (ENG_SYNC.NEED 3 1) ≠ 0 ∧ okBar2.fld (ENG_SYNC.NEED 3 1) ≤ (atBarrier okBar2 3 1).length := by
  decide
theorem wit_EngineEvents_4 : (turnOf ok 3).count < ok.fld (ENG_CTL.QUANTUM 3) ∧ (setTurn 3 ⟨5, 32, true, 5, 127⟩ ok).fld (ENG_CTL.QUANTUM 3) ≤ (turnOf
    (setTurn 3 ⟨5, 32, true, 5, 127⟩ ok) 3).count ∧ ok.eng.timed = [] := by
  decide
set_option maxRecDepth 40000 in
theorem wit_EngineEvents_5 : (ok.setFlag (ENG_CTL.SWAP_REQ 143) true).flag (ENG_CTL.SWAP_REQ 143) = true ∧ (∀ k ∈ onChans (ok.setFlag
    (ENG_CTL.SWAP_REQ 143) true) 143, atSwapPoint ok 143 k = true) ∧ ok.fld (ENG_STAT.STATE 143) ≠ 2 ∧ ok.flag (ENG_CTL.SWAP_REQ 143) = false := by
  decide
theorem wit_EngineEvents_6 : (7 : BitVec 7).toNat ∈ ({ ok.eng with restorePending := [7] } : EngState).restorePending ∧ clusterIdle ok 7 = true ∧ (7 :
    BitVec 7).toNat ∉ ok.eng.restorePending ∧ 2 * secT ≤ (at_ (2 * secT) ok).sinceT 0 := by
  decide
/-- Frame 5 to be posted. -/
def okD : Block := { ok with ft := { ok.ft with frames := [fr] } }
set_option maxRecDepth 40000 in
theorem wit_EngineEvents_7 : 71 ∈ clusterPairs 127 ∧ roomFor ok 127 (pairChan 71) = true ∧ (nextStart okD 3 0).map (fun f => f.num) = some 5 ∧
    gateOpen okD fr 3 0 = true ∧ fr.nodes.contains true = false ∧ (nextStart ok 3 0).isNone = true := by
  decide
theorem wit_EngineEvents_8 : visitOk (ok.setFlag CNV_CFG.BGCAL_EN true) 127 63 = true ∧ classOf ok .host = 2 ∧ classOf ok (.pin 0 0) < 2 ∧ (∀ x ∈
    swapChecks [143] ⟨.host, 0, 0, 0, []⟩ ok, x.1 = false) := by
  decide
set_option maxRecDepth 40000 in
theorem wit_EngineEvents_9 : ok.flag (CH_CFG.EN 143 15) = false ∧ enBusy ok 143 15 = false ∧ (ok.chan 143 15).inq.length < (queueDepths ok 143 15).1 ∧
    (queueDepths ok 3 5).1 ≤ ((okH5 3 (fun c => { c with inq := [1, 2, 3, 4] })).chan 3 5).inq.length ∧ (∀ x ∈ bcastMasons ok, ok.flag
    (ENG_CTL.SWAP_REQ x) = false) := by
  decide

/-! Lanes, ports, packets -/

/-- Port 0 in state `n`; port 0 UP with a packet in each queue. -/
def ptS (n : Nat) : Block := ok.setFld (PT_STAT.STATE 0) n
def pk : Pkt := ⟨0xC0, 0, true, true, 0, 0, 1, 0, zeros 4⟩
def ptU (f : Port → Port) : Block := (ptS 5).setPort 0 (f (ok.port 0))
/-- Lane 0 with those flags, and that record. -/
def lnS (lock serv : Bool) (f : Lane → Lane) : Block := ((((ptS 5).setFlag (LN_STAT.LOCK 0) lock).setFlag (LN_STAT.IN_SERVICE 0) serv).setLane 0 (f (ok.lane 0)))
theorem wit_LaneEvents_1 : (39 : BitVec 6).toNat < 40 ∧ ok.flag (LN_STAT.IN_SERVICE 39) = false ∧ (lnS true true id).flag (LN_STAT.IN_SERVICE 0) =
    true ∧ ok.flag (PT_CFG.AUTO_ALIGN (portOf 39)) = true ∧ ok.flag (LN_STAT.LOCK 39) = false ∧ (lnS true false id).flag (LN_STAT.LOCK 0) = true ∧
    (ok.setFlag (PT_CFG.AUTO_ALIGN 0) false).flag (PT_CFG.AUTO_ALIGN (portOf 0)) = false := by
  decide
def okB8 : Block := lnS true true (fun l => { l with bip := List.replicate 15 true })
theorem wit_LaneEvents_2 : ((([!true] ++ (ok.lane 39).bip).take 16).filter (fun b => b)).length = 0 ∧ ok.fld (PT_STAT.STATE (portOf 39)) ≠ 3 ∧ 8 ≤
    ((([!false] ++ (okB8.lane 0).bip).take 16).filter (fun b => b)).length := by
  decide
theorem wit_LaneEvents_3 : (ptS 4).fld (PT_STAT.STATE (portOf 0)) = 4 ∧ leAt (zeros 16) 5 1 / 16 ≠ 1 ∧ leAt (zeros 5 ++ [0x1F] ++ zeros 10) 5 1 / 16 =
    1 ∧ ok.fld (PT_STAT.STATE 0) ≠ 4 := by
  decide
/-- Port 0 in TRAINING with lane 0 locked. -/
def ptT : Block := (ptS 4).setFlag (LN_STAT.LOCK 0) true
theorem wit_LaneEvents_4 : leAt ([0, 0, 0, 0xFF, 0, 0x10] ++ zeros 10) 5 1 / 16 = 1 ∧ ptT.fld (PT_STAT.STATE 0) = 4 ∧ smGet 0 (ptT.port 0).seen
    (physOf 0) < 15 ∧ lockedSet ptT 0 &&& leAt ([0, 0, 0, 0xFF, 0, 0x10] ++ zeros 10) 3 1 &&& 2 ^ physOf 0 ≠ 0 ∧ (ptT.port 0).set = 0 := by
  decide
theorem wit_LaneEvents_5 : (lnS true false id).flag (PT_CFG.READMIT 0) = true ∧ ((lnS true false id).lane 0).barred = false ∧ ((lnS true false
    id).lane 0).byCommand = false ∧ (lnS true false id).fld (PT_STAT.STATE 0) = 5 ∧ ((lnS true false id).fld (PT_CFG.LANES_ALLOWED 0)).testBit (physOf
    0) = true ∧ (ok.setFlag (PT_CFG.READMIT 0) false).flag (PT_CFG.READMIT 0) = false := by
  decide
theorem wit_LaneEvents_6 : ok.flag (LN_STAT.IN_SERVICE 39) = false ∧ secT ≤ (at_ secT ok).sinceT (ok.lane 39).outSince ∧ (ok.setFlag (LN_CTL.PRBS_RX
    39) true).flag (LN_CTL.PRBS_RX 39) = true ∧ ok.flag (LN_CTL.PRBS_RX 39) = false ∧ (ok.lane 39).prbsErr = 0 := by
  decide
theorem wit_PortEvents_1 : portPowered ok 7 = true ∧ ok.fld (PT_STAT.STATE 7) = 0 ∧ 7 ≤ ok.fld SYS_BOOT.STAGE ∧ portPowered dark 0 = false ∧ (ptS
    1).fld (PT_STAT.STATE 0) = 1 ∧ ((ptS 1).port 0).waiting = false ∧ lrefStable ((ptS 1).setFlag SYS_CLK.LREF_OK true) = true ∧ (0xFF : Byte).toNat
    &&& ok.fld (PT_CFG.LANES_ALLOWED 0) ≠ 0 := by
  decide
theorem wit_PortEvents_2 : ((ptS 2).setFlag (LN_STAT.LOCK 0) true).fld (PT_STAT.STATE 0) = 2 ∧ lockedSet ((ptS 2).setFlag (LN_STAT.LOCK 0) true) 0 ≠ 0
    ∧ (ptS 7).fld (PT_STAT.STATE 0) = 7 ∧ ((ptS 4).port 0).waiting = false ∧ ((ptU (fun p => { p with waiting := true })).port 0).waiting = true := by
  decide
def ptR : Block := (ptS 6).setPort 0 { ok.port 0 with restripe := some ⟨3, 0, 3, 0, 0, 1, false⟩ }
theorem wit_PortEvents_3 : (ptS 5).fld (PT_STAT.STATE 0) = 5 ∧ (ptS 6).fld (PT_STAT.STATE 0) = 6 ∧ (ptR.port 0).restripe = some ⟨3, 0, 3, 0, 0, 1,
    false⟩ ∧ (3 &&& 2 : Nat) ≠ 0 ∧ (3 &&& 4 : Nat) = 0 ∧ ((1 ||| 2) &&& 3 : Nat) = 3 := by
  decide
theorem wit_PacketEvents_1 : portUp ok 0 = false ∧ portUp (ptS 5) 0 = true ∧ leAt (zeros 16) 4 4 = (ptS 5).fld (PT_SEQ_RX.SEQ 0) ∧ leAt ([0, 0, 0, 0,
    1] ++ zeros 11) 4 4 ≠ (ptS 5).fld (PT_SEQ_RX.SEQ 0) ∧ seqLater ((ptS 5).fld (PT_SEQ_RX.SEQ 0)) 1 = false ∧ seqLater 0 0xFFFFFFFF = true := by
  decide
theorem wit_PacketEvents_2 : ((ptU (fun p => { p with replay := [{ pk with seq := 5 }] })).port 0).replay ≠ [] ∧ (∀ x ∈ [{ pk with seq := 5 }],
    seqLater x.seq (((5#32).toNat + (2 ^ 32 - 1)) % 2 ^ 32) = true) ∧ (ok.port 0).noAck < 2 := by
  decide
theorem wit_PacketEvents_3 : ((ptU (fun p => { p with linkq := [pk] })).port 0).linkq = [pk] ∧ (ptS 5).fld (PT_STAT.STATE 0) ≠ 6 ∧ ((ptU (fun p => { p
    with resend := [pk] })).port 0).resend = [pk] ∧ (ok.port 0).linkq = [] ∧ (ok.port 0).resend = [] ∧ portUp (ptU id) 0 = true := by
  decide
theorem wit_PacketEvents_4 : nextData { ok.port 0 with dataq := [pk], creditSeen := true, limit := [64, 64, 64] } = some pk := by
  decide

/-! Monitors and magazines -/

/-- Frame 5 due in context 3, its input in reach. -/
def okMo : Block := { (((okH.setFlag (MON_CTX_CFG.EN 3) true).setFlag (MON_CTX_CFG.EN 2) true)) with mon := { okH.mon with due := [(5, 3)] } }
theorem wit_MonitorEvents_1 : ok.mon.due = [] ∧ nextDue (dropOld okMo) = some (5, 3) ∧ okMo.th.shedCtx.contains 3 = false ∧ (dropOld okMo).effFlag
    (MON_CTX_CFG.EN 3) = true := by
  decide
theorem wit_MonitorEvents_2 : (monPort ((ok.setFlag SYS_DOMAIN.MN_ON true).setFld (PT_STAT.STATE 2) 5) 0 0).isSome = true := by
  decide
theorem wit_MonitorEvents_3 : monPort (dropOld okMo) ((dropOld okMo).effFld (MON_CTX_CFG.DEST 3)) ((dropOld okMo).effFld (MON_CTX_NODE.NODE 3)) = none
    := by
  decide
/-- Context 3 develops frame 5; and sends one output with another waiting. -/
def oF : OutFrame := ⟨5, zeros 4, [], 0⟩
def okMo1 : Block := okMo.onCtx 3 (fun c => { c with developing := some 5 })
def okMo2 : Block := okMo.onCtx 3 (fun c => { c with sending := some oF, waiting := some oF })
theorem wit_MonitorEvents_4 : (okMo1.ctx 3).developing = some 5 ∧ (okMo1.frame? 5).isSome = true ∧ (okMo1.ingest? 5).isSome = true ∧ (okMo1.slot?
    5).isSome = true ∧ (okMo2.ctx 3).sending = some oF ∧ (okMo2.ctx 3).waiting = some oF ∧ (okMo1.ctx 3).sending = none := by
  decide
/-- Magazine A with command 5 outstanding; a whole frame to drain; a cairn to copy. -/
def mc (p : Purpose) : MagCmd := ⟨5, 0, 0, 0, 0, [], p⟩
def okOut (p : Purpose) : Block := okMg.setMag 0 { okMg.mag 0 with out := [mc p] }
theorem wit_MagazineEvents_1 : (okMg.mag 0).out.find? (fun c => decide (c.cid = 5)) = none ∧ ((okOut .open_).mag 0).out.find? (fun c => decide (c.cid
    = leAt ([0, 0, 5] ++ zeros 13) 2 2)) = some (mc .open_) ∧ isSeal .seal_ = true ∧ isSeal .open_ = false ∧ leAt ([0, 0, 5] ++ zeros 13) 4 2 = 0 ∧
    leAt ([0, 0, 5, 0, 7] ++ zeros 11) 4 2 = 7 := by
  decide
/-- Frame 5 whole, claimed by a drain of magazine A on which the take is open. -/
def okDr : Block := { ((okT.setFld (MG_STAT.STATE 0) 5).setFld (PT_STAT.STATE 0) 5) with rcd := { okT.rcd with take := some { tk with parts := [{ pt with state := 2 }] }, slots := [{ sl with header := none, drains := [0], take := 1 }], ingest := [{ ig with whole := some 0 }] }, acc := okM.acc }
theorem wit_MagazineEvents_2 : pickDrain ok = none ∧ (pickDrain okDr).isSome = true := by
  decide
theorem wit_MagazineEvents_3 : okT.pwr.coreDown = false ∧ okT.rcd.take.isSome = true ∧ (okT.rcd.take.bind (fun t => t.closing)).isNone = true ∧
    cairnHead okT ≠ ({ okT.rcd with metaSeq := 1 } : RecState).metaSeq ∧ (∀ x ∈ liveMags okT, (okT.mag x).busy = none) ∧ ok.rcd.take = none ∧
    ok.takeOpen = false := by
  decide
theorem wit_MagazineEvents_4 : ({ okT.rcd with lrefLostAt := some 0 } : RecState).lrefLostAt.isSome = true ∧ portUp okMg 1 = false ∧ portUp ok 0 =
    false ∧ okMg.magState 0 = 4 ∧ ok.magState 0 ≠ 4 ∧ ok.rcd.lrefLostAt = none := by
  decide

/-! Fabric -/

/-- The fabric up as node 0 and root; as node 1 with parent pass 4 on an UP port; before discovery. -/
def fbU : Block := { ((ok.setFlag FB_STAT.READY true).setFlag FB_STAT.ROOT true).setFlag SYS_DOMAIN.FX_ON true with fb := { ok.fb with started := true, bestKey := ownKey ok, declared := true, reportAt := some 0, nodes := [⟨1, 0, 0, true, true⟩] } }
def fbN : Block := { (((fbU.setFlag FB_STAT.ROOT false).setFld FB_POS.PARENT 4).setFld (PT_STAT.STATE (passPort 4)) 5) with fb := { fbU.fb with bestKey := ownKey ok + 1, parent := 4, declared := false } }
def fb8 : Block := ok.setFld SYS_BOOT.STAGE 8
/-- The core restarting. -/
def dn : Block := { ok with pwr := { ok.pwr with coreDown := true } }
theorem wit_DiscoveryEvents_1 : dn.pwr.coreDown = true ∧ fb8.fld SYS_BOOT.STAGE = 8 ∧ fb8.flag SYS_DOMAIN.FX_ON = true ∧ fb8.fb.started = false ∧
    fabricOn Block.reset = false ∧ fabricOn fbU = true ∧ fbU.fb.declared = true ∧ fbN.fb.declared = false ∧ fabricOn fbN = true := by
  decide
/-- Declared as soon as it may be. -/
def fbD : Block := at_ (20 * msT) { fbU with fb := { fbU.fb with declared := false } }
theorem wit_DiscoveryEvents_2 : 10 * msT ≤ (at_ (10 * msT) fbN).sinceT fbN.fb.beatAt ∧ fbN.sinceT fbN.fb.beatAt < 10 * msT ∧ 10 * msT ≤ (at_ (10 *
    msT) fbU).sinceT 0 ∧ fbU.sinceT 0 < 10 * msT ∧ fb8.flag FB_STAT.READY = false ∧ 500 * msT ≤ (at_ (500 * msT) fb8).sinceT fb8.fb.stageAt ∧
    fbN.fb.parent ≠ 0 := by
  decide
theorem wit_DiscoveryEvents_7 : fbD.fb.bestKey = ownKey fbD ∧ fbN.fb.bestKey ≠ ownKey fbN := by
  constructor
  · rfl
  · exact Nat.succ_ne_self (ownKey ok)
theorem wit_DiscoveryEvents_3 : 20 * msT ≤ fbD.sinceT fbD.fb.bestSince ∧ fabricOn fbD = true := by
  decide
/-- Messages: HELLO from pass 2's partner, REPORT, TABLE. -/
def hello (d : Nat) : List Byte := leBytes 2 0x0AF0 ++ zeros 28 ++ leBytes 1 d ++ zeros 33
theorem wit_DiscoveryEvents_4 : leAt (hello 2) 0 2 = 0x0AF0 ∧ portUp fbN (passPort 4) = true ∧ leAt (hello (opposite 4)) 30 1 = opposite 4 ∧ leAt
    (hello 4) 30 1 ≠ opposite 4 ∧ fbN.fld (FB_PASS.STATE 4) ≠ 2 ∧ leAt (leBytes 2 0x0AF1 ++ zeros 62) 0 2 = 0x0AF1 ∧ (fbN.setFld (PT_PARTNER.KIND
    (passPort 4)) 6).fld (PT_PARTNER.KIND (passPort 4)) = 6 := by
  decide
/-- A TABLE for this unit at node 0, to switch at once. -/
def tb (gen sw : Nat) : TableMsg := ⟨gen, 0, BitVec.ofNat 64 sw, 0, [], [⟨1, 0, 0, true, true⟩]⟩
theorem wit_DiscoveryEvents_5 : laterThan (tb 2 5).switchAt ok.now = true ∧ laterThan (tb 2 0).switchAt ok.now = false ∧ (tb 2 0).node < 256 ∧ (tb 2
    0).gen < 2 ^ 32 ∧ ({ ok.fb with table := some (tb 2 0) } : FbState).table = some (tb 2 0) := by
  decide
/-- The bytes of a TABLE with one node, of serial `n`. -/
def tbB (n : Nat) : List Byte := leBytes 2 0x0AF2 ++ leBytes 4 2 ++ zeros 12 ++ leBytes 2 1 ++ zeros 258 ++ leBytes 8 n ++ [0, 0, 3, 0]
theorem wit_DiscoveryEvents_6 : leAt (tbB Config.serial.toNat) 0 2 = 0x0AF2 ∧
    ((parseTable (tbB Config.serial.toNat)).nodes[(parseTable (tbB Config.serial.toNat)).node]?).map (fun x => x.serial) = some Config.serial.toNat := by
  have h := Config.serial.isLt
  constructor
  · rfl
  · show some (leVal (leBytes 8 Config.serial.toNat)) = _
    simp only [leBytes, leVal, BitVec.toNat_ofNat]
    congr 1
    omega
theorem wit_FabricTimeEvents_1 : fbN.flag FB_STAT.READY = true ∧ fbN.flag FB_STAT.ROOT = false ∧ fbN.fld FB_POS.PARENT = 4 ∧ portUp fbN (passPort 4) =
    true ∧ fbU.flag FB_STAT.ROOT = true ∧ ok.flag FB_STAT.READY = false := by
  decide
/-- A time message of that kind (0 request, 1 response) and number 0; an exchange that waits, the one before it known. -/
def tmB (k : Nat) : List Byte := leBytes 2 0x0AF8 ++ zeros 4 ++ leBytes 1 k ++ zeros 21
def fbX : Block := { fbN with fb := { fbN.fb with ex := ⟨0, 9, 0, 0, true, some (1, 2, 3), [], []⟩ } }
theorem wit_FabricTimeEvents_2 : leAt (tmB 0) 0 2 = 0x0AF8 ∧ leAt (tmB 0) 6 1 = 0 ∧ leAt (tmB 1) 6 1 = 1 ∧ leAt (tmB 1) 2 4 = fbX.fb.ex.number ∧
    fbX.fb.ex.waiting = true ∧ fbX.flag FB_STAT.ROOT = false ∧ fbX.fb.ex.prev = some (1, 2, 3) ∧ fbN.fb.ex.waiting = false := by
  decide
theorem wit_FabricTimeEvents_3 : (List.replicate 16 (0 : Int)).length = 16 ∧ 512 * 16 < (16 * (513 : Int) - (List.replicate 16 0).sum).natAbs ∧
    fbX.fb.ex.delays.length < 16 ∧ fbX.fb.joining = false ∧ fbX.fld KS_CFG.DISC ≠ 2 := by
  decide
/-- Array messages at tick 1,000,000; an array take of this unit not yet committed, and a member's, at that tick. -/
def arB (k : Nat) : List Byte := leBytes 2 0x0AF3 ++ leBytes 1 k ++ zeros 3 ++ leBytes 8 1000000 ++ leBytes 4 6666667 ++ zeros 32
def arr (co cm : Bool) (cl : Option Tick) : ArrayTake := ⟨co, 1000000, 6666667, [0, 1], [0], 0, cm, cl⟩
def fbA (co cm : Bool) (cl : Option Tick) : Block := { fbU with fb := { fbU.fb with array := some (arr co cm cl) } }
set_option maxRecDepth 40000 in
theorem wit_FabricTakeEvents_1 : leAt (arB arrReady) 0 2 = 0x0AF3 ∧ leAt (arB arrReady) 2 1 = arrReady ∧ (arr true false none).k = BitVec.ofNat 64
    (leAt (arB arrReady) 6 8) ∧ leAt (arB arrCommit) 2 1 = arrCommit ∧ commitLate (arr false false none) fbU = false ∧ leAt (arB arrAbort) 2 1 =
    arrAbort ∧ leAt (arB arrClose) 2 1 = arrClose ∧ leAt (arB arrRefuse) 2 1 = arrRefuse ∧ leAt (arB arrPrepare) 2 1 = arrPrepare := by
  decide
theorem wit_FabricTakeEvents_2 : (fbA true false none).flag FB_STAT.READY = true ∧ 20 * msT ≤ (at_ (20 * msT) (fbA true false none)).sinceT 0 ∧
    laterThan 5 (at_ 5 ok).now = false ∧ laterThan 5 ok.now = true ∧ ok.fb.array = none ∧ dn.pwr.coreDown = true := by
  decide
/-- A remote request to node 4, and its reply. -/
def rm (sh : Bool) : Remote := ⟨1, 4, 7, 0x0100, 0, sh⟩
def rpB (st : Nat) : List Byte := leBytes 2 0x0100 ++ leBytes 1 7 ++ zeros 3 ++ leBytes 2 st ++ zeros 8
theorem wit_FabricTakeEvents_3 : [rm false].find? (fun r => decide (r.node = (4 : Byte).toNat) && decide (r.tag.toNat = leAt (rpB 0) 2 1) && decide
    (r.opcode = leAt (rpB 0) 0 2)) = some (rm false) ∧ leAt (rpB 0) 6 2 = stOk ∧ leAt (rpB 1) 6 2 ≠ stOk ∧ 2 * secT ≤ (at_ (2 * secT) ok).sinceT (rm
    false).since ∧ ok.fb.openWait = none ∧ (∀ r ∈ ok.fb.remotes, r.node ≠ 4) := by
  decide
theorem wit_FabricTakeEvents_4 : leAt (leBytes 2 0x0DFF ++ zeros 30) 0 2 = 0x0DFF ∧ (okW.setFld FT_TRIG.SRC 3).fld FT_TRIG.SRC = 3 ∧ trigMode
    (okW.setFld FT_TRIG.SRC 3) = true ∧ leAt (leBytes 2 0x0AF9 ++ zeros 12 ++ [1]) 0 2 = 0x0AF9 := by
  decide
set_option maxRecDepth 40000 in
theorem wit_FabricTakeEvents_5 : (bitmapNodes (((leBytes 2 0x0AF9 ++ zeros 12 ++ [1] ++ zeros 31).drop 14).take 32)).contains (okW.fld FB_STAT.NODE) =
    true := by
  decide
/-- A peer that has granted, and its messages. -/
def po (g st : Bool) (f : Option Nat) : PeerOut := ⟨3, 0, 0, 0, 1, g, true, f, [], 0, st⟩
def okPo (g st : Bool) (f : Option Nat) : Block := { okH with fb := { okH.fb with peerOut := some (po g st f) }, rcd := { okH.rcd with slots := [{ sl with drains := [2], take := 1 }], take := some { tk with mags := [2] } } }
def peB (k : Nat) : List Byte := leBytes 2 0x0AF4 ++ leBytes 1 k ++ zeros 40
theorem wit_FabricTakeEvents_6 : leAt (peB peerPrepare) 2 1 = peerPrepare ∧ leAt (peB peerGrant) 0 2 = 0x0AF4 ∧ leAt (peB peerGrant) 2 1 = peerGrant ∧
    leAt (peB peerRefuse) 2 1 = peerRefuse ∧ leAt (peB peerLanded) 2 1 = peerLanded ∧ leAt (peB peerBusy) 2 1 = peerBusy ∧ (po true false
    none).stalled = false ∧ ok.fb.peerOut = none := by
  decide
theorem wit_FabricTakeEvents_7 : nextForward (okPo true false none) = some 5 ∧ chainReady (okPo true false none) 5 = true ∧ (po true true (some
    5)).frame.isSome = true := by
  decide
theorem wit_NodeAddress_1 : (ok.setFlag FB_CFG.TW_DERIVE true).flag FB_CFG.TW_DERIVE = true ∧ ok.flag FB_STAT.READY = false ∧ (ok.setFld
    FB_CFG.TW_BASE 0x77).fld FB_CFG.TW_BASE + 0 = 0x77 ∧ (ok.setFld FB_CFG.TW_BASE 0x77).fld FB_CFG.TW_BASE + 1 > 0x77 ∧ ok.fld FB_CFG.TW_BASE + 0 = 8
    ∨ (ok.flag TW_CFG.GROUP_EN = false ∧ ok.log.queue.length + 2 ≤ 4096) := by
  decide
theorem wit_DiscoveryEvents_8 : ∃ n : Nat, n < 2 ^ 64 ∧ n ≠ Config.serial.toNat ∧
    ((parseTable (tbB n)).nodes[(parseTable (tbB n)).node]?).map (fun x => x.serial) = some n := by
  have h : ∀ n : Nat, n < 2 ^ 64 → ((parseTable (tbB n)).nodes[(parseTable (tbB n)).node]?).map (fun x => x.serial) = some n := by
    intro n h
    show some (leVal (leBytes 8 n)) = _
    simp only [leBytes, leVal, BitVec.toNat_ofNat]
    congr 1
    omega
  by_cases e : Config.serial.toNat = 0
  · exact ⟨1, by decide, by omega, h 1 (by decide)⟩
  · exact ⟨0, by decide, by omega, h 0 (by decide)⟩

/-! Thermal, reserve, two-wire, core -/

/-- Diode 127 valid; hot once; the thermal latch closed. -/
def thV (n : Nat) : Block := ok.setDiode 127 { ok.diode 127 with valid := true, hotRun := n }
def thL : Block := { ok with pwr := { ok.pwr with thermalLatch := true } }
theorem wit_ThermalEvents_1 : thL.pwr.thermalLatch = true ∧ ((thV 0).diode 127).valid = true ∧ 2320 ≤ (2320#16).toInt ∧ (2720#16).toInt ≤ 2720 ∧ ((thV
    0).diode 127).awayAt = none ∧ ((thV 0).diode 127).hotRun = 0 ∧ 1 ≤ ((thV 1).diode 127).hotRun ∧ ok.pwr.thermalLatch = false := by
  decide
theorem wit_ThermalEvents_2 : (ok.setFld (TH_TD0.TYPE 3) 1).fld (TH_TD0.TYPE 3) ≠ 0 ∧ (ok.setFld (TH_TD0.TYPE 2) 0).fld (TH_TD0.TYPE 2) = 0 ∧ ok.fld
    TH_STAT.SHED_STEP = 0 := by
  decide
/-- Shedding step `n`, below its limits since 0. -/
def shd (n : Nat) (r c : Bool) : Block := at_ (10 * secT) { (((ok.setFld TH_STAT.SHED_STEP n).setFlag TH_STAT.RISE_ACT r).setFlag TH_STAT.COOLING_LOST c) with th := { ok.th with belowSince := some 0, stepAt := 0 } }
theorem wit_ThermalEvents_3 : (shd 7 false false).fld TH_STAT.SHED_STEP ≠ 0 ∧ (shd 7 false false).th.belowSince = some 0 ∧ 10 * secT ≤ (shd 7 false
    false).sinceT 0 ∧ 10 * secT ≤ (shd 7 false false).sinceT (shd 7 false false).th.stepAt ∧ (shd 4 true false).flag TH_STAT.RISE_ACT = true ∧ (shd 4
    true false).fld TH_STAT.SHED_STEP ≤ 4 ∧ (shd 3 false true).flag TH_STAT.COOLING_LOST = true ∧ (shd 3 false true).fld TH_STAT.SHED_STEP ≤ 3 := by
  decide
theorem wit_ThermalEvents_4 : 500 * msT ≤ (shd 3 true false).sinceT (shd 3 true false).th.actStepAt ∧ (shd 3 true false).fld TH_STAT.SHED_STEP < 4 ∧
    ok.flag TH_STAT.RISE_ACT = false ∧ (ok.setFlag SYS_DOMAIN.CT_ON true).flag SYS_DOMAIN.CT_ON = true ∧ notRunning (ok.setFlag SYS_DOMAIN.CT_ON true)
    = false := by
  decide
theorem wit_ThermalEvents_11 : (0 : Word).toNat * Config.fanPulses.toNat = 0 := Nat.zero_mul _
theorem wit_ThermalEvents_12 : 48000000000 / ((48000000#32).toNat * 2) ≤ 65535 ∧ (Config.fanPulses.toNat = 2 → 0 < (48000000#32).toNat * Config.fanPulses.toNat) := by
  constructor
  · decide
  · intro h; rw [h]; decide
/-- The fan silent for 2 s at a duty of 20. -/
def fan : Block := at_ (2 * secT) { (ok.setFld TH_COOL_STAT.FAN_DUTY 20) with th := { ok.th with fanAt := some 0 } }
theorem wit_ThermalEvents_5 : 20 ≤ fan.fld TH_COOL_STAT.FAN_DUTY ∧ lasted fan fan.th.fanAt (2 * secT) = true ∧ fan.th.fanStalled = false ∧ ok.fld
    TH_COOL_STAT.FAN_DUTY < 20 := by
  decide
theorem wit_ThermalEvents_6 : (143 : BitVec 8).toNat < 144 ∧ (5 : BitVec 3).toNat ≤ 5 ∧ ok.fld (ENG_STAT.STATE 143) ≠ 2 ∧ (ok.setFld (ENG_STAT.STATE
    0) 2).fld (ENG_STAT.STATE 0) = 2 := by
  decide
/-- A loop delay below and above the band. -/
def vid (n : Nat) : Block := (ok.setFld TH_VID_TGT.DLY_RAISE n).setFld SYS_VID.CODE 49
set_option maxRecDepth 40000 in
theorem wit_ThermalEvents_7 : (vid 4095).fld SYS_VID.CODE < 50 ∧ vidMin (vid 4095) ≤ 50 ∧ slowest (vid 4095) ≤ (vid 4095).fld TH_VID_TGT.DLY_RAISE ∧
    ((vid 4095).setFld TH_VID_TGT.DLY_LOWER 0).fld TH_VID_TGT.DLY_LOWER ≤ slowest (vid 4095) := by
  decide
set_option maxRecDepth 40000 in
theorem wit_ThermalEvents_8 : ((vid 0).setFld (MSN_CLUSTER.DLY 127) 5).fld TH_VID_TGT.DLY_RAISE < slowest ((vid 0).setFld (MSN_CLUSTER.DLY 127) 5) ∧
    vidMin ((vid 0).setFld (MSN_CLUSTER.DLY 127) 5) ≤ 50 := by
  decide
theorem wit_ThermalEvents_9 : (at_ (10 * usT) ok).pwr.vidDriven = true ∧ 10 * usT ≤ (at_ (10 * usT) ok).sinceT (at_ (10 * usT) ok).pwr.lastVidStep ∧
    inReadout ok = false ∧ ({ ok.pwr with vidTarget := 50 } : PwrState).vidTarget > (vid 0).fld SYS_VID.CODE ∧ ({ ok.pwr with vidTarget := 0 } :
    PwrState).vidTarget < (vid 0).fld SYS_VID.CODE := by
  decide
theorem wit_ThermalEvents_10 : ok.th.planRun = none ∧ ({ ok.th with planRun := some 0 } : ThState).planRun.isSome = true ∧ (ok.setFlag
    SYS_DOMAIN.CT_ON true).flag SYS_DOMAIN.CT_ON = true ∧ okR.running = true := by
  decide
theorem wit_ThermalEvents_13 : ({ ok.th with planNext := some PlanModel.new } : ThState).planNext = some PlanModel.new := rfl
theorem wit_ReserveEvents_1 : shp.pwr.shipLatch = true ∧ ok.rcd.take = none ∧ closeEnded okT tk = false ∧ ok.rsv.closeOut = none ∧ ok.fld
    RSV_STAT.STATE = 0 ∧ ok.pwr.shipLatch = false ∧ okCo.rsv.closeOut = some ⟨0, 0, 0, 0, 0, false, false⟩ := by
  decide
/-- A take whose part is SEALED, while it closes. -/
def tkE : Take := { tk with parts := [{ pt with state := 3 }], closing := some ⟨0, 0, 0, 5⟩ }
theorem wit_ReserveEvents_5 : closeEnded { ok with rcd := { ok.rcd with take := some tkE } } tkE = true := by
  decide
theorem wit_ReserveEvents_2 : (10 * (ok.setFld RSV_VIN_CFG.VIN_OK 255).fld RSV_VIN_CFG.VIN_OK) < (2551#16).toNat ∧ (2550#16).toNat ≤ 10 * (ok.setFld
    RSV_VIN_CFG.VIN_OK 255).fld RSV_VIN_CFG.VIN_OK ∧ okCo.takeOpen = false ∧ okCo.pwr.coreDown = false ∧ okCo.pwr.resetAfterCloseOut = false ∧
    okCo.pwr.rstLow = false := by
  decide
/-- The charger in CC, with a search at step 4. -/
def chg (k : Option Nat) : Block := { ((ok.setFld RSV_STAT.CHARGE 2).setFlag RSV_STAT.CELL_PRESENT true) with rsv := { ok.rsv with duty := true, search := k, vinBase := 1000 } }
theorem wit_ReserveEvents_3 : charging ok = false ∧ charging (chg (some 4)) = true ∧ (chg (some 4)).rsv.search = some 4 ∧ (chg (some 4)).rsv.vinBase *
    97 < 971 * 100 ∧ 970 * 100 ≤ (chg (some 4)).rsv.vinBase * 97 ∧ 25 * 4 / 10 < 256 ∧ (chg none).rsv.search = none ∧ (chg none).rsv.searchAt = none ∧
    50 + 25 * 4 < 10 * ((chg none).setFld RSV_CFG.ICHG_MAX 255).fld RSV_CFG.ICHG_MAX := by
  decide
theorem wit_ReserveEvents_4 : ok.rsv.duty = false ∧ ok.flag RSV_STAT.CELL_PRESENT = false ∧ buttonCounts ok = true ∧ buttonCounts shp = false ∧
    sby.pwr.standby = true ∧ (ok.setFld RSV_STAT.STATE 3).fld RSV_STAT.STATE = 3 ∧ ok.rsv.flashes = 0 := by
  decide
def xf : Xfer := ⟨0x20, 1, 1, 0⟩
/-- The two-wire target alive at address 0x10, the mailbox BUSY or not; a read held up. -/
def twA (n : Nat) : Block := { ((ok.setFld TW_CFG.IND_ADDR 0x10).setFlag TW_CFG.IND_VALID true) with tw := { ok.tw with mbxStat := n } }
theorem wit_TwoWireEvents_1 : twAlive (twA 0) = true ∧ twMatch (twA 0) 0x10 = some false ∧ twFull (twA 0) = true ∧ (twA 0).tw.mbxStat ≠ 1 ∧ (twA
    1).tw.mbxStat = 1 ∧ twAlive shp = false ∧ twMatch (twA 0) 0x11 = none ∧ twGroup (twA 0) 0x10 = false ∧ ok.tw.readWait = none := by
  decide
theorem wit_TwoWireEvents_2 : ({ ok.tw with readWait := some 2, pointer := 0x1002 } : TwState).readWait = some 2 ∧ 2 ≤ 4 - 0x1002 % 4 ∧ twAlive ok =
    true ∧ ok.flag TW_CFG.IND_VALID = false ∧ ok.tw.xfer = none ∧ ({ ok.tw with xfer := some xf } : TwState).xfer = some xf := by
  decide
theorem wit_CoreEvents_1 : dn.pwr.coreDown = true ∧ dn.fld SYS_BOOT.STAGE ≠ 10 ∧ (restartImage dn).isSome = true ∧ dn.takeOpen = false ∧ restartImage
    { dn with nvm := { dn.nvm with fw0 := { dn.nvm.fw0 with valid := false }, fw1 := { dn.nvm.fw1 with valid := false } } } = none := by
  decide
/-- A self-test of every item runs. -/
def slf (n : Nat) : Block := { (ok.setFlag ST_STAT.RUNNING true) with flt := { ok.flt with stItems := n } }
theorem wit_CoreEvents_2 : (slf 255).flag ST_STAT.RUNNING = true ∧ (slf 255).flt.stCut = false ∧ (slf 255).flt.stRestart = false ∧ (slf
    255).flt.stItems < 256 ∧ ok.flag ST_STAT.RUNNING = false ∧ 602 ≤ (602#22).toNat ∧ (slf 255).flt.stItems.testBit 1 = true := by
  decide
/-- Registers of a terraced schedule of that kind. -/
def terr (k : Nat) : Nat → Word := (((((ok.setFld FT_EXPOSURE.EXPOSURE 1000).setFld FT_TERRACE.RATIO 4).setFld FT_TERRACE.SLICES 2)).setFld FT_CFG.EXPO k).reg
theorem wit_GeneratedTables_1 : rdFld (terr 1) FT_CFG.EXPO = 1 ∧ rdFld (terr 0) FT_CFG.EXPO = 0 ∧ rdFld (terr 2) FT_CFG.EXPO = 2 ∧ 1 ≤ rdFld (terr 2)
    FT_TERRACE.SLICES ∧ (tableOf (terr 2)).length = 5 := by
  decide
def en : Entry := ⟨5, ⟨9, oHost, 1, WDG_CFG.addr, 1, 2⟩, 7⟩
set_option maxRecDepth 40000 in
theorem wit_CairnBytes_1 : en.seq < 2 ^ 32 ∧ en.cairn.origin < 2 ^ 16 ∧ en.cairn.kind < 2 ^ 16 ∧ en.cairn.target < 2 ^ 32 ∧ (entryBytes en).length =
    32 := by
  decide

/-! ### Ill-formed commands, the opcode words, and single steps -/

theorem test_wf_engine : (Instr.engineSwap 144).wf = false ∧ (Instr.engSwapReq .host 200).wf = false ∧ (Instr.engineSwap 143).wf = true := by decide
theorem test_wf_channel : (Instr.add 144 0).wf = false ∧ (Instr.add 128 16).wf = false ∧ (Instr.engInPost .host 143 63 0).wf = false := by decide
theorem test_wf_lane : (Instr.laneLock 40).wf = false ∧ (Instr.lnSlipWrite .host 63).wf = false ∧ (Instr.laneLock 39).wf = true := by decide
theorem test_wf_rail : (Instr.railFault 11).wf = false ∧ (Instr.railFault 10).wf = true := by decide
theorem test_wf_unit : (Instr.unitTimeout 2462720 false []).wf = false ∧ (Instr.unitTimeout 2462719 false []).wf = true := by decide
theorem test_wf_pass : (Instr.helloRx 0 []).wf = false ∧ (Instr.reportRx 5 []).wf = false ∧ (Instr.helloRx 4 []).wf = true := by decide
theorem test_wf_fail : (Instr.selfTestEnd [(0, 128)]).wf = false ∧ (Instr.selfTestEnd [(1, 16)]).wf = false ∧
    (Instr.selfTestEnd [(2, 2462720)]).wf = false ∧ (Instr.selfTestEnd [(6, 601)]).wf = true := by decide

/-- A block stops on an ill-formed command by name. -/
theorem test_fault_rail : exec (.railFault 11) (st ok) = .fault .noSuchRail := rfl

/-- A word that the table gives no row spells no command. -/
theorem test_decode_none : decodeTableWord 8 0x55 = none ∧ State.reset.withFetchWord 8 0x55 = State.reset := ⟨rfl, rfl⟩

/-- The outcome's block, the argument's where there is none. -/
def after (o : Host.Outcome State Fault Refusal) (b : Block) : Block :=
  match o with
  | .next t => t.blk
  | _ => b

/-- R216: all ones and 1 give 0 with C set, and PC advances (R209). -/
theorem test_add_carry : ((after (exec (.add 3 5) (st (okCh 0x70000001 (fun c => { c with x := 0xFFFFFFFF })))) ok).chan 3 5).x = 0 ∧
    ((after (exec (.add 3 5) (st (okCh 0x70000001 (fun c => { c with x := 0xFFFFFFFF })))) ok).chan 3 5).flags = 1 ∧
    ((after (exec (.add 3 5) (st (okCh 0x70000001 (fun c => { c with x := 0xFFFFFFFF })))) ok).chan 3 5).pc = 1 := by decide

/-- R218: a JMP of condition 7 at X = 1 leaves X = 0 and goes on with the next word. -/
theorem test_jmp_last : ((after (exec (.jmp 3 5) (st (okCh 0x870003FF (fun c => { c with x := 1 })))) ok).chan 3 5).x = 0 ∧
    ((after (exec (.jmp 3 5) (st (okCh 0x870003FF (fun c => { c with x := 1 })))) ok).chan 3 5).pc = 1 := by decide

/-- The command in front is run and leaves the queue; the rest waits. -/
theorem test_step_front : (match step { pending := [.buttonShortPress, .rootLost], blk := ok } with
    | .next t => some t.pending
    | _ => none) = some [.rootLost] := by decide

/-- R600: the button of a part that runs raises 953, and nothing else. -/
theorem test_button : (after (exec .buttonShortPress (st ok)) Block.reset).evtStatus 953 = true := by decide

set_option maxRecDepth 40000 in
/-- R116: the CRC-32 of the nine digits. -/
theorem test_crc : crc32 [0x31, 0x32, 0x33, 0x34, 0x35, 0x36, 0x37, 0x38, 0x39] = 0xCBF43926 := by decide

/-- Reset memory lists nothing out of its form. -/
theorem test_reset_wf : smWf (fun _ => (0 : Byte)) Block.reset.nvm.mem = true := by decide

end Sys2Proof.Tests
end

section
/-! Shadowed registers (R2, R649): what a write of a word leaves in force, and the word as read after it. -/

namespace Sys2Proof.Machine

/-! ### Masked words -/

theorem mask_merge_self (w m : Word) : (w &&& ~~~ m) ||| (w &&& m) = w := by
  rw [← BitVec.and_or_distrib_left, BitVec.or_comm, BitVec.or_not_self, BitVec.and_allOnes]

theorem mask_merge_and (w v m : Word) : ((w &&& ~~~ m) ||| (v &&& m)) &&& m = v &&& m := by
  simp [BitVec.and_or_distrib_right, BitVec.and_assoc]

/-- Two words that differ in no bit of a mask agree under it. -/
theorem and_eq_and_of_xor_and_eq_zero {w v m : Word} (h : (w ^^^ v) &&& m = 0) : w &&& m = v &&& m := by
  ext i hi
  have hb : ((w ^^^ v) &&& m)[i] = (0 : Word)[i] := by rw [h]
  simp only [BitVec.getElem_and, BitVec.getElem_xor] at hb ⊢
  cases hm : m[i] with
  | false => simp
  | true => simpa [hm] using hb

/-! ### Listed keys of a sparse map -/

theorem smGet_of_smHas_false {α : Type} {m : List (Nat × α)} {k : Nat} (d : α) (h : smHas m k = false) : smGet d m k = d := by
  induction m with
  | nil => rfl
  | cons e t ih =>
    obtain ⟨hne, ht⟩ : e.1 ≠ k ∧ smHas t k = false := by simpa [smHas] using h
    rw [smGet, if_neg hne, ih ht]

/-- A listed key reads the same whatever an unlisted one reads as. -/
theorem smGet_of_smHas {α : Type} {m : List (Nat × α)} {k : Nat} (d e : α) (h : smHas m k = true) : smGet d m k = smGet e m k := by
  induction m with
  | nil => cases h
  | cons p t ih =>
    by_cases hk : p.1 = k
    · simp [smGet, hk]
    · have ht : smHas t k = true := by simpa [smHas, hk] using h
      simp only [smGet, if_neg hk, ih ht]

/-! ### The word in force -/

/-- The word whose shadowed bits are in force at `a`: the held one, or the word as read where nothing waits for an FCP. -/
def Block.heldWord (s : Block) (a : Nat) : Word := smGet (s.reg a) s.held a

theorem eff_eq_merge (s : Block) (a : Nat) : s.eff a = (s.reg a &&& ~~~ rwsMask a) ||| (s.heldWord a &&& rwsMask a) := rfl

theorem eff_and_rwsMask (s : Block) (a : Nat) : s.eff a &&& rwsMask a = s.heldWord a &&& rwsMask a := by
  rw [eff_eq_merge, mask_merge_and]

theorem heldWord_of_smHas_false {s : Block} {a : Nat} (h : smHas s.held a = false) : s.heldWord a = s.reg a :=
  smGet_of_smHas_false _ h

/-- With nothing pending at its address a word is in force as read. -/
theorem eff_of_smHas_false {s : Block} {a : Nat} (h : smHas s.held a = false) : s.eff a = s.reg a := by
  rw [eff_eq_merge, heldWord_of_smHas_false h, mask_merge_self]

/-! ### A shadowed write -/

/-- A write has to hold the old word: a schedule runs, a shadowed bit changes, and none is held yet. -/
def Block.mustHold (s : Block) (a : Nat) (w : Word) : Bool :=
  s.running && decide ((w ^^^ s.reg a) &&& rwsMask a ≠ 0) && !smHas s.held a

theorem shadowSet_eq (s : Block) (a : Nat) (w : Word) :
    s.shadowSet a w = if s.mustHold a w then ({ s with held := smPut s.held a (s.reg a) }).setReg a w else s.setReg a w := rfl

@[simp] theorem reg_shadowSet (s : Block) (a b : Nat) (w : Word) : (s.shadowSet a w).reg b = if b = a then w else s.reg b := by
  rw [shadowSet_eq]
  split <;> exact reg_setReg _ a b w

theorem held_shadowSet (s : Block) (a : Nat) (w : Word) :
    (s.shadowSet a w).held = if s.mustHold a w then smPut s.held a (s.reg a) else s.held := by
  rw [shadowSet_eq]
  split <;> rfl

theorem heldWord_shadowSet (s : Block) (a : Nat) (w : Word) :
    (s.shadowSet a w).heldWord a = if s.mustHold a w then s.reg a else smGet w s.held a := by
  simp only [Block.heldWord, reg_shadowSet, held_shadowSet, if_true]
  split
  · simp [smGet_smPut]
  · rfl

/-- R2: while a schedule runs, a write changes no shadowed bit in force. -/
theorem heldWord_shadowSet_and_rwsMask {s : Block} (a : Nat) (w : Word) (hr : s.running = true) :
    (s.shadowSet a w).heldWord a &&& rwsMask a = s.heldWord a &&& rwsMask a := by
  rw [heldWord_shadowSet]
  cases hh : smHas s.held a with
  | true =>
    have hno : s.mustHold a w = false := by simp [Block.mustHold, hh]
    rw [hno, if_neg Bool.false_ne_true, Block.heldWord, smGet_of_smHas w (s.reg a) hh]
  | false =>
    rw [heldWord_of_smHas_false hh, smGet_of_smHas_false w hh]
    by_cases hx : (w ^^^ s.reg a) &&& rwsMask a = 0
    · have heq := and_eq_and_of_xor_and_eq_zero hx
      split
      · rfl
      · exact heq
    · have hyes : s.mustHold a w = true := by
        rw [Block.mustHold, hr, hh, decide_eq_true hx]; rfl
      rw [if_pos hyes]

theorem eff_shadowSet_of_running {s : Block} (a : Nat) (w : Word) (hr : s.running = true) :
    (s.shadowSet a w).eff a = (w &&& ~~~ rwsMask a) ||| (s.eff a &&& rwsMask a) := by
  rw [eff_eq_merge, heldWord_shadowSet_and_rwsMask a w hr, eff_and_rwsMask, reg_shadowSet, if_pos rfl]

theorem eff_shadowSet_of_not_running {s : Block} (a : Nat) (w : Word) (hr : s.running = false) (hh : smHas s.held a = false) :
    (s.shadowSet a w).eff a = w := by
  have hno : s.mustHold a w = false := by simp [Block.mustHold, hr]
  have hh' : smHas (s.shadowSet a w).held a = false := by rw [held_shadowSet, hno]; exact hh
  rw [eff_of_smHas_false hh', reg_shadowSet, if_pos rfl]

/-- Settles O14: the written word is read at once; while a schedule runs only its unshadowed bits are in force, and with none running and
nothing pending the whole word is. -/
theorem shadowKeepsInForce : Obligations.ShadowKeepsInForce := by
  intro b a w
  exact ⟨by simp, fun x hx => by simp [hx], eff_shadowSet_of_running a w, eff_shadowSet_of_not_running a w⟩

end Sys2Proof.Machine
end

section
/-! What stops the block (R12, R43, R206, R452, R521): every well-formed command goes on in every state, and a number that the part does
not have stops it by name. The proof follows how the rows are built: requests run through `runReq`, instructions of a channel through
`runInstr`, rows that name a thing of the part behind a test of its number, and every other row answers on each of its branches. -/

namespace Sys2Proof.Machine

/-! ### Outcomes that go on -/

/-- The outcome is a next state: neither a fault nor a refusal. -/
def GoesOn {σ φ ρ : Type} (o : Host.Outcome σ φ ρ) : Prop := ∃ t, o = .next t

section
variable {σ φ ρ : Type}

theorem goesOn_next (t : σ) : GoesOn (.next t : Host.Outcome σ φ ρ) := ⟨t, rfl⟩

theorem goesOn_ite {c : Prop} [Decidable c] {a b : Host.Outcome σ φ ρ} (ha : GoesOn a) (hb : GoesOn b) : GoesOn (if c then a else b) := by
  split
  · exact ha
  · exact hb

theorem goesOn_unless_fault {c : Prop} [Decidable c] {r : φ} {o : Host.Outcome σ φ ρ} (hc : ¬ c) (ho : GoesOn o) :
    GoesOn (if c then .fault r else o) := by
  rw [if_neg hc]
  exact ho

/-- Behind a test for a thing that the part does not have, a row that names one it has goes on. -/
theorem goesOn_of_named {ok : Bool} {c : Prop} [Decidable c] {r : φ} {o : Host.Outcome σ φ ρ} (hc : ok = false ↔ c) (hok : ok = true)
    (ho : GoesOn o) : GoesOn (if c then .fault r else o) :=
  goesOn_unless_fault (mt hc.mpr (ne_false_of_eq_true hok)) ho

end

theorem goesOn_onBlock {s : State} {f : Block → Host.Outcome Block Fault Refusal} (h : GoesOn (f s.blk)) : GoesOn (s.onBlock f) := by
  obtain ⟨b, hb⟩ := h
  exact ⟨_, onBlock_next hb⟩

theorem onBlock_fault {s : State} {f : Block → Host.Outcome Block Fault Refusal} {r : Fault} (h : f s.blk = .fault r) :
    s.onBlock f = .fault r := by
  unfold State.onBlock
  rw [h]

/-! ### The things that the part has, as the rows test for them -/

theorem engineOk_eq_false {e : Nat} : engineOk e = false ↔ 144 ≤ e := by simp [engineOk]

theorem channelOk_eq_false {e ch : Nat} : channelOk e ch = false ↔ 144 ≤ e ∨ (128 ≤ e ∧ 16 ≤ ch) := by
  simp [channelOk, Decidable.imp_iff_not_or]

theorem laneOk_eq_false {l : BitVec 6} : laneOk l = false ↔ 40 ≤ l.toNat := by simp [laneOk]

theorem namedRailOk_eq_false {r : BitVec 4} : Sys2Proof.railOk r = false ↔ 11 ≤ r.toNat := by simp [Sys2Proof.railOk]

theorem unitOk_eq_false {u : BitVec 22} : unitOk u = false ↔ 2462720 ≤ u.toNat := by simp [unitOk]

theorem passOk_eq_false {d : BitVec 3} : passOk d = false ↔ d.toNat = 0 ∨ 4 < d.toNat := by
  simp only [passOk, Bool.and_eq_false_iff, decide_eq_false_iff_not]
  omega

/-! ### Requests -/

/-- The request path has no stop: a request is taken into a queue, ignored, refused or executed (R60, R76, R77). -/
theorem goesOn_runReq {op cls maxRes : Nat} {q : Req} {checks : Block → List Check} {body : Block → Block} {s : Block} :
    GoesOn (runReq op cls maxRes q checks body s) := by
  unfold runReq
  refine goesOn_ite (goesOn_next _) (goesOn_ite (goesOn_next _) ?_)
  dsimp only
  split
  · exact goesOn_next _
  · exact goesOn_next _

/-- Every row that carries a request runs it through the request path, under its opcode and class. -/
theorem exec_request {i : Instr} {q : Req} {op cls : Nat} (h : i.request = some ⟨q, op, cls⟩) (s : State) :
    ∃ maxRes checks body, exec i s = s.onBlock (runReq op cls maxRes q checks body) := by
  cases i <;> cases h
  all_goals exact ⟨_, _, _, rfl⟩

theorem goesOn_exec_request {i : Instr} {a : Asked} (h : i.request = some a) (s : State) : GoesOn (exec i s) := by
  obtain ⟨maxRes, checks, body, hx⟩ := exec_request h s
  rw [hx]
  exact goesOn_onBlock goesOn_runReq

/-! ### Instructions of a channel -/

theorem runInstr_noSuchEngine {op e ch : Nat} {body : Word → Chan → Block → Block} {s : Block} (h : channelOk e ch = false) :
    runInstr op e ch body s = .fault .noSuchEngine := if_pos (channelOk_eq_false.mp h)

theorem goesOn_runInstr {op e ch : Nat} {body : Word → Chan → Block → Block} {s : Block} (h : channelOk e ch = true) :
    GoesOn (runInstr op e ch body s) := by
  unfold runInstr
  refine goesOn_of_named channelOk_eq_false h (goesOn_ite (goesOn_next _) ?_)
  exact goesOn_ite (goesOn_next _) (goesOn_ite (goesOn_next _) (goesOn_next _))

/-! ### Rows with branches of their own -/

theorem goesOn_dispatcherPost (c : BitVec 7) (kind : DispKind) (pair : BitVec 7) (nodeB : Bool) (s : State) :
    GoesOn (execDispatcherPost c kind pair nodeB s) := by
  refine goesOn_onBlock (goesOn_ite (goesOn_next _) ?_)
  cases kind with
  | start =>
    dsimp only
    split <;> apply_rules [goesOn_ite, goesOn_next]
  | cal => apply_rules [goesOn_ite, goesOn_next]
  | swappt =>
    refine goesOn_ite ?_ (goesOn_next _)
    split <;> exact goesOn_next _

theorem goesOn_courseSegmentRx (r : BitVec 3) (hdr : BitVec 64) (beats : List (BitVec 64)) (full : Bool) (s : State) :
    GoesOn (execCourseSegmentRx r hdr beats full s) := by
  refine goesOn_onBlock ?_
  dsimp only
  split
  · exact goesOn_next _
  · split
    · apply_rules [goesOn_ite, goesOn_next]
    · exact goesOn_next _

theorem goesOn_packetTransmit (t : BitVec 3) (s : State) : GoesOn (execPacketTransmit t s) := by
  refine goesOn_onBlock (goesOn_ite (goesOn_next _) ?_)
  split
  · exact goesOn_next _
  · refine goesOn_ite (goesOn_next _) ?_
    split
    · exact goesOn_next _
    · split <;> exact goesOn_next _

theorem goesOn_monOutputWhole (x : BitVec 2) (rows : List Word) (s : State) : GoesOn (execMonOutputWhole x rows s) := by
  refine goesOn_onBlock ?_
  dsimp only
  split
  · exact goesOn_next _
  · split <;> exact goesOn_next _

theorem goesOn_monSendDone (x : BitVec 2) (s : State) : GoesOn (execMonSendDone x s) := by
  refine goesOn_onBlock ?_
  dsimp only
  split
  · exact goesOn_next _
  · split <;> exact goesOn_next _

theorem goesOn_forwardFrameStart (s : State) : GoesOn (execForwardFrameStart s) := by
  refine goesOn_onBlock ?_
  split
  · refine goesOn_ite (goesOn_next _) ?_
    dsimp only
    split <;> exact goesOn_next _
  · exact goesOn_next _

theorem goesOn_remoteTimeout (s : State) : GoesOn (execRemoteTimeout s) := by
  refine goesOn_onBlock (goesOn_ite (goesOn_next _) ?_)
  dsimp only
  split <;> apply_rules [goesOn_ite, goesOn_next]

theorem goesOn_peerMsgRx (node : Byte) (payload : List Byte) (s : State) : GoesOn (execPeerMsgRx node payload s) := by
  refine goesOn_onBlock ?_
  apply_rules [goesOn_ite, goesOn_next]
  split <;> exact goesOn_next _

/-! ### Rows that name a thing of the part among their operands -/

theorem goesOn_nodeConversionDone {u : BitVec 22} (h : unitOk u = true) (nodeB : Bool) (ns : BitVec 18) (px : List Sample) (s : State) :
    GoesOn (execNodeConversionDone u nodeB ns px s) := by
  refine goesOn_onBlock (goesOn_of_named unitOk_eq_false h ?_)
  split
  · exact goesOn_next _
  · split <;> apply_rules [goesOn_ite, goesOn_next]

theorem goesOn_unitTimeout {u : BitVec 22} (h : unitOk u = true) (nodeB : Bool) (px : List Sample) (s : State) :
    GoesOn (execUnitTimeout u nodeB px s) := by
  refine goesOn_onBlock (goesOn_of_named unitOk_eq_false h ?_)
  split
  · exact goesOn_next _
  · split <;> exact goesOn_next _

theorem goesOn_waitSatisfied {e : BitVec 8} {ch : BitVec 7} (h : channelOk e.toNat ch.toNat = true) (s : State) :
    GoesOn (execWaitSatisfied e ch s) := by
  refine goesOn_onBlock (goesOn_of_named channelOk_eq_false h ?_)
  dsimp only
  split
  · exact goesOn_next _
  · split <;> apply_rules [goesOn_ite, goesOn_next]

theorem goesOn_delayExpire {e : BitVec 8} {ch : BitVec 7} (h : channelOk e.toNat ch.toNat = true) (s : State) :
    GoesOn (execDelayExpire e ch s) := by
  refine goesOn_onBlock (goesOn_of_named channelOk_eq_false h ?_)
  dsimp only
  split <;> apply_rules [goesOn_ite, goesOn_next]

theorem goesOn_engSwapReq {e : BitVec 8} (h : engineOk e.toNat = true) (c : Carrier) (s : State) : GoesOn (execEngSwapReq c e s) := by
  refine goesOn_onBlock (goesOn_of_named engineOk_eq_false h ?_)
  dsimp only
  split <;> exact goesOn_next _

theorem goesOn_chCfgEnStart {e : BitVec 8} {k : BitVec 6} (h : channelOk e.toNat k.toNat = true) (c : Carrier) (s : State) :
    GoesOn (execChCfgEnStart c e k s) := by
  refine goesOn_onBlock (goesOn_of_named channelOk_eq_false h (goesOn_ite (goesOn_next _) ?_))
  split <;> exact goesOn_next _

theorem goesOn_fullCalDone {entries : List (BitVec 22 × BitVec 64)} (h : entries.all (fun e => unitOk e.1) = true) (notDark : Bool)
    (defects : List Word) (temp : BitVec 16) (s : State) : GoesOn (execFullCalDone notDark entries defects temp s) := by
  have hu : ¬ entries.any (fun e => decide (unitCount ≤ e.1.toNat)) = true := by
    rw [List.any_eq_true]
    rintro ⟨e, he, hpast⟩
    exact absurd (of_decide_eq_true hpast) (not_le.mpr (of_decide_eq_true (List.all_eq_true.mp h e he)))
  refine goesOn_onBlock ?_
  split
  · exact goesOn_next _
  · exact goesOn_ite (goesOn_next _) (goesOn_unless_fault hu (goesOn_next _))

theorem failOk_iff {f : BitVec 3 × BitVec 22} : failOk f = true ↔ (f.1.toNat = 0 → f.2.toNat < 128) ∧ (f.1.toNat = 1 → f.2.toNat < 16) ∧
    (f.1.toNat = 2 → f.2.toNat < unitCount) := by
  simp [failOk, unitCount, Decidable.imp_iff_not_or, and_assoc]

/-- No failure of item `i` is past the last thing of its kind where `failOk` tests for that, whichever items ran. -/
theorem any_past_eq_false {fails : List (BitVec 3 × BitVec 22)} (h : fails.all failOk = true) (ran : BitVec 3 × BitVec 22 → Bool) {i top : Nat}
    (hi : ∀ f, failOk f = true → f.1.toNat = i → f.2.toNat < top) :
    (fails.filter ran).any (fun f => decide (f.1.toNat = i) && decide (top ≤ f.2.toNat)) = false := by
  rw [List.any_eq_false]
  intro f hf
  have hlt := hi f (List.all_eq_true.mp h f (List.mem_filter.mp hf).1)
  simpa using hlt

theorem goesOn_selfTestEnd {fails : List (BitVec 3 × BitVec 22)} (h : fails.all failOk = true) (s : State) :
    GoesOn (execSelfTestEnd fails s) := by
  have h0 := fun ran => any_past_eq_false h ran fun f hf => (failOk_iff.mp hf).1
  have h1 := fun ran => any_past_eq_false h ran fun f hf => (failOk_iff.mp hf).2.1
  have h2 := fun ran => any_past_eq_false h ran fun f hf => (failOk_iff.mp hf).2.2
  refine goesOn_onBlock (goesOn_ite (goesOn_next _) (goesOn_unless_fault ?_ (goesOn_unless_fault ?_ (goesOn_next _))))
  · simp [h0, h1]
  · simp [h2]

theorem goesOn_helloRx {d : BitVec 3} (h : passOk d = true) (p : List Byte) (s : State) : GoesOn (execHelloRx d p s) := by
  refine goesOn_onBlock (goesOn_ite (goesOn_next _) (goesOn_of_named passOk_eq_false h ?_))
  exact goesOn_ite (goesOn_next _) (goesOn_next _)

theorem goesOn_reportRx {d : BitVec 3} (h : passOk d = true) (p : List Byte) (s : State) : GoesOn (execReportRx d p s) := by
  refine goesOn_onBlock (goesOn_ite (goesOn_next _) (goesOn_of_named passOk_eq_false h ?_))
  exact goesOn_ite (goesOn_next _) (goesOn_next _)

theorem laneLock_noSuchLane {l : BitVec 6} (h : laneOk l = false) (s : State) : execLaneLock l s = .fault .noSuchLane :=
  onBlock_fault (if_pos (laneOk_eq_false.mp h))

theorem railFault_noSuchRail {r : BitVec 4} (h : Sys2Proof.railOk r = false) (s : State) : execRailFault r s = .fault .noSuchRail :=
  onBlock_fault (if_pos (namedRailOk_eq_false.mp h))

theorem nodeConversionDone_noSuchUnit {u : BitVec 22} (h : unitOk u = false) (nodeB : Bool) (ns : BitVec 18) (px : List Sample) (s : State) :
    execNodeConversionDone u nodeB ns px s = .fault .noSuchUnit := onBlock_fault (if_pos (unitOk_eq_false.mp h))

/-- A pass that the part does not have stops HELLO_RX, unless the message only waits for the core (R618). -/
theorem helloRx_noSuchPass {d : BitVec 3} (h : passOk d = false) (p : List Byte) {s : State} (hc : s.blk.pwr.coreDown = false) :
    execHelloRx d p s = .fault .noSuchPass := by
  refine onBlock_fault ?_
  unfold recvHelloRx
  rw [hc]
  exact if_pos (passOk_eq_false.mp h)

/-! ### Every command -/

/-- A command that is no request goes on when it names only things of the part. -/
theorem goesOn_exec_event {i : Instr} (hq : i.request = none) (hw : i.wf = true) (s : State) : GoesOn (exec i s) := by
  cases i with
  | halt | setImm | outBits | inBits | pull | push | mov | add | jmp | delay | wait | strobe | sync | yield =>
    exact goesOn_onBlock (goesOn_runInstr hw)
  | engInPost | queueStallResume =>
    dsimp only [exec]
    refine goesOn_onBlock (goesOn_of_named channelOk_eq_false hw ?_)
    apply_rules [goesOn_ite, goesOn_next]
  | waitSatisfied => exact goesOn_waitSatisfied hw s
  | delayExpire => exact goesOn_delayExpire hw s
  | chCfgEnStart => exact goesOn_chCfgEnStart hw _ s
  | barrierRelease | quantumExpire | timedOutputApply | engineFault | engineSwap =>
    dsimp only [exec]
    refine goesOn_onBlock (goesOn_of_named engineOk_eq_false hw ?_)
    apply_rules [goesOn_ite, goesOn_next]
  | engSwapReq => exact goesOn_engSwapReq hw _ s
  | laneLock | laneLockLost | bitSlipSweep | markerRx | trainingBlockRx | laneReadmit | prbsPatternRx | lnPrbsErrLatch | lnSlipWrite =>
    dsimp only [exec]
    refine goesOn_onBlock (goesOn_of_named laneOk_eq_false hw ?_)
    apply_rules [goesOn_ite, goesOn_next]
  | railFault | railValid =>
    dsimp only [exec]
    refine goesOn_onBlock (goesOn_of_named namedRailOk_eq_false hw ?_)
    apply_rules [goesOn_ite, goesOn_next]
  | nodeConversionDone => exact goesOn_nodeConversionDone hw _ _ _ s
  | unitTimeout => exact goesOn_unitTimeout hw _ _ s
  | fullCalDone => exact goesOn_fullCalDone hw _ _ _ s
  | selfTestEnd => exact goesOn_selfTestEnd hw s
  | helloRx => exact goesOn_helloRx hw _ s
  | reportRx => exact goesOn_reportRx hw _ s
  | dispatcherPost => exact goesOn_dispatcherPost _ _ _ _ s
  | courseSegmentRx => exact goesOn_courseSegmentRx _ _ _ _ s
  | packetTransmit => exact goesOn_packetTransmit _ s
  | monOutputWhole => exact goesOn_monOutputWhole _ _ s
  | monSendDone => exact goesOn_monSendDone _ s
  | forwardFrameStart => exact goesOn_forwardFrameStart s
  | remoteTimeout => exact goesOn_remoteTimeout s
  | peerMsgRx => exact goesOn_peerMsgRx _ _ s
  -- Rows that only test the state.
  | engBcastWrite | discoveryStage | magRecoveryScan | genlockEdge | engRestoreHandover | bgcalPassLate | calWriteback | takeEntryRewrite
  | magPortsDownTimeout | linkDownRx | dataPacketRx | nakRx | replayTimeout | creditUpdateTimer | creditStall | portDomainOn | portPllLock
  | alignWindowEnd | portRecoverEnd | portTrainTimeout | portRetryWaitEnd | refreshDue | refreshPayback | recentrePass | recentrePassEnd
  | dataRateChange | uncorrectableAccess | helloTimer | rootDeclare | discoveryQuiet | fabricAloneTimeout | timeExchangeTimer | rootLost
  | arrayPrepareTimeout | arrayCloseTick | fabricNoticeRx =>
    dsimp only [exec]
    refine goesOn_onBlock ?_
    apply_rules [goesOn_ite, goesOn_next]
  -- Rows that look one thing up, at once or under names of their own.
  | chainArm | engRestoreTimeout | calVisitDone | calPacketRx | statsPublish | statsMapTimeout | drainAshlarStart | forwardRetry
  | nvmWordWrite =>
    dsimp only [exec]
    refine goesOn_onBlock ?_
    split <;> apply_rules [goesOn_ite, goesOn_next]
  | compareFire | frameStartRx | frameEndRx | frameDeadline | headerCloseTimeout | magResponse | magDeadlineMiss | restripeTimeout
  | monDevelopStart =>
    dsimp only [exec]
    refine goesOn_onBlock ?_
    dsimp only
    split <;> apply_rules [goesOn_ite, goesOn_next]
  -- Rows that look one thing up behind a test.
  | aeUpdate | awbUpdate | metaCairnsWrite | restripeRx | tableRx | timeMsgRx | arrayMsgRx | remoteReplyRx =>
    dsimp only [exec]
    refine goesOn_onBlock ?_
    apply_rules [goesOn_ite, goesOn_next]
    split <;> apply_rules [goesOn_ite, goesOn_next]
  -- Rows whose conditions stand inside the next state.
  | unknownOpcode | requestRefusedBusy | registerWrite | ksPeriodWrite | sysDomainReqWrite | twWindowWrite | twWindowRead
  | twWindowReadTimeout | mbxSubmit | mbxRelease | mbxOverrun | addrAssign | partialByte | twTargetSclStuck | wakeMatch | supMainEnRise
  | rstNRelease | rstNLow | trefclkLost | trefclkRestored | lrefclkLost | domainPowered | bootFirmware | profileLoad | dramTrain
  | calLoad | reserveCheck | lanesStage | ready | captureAutoStart | shipExit | compareLateFire | keystoneWrap | slewEnd | txPulseLead
  | completeTimeout | genlockRefLost | triggerStamp | pinEdge | recordSinkWord | takeCloseDone | switchBlockRx | ackRx | creditRx
  | eyeSweep | dramTempRead | dramTempMissing | channelNoResponse | tableSwitch | triggerMsgRx | diodeSample | tdSample
  | regionModelStep | riseShedAdvance | shedStepExit | tecControl | fanTachWord | fanStall | vidControlTick | vidStep | ageingHourly
  | planComputeDone | vinLoss | closeOutDone | energyCheck | vinReturnStable | reserveLimitUpdate | chargeCurrentSearch
  | chargePhaseTimer | cellRemoved | cellInserted | buttonShortPress | buttonResetPress | resetHoldEnd | buttonShipHold | watchdogLockup
  | coreRestartDone | cairnFlush | maintainTimeout | stagingRelease | challengeLockoutEnd | heldExit | lrefclkRestored | vddAonRemoved
  | pageIdleTimeout | twBusFree | statusLampSlot =>
    exact goesOn_next _
  | _ => cases hq

theorem goesOn_exec_of_wf {i : Instr} (hw : i.wf = true) (s : State) : GoesOn (exec i s) := by
  cases hq : i.request with
  | some a => exact goesOn_exec_request hq s
  | none => exact goesOn_exec_event hq hw s

/-- Settles O5: by the shape of the rows, a well-formed command goes on in every state; the rows that name a thing of the part test for it
first. -/
theorem onlyIllFormedStops : Obligations.OnlyIllFormedStops := by
  unfold Obligations.OnlyIllFormedStops
  refine ⟨fun i s hw => goesOn_exec_of_wf hw s, ?engine, ?lane, ?rail, ?unit, ?pass⟩
  case engine => exact fun e ch s h => onBlock_fault (runInstr_noSuchEngine h)
  case lane => exact fun l s h => laneLock_noSuchLane h s
  case rail => exact fun r s h => railFault_noSuchRail h s
  case unit => exact fun u n ns px s h => nodeConversionDone_noSuchUnit h n ns px s
  case pass => exact fun d p s h hc => helloRx_noSuchPass h p hc

end Sys2Proof.Machine
end

section
/-! The request path before a request executes (R60, R72, R75 to R77, R98). -/

namespace Sys2Proof.Machine

/-! ### The order of the checks (R77) -/

/-- BAD_PARAM goes before every other status. -/
theorem firstFail_badParam {l : List Check} (h : (true, stBadParam) ∈ l) : firstFail l = some stBadParam := by
  have hany : (l.any fun c => c.1 && decide (c.2 = stBadParam)) = true := List.any_eq_true.mpr ⟨_, h, rfl⟩
  exact List.find?_cons_of_pos hany

/-- A check that does not fail counts for nothing. -/
theorem firstFail_cons_false (st : Nat) (l : List Check) : firstFail ((false, st) :: l) = firstFail l := by
  simp [firstFail]

/-! ### The ways a request can go -/

/-- A request that must wait joins its carrier's queue, or is answered BUSY (R75, R76). -/
theorem runReq_mustWait {op cls maxRes : Nat} {q : Req} {checks : Block → List Check} {body : Block → Block} {b : Block}
    (h : b.mustWait q.carrier = true) : runReq op cls maxRes q checks body b = .next (acceptReq op q b) :=
  if_pos (by rw [h, Bool.or_true])

/-- A request whose turn it is finds the core up and its queue free. -/
theorem turn_of {b : Block} {c : Carrier} (hcore : b.pwr.coreDown = false) (hturn : b.mustWait c = false) :
    ¬ ((b.pwr.coreDown && decide (b.fld SYS_BOOT.STAGE ≠ 10)) || b.mustWait c) = true := by
  rw [hcore, hturn]
  exact Bool.false_ne_true

theorem runReq_not_serves {op cls maxRes : Nat} {q : Req} {checks : Block → List Check} {body : Block → Block} {b : Block}
    (hcore : b.pwr.coreDown = false) (hturn : b.mustWait q.carrier = false) (hs : serves b q = false) :
    runReq op cls maxRes q checks body b = .next b := by
  rw [runReq, if_neg (turn_of hcore hturn), hs]
  rfl

/-- A served request with a bad header is answered BAD_PARAM (R72, R77). -/
theorem runReq_badHeader {op cls maxRes : Nat} {q : Req} {checks : Block → List Check} {body : Block → Block} {b : Block}
    (hcore : b.pwr.coreDown = false) (hturn : b.mustWait q.carrier = false) (hs : serves b q = true) (hh : headerOk q = false) :
    runReq op cls maxRes q checks body b = .next (refuse op q stBadParam (touchMaintain q.carrier b)) := by
  rw [runReq, if_neg (turn_of hcore hturn), hs]
  dsimp only
  rw [firstFail_badParam (by simp [hh])]
  rfl

/-- A request that executes at once and fails checks of its own is refused with the first of them. -/
theorem runReq_refused {cls maxRes op st : Nat} {q : Req} {b : Block} {checks : Block → List Check} {body : Block → Block}
    (h : AtOnce cls maxRes q b) (hc : firstFail (checks (touchMaintain q.carrier b)) = some st) :
    runReq op cls maxRes q checks body b = .next (refuse op q st (touchMaintain q.carrier b)) := by
  obtain ⟨hcore, hturn, hserved, hready, hheader, hfits, hclass, -, -⟩ := h
  have hstage : (touchMaintain q.carrier b).fld SYS_BOOT.STAGE = 9 := hready
  have hlen : (!headerOk q || decide (lenLimit q.carrier < maxRes)) = false := by simp [hheader, hfits]
  have hcls : decide (classOf b q.carrier < cls) = false := by simp [hclass]
  rw [runReq, if_neg (turn_of hcore hturn), hserved]
  simp only [hstage, hlen, classOf_touchMaintain, hcls, show decide ((9 : Nat) = 10) = false from rfl, Bool.false_eq_true, if_false,
    firstFail_cons_false, hc, Bool.not_true]

theorem exec_of_request {i : Instr} {q : Req} {op cls : Nat} {s : State} {t : Block} (h : i.request = some ⟨q, op, cls⟩)
    (hrun : ∀ maxRes checks body, runReq op cls maxRes q checks body s.blk = .next t) : exec i s = .next { s with blk := t } := by
  obtain ⟨maxRes, checks, body, hx⟩ := exec_request h s
  rw [hx]
  exact onBlock_next (hrun maxRes checks body)

/-! ### A queue with room, and a full one -/

theorem acceptReq_room {op : Nat} {q : Req} {b : Block} (h : b.outstanding q.carrier < queueLimit q.carrier) :
    acceptReq op q b = { b with cmd := { b.cmd with accepted := b.cmd.accepted ++ [⟨op, q⟩] } } := if_neg (Nat.not_le.mpr h)

theorem acceptReq_full {op : Nat} {q : Req} {b : Block} (h : queueLimit q.carrier ≤ b.outstanding q.carrier) :
    acceptReq op q b = (b.reply q op stBusy []).raise 970 := if_pos h

/-! ### Opcodes that no table defines -/

theorem runUnknown_served {op : Nat} {q : Req} {b : Block} (hcore : b.pwr.coreDown = false) (hturn : b.mustWait q.carrier = false)
    (hs : serves b q = true) : runUnknown op q b = (touchMaintain q.carrier b).reply q op stUnknown [] := by
  rw [runUnknown, if_neg (turn_of hcore hturn), hs]
  rfl

/-- Settles O7: every row that carries a request runs it through the one request path, whose branches are the clauses. -/
theorem requestPath : Obligations.RequestPath := by
  unfold Obligations.RequestPath
  refine ⟨?header, ?wait, ?unserved, ?full, ?unknown⟩
  case header =>
    intro i q op cls s hi hcore hturn hs hh
    exact exec_of_request hi fun _ _ _ => runReq_badHeader hcore hturn hs hh
  case wait =>
    intro i q op cls s hi hw
    have hx : exec i s = .next { s with blk := acceptReq op q s.blk } := exec_of_request hi fun _ _ _ => runReq_mustWait hw
    exact ⟨fun hroom => by rw [hx, acceptReq_room hroom], fun hfull => by rw [hx, acceptReq_full hfull]⟩
  case unserved =>
    intro i q op cls s hi hcore hturn hs
    exact exec_of_request hi fun _ _ _ => runReq_not_serves hcore hturn hs
  case full =>
    intro q op s hfull
    have hx : exec (.requestRefusedBusy q op) s =
        .next { s with blk := if queueLimit q.carrier ≤ s.blk.outstanding q.carrier then refuseBusy op.toNat q s.blk else s.blk } := rfl
    rw [hx, if_pos hfull]
    rfl
  case unknown =>
    intro q op s hop hcore hturn hs
    have hx : exec (.unknownOpcode q op) s =
        .next { s with blk := if opDefined op.toNat then s.blk else runUnknown op.toNat q s.blk } := rfl
    rw [hx, hop, runUnknown_served hcore hturn hs]
    rfl

end Sys2Proof.Machine
end

section
/-! Which register words an operation may change: every field, flag and event bit of another word reads as before. -/

namespace Sys2Proof.Machine

/-! ### Words left alone -/

/-- `t` holds the register words of `s`, but for those listed. -/
def RegsBut (l : List Nat) (s t : Block) : Prop := ∀ a, a ∉ l → t.reg a = s.reg a

namespace RegsBut

variable {l m : List Nat} {s t u : Block}

theorem reg (h : RegsBut l s t) {a : Nat} (ha : a ∉ l) : t.reg a = s.reg a := h a ha

theorem fld (h : RegsBut l s t) {f : RF} (hf : f.addr ∉ l) : t.fld f = s.fld f := fld_congr _ _ _ (h _ hf)

theorem flag (h : RegsBut l s t) {f : RF} (hf : f.addr ∉ l) : t.flag f = s.flag f := flag_congr _ _ _ (h _ hf)

theorem evtStatus (h : RegsBut l s t) {e : Nat} (he : evtStatusA e ∉ l) : t.evtStatus e = s.evtStatus e := evtStatus_congr _ _ _ (h _ he)

theorem evtLive (h : RegsBut l s t) {e : Nat} (he : evtLiveA e ∉ l) : t.evtLive e = s.evtLive e := by
  unfold Block.evtLive
  rw [h _ he]

theorem refl (s : Block) : RegsBut l s s := fun _ _ => rfl

theorem of_regs (h : t.regs = s.regs) : RegsBut l s t := fun a _ => reg_of_regs h a

theorem mono (h : RegsBut l s t) (hl : l ⊆ m) : RegsBut m s t := fun a ha => h a fun hx => ha (hl hx)

theorem trans (h : RegsBut l s t) (h' : RegsBut l t u) : RegsBut l s u := fun a ha => (h' a ha).trans (h a ha)

/-- Two operations in a row: the words of either may have changed. -/
theorem append (h : RegsBut l s t) (h' : RegsBut m t u) : RegsBut (l ++ m) s u := fun a ha =>
  (h' a fun hx => ha (List.mem_append_right l hx)).trans (h a fun hx => ha (List.mem_append_left m hx))

theorem ite {c : Prop} [Decidable c] (ht : RegsBut l s t) (hu : RegsBut l s u) : RegsBut l s (if c then t else u) := by
  split
  · exact ht
  · exact hu

theorem foldl {α : Type} {f : Block → α → Block} (h : ∀ t x, RegsBut l t (f t x)) (xs : List α) (s : Block) : RegsBut l s (xs.foldl f s) := by
  induction xs generalizing s with
  | nil => exact refl s
  | cons x xs ih => exact (h s x).trans (ih _)

/-- Steps that change words of their own, in a fold: the words of all of them may have changed. -/
theorem foldl_flatMap {α : Type} {f : Block → α → Block} {g : α → List Nat} (h : ∀ t x, RegsBut (g x) t (f t x)) (xs : List α) (s : Block) :
    RegsBut (xs.flatMap g) s (xs.foldl f s) := by
  induction xs generalizing s with
  | nil => exact refl s
  | cons x xs ih =>
    rw [List.flatMap_cons]
    exact (h s x).append (ih _)

end RegsBut

theorem regsBut_setReg (s : Block) (a : Nat) (w : Word) : RegsBut [a] s (s.setReg a w) := by
  intro b hb
  rw [reg_setReg, if_neg (by simpa using hb)]

theorem regsBut_setFld (s : Block) (f : RF) (v : Nat) : RegsBut [f.addr] s (s.setFld f v) := regsBut_setReg s _ _

theorem regsBut_setFlag (s : Block) (f : RF) (b : Bool) : RegsBut [f.addr] s (s.setFlag f b) := regsBut_setReg s _ _

theorem regsBut_incFld (s : Block) (f : RF) (n : Nat) : RegsBut [f.addr] s (s.incFld f n) := regsBut_setReg s _ _

theorem regsBut_raise (s : Block) (e : Nat) : RegsBut [evtStatusA e] s (s.raise e) := by
  intro a ha
  rw [reg_raise, if_neg (by simpa using ha)]

theorem regsBut_setLive (s : Block) (e : Nat) (b : Bool) : RegsBut [evtLiveA e, evtStatusA e] s (s.setLive e b) := by
  have hlive : RegsBut [evtLiveA e] s (s.setReg (evtLiveA e) (wput (s.reg (evtLiveA e)) (e % 32) b)) := regsBut_setReg s _ _
  unfold Block.setLive
  dsimp only
  exact .ite (hlive.append (regsBut_raise _ _)) (hlive.mono (by simp))

/-- A cairn is counted in the log's own registers. -/
theorem regsBut_cairn (s : Block) (o k a : Nat) (x y : Word) : RegsBut [LOG_STAT.addr, LOG_HEAD.addr] s (s.cairn o k a x y) := by
  intro b hb
  simp only [List.mem_cons, List.not_mem_nil, or_false, not_or] at hb
  exact reg_cairn s o k a x y b hb.1 hb.2

theorem regsBut_cairnN (s : Block) (o k a x y : Nat) : RegsBut [LOG_STAT.addr, LOG_HEAD.addr] s (s.cairnN o k a x y) :=
  regsBut_cairn s o k a _ _

theorem regsBut_policy (s : Block) (c : Nat) : RegsBut [POL_LAST.addr] s (s.policy c) :=
  (regsBut_setFld s POL_LAST.CODE c).trans (regsBut_incFld _ POL_LAST.COUNT 1)

theorem regsBut_policyCairn (s : Block) (c k a x y : Nat) :
    RegsBut [POL_LAST.addr, LOG_STAT.addr, LOG_HEAD.addr] s (s.policyCairn c k a x y) :=
  (regsBut_policy s c).append (regsBut_cairnN _ _ k a x y)

/-! ### Updates of what no register shows -/

section
variable (s : Block) (held : List (Nat × Word)) (cmd : CmdState) (tw : TwState) (evt : EvtState) (log : LogState) (acc : AccState)
  (nvm : NvmState) (pwr : PwrState) (flt : FltState) (ks : KsState) (ft : FtState) (pix : PixState) (cal : CalState) (eng : EngState)
  (mc : McState) (rcd : RecState) (mon : MonState) (stat : StatState) (lk : LkState) (fb : FbState) (th : ThState) (rsv : RsvState)
  (free : Nat)

@[simp] theorem reg_mk (a : Nat) : (Block.mk s.regs held cmd tw evt log acc nvm pwr flt ks ft pix cal eng mc rcd mon stat lk fb th rsv
    free).reg a = s.reg a := rfl

@[simp] theorem fld_mk (f : RF) : (Block.mk s.regs held cmd tw evt log acc nvm pwr flt ks ft pix cal eng mc rcd mon stat lk fb th rsv
    free).fld f = s.fld f := rfl

@[simp] theorem flag_mk (f : RF) : (Block.mk s.regs held cmd tw evt log acc nvm pwr flt ks ft pix cal eng mc rcd mon stat lk fb th rsv
    free).flag f = s.flag f := rfl

@[simp] theorem evtStatus_mk (e : Nat) : (Block.mk s.regs held cmd tw evt log acc nvm pwr flt ks ft pix cal eng mc rcd mon stat lk fb th
    rsv free).evtStatus e = s.evtStatus e := rfl

@[simp] theorem evtLive_mk (e : Nat) : (Block.mk s.regs held cmd tw evt log acc nvm pwr flt ks ft pix cal eng mc rcd mon stat lk fb th
    rsv free).evtLive e = s.evtLive e := rfl

end

/-! ### Event bits -/

theorem evtLive_setReg_live (s : Block) (e d : Nat) (b : Bool) :
    (s.setReg (evtLiveA e) (wput (s.reg (evtLiveA e)) (e % 32) b)).evtLive d = if d = e then b else s.evtLive d := by
  unfold Block.evtLive
  rw [reg_setReg]
  by_cases ha : evtLiveA d = evtLiveA e
  · rw [if_pos ha, ha]
    rw [evtLiveA_eq, evtLiveA_eq] at ha
    unfold wput
    rw [getLsbD_wput _ _ _ _ (by omega)]
    by_cases hd : d = e
    · simp [hd]
    · rw [if_neg (by omega), if_neg hd]
  · rw [if_neg ha, if_neg (ne_of_apply_ne evtLiveA ha)]

/-- The live bits are no status words, so an event's occurrence leaves them. -/
theorem evtLive_raise (s : Block) (e d : Nat) (hd : d < 1024) (he : e < 1024) : (s.raise e).evtLive d = s.evtLive d :=
  (regsBut_raise s e).evtLive (by rw [List.mem_singleton, evtLiveA_eq, evtStatusA_eq]; omega)

/-- A live bit reads as set; no other event's is touched (R610). -/
theorem evtLive_setLive (s : Block) (e d : Nat) (b : Bool) (hd : d < 1024) (he : e < 1024) :
    (s.setLive e b).evtLive d = if d = e then b else s.evtLive d := by
  rw [← evtLive_setReg_live s e d b]
  unfold Block.setLive
  dsimp only
  split
  · exact evtLive_raise _ e d hd he
  · rfl

/-! ### Rows as they answer -/

theorem becomes_of_eq {i : Instr} {s : State} {t u : Block} (h : Becomes i s t) (ht : t = u) : Becomes i s u := ht ▸ h

theorem completes_of_becomes {i : Instr} {s : State} {t : Block} {P : Block → Prop} (h : Becomes i s t) (hp : P t) : Completes i s P :=
  ⟨t, h, hp⟩

/-! ### Fields and flags written -/

theorem fld_setReg_same (s : Block) (f : RF) {a : Nat} (w : Word) (h : f.addr = a) : (s.setReg a w).fld f = wfield w f.lo f.width := by
  rw [Block.fld, reg_setReg, if_pos h]

theorem flag_setFlag_same (s : Block) (f : RF) (b : Bool) (h : f.inWord ∧ f.width = 1) : (s.setFlag f b).flag f = b :=
  flag_setFlag s f b h.1 h.2

end Sys2Proof.Machine
end

section
/-! What a reset leaves in the registers (R58, R63, R65, R645): the kept bits as they were, every other bit at its reset value. -/

namespace Sys2Proof.Machine

/-! ### Words with some bits kept -/

/-- A merged word has the bits of the mask from the old word, the others from the new one. -/
theorem getLsbD_merge (w o m : Word) (i : Nat) (hi : i < 32) :
    ((w &&& ~~~ m) ||| (o &&& m)).getLsbD i = if m.getLsbD i then o.getLsbD i else w.getLsbD i := by
  rw [BitVec.getLsbD_or, BitVec.getLsbD_and, BitVec.getLsbD_and, BitVec.getLsbD_not]
  cases m.getLsbD i <;> simp [hi]

/-- A field is told by the bits of its word. -/
theorem wfield_congr {w v : Word} {lo width : Nat} (h : ∀ i, i < width → w.getLsbD (lo + i) = v.getLsbD (lo + i)) :
    wfield w lo width = wfield v lo width := by
  apply Nat.eq_of_testBit_eq
  intro i
  rw [testBit_wfield, testBit_wfield]
  by_cases hi : i < width
  · rw [h i hi]
  · simp [hi]

/-- Do the masks `l` keep bit `i` of the register word at `a`? -/
def keeps (l : List (Nat × Word)) (a i : Nat) : Bool := l.any fun e => decide (e.1 = a) && e.2.getLsbD i

theorem getLsbD_reg_copyBits (old : Block) (l : List (Nat × Word)) (s : Block) (a i : Nat) (hi : i < 32) :
    ((copyBits old l s).reg a).getLsbD i = if keeps l a i then (old.reg a).getLsbD i else (s.reg a).getLsbD i := by
  unfold copyBits
  induction l generalizing s with
  | nil => rfl
  | cons e l ih =>
    have hk : keeps (e :: l) a i = (decide (e.1 = a) && e.2.getLsbD i || keeps l a i) := List.any_cons
    rw [List.foldl_cons, ih, reg_setReg, hk]
    by_cases ha : e.1 = a
    · subst ha
      rw [if_pos rfl, getLsbD_merge _ _ _ _ hi]
      cases e.2.getLsbD i <;> simp
    · simp [ha, Ne.symm ha]

theorem regsBut_syncFw (s : Block) : RegsBut [FW_STATE.addr] s (syncFw s) :=
  (((regsBut_setFlag s FW_STATE.VALID0 _).trans (regsBut_setFlag _ FW_STATE.VALID1 _)).trans (regsBut_setFlag _ FW_STATE.UPDATING _)).trans
    (regsBut_setFld _ FW_STATE.ROLLBACK _)

/-! ### A reset of every domain (R58) -/

/-- What a reset keeps of the registers; `aon` when AON keeps its power. -/
def keptBits (aon : Bool) : List (Nat × Word) := (if aon then aonKept else []) ++ nvmKept ++ liveKept

theorem getLsbD_reg_resetKeep (aon : Bool) (s : Block) {a i : Nat} (ha : a ≠ FW_STATE.addr) (hi : i < 32) :
    ((resetKeep aon s).reg a).getLsbD i = if keeps (keptBits aon) a i then (s.reg a).getLsbD i else (regReset a).getLsbD i := by
  unfold resetKeep
  rw [(regsBut_syncFw _).reg (by simpa using ha), getLsbD_reg_copyBits _ _ _ _ _ hi]
  rfl

/-- A field that lies in the bits kept reads as before the reset. -/
theorem fld_resetKeep_kept {aon : Bool} {f : RF} (s : Block)
    (h : f.addr ≠ FW_STATE.addr ∧ f.inWord ∧ ∀ i, i < f.width → keeps (keptBits aon) f.addr (f.lo + i) = true) :
    (resetKeep aon s).fld f = s.fld f := by
  obtain ⟨ha, hw, hk⟩ := h
  exact wfield_congr fun i hi => by rw [getLsbD_reg_resetKeep aon s ha (by omega), hk i hi, if_pos rfl]

/-- A field of which no bit is kept reads as its reset value. -/
theorem fld_resetKeep_fresh {aon : Bool} {f : RF} (s : Block)
    (h : f.addr ≠ FW_STATE.addr ∧ f.inWord ∧ ∀ i, i < f.width → keeps (keptBits aon) f.addr (f.lo + i) = false) :
    (resetKeep aon s).fld f = wfield (regReset f.addr) f.lo f.width := by
  obtain ⟨ha, hw, hk⟩ := h
  exact wfield_congr fun i hi => by rw [getLsbD_reg_resetKeep aon s ha (by omega), hk i hi, if_neg Bool.false_ne_true]

section
variable (aon : Bool) (s : Block)

@[simp] theorem stage_resetKeep : (resetKeep aon s).fld SYS_BOOT.STAGE = 0 := by
  cases aon <;> exact fld_resetKeep_fresh s (by decide)

@[simp] theorem supplyOk_resetKeep : (resetKeep aon s).fld SYS_SUPPLY.OK = s.fld SYS_SUPPLY.OK := by
  cases aon <;> exact fld_resetKeep_kept s (by decide)

theorem railOk_resetKeep {r : Nat} (hr : r < 11) : railOk (resetKeep aon s) r = railOk s r := by
  have hk : keeps (keptBits aon) SYS_SUPPLY.addr r = true := by cases aon <;> revert r <;> decide
  rw [railOk, getLsbD_reg_resetKeep aon s (by decide) (by omega), hk, if_pos rfl, railOk]

@[simp] theorem resetKeep_accepted : (resetKeep aon s).cmd.accepted = [] := by cases aon <;> rfl
@[simp] theorem resetKeep_maintain : (resetKeep aon s).acc.maintain = [] := by cases aon <;> rfl
@[simp] theorem resetKeep_ks : (resetKeep aon s).ks = Block.reset.ks := by cases aon <;> rfl
@[simp] theorem resetKeep_rcd : (resetKeep aon s).rcd = Block.reset.rcd := by cases aon <;> rfl
@[simp] theorem resetKeep_ft : (resetKeep aon s).ft = Block.reset.ft := by cases aon <;> rfl

end

/-- The events of AON (1016 to 1023) keep their status bits while AON has power (R611). -/
theorem evtStatus_resetKeep (s : Block) {e : Nat} (h1 : 1016 ≤ e) (h2 : e ≤ 1023) : (resetKeep true s).evtStatus e = s.evtStatus e := by
  have ha : evtStatusA e = EVT_STATUS.addr 31 := by rw [evtStatusA_eq, EVT_STATUS.addr]; omega
  have hk : ∀ i, 24 ≤ i → i < 32 → keeps (keptBits true) (EVT_STATUS.addr 31) i = true := by decide
  unfold Block.evtStatus
  rw [ha, getLsbD_reg_resetKeep true s (by decide) (by omega), hk _ (by omega) (by omega), if_pos rfl]

end Sys2Proof.Machine
end

section
/-! Rails (R43, R45, R53, R54, R56): their bits in SYS_SUPPLY, and what the part does as one leaves or enters its window. -/

namespace Sys2Proof.Machine

/-! ### The bits of SYS_SUPPLY -/

theorem RegsBut.railOk {l : List Nat} {s t : Block} (h : RegsBut l s t) {r : Nat} (hl : SYS_SUPPLY.addr ∉ l) :
    Machine.railOk t r = Machine.railOk s r := by
  unfold Machine.railOk
  rw [h.reg hl]

@[simp] theorem railOk_mk (s : Block) (held : List (Nat × Word)) (cmd : CmdState) (tw : TwState) (evt : EvtState) (log : LogState)
    (acc : AccState) (nvm : NvmState) (pwr : PwrState) (flt : FltState) (ks : KsState) (ft : FtState) (pix : PixState) (cal : CalState)
    (eng : EngState) (mc : McState) (rcd : RecState) (mon : MonState) (stat : StatState) (lk : LkState) (fb : FbState) (th : ThState)
    (rsv : RsvState) (free r : Nat) : railOk (Block.mk s.regs held cmd tw evt log acc nvm pwr flt ks ft pix cal eng mc rcd mon stat lk fb
    th rsv free) r = railOk s r := rfl

theorem regsBut_setRailOk (s : Block) (r : Nat) (b : Bool) : RegsBut [SYS_SUPPLY.addr] s (setRailOk r b s) := regsBut_setReg s _ _

theorem railOk_setRailOk (s : Block) (r x : Nat) (b : Bool) (hx : x < 32) :
    railOk (setRailOk r b s) x = if x = r then b else railOk s x := by
  unfold railOk setRailOk wput
  rw [reg_setReg, if_pos rfl, getLsbD_wput _ _ _ _ hx]

/-- A rail's bit is no part of SEQ_ERR. -/
theorem seqErr_setRailOk (s : Block) {r : Nat} (b : Bool) (hr : r < 11) :
    (setRailOk r b s).flag SYS_SUPPLY.SEQ_ERR = s.flag SYS_SUPPLY.SEQ_ERR :=
  congrArg (fun n => decide (n = 1)) (fld_setFld_apart s ⟨SYS_SUPPLY.addr, r, 1⟩ SYS_SUPPLY.SEQ_ERR (b2n b)
    (.inr (.inl (by change r + 1 ≤ 11; omega))))

/-- SEQ_ERR is no rail's bit. -/
theorem railOk_setSeqErr (s : Block) {r : Nat} (b : Bool) (hr : r < 11) : railOk (s.setFlag SYS_SUPPLY.SEQ_ERR b) r = railOk s r := by
  unfold railOk Block.setFlag
  rw [reg_setFld, if_pos (show SYS_SUPPLY.addr = SYS_SUPPLY.SEQ_ERR.addr from rfl), getLsbD_wsetField _ _ _ _ _ (by omega),
    if_neg (by simp [SYS_SUPPLY.SEQ_ERR]; omega)]
  rfl

theorem regsBut_noteRail (r : Nat) (s : Block) : RegsBut [SYS_SUPPLY.addr, evtStatusA 1017] s (noteRail r s) :=
  (regsBut_setReg s _ _).append (regsBut_raise _ 1017)

/-- A rail's FAULT bit is not its OK bit. -/
theorem railOk_noteRail (s : Block) {r x : Nat} (hx : x < 11) : railOk (noteRail r s) x = railOk s x := by
  unfold noteRail
  rw [(regsBut_raise _ 1017).railOk (by decide)]
  unfold railOk wput
  rw [reg_setReg, if_pos rfl, getLsbD_wput _ _ _ _ (by omega), if_neg (by omega)]

theorem evtStatus_noteRail (s : Block) (r : Nat) : (noteRail r s).evtStatus 1017 = true := by
  rw [noteRail, evtStatus_raise]
  rfl

@[simp] theorem noteRail_acc (s : Block) (r : Nat) : (noteRail r s).acc = s.acc := by simp [noteRail]

/-- An event's notice is the only trace of it in the command state. -/
@[simp] theorem raise_accepted (s : Block) (e : Nat) : (s.raise e).cmd.accepted = s.cmd.accepted := by
  unfold Block.raise Block.raiseAt
  dsimp only
  split
  · rfl
  · split <;> rfl

@[simp] theorem noteRail_accepted (s : Block) (r : Nat) : (noteRail r s).cmd.accepted = s.cmd.accepted := by simp [noteRail]

@[simp] theorem powerLoss_regs (s : Block) : (powerLoss s).regs = s.regs := by
  unfold powerLoss
  dsimp only
  split
  · rfl
  · split <;> rfl

/-! ### A fault that holds the part in reset (R56) -/

section
variable (s : Block)

@[simp] theorem holdReset_selfHeld : (holdReset s).pwr.selfHeld = true := rfl
@[simp] theorem holdReset_accepted : (holdReset s).cmd.accepted = [] := by unfold holdReset; simp
@[simp] theorem holdReset_ks : (holdReset s).ks = Block.reset.ks := by unfold holdReset; simp

end

theorem holdReset_noteRail (s : Block) {r : Nat} (hr : r < 11) (hs : railOk s r = false) :
    railOk (holdReset (noteRail r s)) r = false ∧ (holdReset (noteRail r s)).fld SYS_BOOT.STAGE = 0 ∧
      (holdReset (noteRail r s)).evtStatus 1017 = true := by
  have hregs : RegsBut [] (noteRail r s) (powerLoss (noteRail r s)) := .of_regs (powerLoss_regs _)
  unfold holdReset
  refine ⟨?_, ?_, ?_⟩
  · rw [railOk_mk, railOk_resetKeep true _ hr, hregs.railOk (by simp), railOk_noteRail s hr, hs]
  · rw [fld_mk, stage_resetKeep]
  · rw [evtStatus_mk, evtStatus_resetKeep _ (by decide) (by decide), hregs.evtStatus (by simp), evtStatus_noteRail]

/-! ### The rows -/

/-- The supply's status as a rail is lost: its OK bit, and VID undriven without VDD_IO. -/
def railLost (r : Nat) (s : Block) : Block :=
  if r = 1 then { setRailOk r false s with pwr := { (setRailOk r false s).pwr with vidDriven := false } } else setRailOk r false s

theorem railOk_railLost (s : Block) {r : Nat} (hr : r < 11) : railOk (railLost r s) r = false := by
  have h : railOk (setRailOk r false s) r = false := by rw [railOk_setRailOk _ _ _ _ (by omega), if_pos rfl]
  unfold railLost
  split <;> simpa using h

@[simp] theorem notRunning_railLost (s : Block) (r : Nat) : notRunning (railLost r s) = notRunning s := by
  unfold railLost notRunning
  split <;> rfl

section
variable {rail : BitVec 4} {s : State}

theorem railFault_aon (h : rail.toNat = 0) : ∃ (kept : Bool) (u : Block), u = noteRail 0 (resetKeep kept (powerLoss (railLost 0 s.blk).draw)) ∧
    Becomes (.railFault rail) s { u with pwr := { u.pwr with selfHeld := true, mainEn := false } } := by
  refine ⟨(railLost 0 s.blk).drawn.getLsbD 0, _, rfl, ?_⟩
  change execRailFault rail s = _
  rw [execRailFault]
  refine onBlock_next ?_
  dsimp only
  rw [h, if_neg (by decide), if_pos rfl]
  rfl

theorem railFault_notRunning (hr : rail.toNat < 11) (h0 : rail.toNat ≠ 0) (hn : notRunning s.blk = true) :
    Becomes (.railFault rail) s (railLost rail.toNat s.blk) := by
  change execRailFault rail s = _
  rw [execRailFault]
  refine onBlock_next ?_
  have hn' : notRunning (railLost rail.toNat s.blk) = true := by rw [notRunning_railLost, hn]
  unfold railLost at hn' ⊢
  dsimp only
  rw [if_neg (Nat.not_le.mpr hr), if_neg h0, if_pos hn']

theorem railFault_rc (h3 : 3 ≤ rail.toNat) (h6 : rail.toNat ≤ 6) (hn : notRunning s.blk = false) : ∃ u v : Block,
    u = abortCapture (noteRail rail.toNat (setRailOk rail.toNat false s.blk)) ∧
    v = closeTake oFirmware 8 { u with pwr := { u.pwr with rcFault := true, rcValidAt := none } } ∧
    Becomes (.railFault rail) s (if v.rcd.take.isSome then v else v.setFld SYS_DOMAIN.RC_ON 0) := by
  refine ⟨_, _, rfl, rfl, ?_⟩
  change execRailFault rail s = _
  rw [execRailFault]
  refine onBlock_next ?_
  have h11 : ¬ 11 ≤ rail.toNat := by omega
  have h0 : rail.toNat ≠ 0 := by omega
  have h1 : rail.toNat ≠ 1 := by omega
  have hn' : notRunning (setRailOk rail.toNat false s.blk) = false := hn
  simp only [h11, h0, h1, hn', h3, h6, if_false, if_true, and_self, Bool.false_eq_true]

theorem railFault_holds (hr : rail.toNat < 11) (h0 : rail.toNat ≠ 0) (hrc : ¬ (3 ≤ rail.toNat ∧ rail.toNat ≤ 6))
    (hn : notRunning s.blk = false) :
    Becomes (.railFault rail) s (holdReset (noteRail rail.toNat (railLost rail.toNat s.blk))) := by
  change execRailFault rail s = _
  rw [execRailFault]
  refine onBlock_next ?_
  change (if 11 ≤ rail.toNat then _ else if rail.toNat = 0 then _ else if notRunning (railLost rail.toNat s.blk) then _ else
    if 3 ≤ rail.toNat ∧ rail.toNat ≤ 6 then _ else Host.Outcome.next (holdReset (noteRail rail.toNat (railLost rail.toNat s.blk)))) = _
  rw [if_neg (Nat.not_le.mpr hr), if_neg h0, notRunning_railLost, hn, if_neg Bool.false_ne_true, if_neg hrc]

end

/-! ### A rail that comes in -/

/-- Its OK bit, and with VDD_IO the code 40 on VID (R45, R54). -/
def railEntered (r : Nat) (s : Block) : Block :=
  if r = 1 ∧ s.pwr.vidDriven = false then
    ({ setRailOk r true s with pwr := { (setRailOk r true s).pwr with vidDriven := true, vidTarget := 40 } } : Block).setFld SYS_VID.CODE 40
  else setRailOk r true s

/-- Does the rail start before its group may (R53)? -/
def startsEarly (r : Nat) (s : Block) : Bool :=
  decide ((railEntered r s).fld SYS_BOOT.STAGE = 0) && !railOk s r && (railsBefore r).any fun x => !railOk (railEntered r s) x

/-- SEQ_ERR, and the part held, after a start out of order (R53). -/
def seqNoted (early : Bool) (s : Block) : Block :=
  if early then ({ s with pwr := { s.pwr with heldEarly := true } } : Block).setFlag SYS_SUPPLY.SEQ_ERR true else s

/-- With the four RC rails back after a fault their 10 ms start (R56). -/
def rcTimed (s : Block) : Block :=
  if s.pwr.rcFault && s.pwr.rcValidAt.isNone && [3, 4, 5, 6].all (railOk s) then { s with pwr := { s.pwr with rcValidAt := some s.now } }
  else s

theorem railValid_eq {rail : BitVec 4} {s : State} (hr : rail.toNat < 11) :
    Becomes (.railValid rail) s (rcTimed (seqNoted (startsEarly rail.toNat s.blk) (railEntered rail.toNat s.blk))) := by
  change execRailValid rail s = _
  rw [execRailValid]
  refine onBlock_next ?_
  dsimp only
  rw [if_neg (Nat.not_le.mpr hr)]
  rfl

theorem regsBut_railEntered (r : Nat) (s : Block) : RegsBut [SYS_SUPPLY.addr, SYS_VID.addr] s (railEntered r s) := by
  unfold railEntered
  split
  · exact (regsBut_setRailOk s r true).append ((RegsBut.of_regs (l := []) rfl).append (regsBut_setFld _ SYS_VID.CODE 40))
  · exact (regsBut_setRailOk s r true).mono (by simp)

section
variable (r : Nat) (early : Bool) (s : Block)

@[simp] theorem railEntered_evt : (railEntered r s).evt = s.evt := by unfold railEntered; split <;> rfl
@[simp] theorem railEntered_ks : (railEntered r s).ks = s.ks := by unfold railEntered; split <;> rfl
@[simp] theorem railEntered_rcd : (railEntered r s).rcd = s.rcd := by unfold railEntered; split <;> rfl
@[simp] theorem railEntered_rcFault : (railEntered r s).pwr.rcFault = s.pwr.rcFault := by unfold railEntered; split <;> rfl
@[simp] theorem railEntered_rcValidAt : (railEntered r s).pwr.rcValidAt = s.pwr.rcValidAt := by unfold railEntered; split <;> rfl
@[simp] theorem seqNoted_evt : (seqNoted early s).evt = s.evt := by unfold seqNoted; split <;> rfl
@[simp] theorem seqNoted_ks : (seqNoted early s).ks = s.ks := by unfold seqNoted; split <;> rfl
@[simp] theorem seqNoted_rcd : (seqNoted early s).rcd = s.rcd := by unfold seqNoted; split <;> rfl
@[simp] theorem seqNoted_rcFault : (seqNoted early s).pwr.rcFault = s.pwr.rcFault := by unfold seqNoted; split <;> rfl
@[simp] theorem seqNoted_rcValidAt : (seqNoted early s).pwr.rcValidAt = s.pwr.rcValidAt := by unfold seqNoted; split <;> rfl
@[simp] theorem seqNoted_vidDriven : (seqNoted early s).pwr.vidDriven = s.pwr.vidDriven := by unfold seqNoted; split <;> rfl
@[simp] theorem rcTimed_regs : (rcTimed s).regs = s.regs := by unfold rcTimed; split <;> rfl
@[simp] theorem rcTimed_evt : (rcTimed s).evt = s.evt := by unfold rcTimed; split <;> rfl
@[simp] theorem rcTimed_ks : (rcTimed s).ks = s.ks := by unfold rcTimed; split <;> rfl
@[simp] theorem rcTimed_rcd : (rcTimed s).rcd = s.rcd := by unfold rcTimed; split <;> rfl
@[simp] theorem rcTimed_heldEarly : (rcTimed s).pwr.heldEarly = s.pwr.heldEarly := by unfold rcTimed; split <;> rfl
@[simp] theorem rcTimed_vidDriven : (rcTimed s).pwr.vidDriven = s.pwr.vidDriven := by unfold rcTimed; split <;> rfl

theorem regsBut_rcTimed : RegsBut [] s (rcTimed s) := .of_regs (rcTimed_regs s)

theorem regsBut_seqNoted : RegsBut [SYS_SUPPLY.addr] s (seqNoted early s) := by
  unfold seqNoted
  split
  · exact (RegsBut.of_regs (l := []) rfl).append (regsBut_setFlag _ SYS_SUPPLY.SEQ_ERR true)
  · exact .refl s

end

/-- What changes when a rail comes in lies in SYS_SUPPLY and SYS_VID. -/
theorem regsBut_railValid (early : Bool) (r : Nat) (s : Block) :
    RegsBut [SYS_SUPPLY.addr, SYS_VID.addr] s (rcTimed (seqNoted early (railEntered r s))) :=
  ((regsBut_railEntered r s).trans ((regsBut_seqNoted early _).mono (by simp))).trans ((regsBut_rcTimed _).mono (by simp))

theorem railOk_railEntered (s : Block) {r x : Nat} (hx : x < 11) : railOk (railEntered r s) x = if x = r then true else railOk s x := by
  have h := railOk_setRailOk s r x true (by omega)
  unfold railEntered
  split
  · rw [(regsBut_setFld _ SYS_VID.CODE 40).railOk (by decide), railOk_mk, h]
  · exact h

theorem railOk_seqNoted (early : Bool) (s : Block) {x : Nat} (hx : x < 11) : railOk (seqNoted early s) x = railOk s x := by
  unfold seqNoted
  split
  · rw [railOk_setSeqErr _ _ hx, railOk_mk]
  · rfl

theorem seqErr_railEntered (s : Block) {r : Nat} (hr : r < 11) :
    (railEntered r s).flag SYS_SUPPLY.SEQ_ERR = s.flag SYS_SUPPLY.SEQ_ERR := by
  have h := seqErr_setRailOk s true hr
  unfold railEntered
  split
  · rw [(regsBut_setFld _ SYS_VID.CODE 40).flag (by decide), flag_mk, h]
  · exact h

/-- The rails of the groups before a rail's own are other rails (R53). -/
theorem ne_of_mem_railsBefore {r x : Nat} (hr : r < 11) (hx : x ∈ railsBefore r) : x ≠ r ∧ x < 11 := by
  revert hx x
  revert hr r
  decide

/-- A rail starts early at stage 0 when its group's forerunners are not all valid. -/
theorem startsEarly_of {s : Block} {r : Nat} (hr : r < 11) (hst : s.fld SYS_BOOT.STAGE = 0) (hlow : railOk s r = false)
    (hb : ∃ x ∈ railsBefore r, railOk s x = false) : startsEarly r s = true := by
  obtain ⟨x, hx, hxl⟩ := hb
  obtain ⟨hne, h11⟩ := ne_of_mem_railsBefore hr hx
  have hany : ((railsBefore r).any fun x => !railOk (railEntered r s) x) = true :=
    List.any_eq_true.mpr ⟨x, hx, by rw [railOk_railEntered s h11, if_neg hne, hxl]; rfl⟩
  rw [startsEarly, (regsBut_railEntered r s).fld (by decide), hst, hlow, hany]
  rfl

theorem startsEarly_of_stage {s : Block} {r : Nat} (hst : s.fld SYS_BOOT.STAGE ≠ 0) : startsEarly r s = false := by
  rw [startsEarly, (regsBut_railEntered r s).fld (by decide), decide_eq_false hst]
  rfl

theorem railEntered_vid {s : Block} (h : s.pwr.vidDriven = false) :
    (railEntered 1 s).fld SYS_VID.CODE = 40 ∧ (railEntered 1 s).pwr.vidDriven = true := by
  rw [railEntered, if_pos ⟨rfl, h⟩]
  exact ⟨fld_setFld _ _ _ (by decide), rfl⟩

/-- With the other RC rails valid, the one that comes in starts the 10 ms. -/
theorem rcTimed_starts {s : Block} (hf : s.pwr.rcFault = true) (hn : s.pwr.rcValidAt = none)
    (hall : ∀ x ∈ [3, 4, 5, 6], railOk s x = true) : (rcTimed s).pwr.rcValidAt = some s.now := by
  have hall' : [3, 4, 5, 6].all (railOk s) = true := List.all_eq_true.mpr hall
  rw [rcTimed, hf, hn, hall']
  rfl

/-- Settles O33: the cases of a rail's loss are the branches of R56; a rail's return is followed field by field. -/
theorem railEvents : Obligations.RailEvents := by
  unfold Obligations.RailEvents
  intro rail r s hr h11
  subst hr
  refine ⟨?aon, ?idle, ?rc, ?other, ?valid⟩
  case aon =>
    intro h0
    obtain ⟨kept, u, rfl, hu⟩ := railFault_aon (s := s) h0
    refine completes_of_becomes hu ⟨rfl, rfl, ?_, ?_, ?_, ?_⟩
    · rw [fld_mk, (regsBut_noteRail 0 _).fld (by decide), stage_resetKeep]
    · rw [evtStatus_mk, evtStatus_noteRail]
    · exact (noteRail_accepted _ 0).trans (resetKeep_accepted kept _)
    · exact (congrArg AccState.maintain (noteRail_acc _ 0)).trans (resetKeep_maintain kept _)
  case idle =>
    intro h0 hn
    refine completes_of_becomes (railFault_notRunning h11 h0 hn) ⟨railOk_railLost s.blk h11, ?_, ?_, ?_⟩ <;>
      (unfold railLost; split <;> rfl)
  case rc => exact fun h3 h6 hn => railFault_rc h3 h6 hn
  case other =>
    intro h hn
    obtain ⟨hok, hst, hev⟩ := holdReset_noteRail (railLost rail.toNat s.blk) h11 (railOk_railLost s.blk h11)
    exact completes_of_becomes (railFault_holds h11 (by omega) (by omega) hn)
      ⟨holdReset_selfHeld _, hok, hst, hev, holdReset_accepted _, holdReset_ks _⟩
  case valid =>
    refine completes_of_becomes (railValid_eq h11) ⟨?ok, by simp, by simp, by simp, (regsBut_railValid _ _ _).fld (by decide), ?early,
      ?later, ?vid, ?timed⟩
    case ok => rw [(regsBut_rcTimed _).railOk (by simp), railOk_seqNoted _ _ h11, railOk_railEntered _ h11, if_pos rfl]
    case early =>
      intro hst hlow hb
      rw [startsEarly_of h11 hst hlow hb, (regsBut_rcTimed _).flag (by simp), rcTimed_heldEarly]
      exact ⟨flag_setFlag_same _ _ _ (by decide), rfl⟩
    case later =>
      intro hst
      rw [startsEarly_of_stage hst, (regsBut_rcTimed _).flag (by simp)]
      exact seqErr_railEntered s.blk h11
    case vid =>
      intro h1 hd
      obtain ⟨hcode, hdriven⟩ := railEntered_vid hd
      rw [h1, (regsBut_rcTimed _).fld (by simp), (regsBut_seqNoted _ _).fld (by decide), rcTimed_vidDriven, seqNoted_vidDriven]
      exact ⟨hcode, hdriven⟩
    case timed =>
      intro hf hn hall h3 h6
      rw [rcTimed_starts (by simpa using hf) (by simpa using hn)]
      · simp [Block.now]
      · intro x hx
        have hx11 : x < 11 := by revert x; decide
        rw [railOk_seqNoted _ _ hx11, railOk_railEntered _ hx11]
        by_cases hxr : x = rail.toNat
        · rw [if_pos hxr]
        · rw [if_neg hxr, hall x hx hxr]

end Sys2Proof.Machine
end

section
/-! Resets and what each keeps (R42, R53, R54, R57 to R59, R645). -/

namespace Sys2Proof.Machine

/-! ### The NVM word under way (R114) -/

@[simp] theorem setEntry_regs (u : Nat) (e : BitVec 64) (s : Block) : (setEntry u e s).regs = s.regs := by
  unfold setEntry
  dsimp only
  split
  · split <;> rfl
  · rfl

theorem regsBut_nvmOwner (o : NvmApply) (w : NvmWrite) (s : Block) :
    RegsBut [LOG_STAT.addr, LOG_HEAD.addr, evtStatusA 972] s (nvmOwner o w s) := by
  cases o with
  | bytes => exact .refl s
  | cal u e origin =>
    have hset : RegsBut [] s (setEntry u e { s with cal := { s.cal with stored := smPut s.cal.stored u e } }) := .of_regs (setEntry_regs ..)
    exact (hset.append (regsBut_cairn _ origin 0x0307 u _ _)).mono (by decide)
  | profile n origin old =>
    have hth : RegsBut [] s { s with th := { s.th with adv := s.th.adv.filter fun e => decide (e.1 / 6 ≠ n) } } := .of_regs rfl
    exact (hth.append (regsBut_cairnN _ origin 0x0103 _ old _)).append (regsBut_raise _ 972)
  | key => exact .of_regs rfl

theorem regsBut_endWord (s : Block) : RegsBut [LOG_STAT.addr, LOG_HEAD.addr, evtStatusA 972] s (endWord s) := by
  unfold endWord
  split
  · exact (RegsBut.of_regs (l := []) rfl).append (regsBut_nvmOwner _ _ _)
  · exact .refl s

/-! ### RST_N low (R58) -/

section
variable (s : Block)

@[simp] theorem resetLow_rstLow : (resetLow s).pwr.rstLow = true := by unfold resetLow; rfl
@[simp] theorem resetLow_accepted : (resetLow s).cmd.accepted = [] := by rw [resetLow]; simp only [resetKeep_accepted]
@[simp] theorem resetLow_maintain : (resetLow s).acc.maintain = [] := by rw [resetLow]; simp only [resetKeep_maintain]
@[simp] theorem resetLow_ks : (resetLow s).ks = Block.reset.ks := by rw [resetLow]; simp only [resetKeep_ks]
@[simp] theorem resetLow_rcd : (resetLow s).rcd = Block.reset.rcd := by rw [resetLow]; simp only [resetKeep_rcd]
@[simp] theorem resetLow_ft : (resetLow s).ft = Block.reset.ft := by rw [resetLow]; simp only [resetKeep_ft]
@[simp] theorem stage_resetLow : (resetLow s).fld SYS_BOOT.STAGE = 0 := by rw [resetLow, fld_mk, stage_resetKeep]

/-- The supplies do not follow RST_N. -/
theorem supplyOk_resetLow : (resetLow s).fld SYS_SUPPLY.OK = s.fld SYS_SUPPLY.OK := by
  rw [resetLow, fld_mk, supplyOk_resetKeep, (regsBut_endWord s).fld (by decide)]

/-! ### RST_N high (R42, R57) -/

variable (p : Pins)

theorem regsBut_latchPins : RegsBut [SYS_BOOT.addr, PRF_STATE.addr] s (latchPins p s) :=
  (((regsBut_setFld s SYS_BOOT.PRF _).trans (regsBut_setFlag _ SYS_BOOT.ROOT_PIN _)).trans (regsBut_setFlag _ SYS_BOOT.ADDR_IN_BOOT _)).append
    ((regsBut_setFld _ PRF_STATE.ACTIVE _).trans (.of_regs rfl))

@[simp] theorem latchPins_pwr : (latchPins p s).pwr = s.pwr := rfl
@[simp] theorem latchPins_now : (latchPins p s).now = 0 := rfl
@[simp] theorem latchPins_stopped : (latchPins p s).ks.stopped = false := rfl

theorem prf_latchPins : (latchPins p s).fld SYS_BOOT.PRF = p.prf.toNat := by
  have h : (latchPins p s).fld SYS_BOOT.PRF = p.prf.toNat % 2 ^ 3 := by
    rw [latchPins, fld_mk]
    simp (disch := decide) only [Block.setFlag, fld_setFld_apart]
    exact fld_setFld _ _ _ (by decide)
  rw [h, Nat.mod_eq_of_lt p.prf.isLt]

theorem root_latchPins : (latchPins p s).flag SYS_BOOT.ROOT_PIN = p.root := by
  rw [latchPins, flag_mk]
  simp (disch := decide) only [flag_setFld_apart, flag_setFlag_apart, flag_setFlag_same]

theorem addrIn_latchPins : (latchPins p s).flag SYS_BOOT.ADDR_IN_BOOT = p.addrIn := by
  rw [latchPins, flag_mk]
  simp (disch := decide) only [flag_setFld_apart, flag_setFlag_same]

theorem stage_latchPins : (latchPins p s).fld SYS_BOOT.STAGE = s.fld SYS_BOOT.STAGE := by
  rw [latchPins, fld_mk]
  simp (disch := decide) only [Block.setFlag, fld_setFld_apart]

/-! ### The part leaves HELD (R57, R60) -/

/-- The rails and TREFCLK are valid, and no rail started early. -/
def mayLeave (s : Block) : Bool := allRails s && s.flag SYS_CLK.TREF_OK && !s.pwr.heldEarly

theorem leaveHeld_of_mayLeave {s : Block} (h : mayLeave s = true) : leaveHeld false s = s.setFld SYS_BOOT.STAGE 1 := by
  rw [leaveHeld, if_neg Bool.false_ne_true]
  exact if_pos h

variable (b : Bool)

/-- Leaving HELD changes STAGE alone of the registers. -/
theorem fld_leaveHeld {f : RF} (h : SYS_BOOT.STAGE.apart f) : (leaveHeld b s).fld f = s.fld f := by
  unfold leaveHeld
  split
  · rfl
  · split
    · exact fld_setFld_apart _ _ _ _ h
    · rfl

theorem flag_leaveHeld {f : RF} (h : SYS_BOOT.STAGE.apart f) : (leaveHeld b s).flag f = s.flag f := by
  rw [Block.flag, fld_leaveHeld s b h, Block.flag]

@[simp] theorem leaveHeld_ks : (leaveHeld b s).ks = s.ks := by unfold leaveHeld; split <;> [rfl; (split <;> rfl)]
@[simp] theorem leaveHeld_rstLow : (leaveHeld b s).pwr.rstLow = s.pwr.rstLow := by unfold leaveHeld; split <;> [rfl; (split <;> rfl)]
@[simp] theorem leaveHeld_now : (leaveHeld b s).now = s.now := by rw [Block.now, leaveHeld_ks, Block.now]

theorem mayLeave_latchPins : mayLeave (latchPins p s) = mayLeave s := by
  rw [mayLeave, allRails, (regsBut_latchPins s p).fld (by decide), (regsBut_latchPins s p).flag (by decide)]
  rfl

end

/-- Without VDD_AON no event keeps its count. -/
theorem resetKeep_false_count (s : Block) : (resetKeep false s).evt.count = [] := rfl

theorem vddAonRemoved_becomes (s : State) : ∃ u : Block, u = (resetKeep false (powerLoss s.blk)).setReg SYS_SUPPLY.addr 0 ∧
    Becomes .vddAonRemoved s { u with pwr := { u.pwr with rstLow := true, thermalLatch := false, mainEn := false, vidDriven := false } } :=
  ⟨_, rfl, rfl⟩

/-- Settles O34: each row is followed through the reset it does, whose kept bits `fld_resetKeep_kept` tells. -/
theorem resetEvents : Obligations.ResetEvents := by
  unfold Obligations.ResetEvents
  intro s
  refine ⟨?rises, ?stays, ?removed, ?low, ?lowHeld, ?release, ?held, ?notHeld⟩
  case rises =>
    intro h0 h1 hship htherm hstby hres
    refine becomes_of_eq rfl (if_pos ?_)
    simp [h0, h1, hship, htherm, hstby, hres]
  case stays =>
    intro h
    refine becomes_of_eq rfl (if_neg ?_)
    rcases h with h | h | h | h
    · simp [h]
    · simp [h]
    · simp [h]
    · simp [Nat.not_lt.mpr h]
  case removed =>
    obtain ⟨u, hu, hx⟩ := vddAonRemoved_becomes s
    refine completes_of_becomes hx ⟨rfl, rfl, rfl, ?_, ?_, ?_⟩
    · rw [fld_mk, hu]
      exact fld_setReg_same _ SYS_SUPPLY.OK 0 rfl
    · rw [flag_mk, hu]
      exact congrArg (fun n => decide (n = 1)) (fld_setReg_same _ SYS_SUPPLY.SEQ_ERR 0 rfl)
    · rw [hu, setReg_evt, resetKeep_false_count]
  case low =>
    intro hc
    have hx : Becomes .rstNLow s (resetLow s.blk) := becomes_of_eq rfl (if_neg (by simp [hc]))
    exact completes_of_becomes hx ⟨resetLow_rstLow _, stage_resetLow _, resetLow_accepted _, resetLow_maintain _, resetLow_ks _,
      resetLow_rcd _, resetLow_ft _, supplyOk_resetLow _⟩
  case lowHeld => exact fun hc => becomes_of_eq rfl (if_pos hc)
  case release =>
    intro pins hnot hlow hship htherm
    obtain ⟨u, hu⟩ : ∃ u, u = ({ s.blk with pwr := { s.blk.pwr with rstLow := false } } : Block) := ⟨_, rfl⟩
    have hx : Becomes (.rstNRelease pins) s (leaveHeld pins.testEn (latchPins pins u)) := by
      subst hu
      refine becomes_of_eq rfl ?_
      rw [if_neg (by simp [hnot]), if_pos hlow, releaseReset]
      exact if_neg (by simp [hship, htherm])
    refine completes_of_becomes hx ⟨?_, ?_, ?_, ?_, ?_, ?testEn, ?goes⟩
    · rw [leaveHeld_rstLow, latchPins_pwr, hu]
    · rw [leaveHeld_now, latchPins_now]
    · rw [fld_leaveHeld _ _ (by decide), prf_latchPins]
    · rw [flag_leaveHeld _ _ (by decide), root_latchPins]
    · rw [flag_leaveHeld _ _ (by decide), addrIn_latchPins]
    case testEn =>
      intro ht
      rw [ht, leaveHeld, if_pos rfl, stage_latchPins, hu, fld_mk]
    case goes =>
      intro ht hrails href hearly
      have hmay : mayLeave (latchPins pins u) = true := by
        rw [mayLeave_latchPins, hu]
        simp [mayLeave, hearly, href]
        exact hrails
      rw [ht, leaveHeld_of_mayLeave hmay]
      exact fld_setFld _ _ _ (by decide)
  case held =>
    intro hearly hrails href hlow hself htherm hship hstby
    obtain ⟨u, hu⟩ : ∃ u, u = ({ s.blk with pwr := { s.blk.pwr with heldEarly := false } } : Block) := ⟨_, rfl⟩
    have hx : Becomes .heldExit s (u.setFld SYS_BOOT.STAGE 1) := by
      subst hu
      refine becomes_of_eq rfl ?_
      rw [if_pos (by simp [hearly, hrails, href])]
      exact if_neg (by simp [hlow, hself, htherm, hship, hstby])
    refine completes_of_becomes hx ⟨fld_setFld _ _ _ (by decide), ?_⟩
    rw [setFld_pwr, hu]
  case notHeld => exact fun h => becomes_of_eq rfl (if_neg (by simp [h]))

end Sys2Proof.Machine
end

section
/-! The reference clocks, a domain's power, the ends of standby and ship mode, and replies that waited too long (R47 to R49, R68, R69,
R79, R102, R474, R650). -/

namespace Sys2Proof.Machine

/-! ### Folds over blocks -/

/-- What every step of a fold keeps, the fold keeps. -/
theorem foldl_keeps {α β : Type} {f : Block → α → Block} {g : Block → β} (h : ∀ t x, g (f t x) = g t) (l : List α) (s : Block) :
    g (l.foldl f s) = g s := by
  induction l generalizing s with
  | nil => rfl
  | cons x l ih => rw [List.foldl_cons, ih, h]

/-- A fold whose steps all leave `s` as it is. -/
theorem foldl_eq_self {α : Type} {f : Block → α → Block} {s : Block} {l : List α} (h : ∀ x ∈ l, f s x = s) : l.foldl f s = s := by
  induction l with
  | nil => rfl
  | cons x l ih => rw [List.foldl_cons, h x List.mem_cons_self, ih fun y hy => h y (List.mem_cons_of_mem x hy)]

/-! ### The clocks (R47, R48, R474) -/

/-- TREFCLK's loss while the part runs, before the frame in flight is marked. -/
def trefLost (s : Block) : Block :=
  let u := (((s.setFlag SYS_CLK.TREF_OK false).setFlag KS_STAT.LOCK false).setFlag SYS_CLK.TREF_LOST true).raise 1017
  { u with pwr := { u.pwr with trefBlocked := true, trefValidAt := none } }

theorem trefLost_clk (s : Block) : (trefLost s).flag SYS_CLK.TREF_OK = false ∧ (trefLost s).flag SYS_CLK.TREF_LOST = true ∧
    (trefLost s).flag KS_STAT.LOCK = false ∧ (trefLost s).evtStatus 1017 = true := by
  rw [trefLost]
  simp (disch := decide) only [flag_mk, evtStatus_mk, (regsBut_raise _ _).flag, flag_setFlag_apart, flag_setFlag_same, evtStatus_raise,
    decide_true, Bool.true_or, and_self]

/-- A lane loses lock if it has it. -/
def laneUnlocked (s : Block) (l : Nat) : Block := if s.flag (LN_STAT.LOCK l) then s.setFlag (LN_STAT.LOCK l) false else s

/-- Every lane loses lock (R474). -/
def lanesUnlocked (s : Block) : Block := (List.range 40).foldl laneUnlocked s

theorem laneUnlocked_keeps {β : Type} {g : Block → β} (h : ∀ t f b, g (Block.setFlag t f b) = g t) (s : Block) (l : Nat) :
    g (laneUnlocked s l) = g s := by
  unfold laneUnlocked
  split
  · exact h s _ _
  · rfl

theorem lanesUnlocked_keeps {β : Type} {g : Block → β} (h : ∀ t f b, g (Block.setFlag t f b) = g t) (s : Block) :
    g (lanesUnlocked s) = g s := foldl_keeps (laneUnlocked_keeps h) _ s

theorem regsBut_laneUnlocked (s : Block) (l : Nat) : RegsBut [LN_STAT.addr l] s (laneUnlocked s l) :=
  .ite (regsBut_setFlag s (LN_STAT.LOCK l) false) (.refl s)

theorem lockAddr_inj {l m : Nat} (h : LN_STAT.addr l = LN_STAT.addr m) : l = m := by
  unfold LN_STAT.addr at h
  omega

theorem flag_laneUnlocked (s : Block) (l m : Nat) :
    (laneUnlocked s l).flag (LN_STAT.LOCK m) = (s.flag (LN_STAT.LOCK m) && !decide (m = l)) := by
  by_cases hm : m = l
  · subst hm
    unfold laneUnlocked
    by_cases hf : s.flag (LN_STAT.LOCK m) = true
    · rw [if_pos hf, flag_setFlag_same _ _ _ ⟨by simp [RF.inWord, LN_STAT.LOCK], rfl⟩]
      simp
    · rw [if_neg hf]
      simp [hf]
  · rw [(regsBut_laneUnlocked s l).flag fun h => hm (lockAddr_inj (List.mem_singleton.mp h))]
    simp [hm]

theorem flag_lanesUnlocked (s : Block) {m : Nat} (hm : m < 40) : (lanesUnlocked s).flag (LN_STAT.LOCK m) = false := by
  have h : ∀ (xs : List Nat) (t : Block), (xs.foldl laneUnlocked t).flag (LN_STAT.LOCK m) = (t.flag (LN_STAT.LOCK m) && !xs.contains m) := by
    intro xs
    induction xs with
    | nil => simp
    | cons x xs ih =>
      intro t
      rw [List.foldl_cons, ih, flag_laneUnlocked, List.contains_cons, Bool.and_assoc, ← Bool.not_or]
      rfl
  rw [lanesUnlocked, h]
  simp [hm]

theorem regsBut_lanesUnlocked (s : Block) : RegsBut ((List.range 40).flatMap fun l => [LN_STAT.addr l]) s (lanesUnlocked s) :=
  .foldl_flatMap regsBut_laneUnlocked _ s

/-- LREFCLK's loss, before the ports recover. -/
def lrefLost (s : Block) : Block :=
  let u := s.setFlag SYS_CLK.LREF_OK false
  let v := if s.pwr.rstLow then u else (u.setFlag SYS_CLK.LREF_LOST true).raise 1017
  lanesUnlocked { v with
    pwr := { v.pwr with lrefValidAt := none },
    rcd := { v.rcd with lrefLostAt := if v.takeOpen && v.rcd.lrefLostAt.isNone then some v.now else v.rcd.lrefLostAt } }

theorem RegsBut.portPowered {l : List Nat} {s t : Block} (h : RegsBut l s t) (hl : SYS_DOMAIN.addr ∉ l) (p : Nat) :
    Machine.portPowered t p = Machine.portPowered s p := by
  unfold Machine.portPowered
  rw [h.flag hl, h.flag hl, h.flag hl, h.flag hl, h.flag hl]

theorem regsBut_lrefLost (s : Block) :
    RegsBut ([SYS_CLK.addr, evtStatusA 1017] ++ (List.range 40).flatMap fun l => [LN_STAT.addr l]) s (lrefLost s) := by
  unfold lrefLost
  refine RegsBut.append ?_ (regsBut_lanesUnlocked _)
  have hok := regsBut_setFlag s SYS_CLK.LREF_OK false
  have hlost : RegsBut [SYS_CLK.addr, evtStatusA 1017] s (((s.setFlag SYS_CLK.LREF_OK false).setFlag SYS_CLK.LREF_LOST true).raise 1017) :=
    (hok.trans (regsBut_setFlag _ SYS_CLK.LREF_LOST true)).append (regsBut_raise _ 1017)
  exact (RegsBut.ite (c := s.pwr.rstLow = true) (hok.mono (by decide)) hlost).trans (.of_regs rfl)

/-- With every port's domain off no port has anything to recover. -/
theorem lrefclkLost_becomes {s : State} (h : ∀ p, p < 8 → portPowered s.blk p = false) : Becomes .lrefclkLost s (lrefLost s.blk) := by
  refine becomes_of_eq rfl ?_
  refine foldl_eq_self (s := lrefLost s.blk) fun p hp => if_neg ?_
  have hoff : portPowered (lrefLost s.blk) p = false := by
    rw [(regsBut_lrefLost s.blk).portPowered (by decide), h p (List.mem_range.mp hp)]
  rw [hoff]
  exact Bool.false_ne_true

section
variable (s : Block)

theorem lrefLost_ft : (lrefLost s).ft = s.ft := by
  rw [lrefLost, lanesUnlocked_keeps fun t f b => setFlag_ft t f b]
  dsimp only
  split <;> simp

theorem lrefLost_ks : (lrefLost s).ks = s.ks := by
  rw [lrefLost, lanesUnlocked_keeps fun t f b => setFlag_ks t f b]
  dsimp only
  split <;> simp

theorem lrefLost_lrefValidAt : (lrefLost s).pwr.lrefValidAt = none := by
  rw [lrefLost, lanesUnlocked_keeps (g := fun t => t.pwr.lrefValidAt) fun t f b => by rw [setFlag_pwr]]

theorem lrefLost_lrefLostAt (ht : s.takeOpen = true) (hn : s.rcd.lrefLostAt = none) : (lrefLost s).rcd.lrefLostAt = some s.now := by
  have hv : ∀ v : Block, v.flag SYS_STATE.TAKE_OPEN = s.takeOpen → v.rcd = s.rcd → v.ks = s.ks →
      (if v.takeOpen && v.rcd.lrefLostAt.isNone then some v.now else v.rcd.lrefLostAt) = some s.now := by
    intro v hto hrcd hks
    rw [Block.takeOpen, hto, ht, hrcd, hn, Block.now, hks]
    rfl
  rw [lrefLost, lanesUnlocked_keeps (g := fun t => t.rcd.lrefLostAt) fun t f b => by rw [setFlag_rcd]]
  dsimp only
  split
  · exact hv _ ((regsBut_setFlag _ _ _).flag (by decide)) rfl rfl
  · refine hv _ ?_ (by simp) (by simp)
    simp (disch := decide) only [(regsBut_raise _ _).flag, flag_setFlag_apart, Block.takeOpen]

theorem lrefLost_ok : (lrefLost s).flag SYS_CLK.LREF_OK = false := by
  rw [lrefLost, (regsBut_lanesUnlocked _).flag (by decide), flag_mk]
  split
  · exact flag_setFlag_same _ _ _ (by decide)
  · simp (disch := decide) only [(regsBut_raise _ _).flag, flag_setFlag_apart, flag_setFlag_same]

theorem lrefLost_noted (h : s.pwr.rstLow = false) : (lrefLost s).flag SYS_CLK.LREF_LOST = true ∧ (lrefLost s).evtStatus 1017 = true := by
  rw [lrefLost, (regsBut_lanesUnlocked _).flag (by decide), (regsBut_lanesUnlocked _).evtStatus (by decide), flag_mk, evtStatus_mk, h]
  simp (disch := decide) only [Bool.false_eq_true, if_false, (regsBut_raise _ _).flag, flag_setFlag_same, evtStatus_raise, decide_true,
    Bool.true_or, and_self]

end

/-! ### A domain's power (R49, R650) -/

theorem regsBut_syncMon (s : Block) : RegsBut [MON_STAT.addr] s (syncMon s) :=
  ((regsBut_setFld s MON_STAT.ACTIVE _).trans (regsBut_setFld _ MON_STAT.SHED _)).trans (regsBut_setFlag _ MON_STAT.BUSY _)

/-- A domain's switch has closed, and no word waits for it. -/
def domainUp (d : Nat) (s : Block) : Block :=
  { s.setReg SYS_DOMAIN.addr (wput (s.reg SYS_DOMAIN.addr) d true) with
    pwr := { s.pwr with switching := s.pwr.switching.filter (fun x => decide (x ≠ d)), domainWords := [] } }

theorem domainPowered_becomes {d : BitVec 5} {s : State} (hd : d.toNat ∈ s.blk.pwr.switching) (hw : s.blk.pwr.domainWords = []) :
    Becomes (.domainPowered d) s (syncMon (domainUp d.toNat s.blk)) := by
  refine becomes_of_eq rfl ?_
  rw [if_pos (List.contains_iff_mem.mpr hd)]
  simp only [setReg_pwr, hw, List.filter_nil, List.map_nil, writeWords, List.foldl_nil, List.any_nil, Bool.false_eq_true, if_false]
  rfl

theorem domainUp_on (d : Nat) (s : Block) (hd : d < 32) : ((domainUp d s).reg SYS_DOMAIN.addr).getLsbD d = true := by
  rw [domainUp, reg_mk, reg_setReg, if_pos rfl, wput, getLsbD_wput _ _ _ _ hd, if_pos rfl]

theorem not_mem_switching_domainUp (d : Nat) (s : Block) : d ∉ (domainUp d s).pwr.switching := by
  simp [domainUp]

/-! ### The ends of standby and ship mode (R68, R69, R102) -/

/-- The block as the wake leaves standby: the reset domains, and SUP_MAIN_EN up. -/
def awake (s : Block) : Block :=
  { s.setReg SYS_DOMAIN.addr (regReset SYS_DOMAIN.addr) with pwr := { s.pwr with standby := false, mainEn := true } }

theorem wake_of_standby {s : Block} (h : s.pwr.standby = true) : wake s = leaveHeld false (awake s) := if_pos h

theorem regsBut_awake (s : Block) : RegsBut [SYS_DOMAIN.addr] s (awake s) :=
  (regsBut_setReg s _ (regReset SYS_DOMAIN.addr)).trans (.of_regs rfl)

theorem mayLeave_awake (s : Block) : mayLeave (awake s) = mayLeave s := by
  rw [mayLeave, allRails, (regsBut_awake s).fld (by decide), (regsBut_awake s).flag (by decide)]
  rfl

theorem mayLeave_raise (s : Block) : mayLeave (s.raise 961) = mayLeave s := by
  rw [mayLeave, allRails, (regsBut_raise s 961).fld (by decide), (regsBut_raise s 961).flag (by decide), raise_pwr]
  rfl

/-- With rails and TREFCLK valid, start-up goes on from step 3 at once. -/
theorem wake_of_mayLeave {s : Block} (h : s.pwr.standby = true) (hm : mayLeave s = true) :
    wake s = (awake s).setFld SYS_BOOT.STAGE 1 := by
  rw [wake_of_standby h, leaveHeld_of_mayLeave (by rw [mayLeave_awake, hm])]

/-! ### Replies that waited too long (R79) -/

theorem foldl_deliver_regs (l : List Reply) (s : Block) : (l.foldl (fun t r => t.deliver r) s).regs = s.regs :=
  foldl_keeps (g := Block.regs) deliver_regs l s

theorem foldl_deliver_held (l : List Reply) (s : Block) : (l.foldl (fun t r => t.deliver r) s).held = s.held :=
  foldl_keeps (g := Block.held) deliver_held l s

theorem foldl_deliver_cmd (l : List Reply) (s : Block) : (l.foldl (fun t r => t.deliver r) s).cmd = s.cmd :=
  foldl_keeps (g := Block.cmd) deliver_replies l s

/-- Settles O35: each row is its named update, whose fields are read off. -/
theorem clockPowerEvents : Obligations.ClockPowerEvents := by
  unfold Obligations.ClockPowerEvents
  intro s
  refine ⟨?trefLow, ?trefLost, ?trefBack, ?lrefLost, ?lrefBack, ?domain, ?noDomain, ?wakes, ?sleeps, ?ship, ?noShip, ?timeout⟩
  case trefLow =>
    intro hlow
    refine completes_of_becomes (becomes_of_eq rfl (if_pos hlow)) ⟨?_, flag_setFlag_same _ _ _ (by decide), rfl, rfl, rfl⟩
    simp (disch := decide) only [flag_setFlag_apart, flag_setFlag_same]
  case trefLost =>
    intro hlow
    obtain ⟨hok, hlost, hlock, hevt⟩ := trefLost_clk s.blk
    refine ⟨trefLost s.blk, hok, hlost, hlock, hevt, rfl, rfl, by simp [trefLost], by simp [trefLost], ?_⟩
    exact becomes_of_eq rfl (if_neg (by simp [hlow]))
  case trefBack =>
    refine completes_of_becomes rfl ⟨?_, flag_setFlag_same _ _ _ (by decide), rfl, rfl, rfl, rfl⟩
    simp (disch := decide) only [flag_mk, flag_setFlag_apart, flag_setFlag_same]
  case lrefLost =>
    intro hoff
    exact completes_of_becomes (lrefclkLost_becomes hoff) ⟨lrefLost_ok _, lrefLost_lrefValidAt _, lrefLost_ft _, lrefLost_ks _,
      fun l hl => flag_lanesUnlocked _ hl, lrefLost_noted _, lrefLost_lrefLostAt _⟩
  case lrefBack => exact completes_of_becomes rfl ⟨flag_setFlag_same _ _ _ (by decide), rfl, rfl⟩
  case domain =>
    intro d hd hw
    refine completes_of_becomes (domainPowered_becomes hd hw) ⟨?_, not_mem_switching_domainUp d.toNat s.blk, rfl, rfl⟩
    rw [(regsBut_syncMon _).reg (by decide)]
    exact domainUp_on _ _ (by omega)
  case noDomain =>
    intro d hd
    exact becomes_of_eq rfl (if_neg fun h => hd (List.contains_iff_mem.mp h))
  case wakes =>
    intro a hstby hmatch hrails href hearly
    obtain ⟨u, hu⟩ : ∃ u, u = s.blk.raise 961 := ⟨_, rfl⟩
    have hmay : mayLeave u = true := by
      rw [hu, mayLeave_raise, mayLeave, hrails, href, hearly]
      rfl
    have hx : Becomes (.wakeMatch a) s { (awake u).setFld SYS_BOOT.STAGE 1 with
        tw := { ((awake u).setFld SYS_BOOT.STAGE 1).tw with sclHeld := true } } := by
      refine becomes_of_eq rfl ?_
      rw [if_pos (by rw [hstby, hmatch]; rfl), ← hu, wake_of_mayLeave (by rw [hu, raise_pwr, hstby]) hmay]
    refine completes_of_becomes hx ⟨rfl, ?_, rfl, rfl, fld_setFld _ _ _ (by decide), ?_⟩
    · rw [evtStatus_mk, (regsBut_setFld _ _ _).evtStatus (by decide), (regsBut_awake u).evtStatus (by decide), hu, evtStatus_raise]
      rfl
    · exact (congrArg Block.ks hu).trans (raise_ks _ _)
  case sleeps => exact fun a h => becomes_of_eq rfl (if_neg (by simp [h]))
  case ship =>
    intro h
    refine completes_of_becomes (becomes_of_eq rfl (if_pos h)) ⟨rfl, rfl, rfl, ?_⟩
    rw [reg_mk, reg_setReg, if_pos rfl]
  case noShip => exact fun h => becomes_of_eq rfl (if_neg (by simp [h]))
  case timeout =>
    refine completes_of_becomes rfl ⟨foldl_deliver_held _ _, foldl_deliver_regs _ _, ?_⟩
    rw [foldl_deliver_cmd]
    refine List.map_congr_left fun r _ => ?_
    cases hw : r.wait <;> simp [hw]

end Sys2Proof.Machine
end

section
/-! Start-up, steps 3 to 10 (R60, R61, R86, R113, R118, R138, R187, R575, R599). -/

namespace Sys2Proof.Machine

/-! ### What a fold brings about -/

/-- What every step keeps and one step brings about holds after the fold. -/
theorem foldl_reaches {α : Type} {f : Block → α → Block} {P : Block → Prop} (hkeep : ∀ t x, P t → P (f t x)) {l : List α} {x : α}
    (hx : x ∈ l) (hset : ∀ t, P (f t x)) (s : Block) : P (l.foldl f s) := by
  have hrest : ∀ (l : List α) (t : Block), P t → P (l.foldl f t) := by
    intro l
    induction l with
    | nil => exact fun _ h => h
    | cons y l ih => exact fun t h => ih _ (hkeep t y h)
  induction l generalizing s with
  | nil => cases hx
  | cons y l ih =>
    rw [List.foldl_cons]
    rcases List.mem_cons.mp hx with rfl | hl
    · exact hrest l _ (hset s)
    · exact ih hl _

/-! ### Cairns, and the log's other bits -/

/-- Of the log's registers a cairn changes QUEUED and SEQ alone. -/
theorem fld_cairn_apart (s : Block) (o k a : Nat) (x y : Word) {f : RF} (h : LOG_STAT.QUEUED.apart f ∧ LOG_HEAD.SEQ.apart f) :
    (s.cairn o k a x y).fld f = s.fld f := by
  unfold Block.cairn Block.cairnAt
  dsimp only
  split
  · rw [fld_setFld_apart _ _ _ _ h.1, fld_mk]
  · split
    · rfl
    · rw [Block.syncLog, fld_setFld_apart _ _ _ _ h.1, fld_setFld_apart _ _ _ _ h.2, fld_mk]

theorem flag_cairn_apart (s : Block) (o k a : Nat) (x y : Word) {f : RF} (h : LOG_STAT.QUEUED.apart f ∧ LOG_HEAD.SEQ.apart f) :
    (s.cairn o k a x y).flag f = s.flag f := by
  rw [Block.flag, fld_cairn_apart s o k a x y h, Block.flag]

/-! ### Step 3: firmware (R113, R129, R136, R138) -/

section
variable (s : Block)

@[simp] theorem storeWord_flt (w : NvmWrite) : (storeWord w s).flt = s.flt := by
  unfold storeWord
  dsimp only
  split <;> simp

@[simp] theorem slotTorn_flt : (slotTorn s).flt = s.flt := by simp [slotTorn]

@[simp] theorem nvmFault_flt (offset cause : Nat) : (nvmFault offset cause s).flt = s.flt := by simp [nvmFault]

@[simp] theorem journalReplay_flt : (journalReplay s).flt = s.flt := by
  unfold journalReplay
  split
  · rfl
  · dsimp only
    split_ifs <;> simp

@[simp] theorem logAtStart_flt (chainOk : Bool) : (logAtStart chainOk s).flt = s.flt := by
  unfold logAtStart
  cases s.log.torn <;> dsimp only <;> split_ifs <;> simp

/-- A chain check that fails leaves CHAIN_ERR and event 979 (R129). -/
theorem logAtStart_chainErr : (logAtStart false s).flag LOG_STAT.CHAIN_ERR = true ∧ (logAtStart false s).evtStatus 979 = true := by
  have h : ∀ u : Block, ((u.setFlag LOG_STAT.CHAIN_ERR true).raise 979).flag LOG_STAT.CHAIN_ERR = true ∧
      ((u.setFlag LOG_STAT.CHAIN_ERR true).raise 979).evtStatus 979 = true := by
    intro u
    rw [(regsBut_raise _ 979).flag (by decide), flag_setFlag_same _ _ _ (by decide), evtStatus_raise]
    exact ⟨rfl, rfl⟩
  unfold logAtStart
  exact h _

end

/-- The image `i` boots, after the log; `first` when it is the one tried first (R138). -/
def imageBoots (a b i : Nat) (first : Bool) (s : Block) : Block :=
  let u := if first then s else failStage 1 ((s.raise 981).cairnN oFirmware 0x0133 0x10020 a b)
  syncFw (((u.setFld SYS_BOOT.IMAGE i).cairn oFirmware 0x0132 i 0 (fwImage u i).version).setFld SYS_BOOT.STAGE 3)

section
variable (a b i : Nat) (first : Bool) (s : Block)

theorem imageBoots_flt : (imageBoots a b i first s).flt = s.flt := by
  change (((_ : Block).setFld SYS_BOOT.IMAGE i).cairn oFirmware 0x0132 i 0 _).flt = _
  rw [cairn_flt, setFld_flt]
  split
  · rfl
  · simp [failStage]

theorem stage_imageBoots : (imageBoots a b i first s).fld SYS_BOOT.STAGE = 3 := by
  rw [imageBoots, (regsBut_syncFw _).fld (by decide), fld_setFld _ _ _ (by decide)]
  rfl

theorem image_imageBoots (hi : i < 2) : (imageBoots a b i first s).fld SYS_BOOT.IMAGE = i := by
  rw [imageBoots, (regsBut_syncFw _).fld (by decide), fld_setFld_apart _ _ _ _ (by decide), (regsBut_cairn _ _ _ _ _ _).fld (by decide),
    fld_setFld _ _ _ (by decide)]
  exact Nat.mod_eq_of_lt hi

theorem chainErr_imageBoots : (imageBoots a b i first s).flag LOG_STAT.CHAIN_ERR = s.flag LOG_STAT.CHAIN_ERR := by
  rw [imageBoots, (regsBut_syncFw _).flag (by decide), flag_setFld_apart _ _ _ _ (by decide), flag_cairn_apart _ _ _ _ _ _ (by decide),
    flag_setFld_apart _ _ _ _ (by decide)]
  split
  · rfl
  · rw [failStage, flag_setFld_apart _ _ _ _ (by decide), Block.cairnN, flag_cairn_apart _ _ _ _ _ _ (by decide),
      (regsBut_raise _ 981).flag (by decide)]

/-- Booting an image clears no event. -/
theorem evtStatus_imageBoots (h : s.evtStatus 979 = true) : (imageBoots a b i first s).evtStatus 979 = true := by
  rw [imageBoots, (regsBut_syncFw _).evtStatus (by decide), (regsBut_setFld _ _ _).evtStatus (by decide),
    (regsBut_cairn _ _ _ _ _ _).evtStatus (by decide), (regsBut_setFld _ _ _).evtStatus (by decide)]
  split
  · exact h
  · rw [failStage, (regsBut_setFld _ _ _).evtStatus (by decide), (regsBut_cairnN _ _ _ _ _ _).evtStatus (by decide), evtStatus_raise, h,
      Bool.or_true]

end

/-- Does image `i` verify and is it valid (R136, R138)? -/
def imageGood (ok0 ok1 : Bool) (s : Block) (i : Nat) : Bool := (if i = 0 then ok0 else ok1) && (fwImage s i).valid

/-- The two images are tried in the order of R138. -/
def bootTried (s : Block) : Block := { s with flt := { s.flt with imageTried := 0 } }

theorem bootFirmware_boots {ok0 ok1 chainOk : Bool} {s : State} (hst : atStage s.blk 1 = true) {a b : Nat} (hab : imageOrder s.blk = (a, b))
    (hok : (imageGood ok0 ok1 s.blk a || imageGood ok0 ok1 s.blk b) = true) :
    Becomes (.bootFirmware ok0 ok1 chainOk) s (imageBoots a b (if imageGood ok0 ok1 s.blk a then a else b) (imageGood ok0 ok1 s.blk a)
      (logAtStart chainOk (journalReplay (bootTried s.blk)))) := by
  refine becomes_of_eq rfl ?_
  rw [if_pos hst, hab]
  exact if_pos hok

theorem bootFirmware_recovery {ok0 ok1 chainOk : Bool} {s : State} (hst : atStage s.blk 1 = true) {a b : Nat}
    (hab : imageOrder s.blk = (a, b)) (hok : (imageGood ok0 ok1 s.blk a || imageGood ok0 ok1 s.blk b) = false) :
    Becomes (.bootFirmware ok0 ok1 chainOk) s (failStage 1 ((bootTried s.blk).setFld SYS_BOOT.STAGE 10)) := by
  refine becomes_of_eq rfl ?_
  rw [if_pos hst, hab]
  exact if_neg (ne_true_of_eq_false hok)

/-- Image 0 and the other one, in one order or the other. -/
theorem imageOrder_cases (s : Block) : imageOrder s = (0, 1) ∨ ∃ a, a ≠ 0 ∧ imageOrder s = (a, 0) ∧ (s.flt.imageTried ≤ 2 → a = 1) := by
  obtain ⟨a, ha⟩ : ∃ a, a = if s.flt.imageTried = 0 then s.fld FW_STATE.PREFERRED else s.flt.imageTried - 1 := ⟨_, rfl⟩
  have hpref : s.fld FW_STATE.PREFERRED < 2 := fld_lt s FW_STATE.PREFERRED
  have hle : s.flt.imageTried ≤ 2 → a < 2 := by
    intro h
    rw [ha]
    split <;> omega
  have horder : imageOrder s = (a, 1 - a) := by rw [ha]; rfl
  by_cases h : a = 0
  · exact .inl (by rw [horder, h])
  · exact .inr ⟨a, h, by rw [horder, Nat.sub_eq_zero_of_le (Nat.pos_of_ne_zero h)], fun ht => by have := hle ht; omega⟩

theorem imageGood_zero (ok0 ok1 : Bool) (s : Block) : imageGood ok0 ok1 s 0 = (ok0 && s.nvm.fw0.valid) := rfl

theorem imageGood_other (ok0 ok1 : Bool) (s : Block) {a : Nat} (h : a ≠ 0) : imageGood ok0 ok1 s a = (ok1 && s.nvm.fw1.valid) := by
  rw [imageGood, fwImage, if_neg h, if_neg h]

/-- Whichever image is tried first, either counts when it is good. -/
theorem imageGood_or {ok0 ok1 : Bool} {s : Block} {a b : Nat} (h : imageOrder s = (a, b)) :
    (imageGood ok0 ok1 s a || imageGood ok0 ok1 s b) = ((ok0 && s.nvm.fw0.valid) || (ok1 && s.nvm.fw1.valid)) := by
  rcases imageOrder_cases s with h' | ⟨c, hc, h', -⟩
  · obtain ⟨rfl, rfl⟩ := Prod.mk.inj (h.symm.trans h')
    rw [imageGood_zero, imageGood_other _ _ _ Nat.one_ne_zero]
  · obtain ⟨rfl, rfl⟩ := Prod.mk.inj (h.symm.trans h')
    rw [imageGood_zero, imageGood_other _ _ _ hc, Bool.or_comm]

/-- With image 0 bad, image 1 is the one that boots. -/
theorem boots_one {ok0 ok1 : Bool} {s : Block} {a b : Nat} (h : imageOrder s = (a, b)) (ht : s.flt.imageTried ≤ 2)
    (h0 : (ok0 && s.nvm.fw0.valid) = false) (hok : (imageGood ok0 ok1 s a || imageGood ok0 ok1 s b) = true) :
    (if imageGood ok0 ok1 s a then a else b) = 1 := by
  rcases imageOrder_cases s with h' | ⟨c, hc, h', h1⟩
  · obtain ⟨rfl, rfl⟩ := Prod.mk.inj (h.symm.trans h')
    rw [imageGood_zero, h0, if_neg Bool.false_ne_true]
  · obtain ⟨rfl, rfl⟩ := Prod.mk.inj (h.symm.trans h')
    rw [imageGood_zero, h0, Bool.or_false] at hok
    rw [if_pos hok, h1 ht]

/-! ### Step 4: the profile (R118) -/

/-- The profile latched is not valid, and gives way to `new` (R118). -/
def profileFell (p new : Nat) (s : Block) : Block := failStage 3 ((s.raise 973).cairnN oFirmware 0x0105 PRF_STATE.addr p new)

theorem evtStatus_profileFell (p new : Nat) (s : Block) : (profileFell p new s).evtStatus 973 = true := by
  rw [profileFell, failStage, (regsBut_setFld _ _ _).evtStatus (by decide), (regsBut_cairnN _ _ _ _ _ _).evtStatus (by decide), evtStatus_raise]
  rfl

theorem failStage_profileFell (p new : Nat) (s : Block) : (profileFell p new s).fld SYS_BOOT.FAIL_STAGE = 3 :=
  fld_setFld _ _ _ (by decide)

theorem logged_profileFell (p new : Nat) (s : Block) (h : s.log.queue.length < 4096) :
    Logged oFirmware 0x0105 PRF_STATE.addr (BitVec.ofNat 32 p) (BitVec.ofNat 32 new) (profileFell p new s) :=
  (logged_congr (setFld_log _ SYS_BOOT.FAIL_STAGE 3)).mpr (logged_cairnN _ _ _ _ _ _ (by rw [raise_log]; exact h))

/-- The block that starts with the built-in defaults (R118). -/
def onDefaults (s : Block) : Block :=
  let t := (s.setFlag SYS_BOOT.DEFAULTS true).setFlag PRF_STATE.DEFAULTS true
  ({ t with acc := { t.acc with table := AccState.reset.table, perms := 0 } } : Block).setFld PRF_STATE.ACTIVE 0

theorem onDefaults_fields (s : Block) : (onDefaults s).flag SYS_BOOT.DEFAULTS = true ∧ (onDefaults s).flag PRF_STATE.DEFAULTS = true ∧
    (onDefaults s).fld PRF_STATE.ACTIVE = 0 ∧ (onDefaults s).acc.perms = 0 := by
  unfold onDefaults
  refine ⟨?_, ?_, fld_setFld _ _ _ (by decide), rfl⟩
  · simp (disch := decide) only [flag_setFld_apart, flag_mk, flag_setFlag_apart, flag_setFlag_same]
  · simp (disch := decide) only [flag_setFld_apart, flag_mk, flag_setFlag_same]

theorem regsBut_onDefaults (s : Block) : RegsBut [SYS_BOOT.addr, PRF_STATE.addr] s (onDefaults s) :=
  ((regsBut_setFlag s SYS_BOOT.DEFAULTS true).append (regsBut_setFlag _ PRF_STATE.DEFAULTS true)).trans
    (RegsBut.trans (.of_regs rfl) ((regsBut_setFld _ PRF_STATE.ACTIVE 0).mono (by decide)))

/-! ### Step 5: DRAM training -/

/-- A channel that comes up at its second training (R61). -/
def channelRetried (f1 : BitVec 8) (s : Block) (r : Nat) : Block :=
  if f1.getLsbD r then (s.raise (549 + 8 * r)).cairnN oFirmware 0x0808 (chanBase r) 0 1 else s

theorem fld_channelRetried (f1 : BitVec 8) (s : Block) (r : Nat) {f : RF} (h : f.addr = SYS_BOOT.addr) :
    (channelRetried f1 s r).fld f = s.fld f := by
  unfold channelRetried
  split
  · rw [(regsBut_cairnN _ _ _ _ _ _).fld (by rw [h]; decide), fld_raise _ _ _ (by rw [h]; decide)]
  · rfl

theorem evtStatus_channelRetried (f1 : BitVec 8) (s : Block) (r e : Nat) :
    (channelRetried f1 s r).evtStatus e = (s.evtStatus e || (f1.getLsbD r && decide (e = 549 + 8 * r))) := by
  unfold channelRetried
  split
  · rename_i hr
    rw [evtStatus_cairnN, evtStatus_raise, hr, Bool.true_and, Bool.or_comm]
  · rename_i hr
    simp [hr]

/-- Where no channel fails twice, the training only counts its retries. -/
theorem dramTrain_retried {f1 f2 : BitVec 8} {s : State} (hst : atStage s.blk 4 = true) (h : f1 &&& f2 = 0) :
    Becomes (.dramTrain f1 f2) s
      (((List.range 8).foldl (channelRetried f1) (s.blk.setFld SYS_BOOT.DRAM_RETRIED f1.toNat)).setFld SYS_BOOT.STAGE 5) := by
  refine becomes_of_eq rfl ?_
  rw [if_pos hst]
  refine congrArg (fun u : Block => u.setFld SYS_BOOT.STAGE 5) (List.foldl_ext _ _ _ fun t r _ => ?_)
  have hboth : (f1.getLsbD r && f2.getLsbD r) = false := by
    rw [← BitVec.getLsbD_and, h]
    exact BitVec.getLsbD_zero
  unfold channelRetried
  cases h1 : f1.getLsbD r with
  | false => rfl
  | true =>
    rw [h1, Bool.true_and] at hboth
    rw [hboth]
    rfl

/-! ### Step 6: the calibration table (R187) -/

section
variable (k : Nat) (s : Block)

@[simp] theorem badBlock_cal : (badBlock k s).cal = s.cal := by
  rw [badBlock, cairnN_cal, foldl_keeps (g := Block.cal) fun t r => raise_cal t _]

/-- A bad block is told by events and the log alone. -/
theorem fld_badBlock {f : RF} (h : f.addr < 0x2800000 ∧ f.addr ∉ [LOG_STAT.addr, LOG_HEAD.addr]) : (badBlock k s).fld f = s.fld f := by
  rw [badBlock, (regsBut_cairnN _ _ _ _ _ _).fld h.2, foldl_keeps (g := fun t => Block.fld t f) fun t r => fld_raise t _ _ h.1]

end

/-- The working copy as loaded, before the bad blocks are told. -/
def calLoaded (ks : List Nat) (s : Block) : Block :=
  { s with cal := { s.cal with
    entries := s.cal.stored, defects := s.cal.defectsStored, defectsInForce := s.cal.defectsStored, badBlocks := ks,
    epoch := s.cal.stored.filterMap fun e => if ratioOf e.2 = ratioOf (Config.calFactory e.1) then none else some (e.1, ratioOf e.2) } }

theorem loadCal_eq (ks : List Nat) (s : Block) : loadCal ks s = ks.foldl (fun t k => badBlock k t)
    (if ks.isEmpty then calLoaded ks s else (calLoaded ks s).setFlag CNV_STAT.TABLE_DEGRADED true) := rfl

theorem loadCal_cal (ks : List Nat) (s : Block) : (loadCal ks s).cal = (calLoaded ks s).cal := by
  rw [loadCal_eq, foldl_keeps (g := Block.cal) fun t k => badBlock_cal k t]
  split <;> rfl

theorem loadCal_degraded {ks : List Nat} (s : Block) (h : ks ≠ []) : (loadCal ks s).flag CNV_STAT.TABLE_DEGRADED = true := by
  rw [loadCal_eq, Block.flag, foldl_keeps (g := fun t => Block.fld t CNV_STAT.TABLE_DEGRADED) fun t k => fld_badBlock k t (by decide),
    if_neg (by simpa using h)]
  exact flag_setFlag_same _ _ _ (by decide)

/-- The blocks that the table has, of those reported bad. -/
def tableBlocks (bad : List (BitVec 13)) : List Nat := (bad.map (fun k => k.toNat)).filter (fun k => decide (k < 602))

theorem tableBlocks_ne_nil {bad : List (BitVec 13)} (h : ∃ k ∈ bad, k.toNat < 602) : tableBlocks bad ≠ [] := by
  obtain ⟨k, hk, hlt⟩ := h
  exact List.ne_nil_of_mem (List.mem_filter.mpr ⟨List.mem_map_of_mem hk, decide_eq_true hlt⟩)

/-- A table with bad blocks is told by FAIL_STAGE. -/
def calTold (ks : List Nat) (s : Block) : Block := if ks.isEmpty then loadCal ks s else failStage 5 (loadCal ks s)

theorem calLoad_becomes {bad : List (BitVec 13)} {s : State} (hst : atStage s.blk 5 = true) :
    Becomes (.calLoad bad) s ((calTold (tableBlocks bad) s.blk).setFld SYS_BOOT.STAGE 6) := becomes_of_eq rfl (if_pos hst)

theorem calTold_cal (ks : List Nat) (s : Block) : (calTold ks s).cal = (calLoaded ks s).cal := by
  unfold calTold
  split
  · exact loadCal_cal ks s
  · exact (setFld_cal _ _ _).trans (loadCal_cal ks s)

theorem calTold_degraded {ks : List Nat} (s : Block) (h : ks ≠ []) :
    (calTold ks s).fld SYS_BOOT.FAIL_STAGE = 5 ∧ (calTold ks s).flag CNV_STAT.TABLE_DEGRADED = true := by
  rw [calTold, if_neg (by simpa using h), failStage, (regsBut_setFld _ _ _).flag (by decide), loadCal_degraded s h]
  exact ⟨fld_setFld _ _ _ (by decide), rfl⟩

/-! ### Step 7: the reserve (R599) -/

/-- The outcome of the check: 0 good, 1 boost, 2 cell, 3 no cell. -/
def reserveChecked (pgFell cellLow : Bool) (s : Block) : Nat × Block :=
  if s.flag RSV_STAT.CELL_PRESENT then reserveTest pgFell cellLow s else (3, s.raise 949)

/-- A check that did not pass is told by its cairn and FAIL_STAGE. -/
def reserveTold (r : Nat × Block) : Block := if r.1 = 0 then r.2 else failStage 6 (r.2.cairnN oFirmware 0x0C05 RSV_STAT.addr 0 r.1)

theorem reserveCheck_becomes {pgFell cellLow : Bool} {s : State} (hst : atStage s.blk 6 = true) :
    Becomes (.reserveCheck pgFell cellLow) s ((reserveTold (reserveChecked pgFell cellLow s.blk)).setFld SYS_BOOT.STAGE 7) :=
  becomes_of_eq rfl (if_pos hst)

theorem reserveTold_failed {n : Nat} {u : Block} (hn : n ≠ 0) : (reserveTold (n, u)).fld SYS_BOOT.FAIL_STAGE = 6 ∧
    (reserveTold (n, u)).flag RSV_STAT.BOOST_FAULT = u.flag RSV_STAT.BOOST_FAULT ∧
    (reserveTold (n, u)).flag RSV_STAT.CELL_FAULT = u.flag RSV_STAT.CELL_FAULT ∧
    (reserveTold (n, u)).evtStatus 949 = u.evtStatus 949 := by
  rw [reserveTold, if_neg hn, failStage]
  refine ⟨fld_setFld _ _ _ (by decide), ?_, ?_, ?_⟩
  · rw [(regsBut_setFld _ _ _).flag (by decide), (regsBut_cairnN _ _ _ _ _ _).flag (by decide)]
  · rw [(regsBut_setFld _ _ _).flag (by decide), (regsBut_cairnN _ _ _ _ _ _).flag (by decide)]
  · rw [(regsBut_setFld _ _ _).evtStatus (by decide), (regsBut_cairnN _ _ _ _ _ _).evtStatus (by decide)]

/-! ### READY (R575) -/

theorem regsBut_startPlan (s : Block) : RegsBut [AG_STAT.addr] s (startPlan s) :=
  .ite (.refl s) (RegsBut.trans (.of_regs rfl) (regsBut_setFlag _ AG_STAT.RUNNING true))

theorem startPlan_planRun (s : Block) : (startPlan s).th.planRun.isSome = true := by
  unfold startPlan
  split
  · assumption
  · rfl

theorem startPlan_afterReady (s : Block) : (startPlan s).th.afterReady = s.th.afterReady := by
  unfold startPlan
  split <;> rfl

/-- Settles O36: each step's row is its named update; a row of another step finds `atStage` false. -/
theorem startUp : Obligations.StartUp := by
  unfold Obligations.StartUp
  intro s
  refine ⟨?firmware, ?profile, ?retried, ?retired, ?cal, ?reserve, ?lanes, ?ready, ?waits, ?others⟩
  case firmware =>
    intro ok0 ok1 chainOk hst
    obtain ⟨a, b, hab⟩ : ∃ a b, imageOrder s.blk = (a, b) := ⟨_, _, rfl⟩
    have hor := imageGood_or (ok0 := ok0) (ok1 := ok1) hab
    refine ⟨fun hok => ?boots, fun hok => ?recovery⟩
    case boots =>
      rw [← hor] at hok
      refine completes_of_becomes (bootFirmware_boots hst hab hok) ⟨stage_imageBoots .., ?_, ?_, ?_, ?_⟩
      · rw [imageBoots_flt, logAtStart_flt, journalReplay_flt]
        rfl
      · intro hc
        subst hc
        obtain ⟨hflag, hevt⟩ := logAtStart_chainErr (journalReplay (bootTried s.blk))
        exact ⟨(chainErr_imageBoots ..).trans hflag, evtStatus_imageBoots _ _ _ _ _ hevt⟩
      · intro h0 hfirst
        have ha : a = 0 := by rw [hab] at hfirst; exact hfirst
        rw [ha, imageGood_zero, h0, if_pos rfl, image_imageBoots _ _ _ _ _ (by decide)]
      · intro ht h0
        rw [boots_one hab ht h0 hok, image_imageBoots _ _ _ _ _ (by decide)]
    case recovery =>
      rw [← hor] at hok
      refine completes_of_becomes (bootFirmware_recovery hst hab hok) ⟨?_, fld_setFld _ _ _ (by decide), rfl⟩
      rw [failStage, fld_setFld_apart _ _ _ _ (by decide), fld_setFld _ _ _ (by decide)]
      rfl
  case profile =>
    intro hst
    refine ⟨fun hv => ?own, fun hv h0 hroom => ?zero, fun hv h0 => ?none⟩
    case own =>
      refine becomes_of_eq rfl ?_
      rw [if_pos hst, if_pos hv]
    case zero =>
      refine ⟨(profileFell (s.blk.fld SYS_BOOT.PRF) 0 s.blk).setFlag SYS_BOOT.PROFILE_FALLBACK true, flag_setFlag_same _ _ _ (by decide), ?_,
        ?_, ?_, ?_⟩
      · rw [(regsBut_setFlag _ _ _).evtStatus (by decide), evtStatus_profileFell]
      · rw [fld_setFlag_apart _ _ _ _ (by decide), failStage_profileFell]
      · exact (logged_congr (setFlag_log _ SYS_BOOT.PROFILE_FALLBACK true)).mpr (logged_profileFell _ 0 _ hroom)
      · have hne : s.blk.fld SYS_BOOT.PRF ≠ 0 := fun h => by rw [h, h0] at hv; cases hv
        refine becomes_of_eq rfl ?_
        rw [if_pos hst, if_neg (ne_true_of_eq_false hv), if_pos ⟨hne, h0⟩]
        rfl
    case none =>
      obtain ⟨hdef, hprf, hact, hperm⟩ := onDefaults_fields (profileFell (s.blk.fld SYS_BOOT.PRF) 0xFFFFFFFF s.blk)
      refine ⟨onDefaults (profileFell (s.blk.fld SYS_BOOT.PRF) 0xFFFFFFFF s.blk), hdef, hprf, ?_, hperm, hact, ?_⟩
      · rw [(regsBut_onDefaults _).evtStatus (by decide), evtStatus_profileFell]
      · refine becomes_of_eq rfl ?_
        rw [if_pos hst, if_neg (ne_true_of_eq_false hv), if_neg fun h => ne_true_of_eq_false h0 h.2]
        rfl
  case retried =>
    intro f1 f2 hst h
    have hboot : ∀ (f : RF), f.addr = SYS_BOOT.addr → SYS_BOOT.STAGE.apart f →
        (((List.range 8).foldl (channelRetried f1) (s.blk.setFld SYS_BOOT.DRAM_RETRIED f1.toNat)).setFld SYS_BOOT.STAGE 5).fld f =
          (s.blk.setFld SYS_BOOT.DRAM_RETRIED f1.toNat).fld f := by
      intro f hf hapart
      rw [fld_setFld_apart _ _ _ _ hapart, foldl_keeps (g := fun t => Block.fld t f) fun t r => fld_channelRetried f1 t r hf]
    refine completes_of_becomes (dramTrain_retried hst h) ⟨fld_setFld _ _ _ (by decide), ?_, ?_, ?_⟩
    · rw [hboot _ rfl (by decide), fld_setFld _ _ _ (by decide)]
      exact Nat.mod_eq_of_lt f1.isLt
    · rw [hboot _ rfl (by decide), fld_setFld_apart _ _ _ _ (by decide)]
    · intro r hr hbit
      rw [evtStatus_setFld _ _ _ _ (by decide)]
      refine foldl_reaches (P := fun t => t.evtStatus (549 + 8 * r) = true) ?_ (List.mem_range.mpr hr) ?_ _
      · intro t x ht
        rw [evtStatus_channelRetried, ht, Bool.true_or]
      · intro t
        rw [evtStatus_channelRetried, hbit, decide_eq_true rfl, Bool.true_and, Bool.or_true]
  case retired =>
    intro f1 f2 hst _
    exact completes_of_becomes (becomes_of_eq rfl (if_pos hst)) (fld_setFld _ _ _ (by decide))
  case cal =>
    intro bad hst
    have hcal : ((calTold (tableBlocks bad) s.blk).setFld SYS_BOOT.STAGE 6).cal = (calLoaded (tableBlocks bad) s.blk).cal :=
      (setFld_cal _ _ _).trans (calTold_cal _ _)
    refine completes_of_becomes (calLoad_becomes hst) ⟨fld_setFld _ _ _ (by decide), ?_, ?_, ?_, fun h => ?_⟩
    · rw [hcal]; rfl
    · rw [hcal]; rfl
    · rw [hcal]; rfl
    · rw [fld_setFld_apart _ _ _ _ (by decide), (regsBut_setFld _ _ _).flag (by decide)]
      exact calTold_degraded _ (tableBlocks_ne_nil h)
  case reserve =>
    intro pgFell cellLow hst
    refine completes_of_becomes (reserveCheck_becomes hst) ⟨fld_setFld _ _ _ (by decide), ?_, ?_, ?_, ?_⟩
    · intro hp
      obtain ⟨hfail, -, -, hevt⟩ := reserveTold_failed (u := s.blk.raise 949) (n := 3) (by decide)
      rw [reserveChecked, hp, if_neg Bool.false_ne_true, (regsBut_setFld _ _ _).evtStatus (by decide), fld_setFld_apart _ _ _ _ (by decide),
        hfail, hevt, evtStatus_raise]
      exact ⟨rfl, rfl⟩
    · intro hp hpg
      obtain ⟨hfail, hboost, -, -⟩ := reserveTold_failed (u := (s.blk.setFlag RSV_STAT.BOOST_FAULT true).raise 951) (n := 1) (by decide)
      rw [reserveChecked, hp, if_pos rfl, reserveTest, if_pos hpg, (regsBut_setFld _ _ _).flag (by decide),
        fld_setFld_apart _ _ _ _ (by decide), hfail, hboost, (regsBut_raise _ _).flag (by decide)]
      exact ⟨flag_setFlag_same _ _ _ (by decide), rfl⟩
    · intro hp hpg hlow
      obtain ⟨hfail, -, hcell, -⟩ := reserveTold_failed (u := (s.blk.setFlag RSV_STAT.CELL_FAULT true).raise 950) (n := 2) (by decide)
      rw [reserveChecked, hp, if_pos rfl, reserveTest, if_neg (ne_true_of_eq_false hpg), if_pos hlow, (regsBut_setFld _ _ _).flag (by decide),
        fld_setFld_apart _ _ _ _ (by decide), hfail, hcell, (regsBut_raise _ _).flag (by decide)]
      exact ⟨flag_setFlag_same _ _ _ (by decide), rfl⟩
    · intro hp hpg hlow
      rw [reserveChecked, hp, if_pos rfl, reserveTest, if_neg (ne_true_of_eq_false hpg), if_neg (ne_true_of_eq_false hlow),
        fld_setFld_apart _ _ _ _ (by decide), reserveTold, if_pos rfl]
  case lanes =>
    intro margins hst
    exact completes_of_becomes (becomes_of_eq rfl (if_pos hst)) (fld_setFld _ _ _ (by decide))
  case ready =>
    intro hst hfab
    refine completes_of_becomes (becomes_of_eq rfl (if_pos ?_)) ⟨?_, ?_, startPlan_planRun _, startPlan_afterReady _⟩
    · rcases hfab with h | h <;> simp [hst, h]
    · rw [(regsBut_startPlan _).fld (by decide), fld_mk, (regsBut_raise _ _).fld (by decide), fld_setFld _ _ _ (by decide)]
      rfl
    · rw [(regsBut_startPlan _).evtStatus (by decide), evtStatus_mk, evtStatus_raise]
      rfl
  case waits => exact fun hfx hrd => becomes_of_eq rfl (if_neg (by simp [hfx, hrd]))
  case others =>
    intro n _ h
    have hoff : ¬ atStage s.blk n = true := ne_true_of_eq_false h
    refine ⟨?_, ?_, ?_, ?_, ?_, ?_, ?_⟩ <;> rintro rfl
    · exact fun _ _ _ => becomes_of_eq rfl (if_neg hoff)
    · exact becomes_of_eq rfl (if_neg hoff)
    · exact fun _ _ => becomes_of_eq rfl (if_neg hoff)
    · exact fun _ => becomes_of_eq rfl (if_neg hoff)
    · exact fun _ _ => becomes_of_eq rfl (if_neg hoff)
    · exact fun _ => becomes_of_eq rfl (if_neg hoff)
    · exact becomes_of_eq rfl (if_neg (by simp [h]))

end Sys2Proof.Machine
end

section
/-! The reserve power path (R69, R510, R589 to R592, R594 to R598, R600, R601): hand-over, close-out, the charger, the cell, the button
and the lamps. -/

namespace Sys2Proof.Machine

/-! ### Runs of a value (R444) -/

theorem regsBut_noteRun (a : Nat) (u s : Block) : RegsBut [POL_LAST.addr] s (noteRun a u s) := by
  unfold noteRun
  split
  · exact .refl s
  · exact (regsBut_policy s (runCode a)).trans (.of_regs rfl)

@[simp] theorem noteRun_rsv (a : Nat) (u s : Block) : (noteRun a u s).rsv = s.rsv := by
  unfold noteRun
  split <;> rfl

@[simp] theorem noteRun_pwr (a : Nat) (u s : Block) : (noteRun a u s).pwr = s.pwr := by
  unfold noteRun
  split <;> rfl

/-! ### The charger's phase (R589, R596, R598) -/

section
variable (v : Nat) (s : Block)

theorem fld_onRsv (g : RsvState → RsvState) (f : RF) : (s.onRsv g).fld f = s.fld f := rfl

theorem flag_onRsv (g : RsvState → RsvState) (f : RF) : (s.onRsv g).flag f = s.flag f := rfl

theorem regsBut_onRsv (g : RsvState → RsvState) : RegsBut [] s (s.onRsv g) := .of_regs rfl

/-- A phase is a new CHARGE, which the policy's last action tells too. -/
theorem fld_setCharge_apart {f : RF} (h : RSV_STAT.CHARGE.apart f ∧ f.addr ∉ [POL_LAST.addr]) : (setCharge v s).fld f = s.fld f := by
  rw [setCharge, fld_onRsv, (regsBut_noteRun _ _ _).fld h.2, fld_setFld_apart _ _ _ _ h.1]

theorem fld_setCharge (h : v < 8) : (setCharge v s).fld RSV_STAT.CHARGE = v := by
  rw [setCharge, fld_onRsv, (regsBut_noteRun _ _ _).fld (by decide), fld_setFld _ _ _ (by decide)]
  exact Nat.mod_eq_of_lt h

theorem setCharge_rsv : (setCharge v s).rsv = { s.rsv with
    duty := decide (v = 1 ∨ v = 3 ∨ v = 4), phaseAt := s.now, cv := false,
    search := if v = 1 ∨ v = 3 ∨ v = 4 then s.rsv.search else none } := by
  unfold setCharge Block.onRsv
  dsimp only
  rw [noteRun_rsv, setFld_rsv]

theorem fld_stopCharge_apart {f : RF} (h : RSV_STAT.CHARGE.apart f ∧ f.addr ∉ [POL_LAST.addr]) : (stopCharge s).fld f = s.fld f := by
  unfold stopCharge
  split
  · rfl
  · exact fld_setCharge_apart 0 s h

theorem fld_stopCharge : (stopCharge s).fld RSV_STAT.CHARGE = 0 := by
  unfold stopCharge
  split
  · assumption
  · exact fld_setCharge 0 s (by decide)

/-- The charger stops: its duty is 0, and the VIN path and the boost are as they were. -/
theorem stopCharge_rsv : (stopCharge s).rsv.duty = false ∧ (stopCharge s).rsv.oring = s.rsv.oring ∧ (stopCharge s).rsv.boost = s.rsv.boost := by
  unfold stopCharge
  split
  · exact ⟨rfl, rfl, rfl⟩
  · rw [setCharge_rsv]
    exact ⟨rfl, rfl, rfl⟩

end

/-! ### Hand-over (R589) -/

/-- The hand-over's effect but for a boost that is not good. -/
def handedOver (s : Block) : Block :=
  let u := (stopCharge (s.onRsv fun r => { r with oring := false })).setFlag RSV_STAT.VIN_STABLE false
  ((u.setFld RSV_STAT.STATE 1).setLive 944 true).policyCairn 0xC02 0x0C01 RSV_STAT.addr (s.fld RSV_STAT.STATE) 1

theorem toReserve_true (s : Block) : toReserve true s = handedOver s := rfl

theorem toReserve_false (s : Block) : toReserve false s = ((handedOver s).setFlag RSV_STAT.BOOST_FAULT true).raise 951 := rfl

theorem handedOver_fields (s : Block) : (handedOver s).fld RSV_STAT.STATE = 1 ∧ (handedOver s).flag RSV_STAT.VIN_STABLE = false ∧
    (handedOver s).evtLive 944 = true := by
  unfold handedOver
  refine ⟨?_, ?_, ?_⟩
  · rw [(regsBut_policyCairn _ _ _ _ _ _).fld (by decide), (regsBut_setLive _ _ _).fld (by decide), fld_setFld _ _ _ (by decide)]
    rfl
  · rw [(regsBut_policyCairn _ _ _ _ _ _).flag (by decide), (regsBut_setLive _ _ _).flag (by decide), flag_setFld_apart _ _ _ _ (by decide),
      flag_setFlag_same _ _ _ (by decide)]
  · rw [(regsBut_policyCairn _ _ _ _ _ _).evtLive (by decide), evtLive_setLive _ _ _ _ (by decide) (by decide), if_pos rfl]

theorem handedOver_rsv (s : Block) : (handedOver s).rsv.oring = false ∧ (handedOver s).rsv.duty = false := by
  obtain ⟨hduty, horing, -⟩ := stopCharge_rsv (s.onRsv fun r => { r with oring := false })
  unfold handedOver
  simp only [policyCairn_rsv, setLive_rsv, setFld_rsv, setFlag_rsv]
  exact ⟨horing, hduty⟩

theorem toReserve_fields (pg : Bool) (s : Block) : (toReserve pg s).fld RSV_STAT.STATE = 1 ∧
    (toReserve pg s).flag RSV_STAT.VIN_STABLE = false ∧ (toReserve pg s).rsv.oring = false ∧ (toReserve pg s).rsv.duty = false ∧
    (toReserve pg s).evtLive 944 = true ∧ (pg = false → (toReserve pg s).flag RSV_STAT.BOOST_FAULT = true) := by
  obtain ⟨hstate, hvin, hlive⟩ := handedOver_fields s
  obtain ⟨horing, hduty⟩ := handedOver_rsv s
  cases pg with
  | true =>
    rw [toReserve_true]
    exact ⟨hstate, hvin, horing, hduty, hlive, nofun⟩
  | false =>
    rw [toReserve_false, raise_rsv, setFlag_rsv]
    refine ⟨?_, ?_, horing, hduty, ?_, fun _ => ?_⟩
    · rw [(regsBut_raise _ _).fld (by decide), fld_setFlag_apart _ _ _ _ (by decide), hstate]
    · rw [(regsBut_raise _ _).flag (by decide), flag_setFlag_apart _ _ _ _ (by decide), hvin]
    · rw [(regsBut_raise _ _).evtLive (by decide), (regsBut_setFlag _ _ _).evtLive (by decide), hlive]
    · rw [(regsBut_raise _ _).flag (by decide), flag_setFlag_same _ _ _ (by decide)]

/-! ### The end of a close-out (R591) -/

theorem regsBut_syncLog (s : Block) : RegsBut [LOG_STAT.addr, LOG_HEAD.addr] s s.syncLog :=
  ((regsBut_setFld s LOG_HEAD.SEQ _).append (regsBut_setFld _ LOG_STAT.QUEUED _)).mono (by decide)

/-- What the cairn queue holds is stored (R131). -/
def queueStored (s : Block) : Block := ({ s with log := storeQueue s.log } : Block).syncLog

/-- The entries lost are told by GAP, a cairn and event 978 (R131). -/
def lossNoted (n : Nat) (s : Block) : Block :=
  ((({ s with log := { s.log with lost := 0 } } : Block).setFlag LOG_STAT.GAP true).cairnN oFirmware 0x0121 0 0 n).raise 978

theorem flushLog_eq (s : Block) :
    flushLog s = if s.log.lost = 0 then queueStored s else queueStored (lossNoted s.log.lost (queueStored s)) := rfl

theorem regsBut_queueStored (s : Block) : RegsBut [LOG_STAT.addr, LOG_HEAD.addr] s (queueStored s) := by
  have hlog : RegsBut [] s { s with log := storeQueue s.log } := .of_regs rfl
  exact hlog.append (regsBut_syncLog _)

theorem regsBut_lossNoted (n : Nat) (s : Block) : RegsBut [LOG_STAT.addr, LOG_HEAD.addr, evtStatusA 978] s (lossNoted n s) := by
  have hgap : RegsBut [LOG_STAT.addr] s (({ s with log := { s.log with lost := 0 } } : Block).setFlag LOG_STAT.GAP true) :=
    RegsBut.trans (.of_regs rfl) (regsBut_setFlag _ LOG_STAT.GAP true)
  exact ((hgap.mono (by decide)).trans (regsBut_cairnN _ _ _ _ _ _)).append (regsBut_raise _ 978)

theorem regsBut_flushLog (s : Block) : RegsBut [LOG_STAT.addr, LOG_HEAD.addr, evtStatusA 978] s (flushLog s) := by
  have hstore : ∀ u, RegsBut [LOG_STAT.addr, LOG_HEAD.addr, evtStatusA 978] u (queueStored u) := fun u => (regsBut_queueStored u).mono (by simp)
  rw [flushLog_eq]
  exact .ite (hstore s) (((hstore s).trans (regsBut_lossNoted _ _)).trans (hstore _))

@[simp] theorem flushLog_pwr (s : Block) : (flushLog s).pwr = s.pwr := by
  rw [flushLog_eq]
  split <;> simp [queueStored, lossNoted]

/-- The cairns of a close-out that has ended, with event 946. -/
def closeOutNoted (c : CloseOut) (s : Block) : Block :=
  flushLog (((flushLog s).policyCairn 0xC02 0x0C02 RSV_STAT.addr c.take c.stubbed).raise 946)

theorem closeOutNoted_pwr (c : CloseOut) (s : Block) : (closeOutNoted c s).pwr = s.pwr := by simp [closeOutNoted]

theorem evtStatus_closeOutNoted (c : CloseOut) (s : Block) : (closeOutNoted c s).evtStatus 946 = true := by
  rw [closeOutNoted, (regsBut_flushLog _).evtStatus (by decide), evtStatus_raise]
  rfl

/-- The close-out is over: with VIN back the part stays up, else the supplies go. -/
def closedOut (c : CloseOut) (s : Block) : Block :=
  let u := s.onRsv fun r => { r with closeOut := none, boost := r.boost && c.vinBack }
  if c.vinBack then u.setFld RSV_STAT.STATE 0 else { u.setFld RSV_STAT.STATE 2 with pwr := { u.pwr with mainEn := false } }

theorem closedOut_fields (c : CloseOut) (s : Block) : (closedOut c s).rsv.closeOut = none ∧
    (closedOut c s).fld RSV_STAT.STATE = (if c.vinBack then 0 else 2) ∧
    (c.vinBack = false → (closedOut c s).pwr.mainEn = false ∧ (closedOut c s).rsv.boost = false) ∧
    (c.vinBack = true → (closedOut c s).pwr.mainEn = s.pwr.mainEn) ∧
    (closedOut c s).pwr.resetAfterCloseOut = s.pwr.resetAfterCloseOut := by
  unfold closedOut
  cases hv : c.vinBack with
  | true => exact ⟨rfl, fld_setFld _ _ _ (by decide), nofun, fun _ => rfl, rfl⟩
  | false => exact ⟨rfl, fld_setFld _ RSV_STAT.STATE 2 (by decide), fun _ => ⟨rfl, Bool.and_false _⟩, nofun, rfl⟩

theorem evtStatus_closedOut (c : CloseOut) (s : Block) : (closedOut c s).evtStatus 946 = s.evtStatus 946 := by
  unfold closedOut
  dsimp only
  split
  · rw [(regsBut_setFld _ _ _).evtStatus (by decide), (regsBut_onRsv _ _).evtStatus (by simp)]
  · rw [evtStatus_mk, (regsBut_setFld _ _ _).evtStatus (by decide), (regsBut_onRsv _ _).evtStatus (by simp)]

theorem closeOutDone_becomes {s : State} {c : CloseOut} (hc : s.blk.rsv.closeOut = some c) (ht : s.blk.takeOpen = false)
    (hcore : s.blk.pwr.coreDown = false) (hreset : s.blk.pwr.resetAfterCloseOut = false) :
    Becomes .closeOutDone s (closedOut c (closeOutNoted c s.blk)) := by
  obtain ⟨-, -, -, -, hkeep⟩ := closedOut_fields c (closeOutNoted c s.blk)
  rw [closeOutNoted_pwr, hreset] at hkeep
  refine becomes_of_eq rfl ?_
  rw [hc]
  dsimp only
  rw [ht, hcore, if_neg (by simp)]
  exact if_neg (ne_true_of_eq_false hkeep)

/-! ### The search for the charge current (R595) -/

/-- VIN as measured. -/
def vinRead (vin : BitVec 16) (s : Block) : Block := s.setFld RSV_VIN.VIN vin.toNat

theorem vinRead_fields (vin : BitVec 16) (s : Block) : (vinRead vin s).fld RSV_VIN.VIN = vin.toNat ∧
    (vinRead vin s).fld RSV_VIN.ILIM = s.fld RSV_VIN.ILIM ∧ charging (vinRead vin s) = charging s ∧
    (vinRead vin s).fld RSV_CFG.ICHG_MAX = s.fld RSV_CFG.ICHG_MAX ∧ (vinRead vin s).rsv = s.rsv := by
  have hr := regsBut_setFld s RSV_VIN.VIN vin.toNat
  refine ⟨?_, fld_setFld_apart _ _ _ _ (by decide), ?_, hr.fld (by decide), rfl⟩
  · rw [vinRead, fld_setFld _ _ _ (by decide)]
    exact Nat.mod_eq_of_lt vin.isLt
  · rw [charging, vinRead, hr.fld (by decide), hr.flag (by decide), setFld_rsv, charging]

theorem settleIlim_fields (k : Nat) (s : Block) (hk : 25 * k / 10 < 256) : (settleIlim k s).rsv.search = none ∧
    (settleIlim k s).fld RSV_VIN.ILIM = 25 * k / 10 ∧ (s.fld RSV_VIN.ILIM + 5 ≤ 25 * k / 10 → (settleIlim k s).evtStatus 956 = true) := by
  have hilim : ∀ g, (noteRun RSV_VIN.addr s ((s.setFld RSV_VIN.ILIM (25 * k / 10)).onRsv g)).fld RSV_VIN.ILIM = 25 * k / 10 := by
    intro g
    rw [(regsBut_noteRun _ _ _).fld (by decide), fld_onRsv, fld_setFld _ _ _ (by decide)]
    exact Nat.mod_eq_of_lt hk
  unfold settleIlim
  dsimp only
  refine ⟨?_, ?_, fun h => ?_⟩
  · split
    · rw [raise_rsv, noteRun_rsv]; rfl
    · rw [noteRun_rsv]; rfl
  · split
    · rw [(regsBut_raise _ _).fld (by decide), hilim]
    · exact hilim _
  · rw [if_pos (.inl h), evtStatus_raise]
    rfl

/-! ### The charger (R596, R597) -/

theorem fld_takeRest_apart (mv : Nat) (s : Block) {f : RF} (h : RSV_CELL.V_REST.apart f) : (takeRest mv s).fld f = s.fld f :=
  fld_setFld_apart _ _ _ _ h

/-- Without a valid cell temperature the charger stands at INHIBITED (R597). -/
theorem chargeStep_inhibited {mv : Nat} {ma : Int} {s : Block}
    (h : (inhibits (s.setFld RSV_CELL.I_CELL (unsgn 16 ma))).flag RSV_STAT.TD3_BAD = true) : (chargeStep mv ma s).fld RSV_STAT.CHARGE = 6 := by
  unfold chargeStep
  generalize inhibits (s.setFld RSV_CELL.I_CELL (unsgn 16 ma)) = u at h ⊢
  have hin : inhibited u = true := by rw [inhibited, h]; rfl
  dsimp only
  rw [if_pos hin]
  split
  · rename_i h6
    split
    · rw [fld_takeRest_apart _ _ (by decide), fld_onRsv, h6]
    · exact h6
  · exact fld_setCharge 6 u (by decide)

/-! ### The cell (R598) -/

/-- The cell is gone. -/
def cellGone (s : Block) : Block :=
  let u := (stopCharge s).onRsv fun r => { r with boost := false }
  ((u.setFlag RSV_STAT.CELL_PRESENT false).setLive 949 true).policyCairn 0xC01 0x0C03 RSV_CELL.addr 1 0

theorem cellGone_fields (s : Block) : (cellGone s).flag RSV_STAT.CELL_PRESENT = false ∧ (cellGone s).evtLive 949 = true ∧
    (cellGone s).rsv.duty = false ∧ (cellGone s).rsv.boost = false ∧ (cellGone s).fld RSV_STAT.CHARGE = 0 := by
  obtain ⟨hduty, -, -⟩ := stopCharge_rsv s
  unfold cellGone
  refine ⟨?_, ?_, ?_, ?_, ?_⟩
  · rw [(regsBut_policyCairn _ _ _ _ _ _).flag (by decide), (regsBut_setLive _ _ _).flag (by decide), flag_setFlag_same _ _ _ (by decide)]
  · rw [(regsBut_policyCairn _ _ _ _ _ _).evtLive (by decide), evtLive_setLive _ _ _ _ (by decide) (by decide), if_pos rfl]
  · simpa only [policyCairn_rsv, setLive_rsv, setFlag_rsv, Block.onRsv] using hduty
  · simp only [policyCairn_rsv, setLive_rsv, setFlag_rsv, Block.onRsv]
  · rw [(regsBut_policyCairn _ _ _ _ _ _).fld (by decide), (regsBut_setLive _ _ _).fld (by decide), fld_setFlag_apart _ _ _ _ (by decide),
      fld_onRsv, fld_stopCharge]

/-- A cell is there, its rest measured; `vin` when VIN is good (R588). -/
def cellThere (vin : Bool) (mv : Nat) (s : Block) : Block :=
  let u := ((s.setFlag RSV_STAT.CELL_PRESENT true).setLive 949 false).policyCairn 0xC01 0x0C03 RSV_CELL.addr 0 1
  (takeRest mv u).onRsv fun r => { r with boost := r.boost || vin }

theorem cellThere_fields (vin : Bool) {mv : Nat} (s : Block) (h : mv < 65536) : (cellThere vin mv s).flag RSV_STAT.CELL_PRESENT = true ∧
    (cellThere vin mv s).evtLive 949 = false ∧ (cellThere vin mv s).fld RSV_CELL.V_REST = mv := by
  unfold cellThere takeRest
  refine ⟨?_, ?_, ?_⟩
  · rw [flag_onRsv, flag_setFld_apart _ _ _ _ (by decide), (regsBut_policyCairn _ _ _ _ _ _).flag (by decide),
      (regsBut_setLive _ _ _).flag (by decide), flag_setFlag_same _ _ _ (by decide)]
  · rw [(regsBut_onRsv _ _).evtLive (by simp), (regsBut_setFld _ _ _).evtLive (by decide), (regsBut_policyCairn _ _ _ _ _ _).evtLive (by decide),
      evtLive_setLive _ _ _ _ (by decide) (by decide), if_pos rfl]
  · rw [fld_onRsv, fld_setFld _ _ _ (by decide)]
    exact Nat.mod_eq_of_lt h

theorem cellThere_boost (mv : Nat) (s : Block) : (cellThere true mv s).rsv.boost = true := Bool.or_true _

/-! ### The lamps (R601) -/

/-- STAT_A and STAT_B in slot `n`. -/
def lampsAt (past8 : Bool) (n : Nat) (s : Block) : Bool × Bool :=
  if s.rsv.flashes ≠ 0 then (decide (s.rsv.flashes % 2 = 0), decide (s.rsv.flashes % 2 = 0))
  else if s.pwr.shipLatch then (false, false)
  else if past8 then (true, true)
  else (lampAt n s, decide (n % 2 = 1) && decide (n < 2 * faultFlashes s + 1))

/-- The lamps as the next slot shows them. -/
def lampsNext (past8 : Bool) (s : Block) : Block :=
  let slot := (s.rsv.lampSlot + 1) % 8
  s.onRsv fun r => { r with lampSlot := slot, flashes := r.flashes - 1,
                            lampA := (lampsAt past8 (slot + 1) s).1, lampB := (lampsAt past8 (slot + 1) s).2 }

theorem statusLampSlot_becomes (past8 : Bool) (s : State) : Becomes (.statusLampSlot past8) s (lampsNext past8 s.blk) := rfl

/-- Without a cell STAT_A is dark. -/
theorem lampAt_noCell {n : Nat} {s : Block} (h : s.flag RSV_STAT.CELL_PRESENT = false) : lampAt n s = false := if_pos (.inl h)

/-- Settles O54: each row's branches, in the order of its conditions; the named updates tell the fields. -/
theorem reserveEvents : Obligations.ReserveEvents := by
  unfold Obligations.ReserveEvents
  intro s
  refine ⟨?shipped, ?noTake, ?takeClose, ?vinLoss, ?vinLossAgain, ?vinBack, ?noCheck, ?check, ?notDone, ?done, ?limit, ?noSearch, ?search,
    ?searchStarts, ?phase, ?inhibited, ?noCell, ?removed, ?inserted, ?noButton, ?button, ?holdEnd, ?noHold, ?lamps⟩
  case shipped =>
    intro h
    refine ⟨fun _ => becomes_of_eq rfl (if_pos h), fun v => ⟨?_, ?_⟩, fun _ _ => becomes_of_eq rfl (if_pos h), ?_⟩
    · exact becomes_of_eq rfl (if_pos (by simp [h]))
    · exact becomes_of_eq rfl (if_pos (by simp [h]))
    · exact becomes_of_eq rfl (if_pos (by simp [h]))
  case noTake =>
    intro h
    refine becomes_of_eq rfl ?_
    rw [h]
  case takeClose =>
    intro t ht
    refine ⟨fun he => ?_, fun he hd => ?_, fun o he hd => ?_⟩ <;> refine becomes_of_eq rfl ?_ <;> rw [ht] <;> dsimp only
    · rw [he, if_neg Bool.false_ne_true]
    · rw [he, if_pos rfl, hd]
    · rw [he, if_pos rfl, hd]
  case vinLoss =>
    intro pg hship hc hst
    refine ⟨becomes_of_eq rfl ?_, toReserve_fields pg s.blk⟩
    rw [if_neg (ne_true_of_eq_false hship), hc]
    exact if_pos hst
  case vinLossAgain =>
    intro pg c hship hc hv
    refine becomes_of_eq rfl ?_
    rw [if_neg (ne_true_of_eq_false hship), hc]
    exact if_neg (ne_true_of_eq_false hv)
  case vinBack =>
    intro vin hship
    refine ⟨fun hlow => becomes_of_eq rfl (if_pos (by simp [hlow])), fun hgood => ?_⟩
    obtain ⟨u, hu⟩ : ∃ u, u = ((s.blk.setFld RSV_VIN.VIN vin.toNat).setFlag RSV_STAT.VIN_STABLE true).setLive 944 false := ⟨_, rfl⟩
    have hrsv : u.rsv = s.blk.rsv := by rw [hu, setLive_rsv, setFlag_rsv, setFld_rsv]
    have hvin : u.fld RSV_VIN.VIN = vin.toNat := by
      rw [hu, (regsBut_setLive _ _ _).fld (by decide), fld_setFlag_apart _ _ _ _ (by decide), fld_setFld _ _ _ (by decide)]
      exact Nat.mod_eq_of_lt vin.isLt
    have hflag : u.flag RSV_STAT.VIN_STABLE = true := by
      rw [hu, (regsBut_setLive _ _ _).flag (by decide), flag_setFlag_same _ _ _ (by decide)]
    have hlive : u.evtLive 944 = false := by rw [hu, evtLive_setLive _ _ _ _ (by decide) (by decide), if_pos rfl]
    have hx : Becomes (.vinReturnStable vin) s ((if s.blk.rsv.oring then u else u.raise 945).onRsv fun r =>
        { r with oring := true, closeOut := r.closeOut.map fun c => { c with vinBack := true } }) := by
      subst hu
      exact becomes_of_eq rfl (if_neg (by simp [hship, hgood]))
    refine completes_of_becomes hx ⟨?_, ?_, rfl, ?_, ?_⟩
    · rw [flag_onRsv]
      split
      · exact hflag
      · rw [(regsBut_raise _ _).flag (by decide), hflag]
    · rw [fld_onRsv]
      split
      · exact hvin
      · rw [(regsBut_raise _ _).fld (by decide), hvin]
    · rw [(regsBut_onRsv _ _).evtLive (by simp)]
      split
      · exact hlive
      · rw [(regsBut_raise _ _).evtLive (by decide), hlive]
    · unfold Block.onRsv
      dsimp only
      split
      · rw [hrsv]
      · rw [raise_rsv, hrsv]
  case noCheck =>
    intro mv ma h
    refine becomes_of_eq rfl ?_
    rw [h]
  case check =>
    intro mv ma c c1 u hc hc1 hu
    subst hc1
    refine ⟨fun h => ?_, fun he ht hlow => ?_⟩ <;> refine becomes_of_eq rfl ?_ <;> rw [hc] <;> dsimp only <;> rw [← hu]
    · refine if_neg ?_
      rcases h with h | h | h
      · simp [h]
      · simp [h]
      · simp [h]
    · refine if_pos ?_
      simp [he, ht, energyShort, hlow]
  case notDone =>
    intro h
    refine becomes_of_eq rfl ?_
    cases hc : s.blk.rsv.closeOut with
    | none => rfl
    | some c =>
      have hstay : (s.blk.takeOpen || s.blk.pwr.coreDown) = true := by
        rcases h with h | h | h
        · rw [hc] at h; cases h
        · rw [h, Bool.true_or]
        · rw [h, Bool.or_true]
      exact if_pos hstay
  case done =>
    intro c hc ht hcore hreset
    obtain ⟨hnone, hst, hdown, hup, -⟩ := closedOut_fields c (closeOutNoted c s.blk)
    rw [closeOutNoted_pwr] at hup
    exact completes_of_becomes (closeOutDone_becomes hc ht hcore hreset)
      ⟨hnone, hst, hdown, hup, by rw [evtStatus_closedOut, evtStatus_closeOutNoted]⟩
  case limit => exact fun hship hlow => becomes_of_eq rfl (if_neg (by simp [hship, hlow]))
  case noSearch =>
    intro vin hship hcharge
    obtain ⟨hvin, hilim, hch, -, -⟩ := vinRead_fields vin s.blk
    have hx : Becomes (.chargeCurrentSearch vin) s ((vinRead vin s.blk).onRsv fun r => { r with search := none }) := by
      refine becomes_of_eq rfl ?_
      rw [if_neg (ne_true_of_eq_false hship)]
      exact if_pos (by rw [← vinRead, hch, hcharge]; rfl)
    exact completes_of_becomes hx ⟨rfl, hvin, hilim⟩
  case search =>
    intro vin k hship hcharge hk
    obtain ⟨hvin, hilim, hch, hmax, hrsv⟩ := vinRead_fields vin s.blk
    have hx : Becomes (.chargeCurrentSearch vin) s
        (if vin.toNat * 100 ≤ s.blk.rsv.vinBase * 97 ∨ 10 * s.blk.fld RSV_CFG.ICHG_MAX ≤ 50 + 25 * k then settleIlim k (vinRead vin s.blk)
          else (vinRead vin s.blk).onRsv fun r => { r with search := some (k + 1) }) := by
      refine becomes_of_eq rfl ?_
      rw [if_neg (ne_true_of_eq_false hship), ← vinRead, hch, hcharge, if_neg (by simp), hmax, hrsv, hk]
    refine ⟨fun hhigh hmore => completes_of_becomes hx ?_, fun hlow hfit => completes_of_becomes hx ?_⟩
    · rw [if_neg (by omega)]
      exact ⟨rfl, hilim⟩
    · obtain ⟨hnone, hnew, hevt⟩ := settleIlim_fields k (vinRead vin s.blk) hfit
      rw [if_pos (.inl hlow)]
      exact ⟨hnone, hnew, fun h => hevt (by rw [hilim]; exact h)⟩
  case searchStarts =>
    intro vin hship hcharge hk hat
    obtain ⟨-, -, hch, -, hrsv⟩ := vinRead_fields vin s.blk
    have hx : Becomes (.chargeCurrentSearch vin) s ((vinRead vin s.blk).onRsv fun r =>
        { r with search := some 0, searchAt := some (vinRead vin s.blk).now, vinBase := vin.toNat }) := by
      refine becomes_of_eq rfl ?_
      rw [if_neg (ne_true_of_eq_false hship), ← vinRead, hch, hcharge, if_neg (by simp), hrsv, hk, hat]
      rfl
    exact completes_of_becomes hx ⟨rfl, rfl, rfl⟩
  case phase =>
    intro mv ma hship
    refine ⟨fun hst hcell => becomes_of_eq rfl ?_, fun h => ⟨becomes_of_eq rfl ?_, (stopCharge_rsv s.blk).1⟩⟩ <;>
      rw [if_neg (ne_true_of_eq_false hship)]
    · exact if_pos ⟨hst, hcell⟩
    · refine if_neg fun hboth => ?_
      rcases h with h | h
      · exact h hboth.1
      · exact ne_true_of_eq_false h hboth.2
  case inhibited => exact fun _ _ h => chargeStep_inhibited h
  case noCell => exact fun h => becomes_of_eq rfl (if_neg (ne_true_of_eq_false h))
  case removed =>
    intro h
    obtain ⟨hcell, hlive, hduty, hboost, hcharge⟩ := cellGone_fields s.blk
    exact ⟨cellGone s.blk, hcell, hlive, hduty, hboost, hcharge, becomes_of_eq rfl (if_pos h)⟩
  case inserted =>
    intro mv
    refine ⟨fun h => becomes_of_eq rfl (if_pos ?_), fun hship hduty hcell hlo hhi => ?_⟩
    · rcases h with h | h | h | h <;> simp [h]
    · obtain ⟨hpres, hlive, hrest⟩ := cellThere_fields (decide (s.blk.fld RSV_STAT.STATE = 0)) s.blk mv.isLt
      have hx : Becomes (.cellInserted mv) s (updateLimit (if decide (s.blk.fld RSV_STAT.STATE = 0) then
          chargeStep mv.toNat 0 (cellThere (decide (s.blk.fld RSV_STAT.STATE = 0)) mv.toNat s.blk)
          else cellThere (decide (s.blk.fld RSV_STAT.STATE = 0)) mv.toNat s.blk)) :=
        becomes_of_eq rfl (if_neg (by simp [hship, hduty, hcell]; omega))
      refine ⟨_, hpres, hlive, hrest, fun hst => ?_, fun hst => ?_⟩
      · rw [decide_eq_true hst] at hx ⊢
        exact ⟨cellThere_boost _ _, hx⟩
      · rw [decide_eq_false hst] at hx ⊢
        exact hx
  case noButton =>
    intro h
    refine ⟨becomes_of_eq rfl (if_pos (by simp [h])), becomes_of_eq rfl (if_neg (ne_true_of_eq_false h)),
      becomes_of_eq rfl (if_neg (ne_true_of_eq_false h))⟩
  case button =>
    intro h
    have hshort : Becomes .buttonShortPress s (if s.blk.pwr.standby then wake s.blk else s.blk.raise 953) :=
      becomes_of_eq rfl (if_neg (by simp [h]))
    refine ⟨fun hs => ?_, fun hs => ?_, ?_, becomes_of_eq rfl (if_pos h)⟩
    · rw [hs, if_pos rfl] at hshort
      exact hshort
    · rw [hs, if_neg Bool.false_ne_true] at hshort
      exact hshort
    · obtain ⟨u, hu⟩ : ∃ u, u = resetKeep true (powerLoss s.blk) := ⟨_, rfl⟩
      have hx : Becomes .buttonResetPress s
          { u.setFld RSV_STAT.STATE 3 with pwr := { (u.setFld RSV_STAT.STATE 3).pwr with rstLow := true, mainEn := false } } := by
        rw [hu]
        exact becomes_of_eq rfl (if_pos h)
      exact completes_of_becomes hx ⟨fld_setFld u RSV_STAT.STATE 3 (by decide), rfl, rfl⟩
  case holdEnd =>
    intro h
    exact completes_of_becomes (becomes_of_eq rfl (if_pos h)) ⟨fld_setFld s.blk RSV_STAT.STATE 0 (by decide), rfl, rfl⟩
  case noHold => exact fun h => becomes_of_eq rfl (if_neg h)
  case lamps =>
    intro past8
    refine completes_of_becomes (statusLampSlot_becomes past8 s) ⟨rfl, rfl, rfl, ?_, ?_, ?_⟩
    · intro hf hship
      simp [lampsNext, Block.onRsv, lampsAt, hf, hship]
    · intro hf hship hp
      simp [lampsNext, Block.onRsv, lampsAt, hf, hship, hp]
    · intro hf hship hp hcell
      simp [lampsNext, Block.onRsv, lampsAt, hf, hship, hp, lampAt_noCell hcell]

end Sys2Proof.Machine
end

section
/-! Temperature (R555, R556, R558, R560, R569): bands, diodes and external sensors. -/

namespace Sys2Proof.Machine

/-! ### Bands (R560) -/

/-- In a falling list the first hit is at least as high as any other. -/
theorem find?_falling {P : Nat → Bool} {b : Nat} {l : List Nat} (hl : l.Pairwise (· > ·)) (hb : b ∈ l) (hP : P b = true) :
    ∃ c ∈ l, l.find? P = some c ∧ b ≤ c := by
  induction l with
  | nil => cases hb
  | cons x l ih =>
    obtain ⟨hx, hl'⟩ := List.pairwise_cons.mp hl
    by_cases hPx : P x = true
    · refine ⟨x, List.mem_cons_self, List.find?_cons_of_pos hPx, ?_⟩
      rcases List.mem_cons.mp hb with rfl | hb
      · exact le_rfl
      · exact (hx b hb).le
    · rcases List.mem_cons.mp hb with rfl | hb
      · exact absurd hP hPx
      · obtain ⟨c, hc, hf, hle⟩ := ih hl' hb
        exact ⟨c, List.mem_cons_of_mem x hc, by rw [List.find?_cons_of_neg hPx, hf], hle⟩

/-- The highest of the bands 5 to 1 that `P` allows, else 0. -/
def highestBand (P : Nat → Bool) : Nat := ([5, 4, 3, 2, 1].find? P).getD 0

theorem bandAt_eq (m : Int) (v : Rat) : bandAt m v = highestBand fun b => decide (((bandLow b - m : Int) : Rat) ≤ v) := rfl

theorem bandHeld_eq (v : Rat) : bandHeld v = highestBand fun b => decide (((bandLow b - 3 : Int) : Rat) < v) := rfl

theorem highestBand_cases (P : Nat → Bool) : highestBand P = 0 ∨ highestBand P ≤ 5 ∧ P (highestBand P) = true := by
  unfold highestBand
  cases h : [5, 4, 3, 2, 1].find? P with
  | none => exact .inl rfl
  | some c =>
    have hmem : c ∈ [5, 4, 3, 2, 1] := List.mem_of_find?_eq_some h
    have hle : c ≤ 5 := by
      simp only [List.mem_cons, List.not_mem_nil, or_false] at hmem
      omega
    exact .inr ⟨hle, List.find?_some h⟩

theorem le_highestBand {P : Nat → Bool} {b : Nat} (h1 : 1 ≤ b) (h5 : b ≤ 5) (hP : P b = true) : b ≤ highestBand P := by
  have hmem : b ∈ [5, 4, 3, 2, 1] := by
    simp only [List.mem_cons, List.not_mem_nil, or_false]
    omega
  obtain ⟨c, -, hf, hle⟩ := find?_falling (by decide) hmem hP
  rw [highestBand, hf]
  exact hle

/-- A band rises at a lower limit reached, and falls 3 K below its own (R560). -/
theorem nextBand_spec (b : Nat) (v : Rat) (hb : b ≤ 5) : nextBand b v ≤ 5 ∧ (b < nextBand b v → ((bandLow (nextBand b v) : Int) : Rat) ≤ v) ∧
    (nextBand b v < b → v ≤ ((bandLow b - 3 : Int) : Rat)) := by
  have hat := highestBand_cases fun b => decide (((bandLow b - 0 : Int) : Rat) ≤ v)
  rw [← bandAt_eq] at hat
  have hheld := highestBand_cases fun b => decide (((bandLow b - 3 : Int) : Rat) < v)
  rw [← bandHeld_eq] at hheld
  unfold nextBand
  split
  · rename_i hup
    rcases hat with h0 | ⟨h5, hP⟩
    · omega
    · refine ⟨h5, fun _ => ?_, fun h => absurd h (by omega)⟩
      rw [Int.sub_zero] at hP
      exact of_decide_eq_true hP
  · split
    · rename_i hdown
      refine ⟨by omega, fun h => absurd h (by omega), fun _ => ?_⟩
      by_contra hv
      have := le_highestBand (P := fun b => decide (((bandLow b - 3 : Int) : Rat) < v)) (by omega) hb (decide_eq_true (not_le.mp hv))
      rw [← bandHeld_eq] at this
      omega
    · exact ⟨hb, fun h => absurd h (lt_irrefl b), fun h => absurd h (lt_irrefl b)⟩

/-! ### What follows a band leaves the sensors as they were -/

section
variable (s : Block)

@[simp] theorem rateCheck_th : (rateCheck s).th = s.th := by
  unfold rateCheck
  split_ifs <;> simp

@[simp] theorem rateCheck_pwr : (rateCheck s).pwr = s.pwr := by
  unfold rateCheck
  split_ifs <;> simp

@[simp] theorem driveNow_th : (driveNow s).th = s.th := by
  unfold driveNow putDrive
  dsimp only
  split_ifs <;> simp

@[simp] theorem driveNow_pwr : (driveNow s).pwr = s.pwr := by
  unfold driveNow putDrive
  dsimp only
  split_ifs <;> simp

/-- The lane presets of a band are the ports' own (R481). -/
theorem presets_keep {β : Type} {g : Block → β} (h : ∀ t lk, g { t with lk := lk } = g t) (p : Nat) (l : List Nat) :
    g (l.foldl (fun u x => u.onPort x fun y => { y with preset := some p }) s) = g s :=
  foldl_keeps (fun t _ => h t _) l s

theorem followBands_th : (followBands s).th = s.th := by
  unfold followBands
  dsimp only
  split_ifs <;> simp [presets_keep (g := Block.th) _ fun _ _ => rfl]

theorem followBands_thermalLatch : (followBands s).pwr.thermalLatch = s.pwr.thermalLatch := by
  unfold followBands
  dsimp only
  split_ifs <;> simp [presets_keep (g := Block.pwr) _ fun _ _ => rfl]

theorem syncBand_th (r : Nat) : (syncBand r s).th = s.th := by
  unfold syncBand
  dsimp only
  split
  · simp
  · rw [followBands_th]
    simp

theorem syncBand_thermalLatch (r : Nat) : (syncBand r s).pwr.thermalLatch = s.pwr.thermalLatch := by
  unfold syncBand
  dsimp only
  split
  · simp
  · rw [followBands_thermalLatch]
    simp

end

/-! ### Diodes (R555, R558, R559, R569) -/

theorem diode_of_th {s t : Block} (h : t.th.diodes = s.th.diodes) (c : Nat) : t.diode c = s.diode c := by unfold Block.diode; rw [h]

theorem diode_setDiode (s : Block) (c : Nat) (d : Diode) : (s.setDiode c d).diode c = d := by
  unfold Block.diode Block.setDiode
  rw [smGet_smSet, if_pos rfl]

@[simp] theorem riseLive_th (e : Nat) (rose any : Bool) (s : Block) : (riseLive e rose any s).th = s.th := by
  unfold riseLive
  split <;> simp

@[simp] theorem riseLive_pwr (e : Nat) (rose any : Bool) (s : Block) : (riseLive e rose any s).pwr = s.pwr := by
  unfold riseLive
  split <;> simp

theorem addPenalty_diodes (r k : Nat) (s : Block) : (addPenalty r k s).th.diodes = s.th.diodes := by
  unfold addPenalty
  split <;> simp

theorem addPenalty_pwr (r k : Nat) (s : Block) : (addPenalty r k s).pwr = s.pwr := by
  unfold addPenalty
  split <;> simp

/-- A diode that becomes invalid keeps its reading and its tick. -/
theorem invalidate_diode (c : Nat) (s : Block) :
    ((invalidate c s).diode c).temp = (s.diode c).temp ∧ ((invalidate c s).diode c).sampleAt = (s.diode c).sampleAt := by
  have h : (invalidate c s).diode c = { s.diode c with valid := false, agreeAt := none, validAt := none, hotRun := 0 } := by
    rw [← diode_setDiode s c { s.diode c with valid := false, agreeAt := none, validAt := none, hotRun := 0 }]
    unfold invalidate
    refine diode_of_th ?_ c
    rw [policyCairn_th, syncBand_th]
    split
    · rw [addPenalty_diodes, contain_th, riseLive_th, setFlag_th]
    · rw [contain_th, riseLive_th, setFlag_th]
  rw [h]
  exact ⟨rfl, rfl⟩

theorem invalidate_thermalLatch (c : Nat) (s : Block) : (invalidate c s).pwr.thermalLatch = s.pwr.thermalLatch := by
  unfold invalidate
  dsimp only
  rw [policyCairn_pwr, syncBand_thermalLatch]
  split <;> simp [addPenalty_pwr, Block.setDiode]

theorem validate_diode (c : Nat) (s : Block) :
    ((validate c s).diode c).temp = (s.diode c).temp ∧ ((validate c s).diode c).sampleAt = (s.diode c).sampleAt := by
  have h : (validate c s).diode c = { s.diode c with valid := true, awayAt := none, validAt := some s.now } := by
    rw [← diode_setDiode s c { s.diode c with valid := true, awayAt := none, validAt := some s.now }]
    unfold validate
    refine diode_of_th ?_ c
    rw [syncBand_th, riseLive_th, setFlag_th]
  rw [h]
  exact ⟨rfl, rfl⟩

theorem validate_thermalLatch (c : Nat) (s : Block) : (validate c s).pwr.thermalLatch = s.pwr.thermalLatch := by
  unfold validate
  rw [syncBand_thermalLatch]
  simp [Block.setDiode]

/-- A cluster's registers as sampled. -/
def diodeRead (k : Nat) (temp : BitVec 16) (dly : BitVec 12) (s : Block) : Block :=
  (s.setFld (MSN_CLUSTER.TEMP k) temp.toNat).setFld (MSN_CLUSTER.DLY k) dly.toNat

/-- A reading that a diode can give (R555). -/
def diodeInRange (t : Int) : Bool := decide (-1120 ≤ t) && decide (t ≤ 2720)

/-- How far a reading is from its cluster's estimate. -/
def offModel (s : Block) (k : Nat) (t : Int) : Rat :=
  if estimate s k ≤ (t : Rat) / 16 then (t : Rat) / 16 - estimate s k else estimate s k - (t : Rat) / 16

/-- A reading far from the estimate, while four others are valid (R558). -/
def readsAway (s : Block) (k : Nat) (t : Int) : Bool :=
  decide (15 < offModel s k t) && decide (4 ≤ ((validDiodes s (regionOf k)).filter (fun x => decide (x ≠ k))).length)

/-- The diode after a reading of `t`. -/
def diodeNext (s : Block) (k : Nat) (t : Int) : Diode :=
  { s.diode k with
    temp := t, sampleAt := s.now,
    awayAt := if readsAway s k t then some ((s.diode k).awayAt.getD s.now) else none,
    agreeAt := if diodeInRange t && decide (offModel s k t ≤ 5) then some ((s.diode k).agreeAt.getD s.now) else none,
    hotRun := if (s.diode k).valid && diodeInRange t && decide (2320 ≤ t) then (s.diode k).hotRun + 1 else 0 }

/-- The reading, before it makes the diode invalid or valid. -/
def diodeTaken (k : Nat) (temp : BitVec 16) (dly : BitVec 12) (s : Block) : Block :=
  (diodeRead k temp dly s).setDiode k (diodeNext (diodeRead k temp dly s) k temp.toInt)

/-- Does the reading make a valid diode invalid (R558)? -/
def diodeLost (s u : Block) (k : Nat) (t : Int) : Bool :=
  (s.diode k).valid && (!diodeInRange t || (readsAway s k t && decide (secT ≤ u.sinceT ((diodeNext s k t).awayAt.getD u.now))))

/-- Does it make an invalid one valid again? -/
def diodeBack (s u : Block) (k : Nat) (t : Int) : Bool :=
  !(s.diode k).valid && (diodeInRange t && decide (offModel s k t ≤ 5)) && decide (10 * secT ≤ u.sinceT ((diodeNext s k t).agreeAt.getD u.now))

/-- Does any valid diode read 143 °C or more? -/
def tripNear (s : Block) : Bool := (List.range 128).any fun x => (s.diode x).valid && decide (2288 ≤ (s.diode x).temp)

/-- TRIP_NEAR and event 915 follow the diodes. -/
def tripNoted (s : Block) : Block := (s.setFlag TH_STAT.TRIP_NEAR (tripNear s)).setLive 915 (tripNear s)

/-- The block after a reading, short of the shutdown. -/
def diodeSampled (k : Nat) (temp : BitVec 16) (dly : BitVec 12) (s : Block) : Block :=
  let r := diodeRead k temp dly s
  let u := diodeTaken k temp dly s
  tripNoted (if diodeLost r u k temp.toInt then invalidate k u else if diodeBack r u k temp.toInt then validate k u else u)

/-- Two readings of 145 °C or more shut the part down, once (R569). -/
def tripsNow (k : Nat) (s : Block) : Bool := (s.diode k).valid && decide (2 ≤ (s.diode k).hotRun) && !s.pwr.thermalLatch

theorem diodeSample_becomes (c : BitVec 7) (temp : BitVec 16) (dly : BitVec 12) (s : State) : Becomes (.diodeSample c temp dly) s
    (if tripsNow c.toNat (diodeSampled c.toNat temp dly s.blk) then thermalShutdown (diodeSampled c.toNat temp dly s.blk)
      else diodeSampled c.toNat temp dly s.blk) := rfl

section
variable (k : Nat) (temp : BitVec 16) (dly : BitVec 12) (s : Block)

@[simp] theorem tripNoted_th : (tripNoted s).th = s.th := by simp [tripNoted]
@[simp] theorem tripNoted_pwr : (tripNoted s).pwr = s.pwr := by simp [tripNoted]

theorem diode_diodeTaken : (diodeTaken k temp dly s).diode k = diodeNext (diodeRead k temp dly s) k temp.toInt := diode_setDiode _ _ _

@[simp] theorem diodeTaken_pwr : (diodeTaken k temp dly s).pwr = s.pwr := rfl

/-- Whatever the reading makes of the diode, it is kept. -/
theorem diodeSampled_reading : ((diodeSampled k temp dly s).diode k).temp = temp.toInt ∧
    ((diodeSampled k temp dly s).diode k).sampleAt = s.now := by
  have htaken : ((diodeTaken k temp dly s).diode k).temp = temp.toInt ∧ ((diodeTaken k temp dly s).diode k).sampleAt = s.now := by
    rw [diode_diodeTaken]
    exact ⟨rfl, rfl⟩
  unfold diodeSampled
  dsimp only
  rw [diode_of_th (congrArg ThState.diodes (tripNoted_th _))]
  split
  · obtain ⟨ht, ha⟩ := invalidate_diode k (diodeTaken k temp dly s)
    exact ⟨ht.trans htaken.1, ha.trans htaken.2⟩
  · split
    · obtain ⟨ht, ha⟩ := validate_diode k (diodeTaken k temp dly s)
      exact ⟨ht.trans htaken.1, ha.trans htaken.2⟩
    · exact htaken

theorem diodeSampled_thermalLatch : (diodeSampled k temp dly s).pwr.thermalLatch = s.pwr.thermalLatch := by
  unfold diodeSampled
  dsimp only
  rw [tripNoted_pwr]
  split
  · rw [invalidate_thermalLatch, diodeTaken_pwr]
  · split
    · rw [validate_thermalLatch, diodeTaken_pwr]
    · rw [diodeTaken_pwr]

end

theorem diodeInRange_hot {t : Int} (hlo : 2320 ≤ t) (hhi : t ≤ 2720) : diodeInRange t = true := by
  rw [diodeInRange, decide_eq_true hhi, decide_eq_true (by omega)]
  rfl

/-- A valid diode that was not away, read in range, stays valid. -/
theorem diodeSampled_valid {k : Nat} {temp : BitVec 16} {dly : BitVec 12} {s : Block} (hv : (s.diode k).valid = true)
    (hlo : 2320 ≤ temp.toInt) (hhi : temp.toInt ≤ 2720) (haway : (s.diode k).awayAt = none) :
    diodeSampled k temp dly s = tripNoted (diodeTaken k temp dly s) := by
  have hr : diodeInRange temp.toInt = true := diodeInRange_hot hlo hhi
  have hd : (diodeRead k temp dly s).diode k = s.diode k := rfl
  have hnow : (diodeTaken k temp dly s).now = s.now := rfl
  have hsince : ∀ t : Option Tick, t = some s.now ∨ t = none → ¬ secT ≤ (diodeTaken k temp dly s).sinceT (t.getD s.now) := by
    rintro t (rfl | rfl) <;> simp [Block.sinceT, secT, Block.now, diodeTaken, diodeRead, Block.setDiode]
  have hlost : diodeLost (diodeRead k temp dly s) (diodeTaken k temp dly s) k temp.toInt = false := by
    rw [diodeLost, hd, hv, hr, hnow, decide_eq_false (hsince _ _)]
    · simp
    · unfold diodeNext
      rw [hd, haway]
      dsimp only
      split
      · exact .inl rfl
      · exact .inr rfl
  have hback : diodeBack (diodeRead k temp dly s) (diodeTaken k temp dly s) k temp.toInt = false := by
    rw [diodeBack, hd, hv]
    rfl
  unfold diodeSampled
  dsimp only
  rw [hlost, hback]
  rfl

/-- Such a diode counts its hot readings. -/
theorem hotRun_diodeTaken {k : Nat} {temp : BitVec 16} (dly : BitVec 12) {s : Block} (hv : (s.diode k).valid = true)
    (hlo : 2320 ≤ temp.toInt) (hhi : temp.toInt ≤ 2720) :
    ((diodeTaken k temp dly s).diode k).hotRun = (s.diode k).hotRun + 1 ∧ ((diodeTaken k temp dly s).diode k).valid = true := by
  have hr : diodeInRange temp.toInt = true := diodeInRange_hot hlo hhi
  have hd : (diodeRead k temp dly s).diode k = s.diode k := rfl
  rw [diode_diodeTaken]
  refine ⟨?_, hv⟩
  unfold diodeNext
  dsimp only
  rw [hd, hv, hr, decide_eq_true hlo]
  rfl

theorem tripNear_of {s : Block} {k : Nat} (hk : k < 128) (hv : (s.diode k).valid = true) (ht : 2288 ≤ (s.diode k).temp) :
    tripNear s = true :=
  List.any_eq_true.mpr ⟨k, List.mem_range.mpr hk, by rw [hv, decide_eq_true ht]; rfl⟩

theorem fld_tripNoted {f : RF} (s : Block) (h : f.addr < 0x2600000) : (tripNoted s).fld f = s.fld f := by
  have hlive : f.addr ∉ [evtLiveA 915, evtStatusA 915] := by
    rw [List.mem_cons, List.mem_singleton, evtLiveA_eq, evtStatusA_eq]
    omega
  have hstat : f.addr ∉ [TH_STAT.TRIP_NEAR.addr] := by
    rw [List.mem_singleton]
    exact ne_of_lt (lt_of_lt_of_le h (by decide))
  rw [tripNoted, (regsBut_setLive _ _ _).fld hlive, (regsBut_setFlag _ _ _).fld hstat]

theorem tripNear_tripNoted (s : Block) : (tripNoted s).flag TH_STAT.TRIP_NEAR = tripNear s := by
  rw [tripNoted, (regsBut_setLive _ _ _).flag (by decide), flag_setFlag_same _ _ _ (by decide)]

theorem fld_diodeTaken {k : Nat} (temp : BitVec 16) (dly : BitVec 12) (s : Block) :
    (diodeTaken k temp dly s).fld (MSN_CLUSTER.TEMP k) = temp.toNat ∧ (diodeTaken k temp dly s).fld (MSN_CLUSTER.DLY k) = dly.toNat := by
  have hapart : (MSN_CLUSTER.DLY k).apart (MSN_CLUSTER.TEMP k) := .inr (.inr (Nat.le_refl 16))
  have hdly : (MSN_CLUSTER.DLY k).inWord := Nat.le_of_ble_eq_true rfl
  have htemp : (MSN_CLUSTER.TEMP k).inWord := Nat.le_of_ble_eq_true rfl
  unfold diodeTaken diodeRead Block.setDiode
  rw [fld_mk]
  constructor
  · rw [fld_setFld_apart _ _ _ _ hapart, fld_setFld _ _ _ htemp]
    exact Nat.mod_eq_of_lt temp.isLt
  · rw [fld_mk, fld_setFld _ _ _ hdly]
    exact Nat.mod_eq_of_lt dly.isLt

/-! ### External sensors (R556) -/

/-- An input's valid reading. -/
def tdRead (i : Nat) (temp : BitVec 16) (s : Block) : Block :=
  ((s.setFld (TH_TD1.TEMP i) temp.toNat).setFlag (TH_TD1.OK i) true).setFlag (TH_TD1.OVER i)
    (decide (sgn 8 (s.fld (TH_TD0.LIMIT i)) * 16 < temp.toInt))

/-- An input that is open or shorted. -/
def tdOpen (i : Nat) (s : Block) : Block := (s.setFlag (TH_TD1.OK i) false).setFlag (TH_TD1.OVER i) false

/-- Events of shared conditions leave every field below the events' words. -/
theorem fld_riseLive {f : RF} (e : Nat) (rose any : Bool) (s : Block) (h : f.addr < 0x2800000) : (riseLive e rose any s).fld f = s.fld f := by
  have hlive : ∀ u : Block, (u.setLive e any).fld f = u.fld f := fun u =>
    (regsBut_setLive u e any).fld (by rw [List.mem_cons, List.mem_singleton, evtLiveA_eq, evtStatusA_eq]; omega)
  unfold riseLive
  rw [hlive]
  split
  · exact fld_raise _ _ _ h
  · rfl

theorem flag_riseLive {f : RF} (e : Nat) (rose any : Bool) (s : Block) (h : f.addr < 0x2800000) :
    (riseLive e rose any s).flag f = s.flag f := by
  rw [Block.flag, fld_riseLive e rose any s h, Block.flag]

theorem evtLive_riseLive (e d : Nat) (rose any : Bool) (s : Block) (hd : d < 1024) (he : e < 1024) :
    (riseLive e rose any s).evtLive d = if d = e then any else s.evtLive d := by
  unfold riseLive
  rw [evtLive_setLive _ _ _ _ hd he]
  split
  · rfl
  · split
    · exact evtLive_raise _ _ _ hd he
    · rfl

section
variable {i : Nat} (temp : BitVec 16) (s : Block)

theorem td1_low (hi : i < 4) : TH_TD1.addr i < 0x2800000 := by
  unfold TH_TD1.addr
  omega

theorem tdRead_fields : (tdRead i temp s).fld (TH_TD1.TEMP i) = temp.toNat ∧ (tdRead i temp s).flag (TH_TD1.OK i) = true ∧
    (tdRead i temp s).flag (TH_TD1.OVER i) = decide (sgn 8 (s.fld (TH_TD0.LIMIT i)) * 16 < temp.toInt) := by
  have hoverTemp : (TH_TD1.OVER i).apart (TH_TD1.TEMP i) := .inr (.inr (Nat.le_of_ble_eq_true rfl))
  have hokTemp : (TH_TD1.OK i).apart (TH_TD1.TEMP i) := .inr (.inr (Nat.le_of_ble_eq_true rfl))
  have hoverOk : (TH_TD1.OVER i).apart (TH_TD1.OK i) := .inr (.inr (Nat.le_of_ble_eq_true rfl))
  unfold tdRead
  refine ⟨?_, ?_, flag_setFlag_same _ _ _ ⟨Nat.le_of_ble_eq_true rfl, rfl⟩⟩
  · rw [fld_setFlag_apart _ _ _ _ hoverTemp, fld_setFlag_apart _ _ _ _ hokTemp, fld_setFld _ _ _ (Nat.le_of_ble_eq_true rfl)]
    exact Nat.mod_eq_of_lt temp.isLt
  · rw [flag_setFlag_apart _ _ _ _ hoverOk, flag_setFlag_same _ _ _ ⟨Nat.le_of_ble_eq_true rfl, rfl⟩]

theorem tdOpen_fields : (tdOpen i s).flag (TH_TD1.OK i) = false ∧ (tdOpen i s).flag (TH_TD1.OVER i) = false ∧
    (tdOpen i s).fld (TH_TD1.TEMP i) = s.fld (TH_TD1.TEMP i) := by
  have hoverTemp : (TH_TD1.OVER i).apart (TH_TD1.TEMP i) := .inr (.inr (Nat.le_of_ble_eq_true rfl))
  have hokTemp : (TH_TD1.OK i).apart (TH_TD1.TEMP i) := .inr (.inr (Nat.le_of_ble_eq_true rfl))
  have hoverOk : (TH_TD1.OVER i).apart (TH_TD1.OK i) := .inr (.inr (Nat.le_of_ble_eq_true rfl))
  unfold tdOpen
  refine ⟨?_, flag_setFlag_same _ _ _ ⟨Nat.le_of_ble_eq_true rfl, rfl⟩, ?_⟩
  · rw [flag_setFlag_apart _ _ _ _ hoverOk, flag_setFlag_same _ _ _ ⟨Nat.le_of_ble_eq_true rfl, rfl⟩]
  · rw [fld_setFlag_apart _ _ _ _ hoverTemp, fld_setFlag_apart _ _ _ _ hokTemp]

end

theorem tdSample_off {n : BitVec 2} {temp : BitVec 16} {ok : Bool} {s : State} (h : s.blk.fld (TH_TD0.TYPE n.toNat) = 0) :
    Becomes (.tdSample n temp ok) s s.blk := becomes_of_eq rfl (if_pos h)

/-- A valid reading is followed by events 913 and 912. -/
theorem tdSample_ok {n : BitVec 2} {temp : BitVec 16} {s : State} (h : s.blk.fld (TH_TD0.TYPE n.toNat) ≠ 0) :
    ∃ (rose hot low : Bool), Becomes (.tdSample n temp true) s (riseLive 912 false low (riseLive 913 rose hot (tdRead n.toNat temp s.blk))) :=
  ⟨_, _, _, becomes_of_eq rfl (if_neg h)⟩

/-- An input that is lost makes 912 live. -/
theorem tdSample_open {n : BitVec 2} {temp : BitVec 16} {s : State} (h : s.blk.fld (TH_TD0.TYPE n.toNat) ≠ 0) :
    ∃ (rose hot : Bool), Becomes (.tdSample n temp false) s (riseLive 913 false hot (riseLive 912 rose true (tdOpen n.toNat s.blk))) :=
  ⟨_, _, becomes_of_eq rfl (if_neg h)⟩

end Sys2Proof.Machine
end

section
/-! Temperature (R46, R241, R565, R566, R570, R573 to R577): cooling, engine faults, the core voltage and ageing by the hour. -/

namespace Sys2Proof.Machine

/-! ### Runs that end (R444) -/

/-- One run of a value, told when it has ended. -/
def flushRun (s : Block) (e : Nat × Word × Tick × Tick) : Block :=
  let a := e.1
  let log (u : Block) : Block := u.cairn (oPolicy (runCode a)) 0x0001 a e.2.1 (u.reg a)
  if secT ≤ s.sinceT e.2.2.1 then (log { s with th := { s.th with runs := smDel s.th.runs a } })
  else if 60 * secT ≤ s.sinceT e.2.2.2 then
    log { s with th := { s.th with runs := smPut s.th.runs a (s.reg a, e.2.2.1, s.now) } }
  else s

theorem flushRuns_eq (s : Block) : flushRuns s = s.th.runs.foldl flushRun s := rfl

/-- What a cairn and the list of runs leave alone, the end of the runs leaves alone. -/
theorem flushRuns_keeps {β : Type} {g : Block → β} (hc : ∀ (t : Block) o k a x y, g (t.cairn o k a x y) = g t)
    (hr : ∀ (t : Block) runs, g { t with th := { t.th with runs := runs } } = g t) (s : Block) : g (flushRuns s) = g s := by
  rw [flushRuns_eq]
  refine foldl_keeps (fun t e => ?_) _ s
  unfold flushRun
  dsimp only
  split_ifs
  · rw [hc, hr]
  · rw [hc, hr]
  · rfl

theorem fld_flushRuns {f : RF} (s : Block) (h : f.addr ∉ [LOG_STAT.addr, LOG_HEAD.addr]) : (flushRuns s).fld f = s.fld f :=
  flushRuns_keeps (g := fun t => Block.fld t f) (fun t o k a x y => (regsBut_cairn t o k a x y).fld h) (fun _ _ => rfl) s

theorem evtLive_flushRuns (s : Block) (e : Nat) (h : evtLiveA e ∉ [LOG_STAT.addr, LOG_HEAD.addr]) :
    (flushRuns s).evtLive e = s.evtLive e :=
  flushRuns_keeps (g := fun t => Block.evtLive t e) (fun t o k a x y => (regsBut_cairn t o k a x y).evtLive h) (fun _ _ => rfl) s

@[simp] theorem flushRuns_pwr (s : Block) : (flushRuns s).pwr = s.pwr :=
  flushRuns_keeps (g := Block.pwr) (fun t o k a x y => cairn_pwr t o k a x y) (fun _ _ => rfl) s

@[simp] theorem flushRuns_vidLowSince (s : Block) : (flushRuns s).th.vidLowSince = s.th.vidLowSince :=
  flushRuns_keeps (g := fun t => t.th.vidLowSince) (fun t o k a x y => by rw [cairn_th]) (fun _ _ => rfl) s

/-! ### The tachometer (R565) -/

theorem popSunk_keeps {β : Type} {g : Block → β} (h : ∀ (t : Block) eng, g { t with eng := eng } = g t) (n : Nat) (s : Block) :
    g (popSunk n s) = g s := by
  unfold popSunk
  split
  · exact h s _
  · rfl

/-- A tachometer word ends a stall. -/
def fanHeard (s : Block) : Block := ({ s with th := { s.th with fanAt := some s.now, fanStalled := false } } : Block).setLive 916 false

theorem fanHeard_fields (s : Block) : (fanHeard s).th.fanAt = some s.now ∧ (fanHeard s).th.fanStalled = false ∧
    (fanHeard s).evtLive 916 = false ∧ (fanHeard s).free = s.free ∧ (fanHeard s).fld TH_COOL_STAT.FAN_RPM = s.fld TH_COOL_STAT.FAN_RPM := by
  unfold fanHeard
  refine ⟨by rw [setLive_th], by rw [setLive_th], ?_, by rw [setLive_free], ?_⟩
  · rw [evtLive_setLive _ _ _ _ (by decide) (by decide), if_pos rfl]
  · rw [(regsBut_setLive _ _ _).fld (by decide), fld_mk]

/-! ### Faults of pin engines (R241, R242) -/

/-- An occurrence sets at most a MISS bit of the engine errors (R223). -/
theorem reg_occur (e ch : Nat) (src : Src) (t : Tick) (s : Block) {a : Nat} (ha : a % 0x10000 ≠ 8) : (occur e ch src t s).reg a = s.reg a := by
  have hne : a ∉ [ENG_ERR.addr e] := by
    rw [List.mem_singleton, ENG_ERR.addr, engBase]
    split <;> omega
  unfold occur
  dsimp only
  split_ifs
  · rfl
  · rfl
  · rfl
  · rw [missed, (regsBut_setFlag _ (ENG_ERR.MISS e) true).reg hne]
    rfl

theorem reg_withEdges (f : Block → Block) (s : Block) {a : Nat} (ha : a % 0x10000 ≠ 8) : (withEdges f s).reg a = (f s).reg a := by
  unfold withEdges
  refine foldl_keeps (g := fun t => Block.reg t a) (fun t k => ?_) _ _
  dsimp only
  split
  · split
    · exact reg_occur _ _ _ _ _ ha
    · rfl
  · rfl

theorem reg_applyPins (isDir : Bool) (mask value : Word) (s : Block) {a : Nat} (ha : a % 0x10000 ≠ 8) :
    (applyPins isDir mask value s).reg a = s.reg a := by
  unfold applyPins
  rw [reg_withEdges _ _ ha, reg_mk]

theorem reg_pinFaults (e : Nat) (s : Block) {a : Nat} (ha : a % 0x10000 ≠ 8) : (pinFaults e s).reg a = s.reg a := by
  unfold pinFaults
  refine (foldl_keeps (g := fun t => Block.reg t a) (fun t n => ?_) _ _).trans rfl
  dsimp only
  split
  · split <;> simp only [reg_applyPins _ _ _ _ ha]
  · rfl

theorem pinFault_fields {e cause : Nat} (s : Block) (h1 : 128 ≤ e) (h2 : e < 144) (hc : cause < 256) :
    (pinFault e cause s).fld (ENG_STAT.STATE e) = 2 ∧ (pinFault e cause s).fld (ENG_STAT.CAUSE e) = cause ∧
    (pinFault e cause s).evtStatus (engFaultEvt e) = true := by
  have haddr : ENG_STAT.addr e = 0x3000004 + 0x10000 * (e - 128) := by
    rw [ENG_STAT.addr, engBase, if_neg (by omega)]
    omega
  have hmod : ENG_STAT.addr e % 0x10000 ≠ 8 := by omega
  have hevt : ENG_STAT.addr e ∉ [evtStatusA (engFaultEvt e)] := by
    rw [List.mem_singleton, evtStatusA_eq, haddr, engFaultEvt, if_neg (by omega)]
    omega
  have hfld : ∀ f : RF, f.addr = ENG_STAT.addr e →
      (pinFault e cause s).fld f = ((s.setFld (ENG_STAT.STATE e) 2).setFld (ENG_STAT.CAUSE e) cause).fld f := by
    intro f hf
    rw [pinFault, (regsBut_raise _ _).fld (by rw [hf]; exact hevt)]
    exact fld_congr _ _ _ (reg_pinFaults e _ (by rw [hf]; exact hmod))
  refine ⟨?_, ?_, ?_⟩
  · rw [hfld _ rfl, fld_setFld_apart _ _ _ _ (.inr (.inr (Nat.le_of_ble_eq_true rfl))), fld_setFld _ _ _ (Nat.le_of_ble_eq_true rfl)]
    rfl
  · rw [hfld _ rfl, fld_setFld _ _ _ (Nat.le_of_ble_eq_true rfl)]
    exact Nat.mod_eq_of_lt hc
  · rw [pinFault, evtStatus_raise, decide_eq_true rfl, Bool.true_or]

/-! ### Cooling and shedding (R563, R565 to R567) -/

theorem fanTachWord_becomes {w : Word} {s : State} (h0 : 0 < w.toNat * Config.fanPulses.toNat)
    (hv : 48000000000 / (w.toNat * Config.fanPulses.toNat) ≤ 65535) : Becomes (.fanTachWord w) s
    (fanHeard ((popSunk 5 s.blk).setFld TH_COOL_STAT.FAN_RPM (48000000000 / (w.toNat * Config.fanPulses.toNat)))) :=
  becomes_of_eq rfl (congrArg fanHeard (if_neg (by omega)))

theorem fanTachWord_becomes_zero {w : Word} {s : State} (h : w.toNat * Config.fanPulses.toNat = 0) : Becomes (.fanTachWord w) s
    (fanHeard ((popSunk 5 s.blk).draw.setFld TH_COOL_STAT.FAN_RPM (popSunk 5 s.blk).drawn.toNat)) :=
  becomes_of_eq rfl (congrArg fanHeard (if_pos (.inl h)))

/-- A fan found silent. -/
def fanSilent (s : Block) : Block := ({ s with th := { s.th with fanStalled := true } } : Block).setLive 916 true

theorem fanSilent_fields (s : Block) : (fanSilent s).th.fanStalled = true ∧ (fanSilent s).evtLive 916 = true ∧
    (fanSilent s).flag TH_STAT.COOLING_LOST = s.flag TH_STAT.COOLING_LOST := by
  unfold fanSilent
  refine ⟨by rw [setLive_th], ?_, ?_⟩
  · rw [evtLive_setLive _ _ _ _ (by decide) (by decide), if_pos rfl]
  · rw [(regsBut_setLive _ _ _).flag (by decide), flag_mk]

/-! ### The region model notes its band (R561, R574) -/

/-- The band in force is one that the hour has seen. -/
def bandNoted (s : Block) : Block := { s with th := { s.th with bandsSeen := s.th.bandsSeen ||| 2 ^ s.fld TH_STAT.BAND } }

theorem bandNoted_seen (s : Block) : (bandNoted s).th.bandsSeen.testBit ((bandNoted s).fld TH_STAT.BAND) = true := by
  have hband : (bandNoted s).fld TH_STAT.BAND = s.fld TH_STAT.BAND := rfl
  rw [hband, bandNoted, Nat.testBit_or, Nat.testBit_two_pow_self, Bool.or_true]

theorem regionModelStep_becomes (r : BitVec 3) (rl rc : BitVec 16) (s : State) : ∃ u, Becomes (.regionModelStep r rl rc) s (bandNoted u) :=
  ⟨_, rfl⟩

/-! ### Core voltage (R46, R570) -/

/-- Since when the delays have been below and above their limits. -/
def vidTimed (s : Block) : Block :=
  { s with th := { s.th with
    vidLowSince := holdSince s (decide (slowest s < s.fld TH_VID_TGT.DLY_LOWER)) s.th.vidLowSince,
    vidHighSince := holdSince s (decide (s.fld TH_VID_TGT.DLY_RAISE < slowest s) && decide (s.fld SYS_VID.CODE = 50)) s.th.vidHighSince } }

/-- The code wanted, before the floor. -/
def vidWanted (s : Block) : Nat :=
  if decide (s.fld TH_VID_TGT.DLY_RAISE < slowest s) then min 50 (s.fld SYS_VID.CODE + 1)
  else if lasted (vidTimed s) (vidTimed s).th.vidLowSince (100 * msT) && !s.pwr.coreDown then max (vidMin s) (s.fld SYS_VID.CODE - 1)
  else max (vidMin s) (s.fld SYS_VID.CODE)

/-- The block with its target code. -/
def vidAimed (s : Block) : Block := { vidTimed s with pwr := { s.pwr with vidTarget := max (vidWanted s) (vidMin s) } }

/-- The highest code has been too slow for 100 ms. -/
def vidCeiling (s : Block) : Bool := lasted (vidAimed s) (vidAimed s).th.vidHighSince (100 * msT)

theorem vidControlTick_becomes (s : State) : Becomes .vidControlTick s (flushRuns
    ((if vidCeiling s.blk && !(vidAimed s.blk).evtLive 918 then startPlan (vidAimed s.blk) else vidAimed s.blk).setLive 918 (vidCeiling s.blk))) :=
  rfl

theorem vidControlTick_below {s : State} (h : ¬(s.blk.fld TH_VID_TGT.DLY_RAISE < slowest s.blk ∧ s.blk.fld SYS_VID.CODE = 50)) :
    Becomes .vidControlTick s (flushRuns ((vidAimed s.blk).setLive 918 false)) := by
  have hhigh : (decide (s.blk.fld TH_VID_TGT.DLY_RAISE < slowest s.blk) && decide (s.blk.fld SYS_VID.CODE = 50)) = false := by
    rw [← Bool.decide_and, decide_eq_false h]
  have hnone : (vidAimed s.blk).th.vidHighSince = none := by
    unfold vidAimed vidTimed
    dsimp only
    rw [hhigh]
    rfl
  have hceil : vidCeiling s.blk = false := by
    rw [vidCeiling, hnone]
    rfl
  refine becomes_of_eq (vidControlTick_becomes s) ?_
  rw [hceil]
  rfl

theorem vidAimed_fields (s : Block) : (flushRuns ((vidAimed s).setLive 918 false)).pwr.vidTarget = max (vidWanted s) (vidMin s) ∧
    (flushRuns ((vidAimed s).setLive 918 false)).fld SYS_VID.CODE = s.fld SYS_VID.CODE ∧
    (flushRuns ((vidAimed s).setLive 918 false)).evtLive 918 = false ∧
    (flushRuns ((vidAimed s).setLive 918 false)).th.vidLowSince = (vidTimed s).th.vidLowSince := by
  refine ⟨?_, ?_, ?_, ?_⟩
  · rw [flushRuns_pwr, setLive_pwr, vidAimed]
  · rw [fld_flushRuns _ (by decide), (regsBut_setLive _ _ _).fld (by decide), vidAimed, fld_mk, vidTimed, fld_mk]
  · rw [evtLive_flushRuns _ _ (by decide), evtLive_setLive _ _ _ _ (by decide) (by decide), if_pos rfl]
  · rw [flushRuns_vidLowSince, setLive_th, vidAimed]

theorem vidWanted_raise {s : Block} (h : s.fld TH_VID_TGT.DLY_RAISE < slowest s) (hc : s.fld SYS_VID.CODE < 50) :
    vidWanted s = s.fld SYS_VID.CODE + 1 := by
  rw [vidWanted, if_pos (decide_eq_true h)]
  omega

theorem vidTimed_notLow {s : Block} (h : s.fld TH_VID_TGT.DLY_LOWER ≤ slowest s) : (vidTimed s).th.vidLowSince = none := by
  unfold vidTimed
  dsimp only
  rw [decide_eq_false (not_lt.mpr h)]
  rfl

theorem vidWanted_hold {s : Block} (h : slowest s ≤ s.fld TH_VID_TGT.DLY_RAISE) (hl : s.fld TH_VID_TGT.DLY_LOWER ≤ slowest s) :
    vidWanted s = max (vidMin s) (s.fld SYS_VID.CODE) := by
  rw [vidWanted, decide_eq_false (not_lt.mpr h), vidTimed_notLow hl]
  rfl

/-- One step of the code. -/
def vidGo (v : Nat) (s : Block) : Block :=
  noteRun SYS_VID.addr s (({ s with pwr := { s.pwr with lastVidStep := s.now } } : Block).setFld SYS_VID.CODE v)

theorem vidGo_fields {v : Nat} (s : Block) (h : v < 64) : (vidGo v s).fld SYS_VID.CODE = v ∧ (vidGo v s).pwr.lastVidStep = s.now := by
  unfold vidGo
  constructor
  · rw [(regsBut_noteRun _ _ _).fld (by decide), fld_setFld _ _ _ (by decide)]
    exact Nat.mod_eq_of_lt h
  · rw [noteRun_pwr, setFld_pwr]

/-- The step of the code, once 10 µs have passed. -/
def vidNext (s : Block) : Block :=
  if s.fld SYS_VID.CODE < s.pwr.vidTarget ∧ s.fld SYS_VID.CODE < 50 then vidGo (s.fld SYS_VID.CODE + 1) s
  else if s.pwr.vidTarget < s.fld SYS_VID.CODE ∧ inReadout s = false then vidGo (s.fld SYS_VID.CODE - 1) s
  else s

theorem vidStep_becomes (s : State) : Becomes .vidStep s
    (if s.blk.pwr.vidDriven && decide (10 * usT ≤ s.blk.sinceT s.blk.pwr.lastVidStep) then vidNext s.blk else s.blk) := rfl

/-! ### Ageing by the hour (R573 to R575) -/

/-- The hour counted, with what the core measured in it. -/
def hourCounted (l : List (BitVec 16)) (w : BitVec 16) (s : Block) : Block :=
  { s.incFld AG_HOURS.HOURS 1 with th := { s.th with
    aHour := (l.take 8).zipIdx.map (fun e => (e.2, (e.1.toNat : Rat) / 32768)), etaHour := (w.toNat : Rat) / 65536 } }

/-- The hour's history record at its place. -/
def hourWritten (s : Block) : Block := s.nvmWord ⟨historyOffset s.th.historySeq, historyRecord s, .bytes⟩

/-- The next hour begins. -/
def hourTurned (s : Block) : Block :=
  { s with th := { s.th with
    historySeq := s.th.historySeq + 1, slowPast := s.th.slowHour, slowHour := [], hottest := -32768, coldest := 32767, bandsSeen := 0 } }

theorem ageingHourly_becomes (l : List (BitVec 16)) (w : BitVec 16) {s : State} (hc : s.blk.pwr.coreDown = false)
    (hct : s.blk.flag SYS_DOMAIN.CT_ON = true) : ∃ high, Becomes (.ageingHourly l w) s
    (startPlan (hourTurned ((hourWritten (driftAnchor (hourCounted l w s.blk))).setLive 1012 high))) :=
  ⟨_, becomes_of_eq rfl (if_neg (by rw [hc, hct]; nofun))⟩

theorem startPlan_keeps {β : Type} {g : ThState → β} (h : ∀ t r, g { t with planRun := r } = g t) (s : Block) :
    g (startPlan s).th = g s.th := by
  unfold startPlan
  split
  · rfl
  · exact h s.th _

theorem driftAnchor_keeps {β : Type} {g : ThState → β} (h : ∀ t c b, g { t with driftCal := c, driftBase := b } = g t) (s : Block) :
    g (driftAnchor s).th = g s.th := by
  unfold driftAnchor
  split
  · rfl
  · exact h s.th _ _

/-- The hour is turned, its record written and a plan started (R574, R575). -/
theorem ageingHourly_completes (l : List (BitVec 16)) (w : BitVec 16) {s : State} (hcore : s.blk.pwr.coreDown = false)
    (hct : s.blk.flag SYS_DOMAIN.CT_ON = true) : Completes (.ageingHourly l w) s (fun t =>
      t.th.historySeq = s.blk.th.historySeq + 1 ∧ t.th.slowHour = [] ∧ t.th.slowPast = s.blk.th.slowHour ∧ t.th.hottest = -32768 ∧
      t.th.planRun.isSome = true ∧ t.th.bandsSeen = 0) := by
  obtain ⟨high, hb⟩ := ageingHourly_becomes l w hcore hct
  obtain ⟨u, hu⟩ : ∃ u, u = (hourWritten (driftAnchor (hourCounted l w s.blk))).setLive 1012 high := ⟨_, rfl⟩
  have hth : u.th = (driftAnchor (hourCounted l w s.blk)).th := by rw [hu, setLive_th, hourWritten, nvmWord_th]
  have hseq : u.th.historySeq = s.blk.th.historySeq := by
    rw [hth, driftAnchor_keeps (g := ThState.historySeq) fun _ _ _ => rfl]
    rfl
  have hslow : u.th.slowHour = s.blk.th.slowHour := by
    rw [hth, driftAnchor_keeps (g := ThState.slowHour) fun _ _ _ => rfl]
    rfl
  rw [← hu] at hb
  refine completes_of_becomes hb ⟨?_, ?_, ?_, ?_, startPlan_planRun _, ?_⟩
  · rw [startPlan_keeps (g := ThState.historySeq) fun _ _ => rfl, ← hseq]
    rfl
  · exact startPlan_keeps (g := ThState.slowHour) (fun _ _ => rfl) _
  · rw [startPlan_keeps (g := ThState.slowPast) fun _ _ => rfl, ← hslow]
    rfl
  · exact startPlan_keeps (g := ThState.hottest) (fun _ _ => rfl) _
  · exact startPlan_keeps (g := ThState.bandsSeen) (fun _ _ => rfl) _

/-! ### Plans (R575, R577, R578) -/

/-- What a plan published last, and what awaits publication. -/
def plans (s : Block) : PlanModel × Option PlanModel := (s.th.plan, s.th.planNext)

theorem plans_of_th {s t : Block} (h : t.th = s.th) : plans t = plans s := by unfold plans; rw [h]

theorem plans_setAdv (k v : Nat) (s : Block) : plans (setAdv k v s) = plans s := rfl

theorem plans_regrant (s : Block) : plans (regrant s) = plans s := by
  unfold regrant
  split
  · rfl
  · refine foldl_keeps (fun t q => plans_of_th ?_) _ s
    dsimp only
    split_ifs <;> simp

theorem plans_publishAdv (s : Block) : plans (publishAdv s) = plans s := by
  unfold publishAdv
  generalize List.range 9 = profiles, List.range 6 = bands
  refine foldl_keeps (g := plans) (fun t p => foldl_keeps (fun u b => ?_) _ t) _ s
  dsimp only
  split
  · rfl
  · split
    · split_ifs
      · rw [plans_setAdv]
        exact plans_of_th (by simp)
      · rfl
      · rfl
    · rfl

theorem plans_release (s : Block) (p : WaitOn → Bool) (f : Reply → Reply) : plans (s.release p f) = plans s := by
  unfold Block.release
  refine foldl_keeps (g := plans) (fun t r => ?_) _ _
  split
  · rfl
  · exact plans_of_th (deliver_th t r)

theorem plans_publishPlan {m : PlanModel} {s : Block} (h : s.th.planNext = some m) : plans (publishPlan s) = (m, none) := by
  have hregions : ∀ u : Block, plans ((List.range 8).foldl (fun (t : Block) r =>
      (t.setFld (AG_REGION.INDEX r) (smGet 1 m.a r * 32768).floor.toNat).setFld (AG_REGION.GUARD r)
        (min 65535 (smGet (1 / 10) m.g r * 65536).floor.toNat)) u) = plans u := by
    intro u
    refine foldl_keeps (g := plans) (fun t r => ?_) _ u
    rfl
  have hcairn : ∀ (u : Block) (o k a x y e : Nat), plans ((u.cairnN o k a x y).raise e) = plans u := fun u o k a x y e =>
    plans_of_th (by rw [raise_th, cairnN_th])
  rw [publishPlan, h]
  dsimp only
  split
  · rw [plans_publishAdv, plans_regrant, hcairn, hregions]
    rfl
  · rw [plans_release, plans_publishAdv, plans_regrant, hcairn, hregions]
    rfl

/-- The plan computed, awaiting its publication. -/
def planDone (high : Bool) (s : Block) : Block :=
  (({ s with th := { s.th with planRun := none, planNext := some (planModel s) } } : Block).setFlag AG_STAT.RUNNING false).setLive 1010 high

theorem planDone_th (high : Bool) (s : Block) :
    (planDone high s).th = { s.th with planRun := none, planNext := some (planModel s) } := by
  unfold planDone
  rw [setLive_th, setFlag_th]

theorem planDone_running (high : Bool) (s : Block) : (planDone high s).running = s.running ∧
    (planDone high s).flag AG_STAT.RUNNING = false := by
  unfold planDone Block.running
  constructor
  · rw [(regsBut_setLive _ _ _).flag (by decide), (regsBut_setFlag _ _ _).flag (by decide), flag_mk]
  · rw [(regsBut_setLive _ _ _).flag (by decide), flag_setFlag_same _ _ _ (by decide)]

theorem planComputeDone_becomes {s : State} (hp : s.blk.th.planRun.isSome = true) (hc : s.blk.pwr.coreDown = false) :
    ∃ high, Becomes .planComputeDone s
      (if (planDone high s.blk).running then planDone high s.blk else rateCheck (publishPlan (planDone high s.blk))) :=
  ⟨_, becomes_of_eq rfl (if_pos (by rw [hp, hc]; rfl))⟩

/-! ### Readings of 145 °C (R569) -/

theorem diode_tripNoted_taken (k : Nat) (temp : BitVec 16) (dly : BitVec 12) (s : Block) :
    (tripNoted (diodeTaken k temp dly s)).diode k = (diodeTaken k temp dly s).diode k :=
  diode_of_th (congrArg ThState.diodes (tripNoted_th _)) k

/-- A hot reading trips when it is the second, and no latch is set. -/
theorem tripsNow_hot {k : Nat} {temp : BitVec 16} (dly : BitVec 12) {s : Block} (hv : (s.diode k).valid = true)
    (hlo : 2320 ≤ temp.toInt) (hhi : temp.toInt ≤ 2720) :
    tripsNow k (tripNoted (diodeTaken k temp dly s)) = (decide (1 ≤ (s.diode k).hotRun) && !s.pwr.thermalLatch) := by
  obtain ⟨hrun, hvalid⟩ := hotRun_diodeTaken dly hv hlo hhi
  rw [tripsNow, diode_tripNoted_taken, hrun, hvalid, tripNoted_pwr, diodeTaken_pwr, Bool.true_and]
  congr 1
  exact decide_eq_decide.mpr ⟨fun h => by omega, fun h => by omega⟩

/-- The first hot reading is counted, and its registers and TRIP_NEAR follow (R555, R569). -/
theorem diodeSample_firstHot {c : BitVec 7} {temp : BitVec 16} {dly : BitVec 12} {s : State} (hv : (s.blk.diode c.toNat).valid = true)
    (hlo : 2320 ≤ temp.toInt) (hhi : temp.toInt ≤ 2720) (haway : (s.blk.diode c.toNat).awayAt = none)
    (hrun : (s.blk.diode c.toNat).hotRun = 0) : ∃ u : Block, Becomes (.diodeSample c temp dly) s u ∧ (u.diode c.toNat).hotRun = 1 ∧
      u.fld (MSN_CLUSTER.TEMP c.toNat) = temp.toNat ∧ u.fld (MSN_CLUSTER.DLY c.toNat) = dly.toNat ∧ u.flag TH_STAT.TRIP_NEAR = true ∧
      u.pwr = s.blk.pwr := by
  obtain ⟨htemp, hdly⟩ := fld_diodeTaken temp dly s.blk (k := c.toNat)
  obtain ⟨hone, hvalid⟩ := hotRun_diodeTaken dly hv hlo hhi
  have hlow : MSN_CLUSTER.addr c.toNat < 0x2600000 := by
    have := c.isLt
    rw [MSN_CLUSTER.addr]
    omega
  have hnear : tripNear (diodeTaken c.toNat temp dly s.blk) = true := by
    refine tripNear_of c.isLt hvalid ?_
    rw [diode_diodeTaken]
    exact le_trans (by decide) hlo
  refine ⟨tripNoted (diodeTaken c.toNat temp dly s.blk), ?_, ?_, ?_, ?_, ?_, ?_⟩
  · refine becomes_of_eq (diodeSample_becomes c temp dly s) ?_
    rw [diodeSampled_valid hv hlo hhi haway, tripsNow_hot dly hv hlo hhi, hrun]
    exact if_neg nofun
  · rw [diode_tripNoted_taken, hone, hrun]
  · rw [fld_tripNoted _ hlow, htemp]
  · rw [fld_tripNoted _ hlow, hdly]
  · rw [tripNear_tripNoted, hnear]
  · rw [tripNoted_pwr, diodeTaken_pwr]

theorem thermalShutdown_pwr (s : Block) : (thermalShutdown s).pwr.thermalLatch = true ∧ (thermalShutdown s).pwr.mainEn = false := ⟨rfl, rfl⟩

/-! ### Each row by its cases -/

/-- A valid reading, its limit and the flags (R556). -/
theorem tdSample_reads {n : BitVec 2} {temp : BitVec 16} {s : State} (h : s.blk.fld (TH_TD0.TYPE n.toNat) ≠ 0) :
    Completes (.tdSample n temp true) s (fun t => t.fld (TH_TD1.TEMP n.toNat) = temp.toNat ∧ t.flag (TH_TD1.OK n.toNat) = true ∧
      t.flag (TH_TD1.OVER n.toNat) = decide (sgn 8 (s.blk.fld (TH_TD0.LIMIT n.toNat)) * 16 < temp.toInt)) := by
  have hn : TH_TD1.addr n.toNat < 0x2800000 := td1_low n.isLt
  obtain ⟨rose, hot, low, hb⟩ := tdSample_ok (temp := temp) h
  obtain ⟨htemp, hok, hover⟩ := tdRead_fields temp s.blk (i := n.toNat)
  refine completes_of_becomes hb ⟨?_, ?_, ?_⟩
  · rw [fld_riseLive _ _ _ _ hn, fld_riseLive _ _ _ _ hn, htemp]
  · rw [flag_riseLive _ _ _ _ hn, flag_riseLive _ _ _ _ hn, hok]
  · rw [flag_riseLive _ _ _ _ hn, flag_riseLive _ _ _ _ hn, hover]

/-- An input open or shorted keeps its last reading (R556). -/
theorem tdSample_opens {n : BitVec 2} {temp : BitVec 16} {s : State} (h : s.blk.fld (TH_TD0.TYPE n.toNat) ≠ 0) :
    Completes (.tdSample n temp false) s (fun t => t.flag (TH_TD1.OK n.toNat) = false ∧ t.flag (TH_TD1.OVER n.toNat) = false ∧
      t.fld (TH_TD1.TEMP n.toNat) = s.blk.fld (TH_TD1.TEMP n.toNat) ∧ t.evtLive 912 = true) := by
  have hn : TH_TD1.addr n.toNat < 0x2800000 := td1_low n.isLt
  obtain ⟨rose, hot, hb⟩ := tdSample_open (temp := temp) h
  obtain ⟨hok, hover, htemp⟩ := tdOpen_fields s.blk (i := n.toNat)
  refine completes_of_becomes hb ⟨?_, ?_, ?_, ?_⟩
  · rw [flag_riseLive _ _ _ _ hn, flag_riseLive _ _ _ _ hn, hok]
  · rw [flag_riseLive _ _ _ _ hn, flag_riseLive _ _ _ _ hn, hover]
  · rw [fld_riseLive _ _ _ _ hn, fld_riseLive _ _ _ _ hn, htemp]
  · rw [evtLive_riseLive _ _ _ _ _ (by decide) (by decide), if_neg (by decide),
      evtLive_riseLive _ _ _ _ _ (by decide) (by decide), if_pos rfl]

theorem engineFault_becomes {e : BitVec 8} {cause : BitVec 3} {s : State} (he : e.toNat < 144) : Becomes (.engineFault e cause) s
    (if 1 ≤ cause.toNat ∧ cause.toNat ≤ 5 ∧ s.blk.fld (ENG_STAT.STATE e.toNat) ≠ 2 then engineFault e.toNat cause.toNat s.blk else s.blk) := by
  change execEngineFault e cause s = _
  unfold execEngineFault
  exact onBlock_next (if_neg (not_le.mpr he))

/-- Settles O53: each row is the named update of its part, with what that leaves alone; the hourly and plan rows follow the plan through
its publication. -/
theorem thermalEvents : Obligations.ThermalEvents := by
  unfold Obligations.ThermalEvents
  refine ⟨fun s => ⟨?latched, ?hot, ?shutdown, ?sensorOff, ?sensor, ?noShed, ?shedExit, ?noRise, ?rise, ?model, ?bands, ?cooling, ?noCooling,
    ?tach, ?tachZero, ?noStall, ?stall, ?faults, ?vidRaise, ?vidHold, ?vidIdle, ?vidMoves⟩,
    fun s => ⟨?hourly, ?noPlan, ?plan, ?published, ?numbered⟩⟩
  case latched =>
    intro c temp dly h
    refine ⟨_, becomes_of_eq (diodeSample_becomes c temp dly s) (if_neg ?_), diodeSampled_reading _ _ _ _⟩
    rw [tripsNow, diodeSampled_thermalLatch, h, Bool.not_true, Bool.and_false]
    nofun
  case hot => exact fun c temp dly => diodeSample_firstHot
  case shutdown =>
    intro c temp dly hv hlo hhi haway hrun hlatch
    refine ⟨tripNoted (diodeTaken c.toNat temp dly s.blk), becomes_of_eq (diodeSample_becomes c temp dly s) ?_, thermalShutdown_pwr _⟩
    rw [diodeSampled_valid hv hlo hhi haway, tripsNow_hot dly hv hlo hhi, decide_eq_true hrun, hlatch]
    exact if_pos rfl
  case sensorOff =>
    intro n temp ok h
    exact tdSample_off h
  case sensor => exact fun n temp h => ⟨tdSample_reads h, tdSample_opens h⟩
  case noShed =>
    intro h
    exact becomes_of_eq rfl (if_neg (by rw [h]; nofun))
  case shedExit =>
    intro at_ hn hbelow hlong hstep
    refine ⟨fun hrise hcool => ⟨_, rfl, becomes_of_eq rfl (if_pos ?_)⟩, fun hrise h4 => becomes_of_eq rfl (if_neg ?_),
      fun hcool h3 => becomes_of_eq rfl (if_neg ?_)⟩
    · simp [hn, hbelow, hlong, hstep, hrise, hcool]
    · simp [hrise, h4]
    · simp [hcool, h3]
  case noRise =>
    intro h
    exact becomes_of_eq rfl (if_neg (by rw [h]; nofun))
  case rise =>
    intro hrise hlong
    have hnow : (s.blk.flag TH_STAT.RISE_ACT && decide (500 * msT ≤ s.blk.sinceT s.blk.th.actStepAt)) = true := by
      rw [hrise, decide_eq_true hlong]
      rfl
    refine ⟨fun h => ⟨_, rfl, becomes_of_eq rfl ((if_pos hnow).trans ?_)⟩, fun h => becomes_of_eq rfl ((if_pos hnow).trans ?_)⟩
    · rw [if_pos h]
    · rw [if_neg (not_lt.mpr h)]
  case model =>
    intro r rl rc
    obtain ⟨u, hu⟩ := regionModelStep_becomes r rl rc s
    exact ⟨_, hu, bandNoted_seen u⟩
  case bands =>
    intro b v hb
    exact nextBand_spec b v hb
  case cooling =>
    intro hct hrun
    exact becomes_of_eq rfl (if_pos (by rw [hct, hrun]; rfl))
  case noCooling =>
    intro hct
    exact becomes_of_eq rfl (if_neg (by rw [hct]; nofun))
  case tach =>
    intro w h0 hv
    obtain ⟨hat, hstall, hlive, hfree, hrpm⟩ :=
      fanHeard_fields ((popSunk 5 s.blk).setFld TH_COOL_STAT.FAN_RPM (48000000000 / (w.toNat * Config.fanPulses.toNat)))
    refine completes_of_becomes (fanTachWord_becomes h0 hv) ⟨?_, ?_, hstall, hlive, ?_⟩
    · rw [hrpm, fld_setFld _ _ _ (by decide)]
      exact Nat.mod_eq_of_lt (Nat.lt_succ_of_le hv)
    · rw [hat]
      exact congrArg some (popSunk_keeps (g := Block.now) (fun _ _ => rfl) 5 s.blk)
    · rw [hfree]
      exact popSunk_keeps (g := Block.free) (fun _ _ => rfl) 5 s.blk
  case tachZero =>
    intro w h
    obtain ⟨hat, hstall, -, -, hrpm⟩ := fanHeard_fields ((popSunk 5 s.blk).draw.setFld TH_COOL_STAT.FAN_RPM (popSunk 5 s.blk).drawn.toNat)
    refine completes_of_becomes (fanTachWord_becomes_zero h) ⟨?_, ?_, hstall⟩
    · rw [hrpm, fld_setFld _ _ _ (by decide), popSunk_keeps (g := Block.drawn) (fun _ _ => rfl) 5 s.blk]
      rfl
    · rw [hat]
      exact congrArg some (popSunk_keeps (g := Block.now) (fun _ _ => rfl) 5 s.blk)
  case noStall =>
    rintro (hduty | hlast)
    · exact becomes_of_eq rfl (if_neg fun h => absurd h.1 (not_le.mpr hduty))
    · exact becomes_of_eq rfl (if_neg fun h => absurd h.2.1 (ne_true_of_eq_false hlast))
  case stall =>
    intro hduty hlast hstall
    obtain ⟨hs, hlive, hlost⟩ := fanSilent_fields s.blk
    exact ⟨fanSilent s.blk, hs, hlive, hlost, becomes_of_eq rfl (if_pos ⟨hduty, hlast, hstall⟩)⟩
  case faults =>
    intro e cause he h1 h5
    have hb := engineFault_becomes (cause := cause) (s := s) he
    have hfaults (h2 : s.blk.fld (ENG_STAT.STATE e.toNat) ≠ 2) : Becomes (.engineFault e cause) s (engineFault e.toNat cause.toNat s.blk) :=
      becomes_of_eq hb (if_pos ⟨h1, h5, h2⟩)
    refine ⟨fun h2 => becomes_of_eq hb (if_neg fun h => h.2.2 h2), hfaults, fun h2 hpin h132 h133 => ?_⟩
    refine completes_of_becomes (becomes_of_eq (hfaults h2) ?_) (pinFault_fields s.blk hpin he (lt_of_le_of_lt h5 (by decide)))
    rw [engineFault, if_neg (not_lt.mpr hpin)]
    exact if_neg (by omega)
  case vidRaise =>
    intro hslow hcode hmin
    obtain ⟨htarget, hkept, hlive, -⟩ := vidAimed_fields s.blk
    refine completes_of_becomes (vidControlTick_below fun h => absurd h.2 (ne_of_lt hcode)) ⟨?_, hkept, hlive⟩
    rw [htarget, vidWanted_raise hslow hcode]
  case vidHold =>
    intro hfast hlow
    obtain ⟨htarget, -, -, hsince⟩ := vidAimed_fields s.blk
    refine completes_of_becomes (vidControlTick_below fun h => absurd h.1 (not_lt.mpr hfast)) ⟨?_, ?_⟩
    · rw [htarget, vidWanted_hold hfast hlow]
      exact max_eq_left (le_max_left _ _)
    · rw [hsince, vidTimed_notLow hlow]
  case vidIdle =>
    rintro (hoff | hsoon)
    · exact becomes_of_eq (vidStep_becomes s) (if_neg (by rw [hoff]; nofun))
    · refine becomes_of_eq (vidStep_becomes s) (if_neg ?_)
      rw [decide_eq_false (not_le.mpr hsoon), Bool.and_false]
      nofun
  case vidMoves =>
    intro hdriven hlong
    have hmoves : Becomes .vidStep s (vidNext s.blk) := by
      refine becomes_of_eq (vidStep_becomes s) (if_pos ?_)
      rw [hdriven, decide_eq_true hlong]
      rfl
    have hcode : s.blk.fld SYS_VID.CODE < 64 := fld_lt _ _
    refine ⟨fun hup h50 => ?_, fun hdown hro => ?_, fun hdown hro => becomes_of_eq hmoves ?_⟩
    · exact completes_of_becomes (becomes_of_eq hmoves (if_pos ⟨hup, h50⟩)) (vidGo_fields s.blk (by omega))
    · refine completes_of_becomes (becomes_of_eq hmoves ?_) (vidGo_fields s.blk (v := s.blk.fld SYS_VID.CODE - 1) (by omega))
      rw [vidNext, if_neg (by omega), if_pos ⟨hdown, hro⟩]
    · rw [vidNext, if_neg (by omega), hro, if_neg (by simp)]
  case hourly =>
    refine fun l w => ⟨fun h => becomes_of_eq rfl (if_pos ?_), fun hcore hct => ageingHourly_completes l w hcore hct⟩
    rcases h with h | h <;> simp [h]
  case noPlan =>
    intro h
    refine becomes_of_eq rfl (if_neg ?_)
    rcases h with h | h <;> simp [h]
  case plan =>
    intro hrun hcore
    obtain ⟨high, hb⟩ := planComputeDone_becomes hrun hcore
    have hth := planDone_th high s.blk
    obtain ⟨hrunning, hflag⟩ := planDone_running high s.blk
    rw [hrunning] at hb
    refine ⟨fun h => completes_of_becomes (becomes_of_eq hb (if_pos h)) ⟨?_, ?_, ?_, hflag⟩, fun h =>
      ⟨planDone high s.blk, ?_, ?_, hflag, becomes_of_eq hb (if_neg (ne_true_of_eq_false h))⟩⟩ <;> rw [hth]
  case published =>
    intro m h
    exact ⟨congrArg Prod.fst (plans_publishPlan h), congrArg Prod.snd (plans_publishPlan h)⟩
  case numbered => rfl

end Sys2Proof.Machine
end

section
/-! Commands that start or stop capture, switch the part off or boot it again, and what FORCE does about an open take (R66, R72, R77, R85,
R86, R265, R510). -/

namespace Sys2Proof.Machine

/-! ### Checks and bodies of a request -/

/-- A request that passes its own checks executes its body. -/
theorem executes_of {i : Instr} {q : Req} {op cls maxRes : Nat} {checks : Block → List Check} {body : Block → Block} {s : State}
    (hx : exec i s = s.onBlock (runReq op cls maxRes q checks body)) (h : AtOnce cls maxRes q s.blk)
    (hc : ∀ c ∈ checks (touchMaintain q.carrier s.blk), c.1 = false) : Executes i q body s :=
  hx.trans (onBlock_next (runReq_ok h hc))

theorem executes_congr {i : Instr} {q : Req} {body body' : Block → Block} {s : State} (h : Executes i q body s)
    (hb : body (touchMaintain q.carrier s.blk) = body' (touchMaintain q.carrier s.blk)) : Executes i q body' s := by
  unfold Executes at h ⊢
  rw [h, hb]

theorem completes_of_executes {i : Instr} {q : Req} {body : Block → Block} {s : State} {P : Block → Prop} (h : Executes i q body s)
    (hp : P (body (touchMaintain q.carrier s.blk))) : Completes i s P := ⟨_, h, hp⟩

theorem shape_of_shaped {q : Req} {n : Nat} {res : List Nat} (h : Shaped q n res) : (shape q n res).1 = false := by
  obtain ⟨hlen, hres⟩ := h
  have hany : res.any (fun o => decide (pByte q o ≠ 0)) = false :=
    List.any_eq_false.mpr fun o ho => by simp [hres o ho]
  rw [shape, hany, decide_eq_false (not_not_intro hlen)]
  rfl

/-- Parameters of the right length, none of them reserved. -/
theorem shape_of_length {q : Req} {n : Nat} (h : q.params.length = n) : (shape q n []).1 = false :=
  shape_of_shaped ⟨h, fun _ ho => absurd ho List.not_mem_nil⟩

/-- When one status alone fails, it is the one answered. -/
theorem firstFail_recording {l : List Check} (h : (true, stRecording) ∈ l) (hl : ∀ c ∈ l, c = (true, stRecording) ∨ c.1 = false) :
    firstFail l = some stRecording := by
  have hany : ∀ st, (l.any fun c => c.1 && decide (c.2 = st)) = decide (stRecording = st) := by
    intro st
    by_cases hst : stRecording = st
    · rw [decide_eq_true hst]
      exact List.any_eq_true.mpr ⟨_, h, by rw [decide_eq_true hst]; rfl⟩
    · rw [decide_eq_false hst]
      refine List.any_eq_false.mpr fun c hc => ?_
      rcases hl c hc with rfl | hc
      · rw [decide_eq_false hst]
        nofun
      · rw [hc]
        nofun
  unfold firstFail
  simp only [hany]
  rfl

/-- While a take is open the command is refused, or with FORCE closes the take first (R72, R77). -/
def Barred (i : Instr) (q : Req) (op : Nat) (s : State) : Prop :=
  (forced q = false → Executes i q (refuse op q stRecording) s) ∧ (forced q = true → Executes i q (forceClose op q) s)

/-- A command that an open take bars: BUSY_RECORDING, or with FORCE the take's close (R72, R77). -/
theorem barred_by_take {i : Instr} {q : Req} {op cls maxRes : Nat} {checks : Block → List Check} {body : Block → Block} {s : State}
    (hx : exec i s = s.onBlock (runReq op cls maxRes q checks body)) (h : AtOnce cls maxRes q s.blk)
    (hrec : (!forced q, stRecording) ∈ checks (touchMaintain q.carrier s.blk))
    (hrest : ∀ c ∈ checks (touchMaintain q.carrier s.blk), c = (!forced q, stRecording) ∨ c.1 = false)
    (hbody : body (touchMaintain q.carrier s.blk) = forceClose op q (touchMaintain q.carrier s.blk)) :
    Barred i q op s := by
  refine ⟨fun hf => ?_, fun hf => ?_⟩
  · rw [hf] at hrec hrest
    exact hx.trans (onBlock_next (runReq_refused h (firstFail_recording hrec hrest)))
  · refine executes_congr (executes_of hx h fun c hc => ?_) hbody
    rcases hrest c hc with rfl | hc
    · rw [hf]
      rfl
    · exact hc

/-! ### The system words through the schedule's registers -/

/-- The words of the system page, at 0x100 and below, read as before. -/
def SysKept (s t : Block) : Prop := ∀ a, a < 0x100 → t.reg a = s.reg a

namespace SysKept

variable {s t u : Block}

theorem of_regsBut {l : List Nat} (h : RegsBut l s t) (hl : ∀ x ∈ l, 0x100 ≤ x) : SysKept s t := fun a ha =>
  h a fun hm => absurd (hl a hm) (not_le.mpr ha)

theorem of_regs (h : t.regs = s.regs) : SysKept s t := fun a _ => reg_of_regs h a

theorem refl (s : Block) : SysKept s s := fun _ _ => rfl

theorem trans (h : SysKept s t) (h' : SysKept t u) : SysKept s u := fun a ha => (h' a ha).trans (h a ha)

theorem ite {c : Prop} [Decidable c] (ht : SysKept s t) (hu : SysKept s u) : SysKept s (if c then t else u) := by
  split <;> assumption

theorem foldl {α : Type} {f : Block → α → Block} (h : ∀ t x, SysKept t (f t x)) (l : List α) (s : Block) : SysKept s (l.foldl f s) :=
  fun a ha => foldl_keeps (g := fun t => t.reg a) (fun t x => h t x a ha) l s

end SysKept

section
variable (s : Block) (i : Nat)

theorem sysKept_setReg {a : Nat} (w : Word) (h : 0x100 ≤ a) : SysKept s (s.setReg a w) :=
  .of_regsBut (regsBut_setReg s a w) fun x hx => by rwa [List.mem_singleton.mp hx]

theorem sysKept_setFld {f : RF} (v : Nat) (h : 0x100 ≤ f.addr) : SysKept s (s.setFld f v) := sysKept_setReg s _ h

theorem sysKept_setFlag {f : RF} (b : Bool) (h : 0x100 ≤ f.addr) : SysKept s (s.setFlag f b) := sysKept_setReg s _ h

theorem sysKept_raise (e : Nat) : SysKept s (s.raise e) :=
  .of_regsBut (regsBut_raise s e) fun x hx => by rw [List.mem_singleton.mp hx, evtStatusA_eq]; omega

theorem sysKept_setArmed (b : Bool) : SysKept s (setArmed i b s) := by
  have hctl : 0x100 ≤ KS_CH_CTL.addr i := by
    rw [KS_CH_CTL.addr]
    omega
  have harmed : 0x100 ≤ KS_ARMED.addr 0 + 4 * (i / 32) := by
    rw [KS_ARMED.addr]
    omega
  exact (sysKept_setFlag s b hctl).trans (sysKept_setReg _ _ harmed)

theorem sysKept_disarmChan : SysKept s (disarmChan i s) := (sysKept_setArmed s i false).trans (.of_regs rfl)

theorem sysKept_disarmAll : SysKept s (disarmAll s) :=
  (SysKept.foldl (fun t j => .ite (sysKept_disarmChan t j) (.refl t)) _ s).trans (.of_regs rfl)

theorem sysKept_setCmp (t : Tick) : SysKept s (setCmp i t s) := by
  have hlo : 0x100 ≤ KS_CH_CMP_LO.addr i := by
    rw [KS_CH_CMP_LO.addr]
    omega
  have hhi : 0x100 ≤ KS_CH_CMP_HI.addr i := by
    rw [KS_CH_CMP_HI.addr]
    omega
  exact (sysKept_setFld s _ hlo).trans (sysKept_setFld _ _ hhi)

theorem sysKept_syncChan : SysKept s (syncChan s i) := by
  have hctl : 0x100 ≤ KS_CH_CTL.addr i := by
    rw [KS_CH_CTL.addr]
    omega
  unfold syncChan
  split
  · intro a ha
    rw [reg_mk]
    exact ((sysKept_setReg s _ hctl).trans (sysKept_setCmp _ i _)).trans (sysKept_setArmed _ i true) a ha
  · exact sysKept_disarmChan s i

theorem sysKept_syncSched : SysKept s (syncSched s) := by
  have hchans : SysKept s (if s.running then [0, 1, 2, 3].foldl syncChan s else s) := .ite (.foldl sysKept_syncChan _ s) (.refl s)
  have hwords (u : Block) (lo hi : Nat) (b c d : Bool) : SysKept u (((((u.setFld (FT_NEXT.NEXT 0) lo).setFld (FT_NEXT.NEXT 1) hi).setFlag
      FT_STAT.RUNNING b).setFlag FT_STAT.WAITING c).setFlag FT_STAT.IN_BURST d) :=
    ((((sysKept_setFld u lo (by decide)).trans (sysKept_setFld _ hi (by decide))).trans (sysKept_setFlag _ b (by decide))).trans
      (sysKept_setFlag _ c (by decide))).trans (sysKept_setFlag _ d (by decide))
  exact hchans.trans (hwords _ _ _ _ _ _)

theorem sysKept_updateDeficit : SysKept s (updateDeficit s) := by
  have hflag : ∀ b, SysKept s (s.setFlag REC_STAT.DEFICIT b) := fun b => sysKept_setFlag s b (by decide)
  exact .ite ((hflag _).trans (sysKept_raise _ _)) (hflag _)

theorem sysKept_policyCairn (c k a x y : Nat) : SysKept s (s.policyCairn c k a x y) :=
  .of_regsBut (regsBut_policyCairn s c k a x y) (by decide)

theorem sysKept_setGl (locked holdover : Bool) : SysKept s (setGl locked holdover s) := by
  have hflags : SysKept s ((s.setFlag FT_STAT.LOCKED locked).setFlag FT_STAT.HOLDOVER holdover) :=
    (sysKept_setFlag s _ (by decide)).trans (sysKept_setFlag _ _ (by decide))
  exact .ite (.refl s) (.ite ((hflags.trans (sysKept_policyCairn _ _ _ _ _ _)).trans (sysKept_raise _ _))
    (hflags.trans (sysKept_policyCairn _ _ _ _ _ _)))

/-! ### Capture starts (R265) -/

/-- The flags of a schedule that starts. -/
def captureSet : Block :=
  (((s.setFlag SYS_STATE.CAPTURE_EN true).setFlag SYS_STATE.SCHEDULE true).setFlag FT_STAT.YIELDED false).setFlag FT_STAT.RATE_OVER false

theorem captureSet_flags : (captureSet s).running = true ∧ (captureSet s).flag SYS_STATE.CAPTURE_EN = true := by
  unfold captureSet Block.running
  simp (disch := decide) only [flag_setFlag_apart, flag_setFlag_same, and_self]

/-- What was scheduled and recorded before is forgotten. -/
def captureCleared (d : Nat) : Block :=
  { s with
    ft := { s.ft with
      sched := [], table := [], nextNum := nextFrameNo s, lastGrst := none, burstLeft := 0, notBefore := s.now + BitVec.ofNat 64 d,
      glStart := false, yieldPeriod := none },
    pix := { s.pix with busyA := [], busyB := [], abOff := false, pulse := none, nextSet := none },
    rcd := { s.rcd with deltaKey := none, deltaLast := [] } }

/-- The RC domains lost to a fault are powered again (R56), and TREFCLK's loss is behind. -/
def capturePowered : Block :=
  let t := if s.pwr.rcFault then { (s.setFld SYS_DOMAIN.RC_ON 0xFF) with pwr := { s.pwr with rcFault := false, rcValidAt := none } } else s
  { t with pwr := { t.pwr with trefBlocked := false } }

/-- The first mark of the schedule, or the wait for genlock. -/
def firstMark (d : Nat) (at_ : Bool) : Block :=
  let n := s.ft.nextNum
  let first (g : Tick) (t : Block) : Block := addMarks [⟨g - 80000, .fcp n⟩] t
  if at_ && s.flag FT_CFG.START_AT then first (startTick s) { s with ft := { s.ft with te := 0, burstLeft := s.fld FT_BURST.FRAMES } }
  else match s.fld FT_CFG.TIMING with
    | 0 => first (s.now + BitVec.ofNat 64 d) s
    | 1 => { setGl false false s with ft := { s.ft with glStart := true } }
    | _ => s

theorem startCaptureIn_eq (origin d : Nat) (at_ : Bool) : startCaptureIn origin d at_ s =
    updateDeficit (syncSched (firstMark (capturePowered (captureCleared (captureSet ([0, 1, 2, 3].foldl (fun t i => disarmBy origin i t) s)) d))
      d at_)) := rfl

theorem sysKept_firstMark (d : Nat) (at_ : Bool) : SysKept s (firstMark s d at_) := by
  have hgl : SysKept s { setGl false false s with ft := { s.ft with glStart := true } } := (sysKept_setGl s false false).trans (.of_regs rfl)
  unfold firstMark
  dsimp only
  split
  · exact .of_regs rfl
  · split
    · exact .of_regs rfl
    · exact hgl
    · exact .refl s

theorem reg_capturePowered {a : Nat} (h : a ≠ SYS_DOMAIN.addr) : (capturePowered s).reg a = s.reg a := by
  unfold capturePowered
  dsimp only
  rw [reg_mk]
  split
  · rw [reg_mk]
    exact (regsBut_setFld s SYS_DOMAIN.RC_ON 0xFF).reg fun hm => h (List.mem_singleton.mp hm)
  · rfl

/-- The flags of a start stand when it is done. -/
theorem startCaptureIn_flags (origin d : Nat) (at_ : Bool) : (startCaptureIn origin d at_ s).running = true ∧
    (startCaptureIn origin d at_ s).flag SYS_STATE.CAPTURE_EN = true := by
  obtain ⟨u, hu⟩ : ∃ u, u = [0, 1, 2, 3].foldl (fun t i => disarmBy origin i t) s := ⟨_, rfl⟩
  have hreg : (startCaptureIn origin d at_ s).reg SYS_STATE.addr = (captureSet u).reg SYS_STATE.addr := by
    rw [startCaptureIn_eq, sysKept_updateDeficit _ _ (by decide), sysKept_syncSched _ _ (by decide), sysKept_firstMark _ _ _ _ (by decide),
      reg_capturePowered _ (by decide), captureCleared, reg_mk, ← hu]
  obtain ⟨hrun, hen⟩ := captureSet_flags u
  exact ⟨(flag_congr _ _ SYS_STATE.SCHEDULE hreg).trans hrun, (flag_congr _ _ SYS_STATE.CAPTURE_EN hreg).trans hen⟩

/-! ### Everything but AON loses power (R66) -/

theorem disarmAll_pwr : (disarmAll s).pwr = s.pwr := by
  unfold disarmAll
  refine foldl_keeps (g := Block.pwr) (fun t j => ?_) _ s
  split <;> rfl

/-- The block as `downToAon` leaves it, before the domains' word. -/
theorem downToAon_fields : (downToAon s).pwr.mainEn = false ∧ (downToAon s).reg SYS_DOMAIN.addr = 0x00800000 := by
  unfold downToAon
  dsimp only
  refine ⟨?_, ?_⟩
  · rw [disarmAll_pwr, setReg_pwr, setReg_pwr]
  · rw [sysKept_disarmAll _ _ (by decide), reg_setReg, if_pos rfl]

/-! ### RESTART boots anew (R86) -/

theorem leaveHeld_acc (testEn : Bool) : (leaveHeld testEn s).acc = s.acc := by
  unfold leaveHeld
  split <;> [rfl; (split <;> rfl)]

theorem latchPins_acc (p : Pins) : (latchPins p s).acc = s.acc := rfl

/-- The part boots as after RST_N, with the pins `p`. -/
def booted (p : Pins) : Block := leaveHeld p.testEn (latchPins p (resetKeep true s))

theorem booted_fields (p : Pins) : (booted s p).now = 0 ∧ (booted s p).ks.stopped = false ∧ (booted s p).fld SYS_BOOT.PRF = p.prf.toNat ∧
    (booted s p).acc.maintain = [] := by
  unfold booted
  refine ⟨?_, ?_, ?_, ?_⟩
  · rw [leaveHeld_now, latchPins_now]
  · rw [leaveHeld_ks, latchPins_stopped]
  · rw [fld_leaveHeld _ _ (by decide), prf_latchPins]
  · rw [leaveHeld_acc, latchPins_acc, resetKeep_maintain]

end

/-! ### Commands that an open take bars (R72, R77, R510) -/

@[simp] theorem touchMaintain_rsv (c : Carrier) (s : Block) : (touchMaintain c s).rsv = s.rsv := rfl

@[simp] theorem portPowered_touchMaintain (c : Carrier) (s : Block) (p : Nat) : portPowered (touchMaintain c s) p = portPowered s p := rfl

@[simp] theorem takeUses_touchMaintain (c : Carrier) (s : Block) (p : Nat) : takeUses (touchMaintain c s) p = takeUses s p := rfl

section
variable {q : Req} {s : State} (hc : s.blk.rsv.closeOut = none)
include hc

theorem lkRetrain_barred (h : AtOnce 2 0 q s.blk)
    (hq : Shaped q 4 [1, 2, 3]) (h8 : pByte q 0 < 8) (hp : portPowered s.blk (pByte q 0) = true) (hu : takeUses s.blk (pByte q 0) = true) :
    Barred (.lkRetrain q) q 0x0901 s := by
  have hshape := shape_of_shaped hq
  refine barred_by_take rfl h (by simp [hu]) ?_ ?_
  · simp [hc, hshape, hp, hu, Nat.not_le.mpr h8]
  · simp [hu]

variable (ht : s.blk.takeOpen = true)
include ht

theorem setCapture_barred (h : AtOnce 1 0 q s.blk) (hq : Shaped q 4 [1, 2, 3]) (h0 : pByte q 0 = 0) :
    Barred (.setCapture q) q 0x0012 s := by
  have hshape := shape_of_shaped hq
  refine barred_by_take rfl h (by simp [h0, ht]) ?_ ?_
  · simp [h0, ht, hc, hshape, bad]
  · simp [h0, ht]

theorem standby_barred (h : AtOnce 1 0 q s.blk) (hq : q.params = []) :
    Barred (.standby q) q 0x0010 s := by
  have hshape : (shape q 0 []).1 = false := shape_of_length (by rw [hq]; rfl)
  refine barred_by_take rfl h (by simp [ht]) ?_ ?_
  · simp [ht, hc, hshape]
  · simp [ht]

theorem restart_barred (p : Pins) (h : AtOnce 3 0 q s.blk) (hq : Shaped q 4 [1, 2, 3]) (h0 : pByte q 0 ≤ 1 ∨ pByte q 0 = 255) :
    Barred (.restart q p) q 0x0011 s := by
  have hshape := shape_of_shaped hq
  have himage : 1 < pByte q 0 → pByte q 0 = 255 := by omega
  refine barred_by_take rfl h (by simp [ht]) ?_ ?_
  · simpa [ht, hc, hshape, bad, stBadParam, stRecording] using himage
  · simp [ht]

theorem calFull_barred (h : AtOnce 2 16 q s.blk) (hq : q.params = []) (hfull : s.blk.flag CNV_STAT.FULL_RUNNING = false) :
    Barred (.calFull q) q 0x0301 s := by
  have hshape : (shape q 0 []).1 = false := shape_of_length (by rw [hq]; rfl)
  refine barred_by_take rfl h (by simp [ht]) ?_ ?_
  · simp [ht, hc, hshape, hfull]
  · simp [ht]

theorem calWriteEntry_barred (h : AtOnce 3 12 q s.blk) (hq : q.params.length = 12) (hu : pNat q 0 4 < unitCount) :
    Barred (.calWriteEntry q) q 0x0303 s := by
  have hshape : (shape q 12 []).1 = false := shape_of_length hq
  refine barred_by_take rfl h (by simp [ht]) ?_ ?_
  · simp [ht, hc, hshape, bad, hu]
  · simp [ht]

theorem selectProfile_barred (h : AtOnce 2 12 q s.blk) (hq : Shaped q 4 [1, 2, 3]) (h7 : pByte q 0 ≤ 7) :
    Barred (.selectProfile q) q 0x0101 s := by
  have hshape := shape_of_shaped hq
  refine barred_by_take rfl h (by simp [ht]) ?_ ?_
  · simp [ht, hc, hshape, bad, h7]
  · simp [ht]

theorem engSwap_barred (h : AtOnce 2 12 q s.blk)
    (hq : Shaped q 4 [3]) (he : pNat q 0 2 < 128) (hm : pByte q 2 ≤ 1) (hst : s.blk.fld (ENG_STAT.STATE (pNat q 0 2)) ≠ 2) :
    Barred (.engSwap q) q 0x0402 s := by
  have hshape := shape_of_shaped hq
  have hone : ∀ b, engTargets b (pNat q 0 2) = [pNat q 0 2] := fun b => if_neg (by omega)
  have hok : engOk (pNat q 0 2) true = true := by
    rw [engOk, decide_eq_true (by omega)]
    rfl
  refine barred_by_take rfl h (by simp [ht, hone, swapChecks, he]) ?_ ?_
  · simp [ht, hc, hshape, bad, hone, swapChecks, he, hok, hm, hst, Nat.not_le.mpr he]
  · simp [ht, hone, he]

theorem stRun_barred (h : AtOnce 2 12 q s.blk)
    (hq : Shaped q 8 [1, 2, 3]) (h1 : pByte q 0 = 1) (h255 : pNat q 4 4 ≤ 255) (hst : s.blk.flag ST_STAT.RUNNING = false)
    (hfull : s.blk.flag CNV_STAT.FULL_RUNNING = false) :
    Barred (.stRun q) q 0x0F00 s := by
  have hshape := shape_of_shaped hq
  refine barred_by_take rfl h (by simp [h1, ht]) ?_ ?_
  · simp [h1, ht, hc, hshape, bad, h255, hst, hfull]
  · simp [h1, ht]

end

/-! ### With no take open -/

section
variable {q : Req} {s : State}

theorem setCapture_starts (h : AtOnce 1 0 q s.blk) (hq : Shaped q 4 [1, 2, 3]) (h1 : pByte q 0 = 1) (hrun : s.blk.running = false)
    (hearly : startTooEarly s.blk = false) (hwaits : captureWaits s.blk = false) (hc : s.blk.rsv.closeOut = none)
    (hfull : s.blk.flag CNV_STAT.FULL_RUNNING = false) (harmed : conflictArmed s.blk = false) (hin : inService s.blk ≠ []) :
    Executes (.setCapture q) q (fun b => (startCapture (originOf q.carrier) b).reply q 0x0012 stOk []) s := by
  have hshape := shape_of_shaped hq
  have hearly' : startTooEarly (touchMaintain q.carrier s.blk) = false := hearly
  have hwaits' : captureWaits (touchMaintain q.carrier s.blk) = false := hwaits
  have harmed' : conflictArmed (touchMaintain q.carrier s.blk) = false := harmed
  have hin' : inService (touchMaintain q.carrier s.blk) ≠ [] := hin
  refine executes_congr (executes_of rfl h ?_) ?_
  · simp [hshape, bad, h1, hrun, hearly', hwaits', hc, hfull, harmed', hin']
  · simp [h1, hrun]

theorem setCapture_goesOn (h : AtOnce 1 0 q s.blk) (hq : Shaped q 4 [1, 2, 3]) (h1 : pByte q 0 = 1) (hrun : s.blk.running = true) :
    Executes (.setCapture q) q (fun b => b.reply q 0x0012 stOk []) s := by
  have hshape := shape_of_shaped hq
  refine executes_congr (executes_of rfl h ?_) ?_
  · simp [hshape, bad, h1, hrun]
  · simp [h1, hrun]

theorem setCapture_stops (h : AtOnce 1 0 q s.blk) (hq : Shaped q 4 [1, 2, 3]) (h0 : pByte q 0 = 0) (ht : s.blk.takeOpen = false)
    (hc : s.blk.rsv.closeOut = none) : Executes (.setCapture q) q (fun b => (stopCapture b).reply q 0x0012 stOk []) s := by
  have hshape := shape_of_shaped hq
  refine executes_congr (executes_of rfl h ?_) ?_
  · simp [hshape, bad, h0, ht, hc]
  · simp [h0, ht]

/-- The part is in standby. -/
def standingBy (s : Block) : Block := { s with pwr := { s.pwr with standby := true } }

theorem standingBy_fields (s : Block) : (standingBy (downToAon s)).pwr.standby = true ∧ (standingBy (downToAon s)).pwr.mainEn = false ∧
    (standingBy (downToAon s)).reg SYS_DOMAIN.addr = 0x00800000 := by
  obtain ⟨hmain, hdomain⟩ := downToAon_fields s
  generalize downToAon s = t at *
  exact ⟨rfl, hmain, hdomain⟩

/-- What STANDBY does before the supplies go: its reply, the end of MAINTAIN and of capture, and its cairn. -/
def standbyTold (q : Req) (s : Block) : Block :=
  let u := endMaintain false (fun _ => true) (stopCapture (s.reply q 0x0010 stOk []))
  flushLog (u.cairn (originOf q.carrier) 0x0001 SYS_DOMAIN.addr (u.reg SYS_DOMAIN.addr) 0x00800000)

theorem standby_executes (h : AtOnce 1 0 q s.blk) (hq : q.params = []) (ht : s.blk.takeOpen = false) (hc : s.blk.rsv.closeOut = none) :
    Executes (.standby q) q (fun b => standingBy (downToAon (standbyTold q b))) s := by
  have hshape : (shape q 0 []).1 = false := shape_of_length (by rw [hq]; rfl)
  refine executes_congr (executes_of rfl h ?_) ?_
  · simp [hshape, ht, hc]
  · simp only [touchMaintain_takeOpen, ht, Bool.false_eq_true, if_false, standingBy, standbyTold]

/-- What RESTART does before the part boots: its reply, the end of MAINTAIN, and the cairns and the NVM word under way to NVM. -/
def restartTold (q : Req) (s : Block) : Block := endWord (flushLog (endMaintain false (fun _ => true) (s.reply q 0x0011 stOk [])))

/-- The image that start-up is to try. -/
def imageAsked (n : Nat) (s : Block) : Block := { s with flt := { s.flt with imageTried := if n < 2 then n + 1 else 0 } }

theorem restart_executes (p : Pins) (h : AtOnce 3 0 q s.blk) (hq : Shaped q 4 [1, 2, 3]) (hi : pByte q 0 ≤ 1 ∨ pByte q 0 = 255)
    (ht : s.blk.takeOpen = false) (hc : s.blk.rsv.closeOut = none) :
    Executes (.restart q p) q (fun b => imageAsked (pByte q 0) (booted (restartTold q b) p)) s := by
  have hshape := shape_of_shaped hq
  have himage : 1 < pByte q 0 → pByte q 0 = 255 := by omega
  refine executes_congr (executes_of rfl h ?_) ?_
  · simpa [hshape, ht, hc, bad] using himage
  · exact if_neg (ne_true_of_eq_false ht)

end

/-- Settles O21: each command's checks are told from its premises, and its body is the start, the stop, the standby or the boot named; under
an open take the one check that fails is the take's, or with FORCE none, and the body is the close. -/
theorem capturePowerCommands : Obligations.CapturePowerCommands := by
  unfold Obligations.CapturePowerCommands
  refine ⟨fun q s => ⟨?starts, fun h hq h1 hrun => setCapture_goesOn h hq h1 hrun, fun h hq h0 ht hc => setCapture_stops h hq h0 ht hc,
    ?standby, ?restart⟩, fun q s ht hc => ⟨?_, ?_, ?_, ?_, ?_, ?_, ?_, ?_, ?_⟩⟩
  case starts =>
    intro h hq h1 hrun hearly hwaits hc hfull harmed hin
    obtain ⟨hrunning, hen⟩ := startCaptureIn_flags (touchMaintain q.carrier s.blk) (originOf q.carrier) 400000 true
    refine completes_of_executes (setCapture_starts h hq h1 hrun hearly hwaits hc hfull harmed hin) ⟨?_, ?_, ?_⟩
    · exact replied_reply _ _ _ _ _ (not_dropped h.notPin h.loud _)
    · rw [Block.running, flag_reply]
      exact hrunning
    · rw [flag_reply]
      exact hen
  case standby =>
    intro h hq ht hc
    exact completes_of_executes (standby_executes h hq ht hc) (standingBy_fields _)
  case restart =>
    intro p h hq hi ht hc
    obtain ⟨hnow, hstopped, hprf, hmaintain⟩ := booted_fields (restartTold q (touchMaintain q.carrier s.blk)) p
    exact completes_of_executes (restart_executes p h hq hi ht hc) ⟨hnow, hstopped, hprf, hmaintain, rfl⟩
  · exact setCapture_barred hc ht
  · exact standby_barred hc ht
  · exact restart_barred hc ht
  · exact calFull_barred hc ht
  · exact calWriteEntry_barred hc ht
  · exact selectProfile_barred hc ht
  · exact engSwap_barred hc ht
  · exact lkRetrain_barred hc
  · exact stRun_barred hc ht

end Sys2Proof.Machine
end

section
/-! The queue of commands (R75, R76): what a step takes from it, and the state that it starts from. -/

namespace Sys2Proof.Machine

/-- Settles O1: it is how a step is defined on a queue that is not empty. -/
theorem stepRunsFront : Obligations.StepRunsFront := by
  intro i rest s h
  rw [step, h]

/-! ### Commands and requests leave the queue alone -/

/-- Every command acts on the block alone. -/
theorem exec_pending {i : Instr} {s t : State} (h : exec i s = .next t) : t.pending = s.pending := by
  cases i
  all_goals
    dsimp only [exec] at h
    exact onBlock_pending h

/-- A request executed by its opcode leaves the queue of commands as it was. -/
def KeepsPending (run : OpRun) : Prop := ∀ q s t, run q s = .next t → t.pending = s.pending

/-- Every entry of the opcode table acts on the block alone, also where it draws the free values that its row carries (log entry 8). -/
theorem keepsPending_of_mem_opcodes : ∀ e ∈ opcodes, KeepsPending e.2 := by
  simp only [opcodes, opsSystem, opsProfileAccessLogFirmware, opsFrameTiming, opsConverter, opsMason, opsKeystone, opsRecordPathTake,
    opsMonitorStatistics, opsFrameMemory, opsLink, opsFabric, opsThermalAgeing, opsReserve, opsEvent, opsTwoWireSelfTest,
    List.forall_mem_append, List.forall_mem_cons, List.not_mem_nil, false_imp_iff, implies_true, and_true]
  repeat' apply And.intro
  all_goals exact fun q s t h => (onBlock_pending h :)

theorem runOpcode_pending {op : Nat} {q : Req} {s t : State} (h : runOpcode op q s = .next t) : t.pending = s.pending := by
  unfold runOpcode at h
  split at h
  case h_1 e he => exact keepsPending_of_mem_opcodes e (List.mem_of_find?_eq_some he) q s t h
  case h_2 =>
    cases h
    rfl

theorem executed_pending {o : Host.Outcome State Fault Refusal} {l : List Instr} {t : State} (h : executed o = .next t)
    (ho : ∀ u, o = .next u → u.pending = l) : t.pending = l := by
  cases o with
  | next u =>
    cases h
    exact ho u rfl
  | fault r => cases h
  | refused r => cases h

theorem idle_pending {s t : State} (h : idle s = .next t) : t.pending = s.pending := by
  unfold idle at h
  split at h
  · exact executed_pending h fun u hu => (runOpcode_pending hu :)
  · cases h
    rfl

/-- A step takes the first command, if there is one, and no other. -/
theorem step_pending {s t : State} (h : step s = .next t) : t.pending = s.pending.tail := by
  unfold step at h
  split at h
  case h_1 i rest hp => rw [exec_pending h, hp, List.tail_cons]
  case h_2 hp => rw [idle_pending h, hp, List.tail_nil]

/-- Settles O3: a step leaves the queue's tail, which is a tail of what was given. -/
theorem queueIsFifo : Obligations.QueueIsFifo := by
  intro given s t hs h
  refine ⟨?_, step_pending h⟩
  rw [step_pending h]
  exact (List.tail_suffix _).trans hs

/-! ### The state at reset -/

theorem regReset_evtStatus : ∀ w, w < 32 → regReset (EVT_STATUS.addr w) = 0 := by decide

/-- Settles O4: the register file is empty, so every word reads as its reset value, which is 0 for the status words of the events. -/
theorem resetState : Obligations.ResetState := by
  refine ⟨fun given => List.nil_suffix, rfl, rfl, fun a => rfl, fun e he => ?_⟩
  change (regReset (EVT_STATUS.addr (e / 32))).getLsbD (e % 32) = false
  rw [regReset_evtStatus _ (by omega)]
  exact BitVec.getLsbD_zero

end Sys2Proof.Machine
end

section
/-! What a refusal changes, and what a request that only reads changes (R74, R77, R97, R126). -/

namespace Sys2Proof.Machine

/-! ### A request below its class (R77 steps 2 and 3) -/

/-- DENIED goes before every status but BAD_PARAM. -/
theorem firstFail_denied {l : List Check} (h : (true, stDenied) ∈ l) : firstFail l = some stBadParam ∨ firstFail l = some stDenied := by
  have hdenied : (l.any fun c => c.1 && decide (c.2 = stDenied)) = true := List.any_eq_true.mpr ⟨_, h, rfl⟩
  unfold firstFail checkOrder
  rw [List.find?_cons]
  split
  · exact .inl rfl
  · exact .inr (List.find?_cons_of_pos hdenied)

theorem runReq_denied {op cls maxRes : Nat} {q : Req} {checks : Block → List Check} {body : Block → Block} {b : Block}
    (hcore : b.pwr.coreDown = false) (hturn : b.mustWait q.carrier = false) (hs : serves b q = true) (hready : b.fld SYS_BOOT.STAGE = 9)
    (hclass : classOf b q.carrier < cls) :
    ∃ st, (st = stBadParam ∨ st = stDenied) ∧
      runReq op cls maxRes q checks body b = .next (refuse op q st (touchMaintain q.carrier b)) := by
  have hrecovery : decide ((touchMaintain q.carrier b).fld SYS_BOOT.STAGE = 10) = false := by rw [touchMaintain_fld, hready]; rfl
  have hdenied : decide (classOf (touchMaintain q.carrier b) q.carrier < cls) = true := by rw [classOf_touchMaintain, decide_eq_true hclass]
  rw [runReq, if_neg (turn_of hcore hturn), hs]
  dsimp only
  rw [hrecovery, hdenied]
  rcases firstFail_denied (List.mem_cons_of_mem _ List.mem_cons_self) with h | h
  · exact ⟨stBadParam, .inl rfl, by rw [if_neg Bool.false_ne_true, h]; rfl⟩
  · exact ⟨stDenied, .inr rfl, by rw [if_neg Bool.false_ne_true, h]; rfl⟩

/-- Settles O6: every row that carries a request runs it through the one request path, which tests the class before all but the form. -/
theorem deniedChangesNothing : Obligations.DeniedChangesNothing := by
  intro i q op cls s hi hcore hturn hs hready hclass
  obtain ⟨maxRes, checks, body, hx⟩ := exec_request hi s
  obtain ⟨st, hst, hrun⟩ := runReq_denied (op := op) (maxRes := maxRes) (checks := checks) (body := body) hcore hturn hs hready hclass
  refine ⟨_, hx.trans (onBlock_next hrun), ?_⟩
  rcases hst with rfl | rfl
  · exact .inr rfl
  · exact .inl rfl

/-! ### A refusal's reply and event (R77) -/

theorem refuse_denied (op : Nat) (q : Req) (b : Block) : refuse op q stDenied b = (b.reply q op stDenied []).raise 968 := rfl

theorem refuse_conflict (op : Nat) (q : Req) (b : Block) : refuse op q stConflict b = (b.reply q op stConflict []).raise 969 := rfl

theorem refuse_other {st : Nat} (op : Nat) (q : Req) (b : Block) (hd : st ≠ stDenied) (hc : st ≠ stConflict) :
    refuse op q st b = b.reply q op st [] := by
  unfold refuse
  rw [if_neg hd, if_neg hc]

/-- The statuses as a refusal tells them apart. -/
theorem refusal_cases (st : Nat) : st = stDenied ∨ st = stConflict ∨ (st ≠ stDenied ∧ st ≠ stConflict) := by omega

/-- Events 968 and 969 have one status word. -/
theorem regsBut_refuse (op st : Nat) (q : Req) (b : Block) : RegsBut [evtStatusA 968] b (refuse op q st b) := by
  have hreply : RegsBut [] b (b.reply q op st []) := .of_regs (reply_regs ..)
  rcases refusal_cases st with rfl | rfl | ⟨hd, hc⟩
  · exact hreply.append (regsBut_raise _ 968)
  · exact hreply.append (regsBut_raise _ 969)
  · rw [refuse_other op q b hd hc]
    exact hreply.mono (List.nil_subset _)

theorem refuse_log (op st : Nat) (q : Req) (b : Block) : (refuse op q st b).log = b.log := by
  unfold refuse
  dsimp only
  split_ifs <;> simp

theorem evtStatus_refuse (op st : Nat) (q : Req) (b : Block) (e : Nat) : (refuse op q st b).evtStatus e =
    (b.evtStatus e || (decide (e = 968) && decide (st = stDenied)) || (decide (e = 969) && decide (st = stConflict))) := by
  rcases refusal_cases st with rfl | rfl | ⟨hd, hc⟩
  · rw [refuse_denied, evtStatus_raise, evtStatus_reply, Bool.or_comm]
    simp [stDenied, stConflict]
  · rw [refuse_conflict, evtStatus_raise, evtStatus_reply, Bool.or_comm]
    simp [stDenied, stConflict]
  · rw [refuse_other op q b hd hc, evtStatus_reply]
    simp [hd, hc]

/-- What an event or a reply may change: the registers, the events, the command core and the two-wire block. -/
def RestKept (s t : Block) : Prop := t = { s with regs := t.regs, evt := t.evt, cmd := t.cmd, tw := t.tw }

theorem RestKept.trans {s t u : Block} (h : RestKept s t) (h' : RestKept t u) : RestKept s u := by
  unfold RestKept at h h' ⊢
  rw [h] at h'
  exact h'

theorem restKept_raise (s : Block) (e : Nat) : RestKept s (s.raise e) := by
  unfold RestKept Block.raise Block.raiseAt
  dsimp only
  split
  · rfl
  · split <;> rfl

theorem restKept_reply (s : Block) (q : Req) (op st : Nat) (res : List Byte) : RestKept s (s.reply q op st res) := by
  unfold RestKept Block.reply Block.deliver
  split
  · rfl
  · dsimp only
    split <;> rfl

theorem restKept_refuse (op st : Nat) (q : Req) (b : Block) : RestKept b (refuse op q st b) := by
  have hreply := restKept_reply b q op st []
  rcases refusal_cases st with rfl | rfl | ⟨hd, hc⟩
  · exact hreply.trans (restKept_raise _ 968)
  · exact hreply.trans (restKept_raise _ 969)
  · rw [refuse_other op q b hd hc]
    exact hreply

/-! ### A read's reply (R74, R97, R126) -/

@[simp] theorem reply_accepted (s : Block) (q : Req) (op st : Nat) (res : List Byte) :
    (s.reply q op st res).cmd.accepted = s.cmd.accepted := by
  unfold Block.reply
  split
  · rfl
  · rw [deliver_replies]

@[simp] theorem reply_notices (s : Block) (q : Req) (op st : Nat) (res : List Byte) :
    (s.reply q op st res).cmd.notices = s.cmd.notices := by
  unfold Block.reply
  split
  · rfl
  · rw [deliver_replies]

theorem readReply_rest (q : Req) (op : Nat) (res : List Byte) (b : Block) :
    readReply q op res b = { b with cmd := (readReply q op res b).cmd, tw := (readReply q op res b).tw,
                                    acc := { b.acc with maintain := (readReply q op res b).acc.maintain } } := by
  unfold readReply Block.reply Block.deliver
  split
  · rfl
  · dsimp only
    split <;> rfl

/-- Settles O8: a refusal is a reply and at most one event, a read's answer a reply on the block with its origin's MAINTAIN touched. -/
theorem replyFrames : Obligations.ReplyFrames := by
  refine ⟨fun op st q b => ⟨?words, refuse_log op st q b, ?others, ?denied, ?conflict, restKept_refuse op st q b⟩,
    fun q op res b hpin hloud => ⟨?replied, readReply_rest q op res b, reply_accepted .., reply_notices ..⟩⟩
  case words => exact fun a ha => (regsBut_refuse op st q b).reg (by simpa using ha)
  case others =>
    intro e h8 h9
    simp [evtStatus_refuse, h8, h9]
  case denied => simp [evtStatus_refuse]
  case conflict => simp [evtStatus_refuse]
  case replied => exact replied_reply _ q op stOk res (not_dropped hpin hloud stOk)

end Sys2Proof.Machine
end

section
/-! The requests that read (R77, R81 to R84, R87, R132, R139, R203, R291, R318, R354, R389, R423, R449, R518, R552, R585, R605, R629,
R630). -/

namespace Sys2Proof.Machine

/-! ### What a command's touch of MAINTAIN leaves as read -/

@[simp] theorem readFrom_one (s : Block) (a : Nat) : readFrom s a 1 = wordBytes (readWord s a) := by simp [readFrom]

@[simp] theorem evtMasked_touchMaintain (c : Carrier) (s : Block) (e : Nat) : (touchMaintain c s).evtMasked e = s.evtMasked e := rfl

theorem evtPendingWord_touchMaintain (c : Carrier) (s : Block) : evtPendingWord (touchMaintain c s) = evtPendingWord s := by
  simp only [evtPendingWord, touchMaintain_evtStatus, evtMasked_touchMaintain]

@[simp] theorem readWord_touchMaintain (c : Carrier) (s : Block) (a : Nat) : readWord (touchMaintain c s) a = readWord s a := by
  unfold readWord
  rw [evtPendingWord_touchMaintain]
  rfl

@[simp] theorem readFrom_touchMaintain (c : Carrier) (s : Block) (a n : Nat) : readFrom (touchMaintain c s) a n = readFrom s a n := by
  simp only [readFrom, readWord_touchMaintain]

@[simp] theorem wordPowered_touchMaintain (c : Carrier) (s : Block) (on a : Nat) :
    wordPowered (touchMaintain c s) on a = wordPowered s on a := rfl

@[simp] theorem logHead_touchMaintain (c : Carrier) (s : Block) : logHead (touchMaintain c s) = logHead s := rfl

@[simp] theorem frameKept_touchMaintain (c : Carrier) (s : Block) (n : Nat) : frameKept (touchMaintain c s) n = frameKept s n := rfl

/-- A one-bit field is its bit. -/
theorem flag_eq_getLsbD (s : Block) (f : RF) (h : f.width = 1) : s.flag f = (s.reg f.addr).getLsbD f.lo := by
  have hbit : (wfield (s.reg f.addr) f.lo 1).testBit 0 = (s.reg f.addr).getLsbD f.lo := by simpa using testBit_wfield _ f.lo 1 0
  have hlt : wfield (s.reg f.addr) f.lo 1 < 2 := wfield_lt _ f.lo 1
  rw [Block.flag, Block.fld, h, ← hbit, Nat.testBit_zero, Nat.mod_eq_of_lt hlt]

/-- A word of the monitor needs DV, one of the fabric FX (R82 rule 7). -/
theorem wordPowered_monCfg {s : Block} (h : s.flag SYS_DOMAIN.DV_ON = true) : wordPowered s 0 MON_CFG.addr = true := by
  rw [flag_eq_getLsbD s _ rfl] at h
  change ((s.reg SYS_DOMAIN.addr).getLsbD 16 || _) = true
  rw [show (s.reg SYS_DOMAIN.addr).getLsbD 16 = true from h, Bool.true_or]

theorem wordPowered_fbCfg {s : Block} (h : s.flag SYS_DOMAIN.FX_ON = true) : wordPowered s 0 FB_CFG.addr = true := by
  rw [flag_eq_getLsbD s _ rfl] at h
  change ((s.reg SYS_DOMAIN.addr).getLsbD 21 || _) = true
  rw [show (s.reg SYS_DOMAIN.addr).getLsbD 21 = true from h, Bool.true_or]

theorem statusBytes_touchMaintain (c d : Carrier) (s : Block) : statusBytes (touchMaintain c s) d = statusBytes s d := by
  rw [statusBytes, classOf_touchMaintain]
  rfl

/-! ### Requests that read -/

theorem reads_of_executes {i : Instr} {q : Req} {op : Nat} {body : Block → Block} {res : List Byte} {s : State} (h : Executes i q body s)
    (hb : body (touchMaintain q.carrier s.blk) = (touchMaintain q.carrier s.blk).reply q op stOk res) : Reads i q op res s := by
  rw [Executes, hb] at h
  exact h

section
variable {i : Instr} {q : Req} {op maxRes : Nat} {checks : Block → List Check} {body : Block → Block} {s : State}

/-- A read without parameters whose only check is that it has none. -/
theorem reads_bare {res : List Byte} (hx : exec i s = s.onBlock (runReq op 0 maxRes q (fun _ => [shape q 0 []]) body))
    (h : AtOnce 0 100 q s.blk) (hq : q.params = []) (hm : maxRes ≤ 100)
    (hb : body (touchMaintain q.carrier s.blk) = (touchMaintain q.carrier s.blk).reply q op stOk res) : Reads i q op res s :=
  reads_of_executes (executes_of hx (AtOnce_mono h le_rfl hm) (by simp [shape_of_length (q := q) (n := 0) (by simp [hq])])) hb

/-- A read without parameters that another condition of the block may refuse. -/
theorem reads_unless {res : List Byte} {c : Block → Check}
    (hx : exec i s = s.onBlock (runReq op 0 maxRes q (fun a => [shape q 0 [], c a]) body)) (h : AtOnce 0 100 q s.blk) (hq : q.params = [])
    (hm : maxRes ≤ 100) (hc : (c (touchMaintain q.carrier s.blk)).1 = false)
    (hb : body (touchMaintain q.carrier s.blk) = (touchMaintain q.carrier s.blk).reply q op stOk res) : Reads i q op res s :=
  reads_of_executes (executes_of hx (AtOnce_mono h le_rfl hm) (by simp [shape_of_length (q := q) (n := 0) (by simp [hq]), hc])) hb

end

section
variable {q : Req} {s : State} (h : AtOnce 0 100 q s.blk) (hq : q.params = [])
include h hq

theorem getStatus_reads : Reads (.getStatus q) q 0x0002 (statusBytes s.blk q.carrier) s := by
  refine reads_bare rfl h hq (by decide) ?_
  rw [statusBytes_touchMaintain]

theorem fltGetState_reads : Reads (.fltGetState q) q 0x0D03
    ([FLT_STAT.addr, FLT_INTR.addr, WDG_CFG.addr, WDG_STAT.addr, EVT_PENDING.addr, ST_STAT.addr].flatMap
      (fun x => wordBytes (readWord s.blk x))) s := by
  refine reads_bare rfl h hq (by decide) ?_
  simp only [readFrom_one, readWord_touchMaintain]

theorem mcGetState_reads : Reads (.mcGetState q) q 0x0800 (readFrom s.blk MC_STAT.addr 3 ++
    (List.range 8).flatMap (fun r => wordBytes (readWord s.blk (MC_CH_STAT.addr r)))) s := by
  refine reads_bare rfl h hq (by decide) ?_
  simp only [readFrom_one, readWord_touchMaintain, readFrom_touchMaintain]

theorem recGetState_reads : Reads (.recGetState q) q 0x0600 (readFrom s.blk REC_CFG.addr 8) s := by
  refine reads_bare rfl h hq (by decide) ?_
  simp only [readFrom_touchMaintain]

theorem polGetState_reads : Reads (.polGetState q) q 0x0713
    ([POL_LAST.addr, STAT_STAT.addr, STAT_LAST.addr, AE_STAT.addr, AE_FRAME.addr, AWB_STAT.addr].flatMap
      (fun x => wordBytes (readWord s.blk x))) s := by
  refine reads_bare rfl h hq (by decide) ?_
  simp only [readFrom_one, readWord_touchMaintain]

theorem thGetState_reads : Reads (.thGetState q) q 0x0B00
    ([TH_STAT.addr, TH_SHED.addr, TH_TEC.addr, TH_COOL_STAT.addr, TH_RISE.addr].flatMap (fun x => wordBytes (readWord s.blk x)) ++
      readFrom s.blk (TH_REGION.addr 0) 16 ++ (List.range 4).flatMap (fun i => wordBytes (readWord s.blk (TH_TD1.addr i)))) s := by
  refine reads_bare rfl h hq (by decide) ?_
  simp only [readFrom_one, readWord_touchMaintain, readFrom_touchMaintain]

theorem monGetState_reads (hdv : s.blk.flag SYS_DOMAIN.DV_ON = true) : Reads (.monGetState q) q 0x0700 (readFrom s.blk MON_CFG.addr 3 ++
    (List.range 4).flatMap (fun x => wordBytes (readWord s.blk (MON_CTX_CFG.addr x)) ++ readFrom s.blk (MON_CTX_STAT.addr x) 3)) s := by
  refine reads_unless (c := fun a => (!wordPowered a 0 MON_CFG.addr, stNotPresent)) rfl h hq (by decide) ?_ ?_
  · rw [wordPowered_touchMaintain, wordPowered_monCfg hdv]
    rfl
  · simp only [readFrom_one, readWord_touchMaintain, readFrom_touchMaintain]

theorem fbGetState_reads (hfx : s.blk.flag SYS_DOMAIN.FX_ON = true) :
    Reads (.fbGetState q) q 0x0A00 (wordsFrom s.blk FB_CFG.addr 10 ++ wordsFrom s.blk (FB_PASS.addr 1) 4) s := by
  refine reads_unless (c := fun a => (!wordPowered a 0 FB_CFG.addr, stNotPresent)) rfl h hq (by decide) ?_ rfl
  rw [wordPowered_touchMaintain, wordPowered_fbCfg hfx]
  rfl

theorem rsvGetState_reads (hc : s.blk.rsv.closeOut = none) : Reads (.rsvGetState q) q 0x0C00 (readFrom s.blk RSV_CFG.addr 6) s :=
  reads_unless (c := fun a => (a.rsv.closeOut.isSome, stBusy)) rfl h hq (by decide) (by simp [hc]) (by simp only [readFrom_touchMaintain])

end

/-- Settles O9: each row's one check is its form, or its domain's power or the close-out, and its body the reply. -/
theorem stateReads : Obligations.StateReads := by
  refine ⟨fun q s h hq => ⟨?ping, ?identity, getStatus_reads h hq, ?keystone, ?log, ?ks, fltGetState_reads h hq, ?st⟩,
    fun q s h hq => ⟨?cal, mcGetState_reads h hq, recGetState_reads h hq, polGetState_reads h hq, ?take, thGetState_reads h hq, monGetState_reads h hq,
      fbGetState_reads h hq, rsvGetState_reads h hq⟩⟩
  all_goals exact reads_bare rfl h hq (by decide) rfl

end Sys2Proof.Machine
end

section
/-! The requests that read with parameters (R75, R77, R82, R87, R132, R139, R291, R487, R629). -/

namespace Sys2Proof.Machine

section
variable {q : Req} {s : State}

theorem readReg_executes {n : Nat} (hn : n = pNat q 4 2) (h : AtOnce 0 (4 * n) q s.blk) (hq : Shaped q 8 [6, 7])
    (hspan : spanOk (pNat q 0 4) n = true) (hlim : n ≤ carrierLimit q 1021 124)
    (hp : ∀ i < n, wordPowered s.blk 0 (pNat q 0 4 + 4 * i) = true) :
    Executes (.readReg q) q
      (fun b => (readLatch (pNat q 0 4) n b).reply q 0x0003 stOk (readFrom (readLatch (pNat q 0 4) n b) (pNat q 0 4) n)) s := by
  subst hn
  have hshape := shape_of_shaped hq
  refine executes_of rfl h ?_
  cases hc : q.carrier with
  | twoWire a g => simpa [hshape, bad, hspan, carrierLimit, hc] using And.intro (by simpa [carrierLimit, hc] using hlim) hp
  | _ => simpa [hshape, bad, hspan] using hp

theorem getEventRoute_answers {n : Nat} (hn : n = pNat q 2 2) (h : AtOnce 0 n q s.blk) (hq : q.params.length = 4) (h1 : 1 ≤ n)
    (htop : pNat q 0 2 + n ≤ 1024) :
    Answers (.getEventRoute q) q 0x0021 (fun b => (List.range n).map (fun i => b.evtRoute (pNat q 0 2 + i))) s := by
  subst hn
  have hshape := shape_of_length hq
  refine executes_of rfl h ?_
  simp [hshape, bad]
  omega

theorem evtGet_answers {n : Nat} (hn : n = pNat q 2 2) (h : AtOnce 0 (16 * n) q s.blk) (hq : q.params.length = 4) (h1 : 1 ≤ n)
    (hlim : n ≤ carrierLimit q 255 31) (htop : pNat q 0 2 + n ≤ 1024) :
    Answers (.evtGet q) q 0x0D00 (fun b => (List.range n).flatMap (fun i => evtRecord b (pNat q 0 2 + i))) s := by
  subst hn
  have hshape := shape_of_length hq
  refine executes_of rfl h ?_
  cases hc : q.carrier <;> simp [hshape, bad, evtRange, carrierLimit, hc] at hlim ⊢ <;> omega

theorem getProfileInfo_answers (h : AtOnce 0 68 q s.blk) (hq : Shaped q 4 [1, 2, 3]) (h7 : pByte q 0 ≤ 7) :
    Answers (.getProfileInfo q) q 0x0100
      (fun b => leBytes 4 (b2n (profileValid b (pByte q 0))) ++ b.nvmBytes (profileBase (pByte q 0)) 64) s := by
  have hshape := shape_of_shaped hq
  exact executes_of rfl h (by simp [hshape, bad, h7])

theorem readProfile_answers {n : Nat} (hn : n = pNat q 8 2) (h : AtOnce 0 n q s.blk) (hq : Shaped q 12 [1, 2, 3, 10, 11])
    (h7 : pByte q 0 ≤ 7) (h1 : 1 ≤ n) (htop : pNat q 4 4 + n ≤ 262144) :
    Answers (.readProfile q) q 0x0102 (fun b => b.nvmBytes (profileBase (pByte q 0) + pNat q 4 4) n) s := by
  subst hn
  have hshape := shape_of_shaped hq
  refine executes_of rfl h ?_
  simp [hshape, bad]
  omega

theorem readLog_answers {n d : Nat} (hn : n = pNat q 4 2) (hd : d = (logHead s.blk + 2 ^ 32 - pNat q 0 4) % 2 ^ 32)
    (h : AtOnce 0 (32 * n) q s.blk) (hq : Shaped q 8 [6, 7]) (h1 : 1 ≤ n) (h127 : n ≤ 127) (hlen : d < s.blk.log.entries.length) :
    Answers (.readLog q) q 0x0120 (fun b => ((b.log.entries.take (d + 1)).reverse.take n).flatMap entryBytes) s := by
  subst hn hd
  have hshape := shape_of_shaped hq
  refine executes_congr (executes_of rfl h ?_) ?_
  · simp [hshape, bad]
    exact ⟨by omega, decide_eq_false (by omega)⟩
  · simp

theorem ftGetFrame_answers {f : FrameRec} (h : AtOnce 0 36 q s.blk) (hq : q.params.length = 4)
    (hf : frameKept s.blk (pNat q 0 4) = some f) : Answers (.ftGetFrame q) q 0x0205 (fun _ => frameInfo f) s := by
  have hshape := shape_of_length hq
  refine executes_congr (executes_of rfl h ?_) ?_
  · simp [hshape, bad, hf]
  · simp [hf]

end

/-- Settles O10: with parameters in range no check of the row fails, and its body is the reply. -/
theorem parameterReads : Obligations.ParameterReads := by
  intro q s
  exact ⟨fun n hn h hq hspan hlim hp => readReg_executes hn h hq hspan hlim hp,
    fun n hn h hq h1 htop => getEventRoute_answers hn h hq h1 htop,
    fun n hn h hq h1 hlim htop => evtGet_answers hn h hq h1 hlim htop,
    getProfileInfo_answers,
    fun n hn h hq h7 h1 htop => readProfile_answers hn h hq h7 h1 htop,
    fun n d hn hd h hq h1 h127 hlen => readLog_answers hn hd h hq h1 h127 hlen,
    fun f h hq hf => ftGetFrame_answers h hq hf⟩

end Sys2Proof.Machine
end

section
/-! Words written (R77, R78, R82, R649): what a write leaves in each bit of a word, its one cairn, and the requests and rows that write. -/

namespace Sys2Proof.Machine

/-! ### One word (R82 rule 5) -/

/-- Bit by bit, a write takes the configuration bits under its mask and clears the W1C bits written as 1. -/
theorem getLsbD_mergeWord (old : Word) (w : WordW) {i : Nat} (ha : w.addr ≠ 0x2900000) (hi : i < 32) : (mergeWord old w).getLsbD i =
    if (w1cMask w.addr).getLsbD i && w.mask.getLsbD i && w.value.getLsbD i then false
    else if (cfgMask w.addr).getLsbD i && w.mask.getLsbD i then w.value.getLsbD i else old.getLsbD i := by
  unfold mergeWord
  rw [if_neg ha]
  simp only [BitVec.getLsbD_and, BitVec.getLsbD_or, BitVec.getLsbD_not, hi, decide_true, Bool.true_and]
  cases (w1cMask w.addr).getLsbD i <;> cases (cfgMask w.addr).getLsbD i <;> cases w.mask.getLsbD i <;> cases w.value.getLsbD i <;> simp

/-! ### Words whose write sets off nothing -/

/-- The write of a word at `a` is its cairn and the word, and nothing follows from it. -/
structure PlainWord (a : Nat) : Prop where
  listed : (regRow? a).isNone = false
  notTwCfg : a ≠ 0x2900000
  notMason : ¬ (0x100000 ≤ a ∧ a < 0x900000)
  notPinEngine : ¬ 0x3000000 ≤ a
  noShape : isShape a = false
  noEffect : ∀ origin old new v s, otherEffect origin a old new v s = s

/-- The words of WDG_SET, RSV_SET_CONFIG and TH_SET_COOLING. -/
def plainAddrs : List Nat := [WDG_CFG.addr, RSV_CFG.addr, RSV_VIN_CFG.addr, TH_TEC.addr, TH_SHED.addr]

theorem plainWord_of_mem {a : Nat} (h : a ∈ plainAddrs) : PlainWord a := by
  simp only [plainAddrs, List.mem_cons, List.not_mem_nil, or_false] at h
  rcases h with rfl | rfl | rfl | rfl | rfl
  all_goals exact ⟨by decide, by decide, by decide, by decide, by decide, fun _ _ _ _ _ => rfl⟩

/-- The write changes a configuration bit of its word, so that it is logged (R649). -/
abbrev changesCfg (w : WordW) (s : Block) : Prop := (s.reg w.addr ^^^ mergeWord (s.reg w.addr) w) &&& cfgMask w.addr ≠ 0

section
variable {w : WordW} (h : PlainWord w.addr) (origin : Nat) (s : Block)
include h

theorem writeWord_of_changes (hc : changesCfg w s) : writeWord origin true w s =
    (s.cairn origin 0x0001 w.addr (s.reg w.addr) (mergeWord (s.reg w.addr) w)).shadowSet w.addr (mergeWord (s.reg w.addr) w) := by
  obtain ⟨hlisted, htw, hmason, hpin, -, heffect⟩ := h
  unfold writeWord
  rw [hlisted, if_neg Bool.false_ne_true]
  dsimp only
  rw [if_neg hmason, if_neg hpin, heffect, if_neg (fun hx => htw hx.1), if_pos ((Bool.true_and _).trans (decide_eq_true hc))]

theorem writeWord_of_not_changes (hc : ¬ changesCfg w s) : writeWord origin true w s =
    s.shadowSet w.addr (mergeWord (s.reg w.addr) w) := by
  obtain ⟨hlisted, htw, hmason, hpin, -, heffect⟩ := h
  unfold writeWord
  rw [hlisted, if_neg Bool.false_ne_true]
  dsimp only
  rw [if_neg hmason, if_neg hpin, heffect, if_neg (fun hx => htw hx.1), if_neg fun hx => hc (of_decide_eq_true ((Bool.true_and _).symm.trans hx))]

/-- A change of a configuration bit logs one cairn, of the whole word before and after (R649). -/
theorem writeWord_queue (hroom : s.log.queue.length < 4096) (hc : changesCfg w s) : (writeWord origin true w s).log.queue =
    s.log.queue ++ [⟨s.now, origin, 0x0001, w.addr, s.reg w.addr, mergeWord (s.reg w.addr) w⟩] := by
  rw [writeWord_of_changes h origin s hc, shadowSet_log, queue_cairn _ _ _ _ _ _ hroom]

theorem writeWord_log (hc : ¬ changesCfg w s) : (writeWord origin true w s).log = s.log := by
  rw [writeWord_of_not_changes h origin s hc, shadowSet_log]

theorem reg_writeWord_plain : (writeWord origin true w s).reg w.addr = mergeWord (s.reg w.addr) w := by
  by_cases hc : changesCfg w s
  · rw [writeWord_of_changes h origin s hc, reg_shadowSet, if_pos rfl]
  · rw [writeWord_of_not_changes h origin s hc, reg_shadowSet, if_pos rfl]

theorem regsBut_writeWord_plain : RegsBut [w.addr, LOG_STAT.addr, LOG_HEAD.addr] s (writeWord origin true w s) := by
  have hset : ∀ t v, RegsBut [w.addr] t (t.shadowSet w.addr v) := fun t v a ha => by rw [reg_shadowSet, if_neg (by simpa using ha)]
  by_cases hc : changesCfg w s
  · rw [writeWord_of_changes h origin s hc]
    exact ((regsBut_cairn s _ _ _ _ _).append (hset _ _)).mono (by simp)
  · rw [writeWord_of_not_changes h origin s hc]
    exact (hset s _).mono (by simp)

end

theorem writeWords_of_plain {l : List WordW} (h : ∀ w ∈ l, PlainWord w.addr) (origin : Nat) (s : Block) :
    writeWords origin true l s = l.foldl (fun t w => writeWord origin true w t) s := by
  unfold writeWords
  dsimp only
  refine if_neg ?_
  rw [List.any_eq_true]
  rintro ⟨w, hw, hshape⟩
  rw [(h w hw).noShape] at hshape
  cases hshape

/-- Settles O15: bit by bit, and for the watchdog's word by whether its write changes a configuration bit. -/
theorem registerWord : Obligations.RegisterWord := by
  refine ⟨fun old w i ha hi => getLsbD_mergeWord old w ha hi, fun b origin v hroom => ?_⟩
  have hplain : PlainWord WDG_CFG.addr := plainWord_of_mem (by decide)
  exact ⟨writeWord_queue (w := ⟨WDG_CFG.addr, v, 0xFFFFFFFF⟩) hplain origin b hroom,
    fun hc => writeWord_log (w := ⟨WDG_CFG.addr, v, 0xFFFFFFFF⟩) hplain origin b (not_not_intro hc)⟩

/-! ### Requests that write words -/

section
variable {q : Req} {s : State}

theorem reg_writeWords_one {a : Nat} (ha : a ∈ plainAddrs) (v : Word) (origin : Nat) (s : Block) :
    (writeWords origin true [⟨a, v, 0xFFFFFFFF⟩] s).reg a = mergeWord (s.reg a) ⟨a, v, 0xFFFFFFFF⟩ ∧
      RegsBut [a, LOG_STAT.addr, LOG_HEAD.addr] s (writeWords origin true [⟨a, v, 0xFFFFFFFF⟩] s) := by
  have hplain := plainWord_of_mem ha
  rw [writeWords_of_plain (by simpa using hplain)]
  exact ⟨reg_writeWord_plain (w := ⟨a, v, 0xFFFFFFFF⟩) hplain origin s, regsBut_writeWord_plain (w := ⟨a, v, 0xFFFFFFFF⟩) hplain origin s⟩

/-- No plain word is one of the log's. -/
theorem not_mem_of_plain {a c : Nat} (ha : a ∈ plainAddrs) (hne : a ≠ c) : a ∉ [c, LOG_STAT.addr, LOG_HEAD.addr] := by
  have hlog : ∀ a ∈ plainAddrs, a ≠ LOG_STAT.addr ∧ a ≠ LOG_HEAD.addr := by decide
  simpa [hne] using hlog a ha

/-- Two plain words at one tick: neither write shows in the other's word. -/
theorem reg_writeWords_two {a c : Nat} (ha : a ∈ plainAddrs) (hc : c ∈ plainAddrs) (hne : a ≠ c) (v w : Word) (origin : Nat) (s : Block) :
    (writeWords origin true [⟨a, v, 0xFFFFFFFF⟩, ⟨c, w, 0xFFFFFFFF⟩] s).reg a = mergeWord (s.reg a) ⟨a, v, 0xFFFFFFFF⟩ ∧
      (writeWords origin true [⟨a, v, 0xFFFFFFFF⟩, ⟨c, w, 0xFFFFFFFF⟩] s).reg c = mergeWord (s.reg c) ⟨c, w, 0xFFFFFFFF⟩ ∧
      RegsBut [a, c, LOG_STAT.addr, LOG_HEAD.addr] s (writeWords origin true [⟨a, v, 0xFFFFFFFF⟩, ⟨c, w, 0xFFFFFFFF⟩] s) := by
  have hplain := plainWord_of_mem ha
  have hplain' := plainWord_of_mem hc
  have hfirst := regsBut_writeWord_plain (w := ⟨a, v, 0xFFFFFFFF⟩) hplain origin s
  have hsecond := regsBut_writeWord_plain (w := ⟨c, w, 0xFFFFFFFF⟩) hplain' origin (writeWord origin true ⟨a, v, 0xFFFFFFFF⟩ s)
  rw [writeWords_of_plain (by simpa using ⟨hplain, hplain'⟩), List.foldl_cons, List.foldl_cons, List.foldl_nil]
  refine ⟨?_, ?_, (hfirst.append hsecond).mono (by simp)⟩
  · rw [hsecond.reg (not_mem_of_plain ha hne)]
    exact reg_writeWord_plain (w := ⟨a, v, 0xFFFFFFFF⟩) hplain origin s
  · rw [← hfirst.reg (not_mem_of_plain hc hne.symm)]
    exact reg_writeWord_plain (w := ⟨c, w, 0xFFFFFFFF⟩) hplain' origin _

/-- The checks of a write that nothing refuses, as its row makes them. -/
theorem writeChecks_pass {l : List WordW} {c : Check}
    (ha : WriteAllowed (touchMaintain q.carrier s.blk) (classOf s.blk q.carrier) l)
    (hc : c ∈ writeChecks (touchMaintain q.carrier s.blk) (classOf (touchMaintain q.carrier s.blk) q.carrier) false 0 l) :
    c.1 = false := by
  rw [classOf_touchMaintain] at hc
  exact ha c hc

theorem wdgSet_executes (h : AtOnce 3 0 q s.blk) (hq : q.params.length = 4)
    (ha : WriteAllowed (touchMaintain q.carrier s.blk) (classOf s.blk q.carrier) (wdgWords q)) :
    Executes (.wdgSet q) q (fun b => (writeWords (originOf q.carrier) true (wdgWords q) b).reply q 0x0D04 stOk []) s :=
  executes_of rfl h (List.forall_mem_cons.mpr ⟨shape_of_length hq, fun _ hc => writeChecks_pass ha hc⟩)

theorem rsvSetConfig_executes (h : AtOnce 2 0 q s.blk) (hq : q.params.length = 8) (hclose : s.blk.rsv.closeOut = none)
    (ha : WriteAllowed (touchMaintain q.carrier s.blk) (classOf s.blk q.carrier) (reserveWords q)) :
    Executes (.rsvSetConfig q) q (fun b => (writeWords (originOf q.carrier) true (reserveWords q) b).reply q 0x0C01 stOk []) s :=
  executes_of rfl h (List.forall_mem_cons.mpr ⟨shape_of_length hq,
    List.forall_mem_cons.mpr ⟨by simp [hclose], fun _ hc => writeChecks_pass ha hc⟩⟩)

theorem thSetCooling_executes (h : AtOnce 2 0 q s.blk) (hq : q.params.length = 8)
    (ha : WriteAllowed (touchMaintain q.carrier s.blk) (classOf s.blk q.carrier) (coolingWords q)) :
    Executes (.thSetCooling q) q (fun b => (writeWords (originOf q.carrier) true (coolingWords q) b).reply q 0x0B01 stOk []) s :=
  executes_of rfl h (List.forall_mem_cons.mpr ⟨shape_of_length hq, fun _ hc => writeChecks_pass ha hc⟩)

theorem loopSet_executes (h : AtOnce 2 0 q s.blk) (hq : q.params.length = 20)
    (ha : WriteAllowed (touchMaintain q.carrier s.blk) (classOf s.blk q.carrier) (loopWords q)) :
    Executes (.loopSet q) q (fun b => (writeWords (originOf q.carrier) true (loopWords q) b).reply q 0x0712 stOk []) s :=
  executes_of rfl h (List.forall_mem_cons.mpr ⟨shape_of_length hq, fun _ hc => writeChecks_pass ha hc⟩)

/-- A write of words whose reply tells whether a shadowed field waits (R78). -/
def writeAndTell (op : Nat) (q : Req) (l : List WordW) (pre : Block → List Byte) (b : Block) : Block :=
  replyDeferred op q (writeDefers b l) (pre b) (writeWords (originOf q.carrier) true l b)

theorem writeReg_executes {n : Nat} {l : List WordW} (hn : n = pNat q 4 2) (h : AtOnce 2 12 q s.blk) (hq : Shaped q (8 + 4 * n) [6, 7])
    (hspan : spanOk (pNat q 0 4) n = true) (hlim : n ≤ carrierLimit q 1021 124)
    (hl : l = (wordsOf n (q.params.drop 8)).zipIdx.map (fun wi => (⟨pNat q 0 4 + 4 * wi.2, wi.1, 0xFFFFFFFF⟩ : WordW)))
    (ha : WriteAllowed (touchMaintain q.carrier s.blk) (classOf s.blk q.carrier) l) :
    Executes (.writeReg q) q (writeAndTell 0x0004 q l (fun _ => [])) s := by
  subst hn hl
  refine executes_of rfl h (List.forall_mem_append.mpr ⟨?_, fun _ hc => writeChecks_pass ha hc⟩)
  cases hc : q.carrier with
  | twoWire a g => simpa [shape_of_shaped hq, bad, hspan, hc, carrierLimit] using hlim
  | _ => simp [shape_of_shaped hq, bad, hspan]

theorem modifyReg_executes {l : List WordW} (h : AtOnce 2 16 q s.blk) (hq : q.params.length = 12) (hspan : spanOk (pNat q 0 4) 1 = true)
    (hl : l = [⟨pNat q 0 4, BitVec.ofNat 32 (pNat q 8 4), BitVec.ofNat 32 (pNat q 4 4)⟩])
    (ha : WriteAllowed (touchMaintain q.carrier s.blk) (classOf s.blk q.carrier) l) :
    Executes (.modifyReg q) q (writeAndTell 0x0005 q l (fun b => wordBytes (readWord b (pNat q 0 4)))) s := by
  subst hl
  refine executes_of rfl h (List.forall_mem_append.mpr ⟨?_, fun _ hc => writeChecks_pass ha hc⟩)
  simp [shape_of_length hq, bad, hspan]

theorem ftSetTiming_executes (h : AtOnce 1 12 q s.blk) (hq : q.params.length = 12) (hw : pNat q 8 2 ≤ 511) (hr : pByte q 10 ≤ 15)
    (hf : pByte q 11 ≤ 15)
    (ha : WriteAllowed (touchMaintain q.carrier s.blk) (classOf s.blk q.carrier) (timingWords (touchMaintain q.carrier s.blk) q)) :
    Executes (.ftSetTiming q) q (fun b => writeAndTell 0x0201 q (timingWords b q) (fun _ => []) b) s := by
  refine executes_of rfl h (List.forall_mem_append.mpr ⟨?_, fun _ hc => writeChecks_pass ha hc⟩)
  simp [timingShape, shape_of_length hq, bad, hw, hr, hf]

theorem ftSetShape_executes {n : Nat} (hn : n = pByte q 0) (h : AtOnce 1 12 q s.blk) (h1 : 1 ≤ n) (h32 : n ≤ 32)
    (hq : Shaped q (4 + 12 * n) ([1, 2, 3] ++ (List.range n).flatMap (fun k => [13 + 12 * k, 14 + 12 * k, 15 + 12 * k])))
    (hnode : ∀ k < n, pByte q (12 + 12 * k) ≤ 1)
    (ha : WriteAllowed (touchMaintain q.carrier s.blk) (classOf s.blk q.carrier) (shapeWords (touchMaintain q.carrier s.blk) q)) :
    Executes (.ftSetShape q) q (fun b => writeAndTell 0x0202 q (shapeWords b q) (fun _ => []) b) s := by
  subst hn
  have hmin : min (pByte q 0) 32 = pByte q 0 := Nat.min_eq_left h32
  have hshape := shape_of_shaped hq
  have hone : ¬ (pByte q 0 = 0 ∨ 32 < pByte q 0) := by omega
  refine executes_of rfl h (List.forall_mem_append.mpr ⟨?_, ?_⟩)
  case refine_2 =>
    rw [if_neg hone]
    exact fun _ hc => writeChecks_pass ha hc
  rw [hmin]
  refine List.forall_mem_cons.mpr ⟨hshape, ?_⟩
  simpa [bad, h32, Nat.one_le_iff_ne_zero.mp h1] using hnode

theorem mcSetRegulator_executes (h : AtOnce 2 4 q s.blk) (hq : Shaped q 12 [1, 2, 3, 10, 11]) (h2 : 2 ≤ pByte q 0) (h10 : pByte q 0 ≤ 10)
    (ha : WriteAllowed (touchMaintain q.carrier s.blk) (classOf s.blk q.carrier) (regulatorWords q)) :
    Executes (.mcSetRegulator q) q (fun b => (writeWords (originOf q.carrier) true (regulatorWords q) b).reply q 0x0801 stOk
      (leBytes 2 ((writeWords (originOf q.carrier) true (regulatorWords q) b).fld (MC_REG1.GRANTED (pByte q 0))) ++ zeros 2)) s := by
  refine executes_of rfl h (List.forall_mem_append.mpr ⟨?_, fun _ hc => writeChecks_pass ha hc⟩)
  simp [shape_of_shaped hq, bad, Nat.lt_of_succ_le h2, h10]

theorem recSetFormat_executes (h : AtOnce 2 12 q s.blk) (hq : Shaped q 4 [3]) (h0 : pByte q 0 ≤ 2) (h1 : pByte q 1 ≤ 2) (h2 : pByte q 2 ≤ 2)
    (htake : s.blk.takeOpen = false)
    (ha : WriteAllowed (touchMaintain q.carrier s.blk) (classOf s.blk q.carrier) (formatWords q)) :
    Executes (.recSetFormat q) q (writeAndTell 0x0601 q (formatWords q) (fun _ => [])) s := by
  refine executes_of rfl h (List.forall_mem_append.mpr ⟨?_, fun _ hc => writeChecks_pass ha hc⟩)
  simp [shape_of_shaped hq, bad, h0, h1, h2, htake]

theorem monSetContext_executes (h : AtOnce 1 12 q s.blk) (hq : Shaped q 100 [1, 2, 3, 64, 65, 66, 67]) (h3 : pByte q 0 ≤ 3)
    (ha : WriteAllowed (touchMaintain q.carrier s.blk) (classOf s.blk q.carrier) (contextWords q)) :
    Executes (.monSetContext q) q (writeAndTell 0x0701 q (contextWords q) (fun _ => [])) s := by
  refine executes_of rfl h (List.forall_mem_append.mpr ⟨?_, fun _ hc => writeChecks_pass ha hc⟩)
  simp [shape_of_shaped hq, bad, h3]

theorem monSetTone_executes (h : AtOnce 1 12 q s.blk) (hq : Shaped q 2052 [1, 2, 3]) (h3 : pByte q 0 ≤ 3)
    (htone : ∀ i < 1024, pNat q (4 + 2 * i) 2 ≤ 1023)
    (ha : WriteAllowed (touchMaintain q.carrier s.blk) (classOf s.blk q.carrier) (toneWords (touchMaintain q.carrier s.blk) q)) :
    Executes (.monSetTone q) q (fun b => writeAndTell 0x0702 q (toneWords b q) (fun _ => []) b) s := by
  refine executes_of rfl h (List.forall_mem_append.mpr ⟨?_, fun _ hc => writeChecks_pass ha hc⟩)
  simpa [shape_of_shaped hq, bad, h3] using htone

end

/-- Settles O16: with no check failing each row's body is the write of its words and the reply; a plain word's write is the merged word,
and no word but it and the log's. -/
theorem wordWrites : Obligations.WordWrites := by
  refine ⟨fun q s => ⟨?wdg, ?rsv, ?cooling⟩, ?requests⟩
  case wdg =>
    intro h hq ha
    obtain ⟨hword, hrest⟩ := reg_writeWords_one (a := WDG_CFG.addr) (by decide) (BitVec.ofNat 32 (pNat q 0 4)) (originOf q.carrier)
      (touchMaintain q.carrier s.blk)
    refine completes_of_executes (wdgSet_executes h hq ha) ⟨replied_reply _ _ _ _ _ (not_dropped h.notPin h.loud _), ?_, ?_⟩
    · exact (reg_reply ..).trans hword
    · exact fun a hm => (reg_reply ..).trans (hrest a hm)
  case rsv =>
    intro h hq hclose ha
    obtain ⟨hword, hword', hrest⟩ := reg_writeWords_two (a := RSV_CFG.addr) (c := RSV_VIN_CFG.addr) (by decide) (by decide) (by decide)
      (BitVec.ofNat 32 (pNat q 0 4)) (BitVec.ofNat 32 (pNat q 4 4)) (originOf q.carrier) (touchMaintain q.carrier s.blk)
    refine completes_of_executes (rsvSetConfig_executes h hq hclose ha)
      ⟨replied_reply _ _ _ _ _ (not_dropped h.notPin h.loud _), ?_, ?_, ?_⟩
    · exact (reg_reply ..).trans hword
    · exact (reg_reply ..).trans hword'
    · exact fun a hm => (reg_reply ..).trans (hrest a hm)
  case cooling =>
    intro h hq ha
    obtain ⟨hword, hword', hrest⟩ := reg_writeWords_two (a := TH_TEC.addr) (c := TH_SHED.addr) (by decide) (by decide) (by decide)
      (BitVec.ofNat 32 (pNat q 0 4)) (BitVec.ofNat 32 (pNat q 4 4)) (originOf q.carrier) (touchMaintain q.carrier s.blk)
    refine completes_of_executes (thSetCooling_executes h hq ha) ⟨replied_reply _ _ _ _ _ (not_dropped h.notPin h.loud _), ?_, ?_, ?_⟩
    · exact (reg_reply ..).trans hword
    · exact (reg_reply ..).trans hword'
    · exact fun a hm => (reg_reply ..).trans (hrest a hm)
  case requests =>
    intro q s b hb
    subst hb
    exact ⟨fun n l hn h hq hspan hlim hl ha => writeReg_executes hn h hq hspan hlim hl ha,
      fun l h hq hspan hl ha => modifyReg_executes h hq hspan hl ha, ftSetTiming_executes,
      fun n hn h h1 h32 hq hnode ha => ftSetShape_executes hn h h1 h32 hq hnode ha, mcSetRegulator_executes, recSetFormat_executes,
      monSetContext_executes, monSetTone_executes, loopSet_executes⟩

/-! ### Writes outside the request path -/

theorem directWrite_allowed {c : Carrier} {l : List WordW} {s : Block} (hcls : 2 ≤ classOf s c) (ha : WriteAllowed s (classOf s c) l) :
    directWrite c l s = writeWords (originOf c) true l s := by
  have hpass : firstFail ((decide (classOf s c < 2), stDenied) :: writeChecks s (classOf s c) false 0 l) = none :=
    firstFail_none _ (List.forall_mem_cons.mpr ⟨decide_eq_false (Nat.not_lt.mpr hcls), ha⟩)
  rw [directWrite, hpass]

/-- Below CONFIGURE a write leaves every register but event 968's status word (R77 step 3). -/
theorem regsBut_directWrite_denied {c : Carrier} {s : Block} (hcls : classOf s c < 2) (l : List WordW) :
    RegsBut [evtStatusA 968] s (directWrite c l s) := by
  unfold directWrite
  rw [decide_eq_true hcls]
  rcases firstFail_denied (l := (true, stDenied) :: writeChecks s (classOf s c) false 0 l) List.mem_cons_self with h | h
  · rw [h]
    exact .refl s
  · rw [h]
    exact regsBut_raise s 968

/-- Settles O17: the rows are direct writes of one word, which nothing refuses or the class does. -/
theorem directWrites : Obligations.DirectWrites := by
  intro c s
  refine ⟨?word, ?period, ?domain, fun a v hcls => ⟨_, rfl, fun x hx => ?denied⟩⟩
  case word =>
    rintro a v _ rfl hcls ha
    rw [← directWrite_allowed hcls ha]
    rfl
  case period =>
    rintro i v _ rfl hcls ha
    rw [← directWrite_allowed hcls ha]
    rfl
  case domain =>
    rintro v _ rfl hcls ha
    rw [← directWrite_allowed hcls ha]
    rfl
  case denied => exact (regsBut_directWrite_denied hcls _).reg (by simpa using hx)

end Sys2Proof.Machine
end

section
/-! Routes, masks, clears and occurrences of events (R87, R88, R610, R611, R629). -/

namespace Sys2Proof.Machine

/-! ### Folds over a range -/

/-- Steps that each give the view `v` at their own place and keep it elsewhere: the fold gives `v` on the range. -/
theorem foldl_range_eq {σ β : Type} {f : σ → Nat → σ} {g : σ → β} {e x n : Nat} {v : β}
    (h : ∀ t i, i < n → g (f t i) = if x = e + i then v else g t) (s : σ) :
    g ((List.range n).foldl f s) = if e ≤ x ∧ x < e + n then v else g s := by
  induction n with
  | zero =>
    rw [if_neg (by omega)]
    rfl
  | succ n ih =>
    rw [List.range_succ, List.foldl_append, List.foldl_cons, List.foldl_nil, h _ n (Nat.lt_succ_self n), ih fun t i hi => h t i (by omega)]
    by_cases hx : x = e + n
    · rw [if_pos hx, if_pos (by omega)]
    · rw [if_neg hx]
      exact if_congr (by omega) rfl rfl

theorem zipIdx_replicate_eq_map {α : Type} (n : Nat) (v : α) : (List.replicate n v).zipIdx = (List.range n).map fun i => (v, i) :=
  List.ext_getElem (by simp) (by simp)

/-! ### Routes (R87) -/

theorem setRoutes_evt (origin e : Nat) (bs : List Byte) (s : Block) : (setRoutes origin e bs s).evt = { s.evt with
    route := bs.zipIdx.foldl (fun m (bi : Byte × Nat) => smSet (routeReset (e + bi.2)) m (e + bi.2) bi.1) s.evt.route } := by
  unfold setRoutes
  refine foldl_keeps (g := Block.evt) (fun t i => ?_) _ _
  dsimp only
  split
  · rfl
  · rw [cairn_evt]

theorem evtRoute_setRoutes (origin e n : Nat) (v : Byte) (s : Block) (x : Nat) :
    (setRoutes origin e (List.replicate n v) s).evtRoute x = if e ≤ x ∧ x < e + n then v else s.evtRoute x := by
  rw [Block.evtRoute, setRoutes_evt, zipIdx_replicate_eq_map, List.foldl_map]
  refine foldl_range_eq (g := fun m => smGet (routeReset x) m x) (fun m i _ => ?_) _
  by_cases hx : x = e + i
  · subst hx
    exact smGet_smSet _ _ _ _ _
  · rw [if_neg hx]
    exact smGet_smSet_other _ _ _ _ _ _ hx

/-! ### One bit of a row of words -/

/-- A bit written in one of a row of words, of 32 bits each, is the only bit of the row that changes. -/
theorem getLsbD_reg_wput {addr : Nat → Nat} (hinj : ∀ x y, addr x = addr y → x / 32 = y / 32) (s : Block) (e d : Nat) (b : Bool) :
    ((s.setReg (addr e) (wput (s.reg (addr e)) (e % 32) b)).reg (addr d)).getLsbD (d % 32) =
      if d = e then b else (s.reg (addr d)).getLsbD (d % 32) := by
  rw [reg_setReg]
  by_cases ha : addr d = addr e
  · have hword := hinj d e ha
    rw [if_pos ha, ha, wput, getLsbD_wput _ _ _ _ (by omega)]
    exact if_congr (by omega) rfl rfl
  · rw [if_neg ha, if_neg (ne_of_apply_ne addr ha)]

theorem evtMasked_setReg_mask (s : Block) (e d : Nat) (b : Bool) :
    (s.setReg (evtMaskA e) (wput (s.reg (evtMaskA e)) (e % 32) b)).evtMasked d = if d = e then b else s.evtMasked d :=
  getLsbD_reg_wput (fun x y h => by rw [evtMaskA_eq, evtMaskA_eq] at h; omega) s e d b

theorem evtMasked_congr {s t : Block} {e : Nat} (h : t.reg (evtMaskA e) = s.reg (evtMaskA e)) : t.evtMasked e = s.evtMasked e := by
  rw [Block.evtMasked, h, Block.evtMasked]

/-! ### Status bits cleared (R610) -/

theorem evtStatus_clearEvt (s : Block) (e d : Nat) : (s.clearEvt e).evtStatus d = if d = e then false else s.evtStatus d :=
  getLsbD_reg_wput (fun x y h => by rw [evtStatusA_eq, evtStatusA_eq] at h; omega) s e d false

theorem evtCount_clearEvt (s : Block) (e d : Nat) : (s.clearEvt e).evtCount d = if d = e then 0 else s.evtCount d :=
  smGet_smDel 0 s.evt.count e d

/-! ### Masks (R611) -/

/-- The mask words written, before the cairns and the notices. -/
def masksWritten (e n : Nat) (b : Bool) (s : Block) : Block :=
  (List.range n).foldl (fun t i => t.setReg (evtMaskA (e + i)) (wput (t.reg (evtMaskA (e + i))) ((e + i) % 32) b)) s

theorem evtMasked_masksWritten (e n : Nat) (b : Bool) (s : Block) (x : Nat) :
    (masksWritten e n b s).evtMasked x = if e ≤ x ∧ x < e + n then b else s.evtMasked x :=
  foldl_range_eq (g := fun t => t.evtMasked x) (fun t i _ => evtMasked_setReg_mask t (e + i) x b) s

theorem evtStatus_masksWritten (e n : Nat) (b : Bool) (s : Block) {x : Nat} (hx : x < 1024) :
    (masksWritten e n b s).evtStatus x = s.evtStatus x := by
  refine foldl_keeps (g := fun t => t.evtStatus x) (fun t i => evtStatus_congr _ _ _ ?_) _ s
  rw [reg_setReg, if_neg]
  rw [evtStatusA_eq, evtMaskA_eq]
  omega

/-- What follows the masks is in the log and the notices. -/
theorem regsBut_setMasks (origin e n : Nat) (b : Bool) (s : Block) :
    RegsBut [LOG_STAT.addr, LOG_HEAD.addr] (masksWritten e n b s) (setMasks origin e n b s) := by
  have hcairns : RegsBut [LOG_STAT.addr, LOG_HEAD.addr] (masksWritten e n b s) ((List.range 32).foldl (fun (t : Block) w =>
      if s.reg (EVT_MASK.addr w) = (masksWritten e n b s).reg (EVT_MASK.addr w) then t
      else t.cairn origin 0x0D02 (EVT_MASK.addr w) (s.reg (EVT_MASK.addr w)) ((masksWritten e n b s).reg (EVT_MASK.addr w)))
      (masksWritten e n b s)) := .foldl (fun t w => .ite (.refl t) (regsBut_cairn t _ _ _ _ _)) _ _
  exact hcairns.trans (.foldl (fun t i => .ite (.of_regs (notify_regs t _)) (.refl t)) _ _)

theorem evtMasked_setMasks (origin e n : Nat) (b : Bool) (s : Block) (x : Nat) :
    (setMasks origin e n b s).evtMasked x = if e ≤ x ∧ x < e + n then b else s.evtMasked x := by
  rw [← evtMasked_masksWritten]
  refine evtMasked_congr ((regsBut_setMasks origin e n b s).reg ?_)
  rw [evtMaskA_eq]
  simp [LOG_STAT.addr, LOG_HEAD.addr]
  omega

theorem evtStatus_setMasks (origin e n : Nat) (b : Bool) (s : Block) {x : Nat} (hx : x < 1024) :
    (setMasks origin e n b s).evtStatus x = s.evtStatus x := by
  rw [← evtStatus_masksWritten e n b s hx]
  refine (regsBut_setMasks origin e n b s).evtStatus ?_
  rw [evtStatusA_eq]
  simp [LOG_STAT.addr, LOG_HEAD.addr]
  omega

/-! ### An occurrence (R88, R610) -/

/-- The status bit of event `e` set. -/
def statusSet (e : Nat) (s : Block) : Block := s.setReg (evtStatusA e) (wput (s.reg (evtStatusA e)) (e % 32) true)

/-- The first occurrence of event `e` counted and stamped. -/
def firstNoted (e : Nat) (s : Block) : Block :=
  { statusSet e s with evt := { s.evt with count := smSet 0 s.evt.count e 1, stamp := smSet 0 s.evt.stamp e s.now } }

theorem raise_of_clear {s : Block} {e : Nat} (h : s.evtStatus e = false) :
    s.raise e = if (firstNoted e s).evtMasked e then firstNoted e s else (firstNoted e s).notify e := by
  unfold Block.raise Block.raiseAt
  rw [h]
  rfl

theorem raise_of_set {s : Block} {e : Nat} (h : s.evtStatus e = true) : s.raise e = { statusSet e s with
    evt := { s.evt with count := smSet 0 s.evt.count e (satAdd 0xFFFF (s.evtCount e) 1) } } := by
  unfold Block.raise Block.raiseAt
  rw [h]
  rfl

theorem evtMasked_firstNoted (s : Block) (e : Nat) : (firstNoted e s).evtMasked e = s.evtMasked e := by
  refine evtMasked_congr ((reg_setReg s _ _ _).trans (if_neg ?_))
  rw [evtMaskA_eq, evtStatusA_eq]
  omega

theorem raise_evt_of_clear {s : Block} {e : Nat} (h : s.evtStatus e = false) : (s.raise e).evt = (firstNoted e s).evt := by
  rw [raise_of_clear h]
  split
  · rfl
  · rw [notify_evt]

theorem evtCount_raise_of_clear {s : Block} {e : Nat} (h : s.evtStatus e = false) : (s.raise e).evtCount e = 1 := by
  rw [Block.evtCount, raise_evt_of_clear h]
  change smGet 0 (smSet 0 s.evt.count e 1) e = 1
  rw [smGet_smSet, if_pos rfl]

theorem evtStamp_raise_of_clear {s : Block} {e : Nat} (h : s.evtStatus e = false) : (s.raise e).evtStamp e = s.now := by
  rw [Block.evtStamp, raise_evt_of_clear h]
  change smGet 0 (smSet 0 s.evt.stamp e s.now) e = s.now
  rw [smGet_smSet, if_pos rfl]

/-- A masked event sends no notice. -/
theorem raise_cmd_of_masked {s : Block} {e : Nat} (h : s.evtStatus e = false) (hm : s.evtMasked e = true) :
    (s.raise e).cmd = s.cmd := by
  rw [raise_of_clear h, evtMasked_firstNoted, if_pos hm]
  rfl

theorem evtCount_raise_of_set {s : Block} {e : Nat} (h : s.evtStatus e = true) : (s.raise e).evtCount e = min 0xFFFF (s.evtCount e + 1) := by
  rw [raise_of_set h, Block.evtCount, smGet_smSet, if_pos rfl, satAdd]
  split <;> omega

theorem raise_cmd_of_set {s : Block} {e : Nat} (h : s.evtStatus e = true) : (s.raise e).cmd = s.cmd := by
  rw [raise_of_set h]
  rfl

theorem evtStamp_raise_of_set {s : Block} {e : Nat} (h : s.evtStatus e = true) : (s.raise e).evtStamp e = s.evtStamp e := by
  rw [raise_of_set h]
  rfl

/-! ### The opcodes (R87, R629) -/

section
variable {q : Req} {s : State} {e n : Nat} (he : e = pNat q 0 2) (hn : n = pNat q 2 2) (h1 : 1 ≤ n) (htop : e + n ≤ 1024)
include he hn h1 htop

theorem setEventRoute_completes (h : AtOnce 2 0 q s.blk) (hq : Shaped q 8 [5, 7]) (hb : pByte q 4 < 16) :
    Completes (.setEventRoute q) s (fun t => Replied q 0x0020 stOk [] t ∧
      ∀ x, t.evtRoute x = if e ≤ x ∧ x < e + n then BitVec.ofNat 8 (pByte q 4) else s.blk.evtRoute x) := by
  subst he hn
  have hshape := shape_of_shaped hq
  have hrange : pNat q 0 2 ≤ 1023 ∧ pNat q 2 2 ≠ 0 := by omega
  refine completes_of_executes (executes_of rfl h ?_) ⟨replied_reply _ _ _ _ _ (not_dropped h.notPin h.loud _), fun x => ?_⟩
  · simp [hshape, bad, hb, htop, hrange]
  · have hroute := evtRoute_setRoutes (originOf q.carrier) (pNat q 0 2) (pNat q 2 2) (BitVec.ofNat 8 (pByte q 4))
      (touchMaintain q.carrier s.blk) x
    rw [Block.evtRoute, reply_evt]
    exact hroute

theorem evtRange_passes {top : Nat} (htop' : n ≤ top) : (evtRange q top).1 = false := by
  subst he hn
  simp only [evtRange, bad, Bool.or_eq_false_iff, decide_eq_false_iff_not]
  omega

theorem evtClear_completes (h : AtOnce 1 0 q s.blk) (hq : q.params.length = 4) :
    Completes (.evtClear q) s (fun t => Replied q 0x0D01 stOk [] t ∧ t.log = s.blk.log ∧
      (∀ x, x < 1024 → t.evtStatus x = if e ≤ x ∧ x < e + n then false else s.blk.evtStatus x) ∧
      (∀ x, t.evtCount x = if e ≤ x ∧ x < e + n then 0 else s.blk.evtCount x)) := by
  have hrange := evtRange_passes he hn h1 htop (top := 1024) (by omega)
  subst he hn
  refine completes_of_executes (executes_of rfl h (by simp [shape_of_length hq, hrange]))
    ⟨replied_reply _ _ _ _ _ (not_dropped h.notPin h.loud _), ?_, fun x _ => ?_, fun x => ?_⟩
  · rw [reply_log]
    exact foldl_keeps (g := Block.log) (fun t i => clearEvt_log t _) _ _
  · rw [evtStatus_reply]
    exact foldl_range_eq (g := fun t => t.evtStatus x) (fun t i _ => evtStatus_clearEvt t _ x) _
  · rw [Block.evtCount, reply_evt]
    exact foldl_range_eq (g := fun t => t.evtCount x) (fun t i _ => evtCount_clearEvt t _ x) _

theorem evtSetMask_completes (h : AtOnce 2 0 q s.blk) (hq : Shaped q 8 [5, 6, 7]) (hb : pByte q 4 ≤ 1) :
    Completes (.evtSetMask q) s (fun t => Replied q 0x0D02 stOk [] t ∧
      ∀ x, x < 1024 → t.evtMasked x = (if e ≤ x ∧ x < e + n then decide (pByte q 4 = 1) else s.blk.evtMasked x) ∧
        t.evtStatus x = s.blk.evtStatus x) := by
  have hrange := evtRange_passes he hn h1 htop (top := 1024) (by omega)
  subst he hn
  refine completes_of_executes (executes_of rfl h (by simp [shape_of_shaped hq, hrange, bad, hb]))
    ⟨replied_reply _ _ _ _ _ (not_dropped h.notPin h.loud _), fun x hx => ⟨?_, ?_⟩⟩
  · rw [evtMasked_congr (reg_reply ..)]
    exact evtMasked_setMasks ..
  · rw [evtStatus_reply]
    exact evtStatus_setMasks _ _ _ _ _ hx

end

/-- Settles O18: the opcodes are folds over their range, each step of which changes its own event alone; an occurrence sets its own bit. -/
theorem eventCommands : Obligations.EventCommands := by
  refine ⟨fun q s e n he hn h1 htop => ⟨setEventRoute_completes he hn h1 htop, evtClear_completes he hn h1 htop,
    evtSetMask_completes he hn h1 htop⟩, fun b e _ => ⟨fun x _ => evtStatus_raise b e x, fun hclear => ?_, fun hset => ?_, raise_log b e, ?_⟩⟩
  · exact ⟨evtCount_raise_of_clear hclear, evtStamp_raise_of_clear hclear, raise_cmd_of_masked hclear⟩
  · exact ⟨evtCount_raise_of_set hset, evtStamp_raise_of_set hset, raise_cmd_of_set hset⟩
  · exact fun a ha => (regsBut_raise b e).reg (by simpa using ha)

end Sys2Proof.Machine
end

section
/-! MAINTAIN: its challenge, its answer and its end (R77, R125, R126). -/

namespace Sys2Proof.Machine

/-! ### Access state -/

theorem classOf_congr {s t : Block} (h : t.acc = s.acc) (c : Carrier) : classOf t c = classOf s c := by
  unfold classOf
  rw [h]

/-- An origin that holds MAINTAIN has class 3 (R124). -/
theorem classOf_of_maintain {s : Block} {c : Carrier} {m : Maint} (hm : m ∈ s.acc.maintain) (ho : m.origin = originOf c) :
    classOf s c = 3 := if_pos (List.any_eq_true.mpr ⟨m, hm, decide_eq_true ho⟩)

/-- An access change that leaves the holders of MAINTAIN and the table leaves every class. -/
theorem classOf_of_eq {s t : Block} (hm : t.acc.maintain = s.acc.maintain) (ht : t.acc.table = s.acc.table) (c : Carrier) :
    classOf t c = classOf s c := by
  unfold classOf
  rw [hm, ht]

/-- An event's notice is its only trace in the command core. -/
@[simp] theorem raise_replies (s : Block) (e : Nat) : (s.raise e).cmd.replies = s.cmd.replies := by
  unfold Block.raise Block.raiseAt
  dsimp only
  split
  · rfl
  · split <;> rfl

theorem replied_congr {q : Req} {op st : Nat} {res : List Byte} {s t : Block} (h : t.cmd.replies = s.cmd.replies) :
    Replied q op st res t ↔ Replied q op st res s := by
  unfold Replied
  rw [h]

/-- The nonces of an origin are spent. -/
def spendNonces (o : Nat) (s : Block) : Block :=
  { s with acc := { s.acc with nonces := s.acc.nonces.filter (fun x => decide (x.origin ≠ o)) } }

theorem mem_spendNonces {o : Nat} {s : Block} {x : Nonce} (h : x ∈ (spendNonces o s).acc.nonces) : x.origin ≠ o := by
  simpa using (List.mem_filter.mp h).2

/-- The origin holds MAINTAIN from now on. -/
def grantMaintain (o : Nat) (s : Block) : Block :=
  { s with acc := { s.acc with maintain := s.acc.maintain.filter (fun (m : Maint) => decide (m.origin ≠ o)) ++ [(⟨o, s.now⟩ : Maint)] } }

/-- A wrong answer counts; the third within 60 s shuts challenges for 60 s (R125). -/
def countWrong (s : Block) : Block :=
  let w := s.acc.wrong.filter (fun t => decide (s.sinceT t ≤ 60 * secT)) ++ [s.now]
  { s with acc := { s.acc with wrong := w, lockUntil := if 3 ≤ w.length then some (s.now + BitVec.ofNat 64 (60 * secT)) else s.acc.lockUntil } }

theorem countWrong_locks {s : Block} (h : 2 ≤ (s.acc.wrong.filter (fun w => decide (s.sinceT w ≤ 60 * secT))).length) :
    (countWrong s).acc.lockUntil = some (s.now + BitVec.ofNat 64 (60 * secT)) := by
  refine if_pos ?_
  rw [List.length_append, List.length_singleton]
  omega

/-- Is the request the answer to a nonce of its origin not older than 60 s? -/
def answersRight (q : Req) (s : Block) : Bool :=
  s.acc.nonces.any (fun x => decide (x.origin = originOf q.carrier) && decide (s.sinceT x.since ≤ 60 * secT) &&
    decide (q.params = maintAnswer s (originOf q.carrier) x.nonce))

/-! ### The rows -/

section
variable {q : Req} {s : State}

/-- What GET_CHALLENGE gives: 16 free bytes (log entry 28). -/
def freshNonce (s : Block) : List Byte := (List.range 16).map (fun i => Config.random (16 * s.free + i))

/-- A nonce kept for its origin, in place of those it had. -/
def keepNonce (o : Nat) (s : Block) : Block := { s.draw with
  acc := { s.acc with nonces := s.acc.nonces.filter (fun (x : Nonce) => decide (x.origin ≠ o)) ++ [(⟨o, freshNonce s, s.now⟩ : Nonce)] } }

theorem getChallenge_executes (h : AtOnce 0 16 q s.blk) (hq : q.params = [])
    (hopen : ∀ u, s.blk.acc.lockUntil = some u → laterThan u s.blk.now = false) :
    Executes (.getChallenge q) q (fun b => (keepNonce (originOf q.carrier) b).reply q 0x0110 stOk (freshNonce b)) s := by
  refine executes_of rfl h ?_
  have hshape : (shape q 0 []).1 = false := shape_of_length (by rw [hq]; rfl)
  have hlock : (touchMaintain q.carrier s.blk).acc.lockUntil = s.blk.acc.lockUntil := rfl
  cases hl : s.blk.acc.lockUntil with
  | none => simp [hshape, hlock, hl]
  | some u => simp [hshape, hlock, hl, hopen u hl]

theorem answerChallenge_executes_right (h : AtOnce 0 0 q s.blk) (hq : q.params.length = 16)
    (hok : answersRight q (touchMaintain q.carrier s.blk) = true) : Executes (.answerChallenge q) q (fun b =>
      (((grantMaintain (originOf q.carrier) (spendNonces (originOf q.carrier) b)).cairnN (originOf q.carrier) 0x0110 0 0 3).raise 974).reply q
        0x0111 stOk []) s :=
  executes_congr (executes_of rfl h (by simp [shape_of_length hq])) (if_pos hok)

theorem answerChallenge_executes_wrong (h : AtOnce 0 0 q s.blk) (hq : q.params.length = 16)
    (hno : answersRight q (touchMaintain q.carrier s.blk) = false) : Executes (.answerChallenge q) q (fun b =>
      (((countWrong (spendNonces (originOf q.carrier) b)).reply q 0x0111 stDenied []).raise 968).raise 976) s :=
  executes_congr (executes_of rfl h (by simp [shape_of_length hq])) (if_neg (ne_true_of_eq_false hno))

theorem getChallenge_completes (h : AtOnce 0 16 q s.blk) (hq : q.params = [])
    (hopen : ∀ u, s.blk.acc.lockUntil = some u → laterThan u s.blk.now = false) :
    Completes (.getChallenge q) s (fun t => ∃ n : List Byte, n.length = 16 ∧ Replied q 0x0110 stOk n t ∧
      ⟨originOf q.carrier, n, s.blk.now⟩ ∈ t.acc.nonces) := by
  refine completes_of_executes (getChallenge_executes h hq hopen)
    ⟨freshNonce (touchMaintain q.carrier s.blk), by simp [freshNonce], replied_reply _ _ _ _ _ (not_dropped h.notPin h.loud _), ?_⟩
  rw [reply_acc]
  exact List.mem_append_right _ List.mem_cons_self

theorem answerChallenge_completes_right (h : AtOnce 0 0 q s.blk) (hq : q.params.length = 16) (hroom : s.blk.log.queue.length < 4096)
    (hok : answersRight q (touchMaintain q.carrier s.blk) = true) :
    Completes (.answerChallenge q) s (fun t => Replied q 0x0111 stOk [] t ∧ classOf t q.carrier = 3 ∧ t.evtStatus 974 = true ∧
      Logged (originOf q.carrier) 0x0110 0 0 3 t ∧ ∀ x ∈ t.acc.nonces, x.origin ≠ originOf q.carrier) := by
  refine completes_of_executes (answerChallenge_executes_right h hq hok)
    ⟨replied_reply _ _ _ _ _ (not_dropped h.notPin h.loud _), ?_, ?_, ?_, fun x hx => ?_⟩
  · refine classOf_of_maintain (m := ⟨originOf q.carrier, s.blk.now⟩) ?_ rfl
    rw [reply_acc, raise_acc, cairnN_acc]
    exact List.mem_append_right _ List.mem_cons_self
  · rw [evtStatus_reply, evtStatus_raise, decide_eq_true rfl, Bool.true_or]
  · refine (logged_congr ((reply_log ..).trans (raise_log ..))).mpr ?_
    exact logged_cairnN (grantMaintain (originOf q.carrier) (spendNonces (originOf q.carrier) (touchMaintain q.carrier s.blk))) _ 0x0110 0 0 3
      hroom
  · rw [reply_acc, raise_acc, cairnN_acc] at hx
    exact mem_spendNonces (s := touchMaintain q.carrier s.blk) hx

theorem answerChallenge_completes_wrong (h : AtOnce 0 0 q s.blk) (hq : q.params.length = 16)
    (hno : answersRight q (touchMaintain q.carrier s.blk) = false) :
    Completes (.answerChallenge q) s (fun t => Replied q 0x0111 stDenied [] t ∧ classOf t q.carrier = classOf s.blk q.carrier ∧
      t.evtStatus 968 = true ∧ t.evtStatus 976 = true ∧ t.log = s.blk.log ∧ (∀ x ∈ t.acc.nonces, x.origin ≠ originOf q.carrier) ∧
      (2 ≤ (s.blk.acc.wrong.filter (fun w => decide ((touchMaintain q.carrier s.blk).sinceT w ≤ 60 * secT))).length →
        t.acc.lockUntil = some (s.blk.now + BitVec.ofNat 64 (60 * secT)))) := by
  have hdrop := not_dropped h.notPin h.loud stDenied
  refine completes_of_executes (answerChallenge_executes_wrong h hq hno) ⟨?_, ?_, ?_, ?_, ?_, fun x hx => ?_, fun h2 => ?_⟩
  · exact (replied_congr ((raise_replies ..).trans (raise_replies ..))).mpr (replied_reply _ _ _ _ _ hdrop)
  · rw [← classOf_touchMaintain q.carrier q.carrier s.blk]
    refine classOf_of_eq ?_ ?_ _ <;> rw [raise_acc, raise_acc, reply_acc] <;> rfl
  · simp [evtStatus_raise]
  · simp [evtStatus_raise]
  · rw [raise_log, raise_log, reply_log]
    rfl
  · rw [raise_acc, raise_acc, reply_acc] at hx
    exact mem_spendNonces (s := touchMaintain q.carrier s.blk) hx
  · rw [raise_acc, raise_acc, reply_acc]
    exact countWrong_locks (s := spendNonces (originOf q.carrier) (touchMaintain q.carrier s.blk)) h2

/-! ### The end of MAINTAIN (R126) -/

/-- The holders of MAINTAIN that do not satisfy `p`. -/
def dropMaintain (p : Maint → Bool) (s : Block) : Block :=
  { s with acc := { s.acc with maintain := s.acc.maintain.filter (fun m => !p m) } }

theorem endMaintain_one {p : Maint → Bool} {s : Block} {m : Maint} (h : s.acc.maintain.filter p = [m]) : endMaintain true p s =
    ((dropMaintain p s).cairnN m.origin 0x0111 0 3 (tableClass s m.origin)).raise 975 := by
  unfold endMaintain
  rw [h]
  rfl

/-- A command renews its origin's hold on MAINTAIN, and no other (R126). -/
def renewed (c : Carrier) (s : Block) (m : Maint) : Maint := if m.origin = originOf c then { m with last := s.now } else m

theorem renewed_origin (c : Carrier) (s : Block) (m : Maint) : (renewed c s m).origin = m.origin := by
  unfold renewed
  split <;> rfl

theorem touchMaintain_maintain (c : Carrier) (s : Block) : (touchMaintain c s).acc.maintain = s.acc.maintain.map (renewed c s) := rfl

theorem filter_origin_touchMaintain (c : Carrier) (s : Block) (o : Nat) :
    (touchMaintain c s).acc.maintain.filter (fun m => decide (m.origin = o)) =
      (s.acc.maintain.filter (fun m => decide (m.origin = o))).map (renewed c s) := by
  rw [touchMaintain_maintain, List.filter_map]
  congr 2
  funext m
  rw [Function.comp_apply, renewed_origin]

theorem mem_dropMaintain_of_origin_ne {c : Carrier} {s : Block} {m : Maint} (hm : m ∈ s.acc.maintain) (ho : m.origin ≠ originOf c) :
    m ∈ (dropMaintain (fun m => decide (m.origin = originOf c)) (touchMaintain c s)).acc.maintain := by
  have hsame : renewed c s m = m := if_neg ho
  exact List.mem_filter.mpr ⟨List.mem_map.mpr ⟨m, hm, hsame⟩, by simp [ho]⟩

theorem leaveMaintain_executes (h : AtOnce 0 0 q s.blk) (hq : q.params = []) {m : Maint}
    (hm : s.blk.acc.maintain.filter (fun m => decide (m.origin = originOf q.carrier)) = [m]) : Executes (.leaveMaintain q) q (fun b =>
      (((dropMaintain (fun m => decide (m.origin = originOf q.carrier)) b).cairnN (originOf q.carrier) 0x0111 0 3
        (tableClass b (originOf q.carrier))).raise 975).reply q 0x0112 stOk []) s := by
  have hshape : (shape q 0 []).1 = false := shape_of_length (by rw [hq]; rfl)
  have hmem : m ∈ s.blk.acc.maintain.filter (fun m => decide (m.origin = originOf q.carrier)) := by rw [hm]; exact List.mem_cons_self
  have horigin : m.origin = originOf q.carrier := of_decide_eq_true (List.mem_filter.mp hmem).2
  have htouched : (touchMaintain q.carrier s.blk).acc.maintain.filter (fun m => decide (m.origin = originOf q.carrier)) =
      [renewed q.carrier s.blk m] := by rw [filter_origin_touchMaintain, hm, List.map_singleton]
  refine executes_congr (executes_of rfl h (by simp [hshape])) ?_
  rw [endMaintain_one htouched, renewed_origin, horigin]

theorem leaveMaintain_completes (h : AtOnce 0 0 q s.blk) (hq : q.params = []) (hroom : s.blk.log.queue.length < 4096) {m : Maint}
    (hm : s.blk.acc.maintain.filter (fun m => decide (m.origin = originOf q.carrier)) = [m]) :
    Completes (.leaveMaintain q) s (fun t => Replied q 0x0112 stOk [] t ∧ (∀ m ∈ t.acc.maintain, m.origin ≠ originOf q.carrier) ∧
      (∀ m ∈ s.blk.acc.maintain, m.origin ≠ originOf q.carrier → m ∈ t.acc.maintain) ∧ t.evtStatus 975 = true ∧
      Logged (originOf q.carrier) 0x0111 0 3
        (BitVec.ofNat 32 (tableClass (touchMaintain q.carrier s.blk) (originOf q.carrier))) t) := by
  refine completes_of_executes (leaveMaintain_executes h hq hm)
    ⟨replied_reply _ _ _ _ _ (not_dropped h.notPin h.loud _), fun x hx => ?_, fun x hx ho => ?_, ?_, ?_⟩
  · rw [reply_acc, raise_acc, cairnN_acc] at hx
    simpa using (List.mem_filter.mp hx).2
  · rw [reply_acc, raise_acc, cairnN_acc]
    exact mem_dropMaintain_of_origin_ne hx ho
  · rw [evtStatus_reply, evtStatus_raise, decide_eq_true rfl, Bool.true_or]
  · refine (logged_congr ((reply_log ..).trans (raise_log ..))).mpr ?_
    exact logged_cairnN (dropMaintain (fun m => decide (m.origin = originOf q.carrier)) (touchMaintain q.carrier s.blk)) _ 0x0111 0 3 _ hroom

theorem setMaintKey_executes (h : AtOnce 3 0 q s.blk) (hq : q.params.length = 32) : Executes (.setMaintKey q) q
    (fun b => (b.nvmWord ⟨keyOffset, padTo 64 q.params, .key⟩).replyLater q 0x0113 stOk [] .nvm) s :=
  executes_of rfl h (by simp [shape_of_length hq])

end

/-- Settles O19: each row's body by the case of its answer; the reply and the event leave what the access state says. -/
theorem maintainExchange : Obligations.MaintainExchange := by
  intro q s b o hb ho
  subst hb ho
  refine ⟨getChallenge_completes, fun h hq hroom hok => answerChallenge_completes_right h hq hroom ?right,
    fun h hq hno => answerChallenge_completes_wrong h hq ?wrong, ?leave, ?key⟩
  case right =>
    obtain ⟨x, hx, horigin, hage, hanswer⟩ := hok
    exact List.any_eq_true.mpr ⟨x, hx, by rw [decide_eq_true horigin, decide_eq_true hage, decide_eq_true hanswer]; rfl⟩
  case wrong =>
    refine List.any_eq_false.mpr fun x hx hright => ?_
    simp only [Bool.and_eq_true, decide_eq_true_eq] at hright
    obtain ⟨⟨horigin, hage⟩, hanswer⟩ := hright
    exact hno x hx horigin hage hanswer
  case leave =>
    rintro h hq hroom ⟨m, hm⟩
    exact leaveMaintain_completes h hq hroom hm
  case key =>
    intro h hq
    exact completes_of_executes (setMaintKey_executes h hq) ⟨held_replyLater _ _ _ _ _ _, rfl, rfl⟩

end Sys2Proof.Machine
end

section
/-! AG_RECOMPUTE, RSV_TEST, RSV_SHIP and TW_XFER (R104, R575, R585, R599, R600, R605). -/

namespace Sys2Proof.Machine

section
variable {q : Req} {s : State}

/-- A margin plan under way since now (R575). -/
def planStarted (s : Block) : Block := ({ s with th := { s.th with planRun := some s.now } } : Block).setFlag AG_STAT.RUNNING true

theorem agRecompute_executes (h : AtOnce 2 4 q s.blk) (hq : q.params = []) (hp : s.blk.th.planRun = none) :
    Executes (.agRecompute q) q (fun b => (planStarted b).replyLater q 0x0B04 stOk [] .plan) s := by
  have hshape : (shape q 0 []).1 = false := shape_of_length (by rw [hq]; rfl)
  have hidle : (touchMaintain q.carrier s.blk).th.planRun = none := hp
  refine executes_congr (executes_of rfl h (by simp [hshape, hidle])) ?_
  rw [startPlan, hidle]
  rfl

theorem agRecompute_completes (h : AtOnce 2 4 q s.blk) (hq : q.params = []) (hp : s.blk.th.planRun = none) :
    Completes (.agRecompute q) s (fun t => Held q 0x0B04 .plan t ∧ t.th.planRun = some s.blk.now ∧ t.flag AG_STAT.RUNNING = true) := by
  refine completes_of_executes (agRecompute_executes h hq hp) ⟨held_replyLater _ _ _ _ _ _, ?_, ?_⟩
  · rw [replyLater_th, planStarted, setFlag_th]
    rfl
  · rw [flag_congr _ _ _ (reg_of_regs (replyLater_regs ..) _)]
    exact flag_setFlag_same _ _ _ (by decide)

theorem rsvTest_executes (pg low : Bool) (h : AtOnce 2 4 q s.blk) (hq : q.params = []) (hc : s.blk.rsv.closeOut = none)
    (ht : s.blk.takeOpen = false) : Executes (.rsvTest q pg low) q
      (fun b => (reserveTest pg low b).2.reply q 0x0C02 stOk (leBytes 1 (reserveTest pg low b).1 ++ zeros 3)) s := by
  have hshape : (shape q 0 []).1 = false := shape_of_length (by rw [hq]; rfl)
  exact executes_of rfl h (by simp [hshape, hc, ht])

/-- What the 20 ms test finds (R599). -/
theorem reserveTest_outcome (pg low : Bool) (b : Block) : (reserveTest pg low b).1 = if pg then 1 else if low then 2 else 0 := by
  unfold reserveTest
  split_ifs <;> rfl

/-- The boost fails before the cell is looked at. -/
theorem reserveTest_boost (low : Bool) (b : Block) :
    (reserveTest true low b).2.flag RSV_STAT.BOOST_FAULT = true ∧ (reserveTest true low b).2.evtStatus 951 = true := by
  change ((b.setFlag RSV_STAT.BOOST_FAULT true).raise 951).flag _ = true ∧ ((b.setFlag RSV_STAT.BOOST_FAULT true).raise 951).evtStatus 951 = true
  rw [flag_raise _ _ _ (by decide), flag_setFlag_same _ _ _ (by decide), evtStatus_raise]
  exact ⟨rfl, rfl⟩

theorem reserveTest_cell (b : Block) :
    (reserveTest false true b).2.flag RSV_STAT.CELL_FAULT = true ∧ (reserveTest false true b).2.evtStatus 950 = true := by
  change ((b.setFlag RSV_STAT.CELL_FAULT true).raise 950).flag _ = true ∧ ((b.setFlag RSV_STAT.CELL_FAULT true).raise 950).evtStatus 950 = true
  rw [flag_raise _ _ _ (by decide), flag_setFlag_same _ _ _ (by decide), evtStatus_raise]
  exact ⟨rfl, rfl⟩

theorem rsvTest_completes (pg low : Bool) (h : AtOnce 2 4 q s.blk) (hq : q.params = []) (hc : s.blk.rsv.closeOut = none)
    (ht : s.blk.takeOpen = false) :
    Completes (.rsvTest q pg low) s (fun t => Replied q 0x0C02 stOk (leBytes 1 (if pg then 1 else if low then 2 else 0) ++ zeros 3) t ∧
      (pg = true → t.flag RSV_STAT.BOOST_FAULT = true ∧ t.evtStatus 951 = true) ∧
      (pg = false → low = true → t.flag RSV_STAT.CELL_FAULT = true ∧ t.evtStatus 950 = true) ∧
      (pg = false → low = false → t.regs = s.blk.regs)) := by
  refine completes_of_executes (rsvTest_executes pg low h hq hc ht) ⟨?_, ?_, ?_, ?_⟩
  · rw [reserveTest_outcome]
    exact replied_reply _ _ _ _ _ (not_dropped h.notPin h.loud _)
  · rintro rfl
    rw [flag_reply, evtStatus_reply]
    exact reserveTest_boost low _
  · rintro rfl rfl
    rw [flag_reply, evtStatus_reply]
    exact reserveTest_cell _
  · rintro rfl rfl
    rw [reply_regs]
    rfl

theorem rsvShip_executes (h : AtOnce 1 0 q s.blk) (hq : q.params = []) (hc : s.blk.rsv.closeOut = none)
    (ht : s.blk.takeOpen = true → forced q = true) :
    Executes (.rsvShip q) q (fun b => shipPress (originOf q.carrier) (b.reply q 0x0C03 stOk [])) s := by
  have hshape : (shape q 0 []).1 = false := shape_of_length (by rw [hq]; rfl)
  exact executes_of rfl h (by simpa [hshape, hc] using ht)

/-- The bus given a transaction, whose reply waits for its end (R104). -/
def busGiven (q : Req) (x : Xfer) (s : Block) : Block := ({ s with tw := { s.tw with xfer := some x } } : Block).replyLater q 0x0E00 stOk [] .bus

theorem twXfer_executes {x : Xfer} (st : BusStart) (r : BusResult) (h : AtOnce 1 (2 + pNat q 6 2) q s.blk)
    (hq : q.params.length = 8 + pNat q 4 2) (h8 : 8 ≤ pByte q 0) (h77 : pByte q 0 ≤ 0x77) (h2 : pByte q 1 ≤ 2) (hw : pNat q 4 2 ≤ 256)
    (hr : pNat q 6 2 ≤ 256) (hrole : s.blk.fld TW_CFG.ROLE = 1) (hown : ownAddr s.blk (pByte q 0) = false) (hfree : s.blk.tw.xfer = none)
    (hx : x = { target := pByte q 0, sends := pByte q 1 + pNat q 4 2, reads := pNat q 6 2, losses := 0 }) :
    Executes (.twXfer q st r) q (fun b => xferTry x st r (busGiven q x b)) s := by
  subst hx
  have hshape := shape_of_length hq
  have hown' : ownAddr (touchMaintain q.carrier s.blk) (pByte q 0) = false := hown
  have hfree' : (touchMaintain q.carrier s.blk).tw.xfer = none := hfree
  exact executes_of rfl h (by simp [hshape, bad, h8, h77, h2, hw, hr, hrole, hown', hfree'])

end

/-- Settles O30: no check of the row fails, and its body is the plan, the test, the press or the transaction. -/
theorem ageingReserveBusCommands : Obligations.AgeingReserveBusCommands := by
  intro q s
  refine ⟨agRecompute_completes, rsvTest_completes, rsvShip_executes, ?_⟩
  intro st r x h hq h8 h77 h2 hw hr hrole hown hfree hx
  exact ⟨busGiven q x (touchMaintain q.carrier s.blk), rfl, held_replyLater _ _ _ _ _ _,
    twXfer_executes st r h hq h8 h77 h2 hw hr hrole hown hfree hx⟩

end Sys2Proof.Machine
end

section
/-! The control core locks up and restarts, and a self-test ends (R80, R98, R126, R614, R617, R619, R624 to R627, R630). -/

namespace Sys2Proof.Machine

/-! ### A lock-up (R126, R614, R617) -/

/-- The end of MAINTAIN shows in the log, the events and the access state alone. -/
theorem endMaintain_keeps {β : Type} {g : Block → β} {s : Block} (byCommand : Bool) (p : Maint → Bool)
    (hacc : ∀ acc, g { s with acc := acc } = g s) (hcairn : ∀ t o k a x y, g (Block.cairnN t o k a x y) = g t)
    (hraise : ∀ t e, g (Block.raise t e) = g t) : g (endMaintain byCommand p s) = g s := by
  unfold endMaintain
  exact (foldl_keeps (g := g) (fun t m => (hraise _ _).trans (hcairn _ _ _ _ _ _)) _ _).trans (hacc _)

theorem endMaintain_pwr (byCommand : Bool) (p : Maint → Bool) (s : Block) : (endMaintain byCommand p s).pwr = s.pwr :=
  endMaintain_keeps byCommand p (fun _ => rfl) (fun t => cairnN_pwr t) (fun t => raise_pwr t)

theorem endMaintain_ft (byCommand : Bool) (p : Maint → Bool) (s : Block) : (endMaintain byCommand p s).ft = s.ft :=
  endMaintain_keeps byCommand p (fun _ => rfl) (fun t => cairnN_ft t) (fun t => raise_ft t)

theorem endMaintain_rcd (byCommand : Bool) (p : Maint → Bool) (s : Block) : (endMaintain byCommand p s).rcd = s.rcd :=
  endMaintain_keeps byCommand p (fun _ => rfl) (fun t => cairnN_rcd t) (fun t => raise_rcd t)

theorem regsBut_endMaintain (byCommand : Bool) (p : Maint → Bool) (s : Block) :
    RegsBut [LOG_STAT.addr, LOG_HEAD.addr, evtStatusA 975] s (endMaintain byCommand p s) := by
  unfold endMaintain
  exact RegsBut.trans (.of_regs rfl) (.foldl (fun t m => (regsBut_cairnN t _ _ _ _ _).append (regsBut_raise _ 975)) _ _)

/-- The kind of the fault contained (R614). -/
theorem kind_contain (s : Block) {k : Nat} (hk : k < 2 ^ FLT_STAT.KIND.width) : (s.contain k).fld FLT_STAT.KIND = k := by
  unfold Block.contain
  dsimp only
  rw [fld_mk, (regsBut_raise _ _).fld (by decide), fld_setFld_apart _ _ _ _ (by decide), fld_setFld_apart _ _ _ _ (by decide), Block.incFld,
    fld_setFld_apart _ _ _ _ (by decide), fld_setFld _ _ _ (by decide), Nat.mod_eq_of_lt hk]

/-- The core is down, and whether this came within 60 s of its last restart is noted (R617, R619). -/
def coreLocked (s : Block) : Block :=
  let early := match s.pwr.coreRestarts with | t :: _ => decide (s.sinceT t < 60 * secT) | [] => false
  { s with pwr := { s.pwr with coreDown := true }, flt := { s.flt with lockedEarly := early } }

theorem watchdogLockup_becomes {s : State} (hup : s.blk.pwr.coreDown = false) (hrun : notRunning s.blk = false)
    (hct : s.blk.flag SYS_DOMAIN.CT_ON = true) :
    Becomes .watchdogLockup s (endMaintain false (fun _ => true) (coreLocked (s.blk.contain 7))) := by
  have hgo : ¬ (s.blk.pwr.coreDown || notRunning s.blk || !s.blk.flag SYS_DOMAIN.CT_ON) = true := by rw [hup, hrun, hct]; nofun
  exact becomes_of_eq rfl (if_neg hgo)

theorem watchdogLockup_stays {s : State} (h : s.blk.pwr.coreDown = true ∨ notRunning s.blk = true ∨ s.blk.flag SYS_DOMAIN.CT_ON = false) :
    Becomes .watchdogLockup s s.blk := by
  have hstop : (s.blk.pwr.coreDown || notRunning s.blk || !s.blk.flag SYS_DOMAIN.CT_ON) = true := by
    rcases h with h | h | h <;> simp [h]
  exact becomes_of_eq rfl (if_pos hstop)

theorem watchdogLockup_completes {s : State} (hup : s.blk.pwr.coreDown = false) (hrun : notRunning s.blk = false)
    (hct : s.blk.flag SYS_DOMAIN.CT_ON = true) : Completes .watchdogLockup s (fun t =>
      t.pwr.coreDown = true ∧ t.fld FLT_STAT.KIND = 7 ∧ t.ft = s.blk.ft ∧ t.rcd = s.blk.rcd) := by
  refine completes_of_becomes (watchdogLockup_becomes hup hrun hct) ⟨?_, ?_, ?_, ?_⟩
  · rw [endMaintain_pwr]
    rfl
  · rw [(regsBut_endMaintain _ _ _).fld (by decide)]
    exact kind_contain s.blk (by decide)
  · rw [endMaintain_ft]
    exact contain_ft s.blk 7
  · rw [endMaintain_rcd]
    exact contain_rcd s.blk 7

/-! ### The core's restart (R80, R98, R619) -/

/-- With no image that verifies the core stays in RECOVERY (R619). -/
def coreStuck (s : Block) : Block := (((dropRequests s).setFlag WDG_STAT.STUCK true).setFld SYS_BOOT.STAGE 10).raise 1023

/-- The core runs again from image `b`, and this is counted, raised and logged (R619 step 2). -/
def coreBooted (b : Nat) (s : Block) : Block :=
  let t := (((dropRequests s).setFld SYS_BOOT.IMAGE b).setFlag WDG_STAT.IMAGE_CHANGED (decide (s.fld SYS_BOOT.IMAGE ≠ b))).satFld
    WDG_STAT.RESTARTS 1
  (({ t with pwr := { t.pwr with coreDown := false, coreRestarts := [t.now] } } : Block).raise 1018).cairnN oFirmware 0x0D01 WDG_STAT.addr
    (s.fld SYS_BOOT.IMAGE) b

/-- Nothing waits for the core any more. -/
def waitOver (s : Block) : Block := { s with flt := { s.flt with waiting := [], lockedEarly := false } }

section
variable {s : State} (hdown : s.blk.pwr.coreDown = true) (hstage : s.blk.fld SYS_BOOT.STAGE ≠ 10)

theorem coreRestartDone_stays (h : s.blk.pwr.coreDown = false ∨ s.blk.fld SYS_BOOT.STAGE = 10) : Becomes .coreRestartDone s s.blk := by
  have hstop : (!s.blk.pwr.coreDown || decide (s.blk.fld SYS_BOOT.STAGE = 10)) = true := by
    rcases h with h | h <;> simp [h]
  exact becomes_of_eq rfl (if_pos hstop)

include hdown hstage

theorem coreRestartDone_stuck (hi : restartImage s.blk = none) : Becomes .coreRestartDone s (coreStuck s.blk) := by
  have hgo : ¬ (!s.blk.pwr.coreDown || decide (s.blk.fld SYS_BOOT.STAGE = 10)) = true := by simp [hdown, hstage]
  refine becomes_of_eq rfl ((if_neg hgo).trans ?_)
  dsimp only
  rw [hi]
  rfl

/-- The core resumes what waited for it, after the metadata owed by an open take. -/
theorem coreRestartDone_boots {b : Nat} (hi : restartImage s.blk = some b) : Becomes .coreRestartDone s
    (closeSteps ((oweMetadata (coreBooted b s.blk)).flt.waiting.foldl runWaiting (waitOver (oweMetadata (coreBooted b s.blk))))) := by
  have hgo : ¬ (!s.blk.pwr.coreDown || decide (s.blk.fld SYS_BOOT.STAGE = 10)) = true := by simp [hdown, hstage]
  refine becomes_of_eq rfl ((if_neg hgo).trans ?_)
  dsimp only
  rw [hi]
  rfl

end

theorem coreStuck_fields (s : Block) : (coreStuck s).fld SYS_BOOT.STAGE = 10 ∧ (coreStuck s).flag WDG_STAT.STUCK = true ∧
    (coreStuck s).pwr = s.pwr ∧ (coreStuck s).cmd.accepted = [] ∧ (coreStuck s).rcd.afterClose = [] := by
  unfold coreStuck
  refine ⟨?_, ?_, ?_, ?_, ?_⟩
  · rw [fld_raise _ _ _ (by decide)]
    exact fld_setFld _ _ _ (by decide)
  · rw [(regsBut_raise _ _).flag (by decide), flag_setFld_apart _ _ _ _ (by decide)]
    exact flag_setFlag_same _ _ _ (by decide)
  · simp [dropRequests]
  · rw [raise_accepted]
    rfl
  · rw [raise_rcd]
    rfl

theorem oweMetadata_of_no_take {s : Block} (h : s.takeOpen = false) : oweMetadata s = s := if_neg (ne_true_of_eq_false h)

theorem coreBooted_takeOpen (b : Nat) (s : Block) : (coreBooted b s).takeOpen = s.takeOpen := by
  unfold coreBooted Block.takeOpen
  dsimp only
  rw [(regsBut_cairnN _ _ _ _ _ _).flag (by decide), flag_raise _ _ _ (by decide), flag_mk, Block.satFld,
    flag_setFld_apart _ _ _ _ (by decide), flag_setFlag_apart _ _ _ _ (by decide), flag_setFld_apart _ _ _ _ (by decide)]
  rfl

theorem coreBooted_fields {b : Nat} (hb : b < 2) (s : Block) : (coreBooted b s).pwr.coreDown = false ∧ (coreBooted b s).cmd.accepted = [] ∧
    (coreBooted b s).fld SYS_BOOT.IMAGE = b ∧ (coreBooted b s).flag WDG_STAT.IMAGE_CHANGED = decide (s.fld SYS_BOOT.IMAGE ≠ b) ∧
    (coreBooted b s).flt = s.flt := by
  unfold coreBooted
  dsimp only
  refine ⟨?_, ?_, ?_, ?_, ?_⟩
  · rw [cairnN_pwr, raise_pwr]
  · rw [cairnN_cmd, raise_accepted]
    rfl
  · rw [(regsBut_cairnN _ _ _ _ _ _).fld (by decide), fld_raise _ _ _ (by decide), fld_mk, Block.satFld,
      fld_setFld_apart _ _ _ _ (by decide), fld_setFlag_apart _ _ _ _ (by decide), fld_setFld _ _ _ (by decide)]
    exact Nat.mod_eq_of_lt hb
  · rw [(regsBut_cairnN _ _ _ _ _ _).flag (by decide), (regsBut_raise _ _).flag (by decide), flag_mk, Block.satFld,
      flag_setFld_apart _ _ _ _ (by decide), flag_setFlag_same _ _ _ (by decide)]
  · rw [cairnN_flt, raise_flt]
    rfl

/-! ### The end of a self-test (R624 to R627, R630) -/

/-- The items that failed, as the bits of ST_STAT.FAILED. -/
def failedItems (fs : List (BitVec 3 × BitVec 22)) : Nat :=
  ((List.range 8).map (fun i => if fs.any (fun f => decide (f.1.toNat = i)) then 2 ^ i else 0)).sum

/-- What the failures do, part by part, and then their events and cairns, item by item (R626). -/
def failuresActed (fs : List (BitVec 3 × BitVec 22)) (s : Block) : Block := (List.range 8).foldl (failItem fs) (fs.foldl failPart s)

/-- ST_STAT at the end of a run. -/
def testRecorded (ran mask : Nat) (s : Block) : Block := ((s.setFlag ST_STAT.RUNNING false).setFld ST_STAT.RAN ran).setFld ST_STAT.FAILED mask

/-- The run is over, and its reply goes out (R630). -/
def testClosed (ran mask : Nat) (s : Block) : Block :=
  ({ s with flt := { s.flt with stEnd := s.now, stCut := false, stRestart := false } } : Block).release (fun w => decide (w = .selfTest))
    (fun r => { r with result := leBytes 4 ran ++ leBytes 4 mask ++ leBytes 4 (s.sinceT s.flt.stStart / msT) })

theorem release_keeps {β : Type} {g : Block → β} (hcmd : ∀ t cmd, g { t with cmd := cmd } = g t)
    (hdeliver : ∀ t r, g (Block.deliver t r) = g t) (s : Block) (p : WaitOn → Bool) (f : Reply → Reply) : g (s.release p f) = g s := by
  unfold Block.release
  refine (foldl_keeps (g := g) (fun t r => ?_) _ _).trans (hcmd _ _)
  split
  · rfl
  · exact hdeliver t r

theorem testClosed_regs (ran mask : Nat) (s : Block) : (testClosed ran mask s).regs = s.regs :=
  release_keeps (g := Block.regs) (fun _ _ => rfl) deliver_regs _ _ _

theorem testClosed_evt (ran mask : Nat) (s : Block) : (testClosed ran mask s).evt = s.evt :=
  release_keeps (g := Block.evt) (fun _ _ => rfl) deliver_evt _ _ _

theorem testClosed_cal (ran mask : Nat) (s : Block) : (testClosed ran mask s).cal = s.cal :=
  release_keeps (g := Block.cal) (fun _ _ => rfl) deliver_cal _ _ _

theorem testClosed_stEnd (ran mask : Nat) (s : Block) : (testClosed ran mask s).flt.stEnd = s.now :=
  release_keeps (g := fun t => t.flt.stEnd) (fun _ _ => rfl) (fun t r => by rw [deliver_flt]) _ _ _

theorem testRecorded_fields {ran mask : Nat} (hran : ran < 256) (hmask : mask < 256) (s : Block) :
    (testRecorded ran mask s).flag ST_STAT.RUNNING = false ∧ (testRecorded ran mask s).fld ST_STAT.RAN = ran ∧
      (testRecorded ran mask s).fld ST_STAT.FAILED = mask := by
  unfold testRecorded
  refine ⟨?_, ?_, ?_⟩
  · rw [flag_setFld_apart _ _ _ _ (by decide), flag_setFld_apart _ _ _ _ (by decide), flag_setFlag_same _ _ _ (by decide)]
  · rw [fld_setFld_apart _ _ _ _ (by decide), fld_setFld _ _ _ (by decide)]
    exact Nat.mod_eq_of_lt hran
  · rw [fld_setFld _ _ _ (by decide)]
    exact Nat.mod_eq_of_lt hmask

section
variable {s : State} {fails : List (BitVec 3 × BitVec 22)} {u : Block} (hrun : s.blk.flag ST_STAT.RUNNING = true)
  (hcut : s.blk.flt.stCut = false)
include hrun hcut

/-- A run that was not cut and restarts no capture: where its failures leave `u`, the run is recorded and closed. -/
theorem selfTestEnd_becomes (hrestart : s.blk.flt.stRestart = false) (hok : fails.all failOk = true)
    (hu : failuresActed (fails.filter (fun f => s.blk.flt.stItems.testBit f.1.toNat)) s.blk = u) (hflt : u.flt = s.blk.flt) :
    Becomes (.selfTestEnd fails) s
      (testClosed s.blk.flt.stItems (failedItems (fails.filter (fun f => s.blk.flt.stItems.testBit f.1.toNat)))
        (testRecorded s.blk.flt.stItems (failedItems (fails.filter (fun f => s.blk.flt.stItems.testBit f.1.toNat))) u)) := by
  have h0 := fun ran => any_past_eq_false hok ran fun f hf => (failOk_iff.mp hf).1
  have h1 := fun ran => any_past_eq_false hok ran fun f hf => (failOk_iff.mp hf).2.1
  have h2 := fun ran => any_past_eq_false hok ran fun f hf => (failOk_iff.mp hf).2.2
  have hagain : ∀ ran mask : Nat, (testRecorded ran mask u).flt.stRestart = false := fun ran mask => by
    rw [testRecorded, setFld_flt, setFld_flt, setFlag_flt, hflt, hrestart]
  subst hu
  show execSelfTestEnd fails s = _
  refine onBlock_next ?_
  dsimp only
  rw [hrun, hcut]
  simp only [Bool.not_true, Bool.false_eq_true, if_false, h0, h1, h2, Bool.or_false]
  refine congrArg Host.Outcome.next (if_neg ?_)
  have h := hagain s.blk.flt.stItems (failedItems (fails.filter (fun f => s.blk.flt.stItems.testBit f.1.toNat)))
  exact fun hand => Bool.false_ne_true (h.symm.trans (Bool.and_eq_true_iff.mp hand).1)

/-- A pin engine that the part does not have stops the run's end. -/
theorem selfTestEnd_noSuchEngine (h : ∃ f ∈ fails, f.1 = 1 ∧ 16 ≤ f.2.toNat ∧ s.blk.flt.stItems.testBit 1 = true) :
    exec (.selfTestEnd fails) s = .fault .noSuchEngine := by
  obtain ⟨f, hf, hitem, hpast, hran⟩ := h
  have hitem' : f.1.toNat = 1 := by rw [hitem]; rfl
  have hwrong : (fails.filter (fun f => s.blk.flt.stItems.testBit f.1.toNat)).any
      (fun f => decide (f.1.toNat = 1) && decide (16 ≤ f.2.toNat)) = true :=
    List.any_eq_true.mpr ⟨f, List.mem_filter.mpr ⟨hf, hitem' ▸ hran⟩, by simp [hitem', hpast]⟩
  show execSelfTestEnd fails s = _
  refine onBlock_fault ?_
  dsimp only
  rw [hrun, hcut]
  simp only [Bool.not_true, Bool.false_eq_true, if_false]
  exact if_pos (by rw [hwrong, Bool.or_true])

end

theorem selfTestEnd_stays {s : State} (h : s.blk.flag ST_STAT.RUNNING = false) (fails : List (BitVec 3 × BitVec 22)) :
    Becomes (.selfTestEnd fails) s s.blk := by
  show execSelfTestEnd fails s = _
  exact onBlock_next (if_pos (by rw [h]; rfl))

/-- What the end of a run leaves beside ST_STAT. -/
theorem testClosed_testRecorded (ran mask : Nat) (u : Block) : (testClosed ran mask (testRecorded ran mask u)).evt = u.evt ∧
    (testClosed ran mask (testRecorded ran mask u)).cal = u.cal ∧ (testClosed ran mask (testRecorded ran mask u)).flt.stEnd = u.now := by
  rw [testClosed_evt, testClosed_cal, testClosed_stEnd]
  simp [testRecorded, Block.now]

/-- ST_STAT as the end of a run leaves it. -/
theorem testClosed_stStat {ran mask : Nat} (hran : ran < 256) (hmask : mask < 256) (u : Block) :
    (testClosed ran mask (testRecorded ran mask u)).flag ST_STAT.RUNNING = false ∧
      (testClosed ran mask (testRecorded ran mask u)).fld ST_STAT.RAN = ran ∧
      (testClosed ran mask (testRecorded ran mask u)).fld ST_STAT.FAILED = mask := by
  have hregs := RegsBut.of_regs (l := []) (testClosed_regs ran mask (testRecorded ran mask u))
  rw [hregs.flag List.not_mem_nil, hregs.fld List.not_mem_nil, hregs.fld List.not_mem_nil]
  exact testRecorded_fields hran hmask u

theorem evtStatus_testClosed (ran mask : Nat) (u : Block) :
    (testClosed ran mask (testRecorded ran mask u)).evtStatus 1023 = u.evtStatus 1023 := by
  have hrecorded : RegsBut [ST_STAT.RUNNING.addr, ST_STAT.RAN.addr, ST_STAT.FAILED.addr] u (testRecorded ran mask u) :=
    ((regsBut_setFlag _ _ _).append (regsBut_setFld _ _ _)).append (regsBut_setFld _ _ _)
  have hclosed := RegsBut.of_regs (l := []) (testClosed_regs ran mask (testRecorded ran mask u))
  exact (hclosed.evtStatus List.not_mem_nil).trans (hrecorded.evtStatus (by decide))

theorem selfTestEnd_none {s : State} (hrun : s.blk.flag ST_STAT.RUNNING = true) (hcut : s.blk.flt.stCut = false)
    (hrestart : s.blk.flt.stRestart = false) (hitems : s.blk.flt.stItems < 256) : Completes (.selfTestEnd []) s (fun t =>
      t.flag ST_STAT.RUNNING = false ∧ t.fld ST_STAT.RAN = s.blk.flt.stItems ∧ t.fld ST_STAT.FAILED = 0 ∧ t.flt.stEnd = s.blk.now ∧
        t.evt = s.blk.evt) := by
  refine completes_of_becomes (selfTestEnd_becomes (u := s.blk) hrun hcut hrestart rfl rfl rfl) ?_
  obtain ⟨hflag, hran, hfailed⟩ := testClosed_stStat hitems (mask := 0) (by decide) s.blk
  obtain ⟨hevt, -, hend⟩ := testClosed_testRecorded s.blk.flt.stItems 0 s.blk
  exact ⟨hflag, hran, hfailed, hend, hevt⟩

/-- A failed block of no table costs its event and its cairn alone (R626, R631). -/
theorem failuresActed_noBlock {x : BitVec 22} (hx : 602 ≤ x.toNat) (s : Block) :
    failuresActed [(6, x)] s = (s.raise 1023).cairnN oFirmware 0x0F02 ST_STAT.addr 6 1 := by
  have hpart : failPart s (6, x) = s := if_neg (not_lt.mpr hx)
  rw [failuresActed, List.foldl_cons, List.foldl_nil, hpart]
  rfl

theorem selfTestEnd_noBlock {s : State} {x : BitVec 22} (hrun : s.blk.flag ST_STAT.RUNNING = true) (hcut : s.blk.flt.stCut = false)
    (hrestart : s.blk.flt.stRestart = false) (hitems : s.blk.flt.stItems = 255) (hx : 602 ≤ x.toNat) :
    Completes (.selfTestEnd [(6, x)]) s (fun t => t.flag ST_STAT.RUNNING = false ∧ t.fld ST_STAT.FAILED = 64 ∧ t.evtStatus 1023 = true ∧
      t.cal.badBlocks = s.blk.cal.badBlocks) := by
  have hran : [((6 : BitVec 3), x)].filter (fun f => s.blk.flt.stItems.testBit f.1.toNat) = [(6, x)] := by rw [hitems]; simp [Nat.testBit]
  have hb := selfTestEnd_becomes hrun hcut hrestart (fails := [(6, x)]) rfl ((congrArg (failuresActed · s.blk) hran).trans
    (failuresActed_noBlock hx s.blk)) (by rw [cairnN_flt, raise_flt])
  rw [hran] at hb
  refine completes_of_becomes hb ?_
  obtain ⟨hflag, -, hfailed⟩ := testClosed_stStat (ran := s.blk.flt.stItems) (mask := 64) (hitems ▸ by decide) (by decide)
    ((s.blk.raise 1023).cairnN oFirmware 0x0F02 ST_STAT.addr 6 1)
  obtain ⟨-, hcal, -⟩ := testClosed_testRecorded s.blk.flt.stItems 64 ((s.blk.raise 1023).cairnN oFirmware 0x0F02 ST_STAT.addr 6 1)
  refine ⟨hflag, hfailed, ?_, ?_⟩
  · refine (evtStatus_testClosed _ 64 _).trans ?_
    rw [evtStatus_cairnN, evtStatus_raise]
    rfl
  · refine (congrArg (·.badBlocks) hcal).trans ?_
    rw [cairnN_cal, raise_cal]

/-- Settles O56: each row by its tests, and the end of a run by what its failures leave. -/
theorem coreEvents : Obligations.CoreEvents := by
  unfold Obligations.CoreEvents
  refine fun s => ⟨watchdogLockup_stays, watchdogLockup_completes, coreRestartDone_stays, fun hdown hstage hi => ?_,
    fun b hdown hstage hi hb => ?_, fun fails hidle => selfTestEnd_stays hidle fails, selfTestEnd_none,
    fun x => selfTestEnd_noBlock, fun fails => selfTestEnd_noSuchEngine⟩
  · obtain ⟨hten, hstuck, hpwr, hacc, hclose⟩ := coreStuck_fields s.blk
    exact completes_of_becomes (coreRestartDone_stuck hdown hstage hi) ⟨hten, hstuck, hpwr ▸ hdown, hacc, hclose⟩
  · obtain ⟨hup, hacc, himage, hchanged, hflt⟩ := coreBooted_fields hb s.blk
    refine ⟨waitOver (coreBooted b s.blk), hup, rfl, hacc, himage, hchanged, fun htake => ?_⟩
    have hboot := coreRestartDone_boots hdown hstage hi
    rwa [oweMetadata_of_no_take ((coreBooted_takeOpen b s.blk).trans htake), hflt] at hboot

end Sys2Proof.Machine
end

section
/-! The two-wire target: its window, the mailbox, the own address and the bus conditions (R94 to R97, R101, R105, R108, R109). -/

namespace Sys2Proof.Machine

theorem twAlive_of_twFull {s : Block} (h : twFull s = true) : twAlive s = true := by
  simp only [twFull, Bool.and_eq_true] at h
  obtain ⟨⟨halive, -⟩, -⟩ := h
  exact halive

/-! ### An event's flag of TW_ERR -/

/-- A flag of TW_ERR set together with its event. -/
theorem twErr_raised {s : Block} {f : RF} (e : Nat) (hf : f.inWord ∧ f.width = 1) (he : evtStatusA e ≠ f.addr) :
    ((s.setFlag f true).raise e).flag f = true ∧ ((s.setFlag f true).raise e).evtStatus e = true := by
  rw [(regsBut_raise _ _).flag fun h => he (List.mem_singleton.mp h).symm, evtStatus_raise]
  exact ⟨flag_setFlag_same _ _ _ hf, by simp⟩

theorem mbxOverrun_fields (s : Block) : (mbxOverrun s).flag TW_ERR.MBX_OVERRUN = true ∧ (mbxOverrun s).evtStatus 966 = true ∧
    (mbxOverrun s).tw = s.tw ∧ (mbxOverrun s).cmd.accepted = s.cmd.accepted := by
  obtain ⟨hflag, hevt⟩ := twErr_raised (s := s) (f := TW_ERR.MBX_OVERRUN) 966 (by decide) (by decide)
  exact ⟨hflag, hevt, raise_tw _ _, raise_accepted _ _⟩

/-! ### The data bytes of a write (R95 to R97) -/

section
variable {c : Carrier} {a : BitVec 7} {g : Bool} {p : Nat} {b : Byte} {r r' : TwRun}

theorem writeBytes_cons (t : List Byte) (h : writeByte c a g p b r = some r') :
    writeBytes c a g (b :: t) p r = writeBytes c a g t (nextInPage p) r' := by
  rw [writeBytes, h]

/-- The bytes of BANK (R95). -/
theorem writeByte_bank (hp : 0x14 ≤ p ∧ p < 0x18) : writeByte c a g p b r =
    some ({ r.1 with tw := { r.1.tw with bank := withByte r.1.tw.bank (p - 0x14) b &&& 0xFFFFF000 } }, r.2) := by
  unfold writeByte writeLow
  dsimp only
  rw [if_pos (by omega), if_neg (by omega), if_neg (by omega), if_pos hp]
  rfl

/-- A byte of the request mailbox that is not BUSY (R97). -/
theorem writeByte_mailbox (hp : 0x100 ≤ p ∧ p < 0x300) (hfull : twFull r.1 = true) (hidle : r.1.tw.mbxStat ≠ 1) :
    writeByte c a g p b r = some ({ r.1 with tw := { r.1.tw with reqBuf := smSet 0 r.1.tw.reqBuf (p - 0x100) b } }, r.2) := by
  unfold writeByte
  dsimp only
  rw [if_neg (by omega), if_pos hp.2, hfull]
  exact if_neg hidle

/-- A byte of the BUSY mailbox is not acknowledged (R97). -/
theorem writeByte_busy (hp : 0x100 ≤ p ∧ p < 0x300) (hfull : twFull r.1 = true) (hbusy : r.1.tw.mbxStat = 1) :
    writeByte c a g p b r = none := by
  unfold writeByte
  dsimp only
  rw [if_neg (by omega), if_pos hp.2, hfull]
  exact if_pos hbusy

section
variable {s : Block} {l : List Byte} {x : Option Byte} (hp : 0x1000 ≤ p) (hfull : twFull s = true) (hl : l.length = p % 4)
include hp hfull hl

/-- A byte of a window word before the last is gathered (R96). -/
theorem writeByte_gather (hk : p % 4 ≠ 3) : writeByte c a g p b (s, some l, x) = some (s, some (l ++ [b]), x) := by
  have hgathered : (if p % 4 = 0 then some [b] else if l.length = p % 4 then some (l ++ [b]) else none) = some (l ++ [b]) := by
    split_ifs with h0
    · rw [List.length_eq_zero_iff.mp (hl.trans h0)]
      rfl
    · rfl
  unfold writeByte
  dsimp only
  rw [if_neg (by omega), if_neg (by omega), if_neg (by omega), if_pos hp, hfull, if_neg hk]
  simp only [Bool.not_true, Bool.false_eq_true, if_false, hgathered]

/-- The last byte of a window word commits it (R96). -/
theorem writeByte_commit (hk : p % 4 = 3) : writeByte c a g p b (s, some l, x) =
    some (commitWindow c (s.tw.bank.toNat + (p - 3 - 0x1000)) (l ++ [b]) s, some [], x) := by
  unfold writeByte
  dsimp only
  rw [if_neg (by omega), if_neg (by omega), if_neg (by omega), if_pos hp, hfull, if_pos hk]
  simp [hl, hk]

end

end

/-! ### A write transaction (R94, R96) -/

/-- A write begins: a wait for START and a read held up are over. -/
def writeBegun (s : Block) : Block := { s with tw := { s.tw with waitStart := false, readWait := none, sclHeld := false } }

/-- The window's pointer moved. -/
def pointerAt (p : Nat) (s : Block) : Block := { s with tw := { s.tw with pointer := p } }

section
variable {a : BitVec 7} {g : Bool} {ptr p : Nat} {data : List Byte} {s u : Block}

/-- A write that leaves no word of the window in part and no own address. -/
theorem twWrite_whole (h : writeBytes (.twoWire a g) a g data ptr (writeBegun s, some [], none) = (p, u, some [], none)) :
    twWrite a g ptr data s = pointerAt p u := by
  unfold writeBegun at h
  unfold twWrite
  dsimp only
  rw [h]
  rfl

/-- A write that leaves a word of the window in part (R96 rule 2). -/
theorem twWrite_part {l : List Byte} (hl : l ≠ [])
    (h : writeBytes (.twoWire a g) a g data ptr (writeBegun s, some [], none) = (p, u, some l, none)) :
    twWrite a g ptr data s = partialWord (pointerAt p u) := by
  unfold writeBegun at h
  unfold twWrite
  dsimp only
  rw [h]
  exact if_neg fun hs => hl (Option.some.inj hs)

end

section
variable {s : State} {a : BitVec 7} {g : Bool}

theorem twWindowWrite_becomes (halive : twAlive s.blk = true) (hmatch : twMatch s.blk a = some g) (ptr : BitVec 16) (data : List Byte) :
    Becomes (.twWindowWrite a g ptr data) s (twWrite a g ptr.toNat data s.blk) :=
  becomes_of_eq rfl (if_pos (by rw [halive, hmatch, decide_eq_true rfl]; rfl))

/-- A transaction without service, or at an address that is not the unit's, changes nothing (R94). -/
theorem twTarget_stays (h : twAlive s.blk = false ∨ twMatch s.blk a ≠ some g) (ptr : BitVec 16) (data : List Byte) :
    Becomes (.twWindowWrite a g ptr data) s s.blk ∧ Becomes (.mbxSubmit a g) s s.blk ∧ Becomes (.mbxRelease a g) s s.blk := by
  have halive : ¬ (twAlive s.blk && decide (twMatch s.blk a = some g)) = true := by
    rw [Bool.and_eq_true, decide_eq_true_eq]
    rintro ⟨hup, hmatch⟩
    exact h.elim (fun hdown => Bool.false_ne_true (hdown.symm.trans hup)) fun hother => hother hmatch
  have hfull : ¬ (twFull s.blk && decide (twMatch s.blk a = some g)) = true := fun hgo => by
    obtain ⟨hup, hmatch⟩ := Bool.and_eq_true_iff.mp hgo
    exact halive (Bool.and_eq_true_iff.mpr ⟨twAlive_of_twFull hup, hmatch⟩)
  exact ⟨becomes_of_eq rfl (if_neg halive), becomes_of_eq rfl (if_neg hfull), becomes_of_eq rfl (if_neg hfull)⟩

section
variable (halive : twAlive s.blk = true) (hmatch : twMatch s.blk a = some g)
include halive hmatch

theorem twWindowWrite_pointer (ptr : BitVec 16) : Becomes (.twWindowWrite a g ptr []) s (pointerAt ptr.toNat (writeBegun s.blk)) :=
  becomes_of_eq (twWindowWrite_becomes halive hmatch ptr []) (twWrite_whole rfl)

theorem twWindowWrite_bank (b : Byte) : Completes (.twWindowWrite a g 0x15 [b]) s (fun t =>
    t.tw.bank = withByte s.blk.tw.bank 1 b &&& 0xFFFFF000 ∧ t.tw.pointer = 0x16 ∧ t.regs = s.blk.regs) := by
  refine completes_of_becomes (becomes_of_eq (twWindowWrite_becomes halive hmatch 0x15 [b])
    (twWrite_whole (writeBytes_cons _ (writeByte_bank (by decide))))) ⟨?_, ?_, ?_⟩ <;> rfl

theorem twWindowWrite_mailbox (hfull : twFull s.blk = true) (hidle : s.blk.tw.mbxStat ≠ 1) (b : Byte) :
    Completes (.twWindowWrite a g 0x107 [b]) s (fun t => smGet 0 t.tw.reqBuf 7 = b ∧ t.regs = s.blk.regs ∧
      ∀ i, i ≠ 7 → smGet 0 t.tw.reqBuf i = smGet 0 s.blk.tw.reqBuf i) := by
  refine completes_of_becomes (becomes_of_eq (twWindowWrite_becomes halive hmatch 0x107 [b])
    (twWrite_whole (writeBytes_cons _ (writeByte_mailbox (by decide) hfull hidle)))) ⟨?_, rfl, fun i hi => ?_⟩
  · exact (smGet_smSet 0 s.blk.tw.reqBuf 7 7 b).trans (if_pos rfl)
  · exact smGet_smSet_other _ _ _ _ _ _ hi

theorem twWindowWrite_busy (hfull : twFull s.blk = true) (hbusy : s.blk.tw.mbxStat = 1) (b : Byte) :
    Completes (.twWindowWrite a g 0x107 [b]) s (fun t => t.flag TW_ERR.MBX_OVERRUN = true ∧ t.evtStatus 966 = true ∧
      t.tw.reqBuf = s.blk.tw.reqBuf) := by
  have hbytes : writeBytes (.twoWire a g) a g [b] 0x107 (writeBegun s.blk, some [], none) =
      (0x107, mbxOverrun (writeBegun s.blk), some [], none) := by
    have hover : (twFull (writeBegun s.blk) && mbxByte 0x107) = true := (Bool.and_true _).trans hfull
    rw [writeBytes, writeByte_busy (by decide) hfull hbusy]
    dsimp only
    rw [if_pos hover]
  obtain ⟨hflag, hevt, htw, -⟩ := mbxOverrun_fields (writeBegun s.blk)
  exact completes_of_becomes (becomes_of_eq (twWindowWrite_becomes halive hmatch 0x107 [b]) (twWrite_whole hbytes))
    ⟨hflag, hevt, congrArg (·.reqBuf) htw⟩

/-- Four bytes from the start of a window word are one write of it (R96 rule 1). -/
theorem twWindowWrite_word (hfull : twFull s.blk = true) (b0 b1 b2 b3 : Byte) :
    Becomes (.twWindowWrite a g 0x1008 [b0, b1, b2, b3]) s
      (pointerAt 0x100C (commitWindow (.twoWire a g) (s.blk.tw.bank.toNat + 8) [b0, b1, b2, b3] (writeBegun s.blk))) := by
  have hbegun : twFull (writeBegun s.blk) = true := hfull
  refine becomes_of_eq (twWindowWrite_becomes halive hmatch 0x1008 _) (twWrite_whole ?_)
  rw [writeBytes_cons _ (writeByte_gather (by decide) hbegun rfl (by decide)),
    writeBytes_cons _ (writeByte_gather (by decide) hbegun (by simp [nextInPage]) (by decide)),
    writeBytes_cons _ (writeByte_gather (by decide) hbegun (by simp [nextInPage]) (by decide)),
    writeBytes_cons _ (writeByte_commit (by decide) hbegun (by simp [nextInPage]) (by decide))]
  rfl

/-- Two bytes of a window word are discarded (R96 rule 2). -/
theorem twWindowWrite_part (hfull : twFull s.blk = true) (b0 b1 : Byte) : Completes (.twWindowWrite a g 0x1008 [b0, b1]) s (fun t =>
    t.flag TW_ERR.WINDOW_PARTIAL = true ∧ t.rcd = s.blk.rcd ∧ t.evt = s.blk.evt) := by
  have hbegun : twFull (writeBegun s.blk) = true := hfull
  have hbytes : writeBytes (.twoWire a g) a g [b0, b1] 0x1008 (writeBegun s.blk, some [], none) =
      (0x100A, writeBegun s.blk, some [b0, b1], none) := by
    rw [writeBytes_cons _ (writeByte_gather (by decide) hbegun rfl (by decide)),
      writeBytes_cons _ (writeByte_gather (by decide) hbegun (by simp [nextInPage]) (by decide))]
    rfl
  refine completes_of_becomes (becomes_of_eq (twWindowWrite_becomes halive hmatch 0x1008 _) (twWrite_part (List.cons_ne_nil _ _) hbytes))
    ⟨?_, ?_, ?_⟩
  · exact flag_setFlag_same _ _ _ (by decide)
  · exact setFlag_rcd _ _ _
  · exact setFlag_evt _ _ _

end

end

/-! ### Reads (R94, R96) -/

/-- The pointer set by a read. -/
def readBegun (p : Nat) (s : Block) : Block := { s with tw := { s.tw with waitStart := false, pointer := p } }

theorem readWord_readBegun (p : Nat) (s : Block) (a : Nat) : readWord (readBegun p s) a = readWord s a := by
  have hstatus : ∀ e, (readBegun p s).evtStatus e = s.evtStatus e := fun _ => rfl
  have hmasked : ∀ e, (readBegun p s).evtMasked e = s.evtMasked e := fun _ => rfl
  have hpending : evtPendingWord (readBegun p s) = evtPendingWord s := by simp only [evtPendingWord, hstatus, hmasked]
  unfold readWord
  rw [hpending]
  rfl

theorem readLow_readBegun (p : Nat) (s : Block) (k : Nat) : readLow (readBegun p s) k = readLow s k := by
  unfold readLow
  simp only [readWord_readBegun]
  rfl

section
variable {s : State} {a : BitVec 7}

theorem twWindowRead_stays (h : twAlive s.blk = false ∨ twMatch s.blk a = none ∨ twGroup s.blk a.toNat = true)
    (ptr : Option (BitVec 16)) (n : Nat) : Becomes (.twWindowRead a ptr n) s s.blk := by
  have hno : ¬ (twAlive s.blk && (twMatch s.blk a).isSome && !(twGroup s.blk a.toNat)) = true := by
    rcases h with h | h | h <;> simp [h]
  exact becomes_of_eq rfl (if_neg hno)

theorem twWindowRead_low {p : BitVec 16} (halive : twAlive s.blk = true) (hmatch : (twMatch s.blk a).isSome = true)
    (hown : twGroup s.blk a.toNat = false) (hp : p.toNat < 0x1000) : Completes (.twWindowRead a (some p) 1) s (fun t =>
      t.tw.readOut = [readLow s.blk p.toNat] ∧ t.tw.pointer = p.toNat + 1 ∧ t.tw.readWait = none ∧ t.regs = s.blk.regs) := by
  have hbytes : readBytes 1 p.toNat [] (readBegun p.toNat s.blk) = ([readLow s.blk p.toNat], p.toNat + 1, 0, readBegun p.toNat s.blk) := by
    rw [readBytes, if_pos hp, readLow_readBegun]
    rfl
  have hread : Becomes (.twWindowRead a (some p) 1) s (readOn 1 [] (readBegun p.toNat s.blk)) :=
    becomes_of_eq rfl (if_pos (by rw [halive, hmatch, hown]; rfl))
  refine completes_of_becomes hread ?_
  unfold readOn
  dsimp only [readBegun] at hbytes ⊢
  rw [hbytes]
  exact ⟨rfl, rfl, rfl, rfl⟩

theorem twWindowReadTimeout_stays (h : s.blk.tw.readWait = none) : Becomes .twWindowReadTimeout s s.blk := by
  refine becomes_of_eq rfl ?_
  dsimp only
  rw [h]

/-- The bytes due of the word that did not arrive read as 0xFF (R96 rule 5). -/
theorem twWindowReadTimeout_ends {n : Nat} (h : s.blk.tw.readWait = some n) (hn : n ≤ 4 - s.blk.tw.pointer % 4) :
    Completes .twWindowReadTimeout s (fun t => t.tw.readOut = s.blk.tw.readOut ++ List.replicate n 0xFF ∧ t.tw.readWait = none ∧
      t.tw.sclHeld = false ∧ t.flag TW_ERR.WINDOW_TIMEOUT = true ∧ t.tw.pointer = (s.blk.tw.pointer + n) % 65536) := by
  have hread : Becomes .twWindowReadTimeout s (readOn 0 (s.blk.tw.readOut ++ List.replicate n 0xFF)
      ((pointerAt ((s.blk.tw.pointer + n) % 65536) s.blk).setFlag TW_ERR.WINDOW_TIMEOUT true)) := by
    refine becomes_of_eq rfl ?_
    dsimp only
    rw [h]
    dsimp only
    rw [min_eq_left hn, Nat.sub_self]
    rfl
  refine completes_of_becomes hread ⟨rfl, rfl, rfl, ?_, ?_⟩
  · exact flag_setFlag_same (pointerAt ((s.blk.tw.pointer + n) % 65536) s.blk) _ true (by decide)
  · exact congrArg (·.pointer) (setFlag_tw _ _ _)

end

/-! ### The mailbox (R97) -/

section
variable {s : State} {a : BitVec 7} {g : Bool}

section
variable (hfull : twFull s.blk = true) (hmatch : twMatch s.blk a = some g)
include hfull hmatch

theorem mbxRelease_becomes : Becomes (.mbxRelease a g) s (mbxRelease s.blk) :=
  becomes_of_eq rfl (if_pos (by rw [hfull, hmatch, decide_eq_true rfl]; rfl))

theorem mbxSubmit_becomes : Becomes (.mbxSubmit a g) s (mbxSubmit a g s.blk) :=
  becomes_of_eq rfl (if_pos (by rw [hfull, hmatch, decide_eq_true rfl]; rfl))

end

theorem mbxRelease_idle {s : Block} (h : s.tw.mbxStat ≠ 1) : mbxRelease s = { s with tw := { s.tw with mbxStat := 0 } } := if_neg h

theorem mbxSubmit_idle {s : Block} (h : s.tw.mbxStat ≠ 1) : mbxSubmit a g s = acceptReq (mbxRequest s a g).1 (mbxRequest s a g).2
    { s with tw := { s.tw with mbxStat := 1, repBuf := [] } } := if_neg h

theorem mbxSubmit_busy {s : Block} (h : s.tw.mbxStat = 1) : mbxSubmit a g s = mbxOverrun s := if_pos h

theorem mbxOverrun_becomes (h : s.blk.tw.mbxStat = 1) : Becomes .mbxOverrun s (mbxOverrun s.blk) := becomes_of_eq rfl (if_pos h)

end

/-! ### The own address and the bus conditions (R101, R105, R108, R109) -/

section
variable {s : State}

theorem addrAssign_stays (h : twAlive s.blk = false ∨ s.blk.flag TW_CFG.IND_VALID = true) (data : List Byte) :
    Becomes (.addrAssign data) s s.blk := by
  have hno : ¬ (twAlive s.blk && !s.blk.flag TW_CFG.IND_VALID) = true := by
    rcases h with h | h <;> simp [h]
  exact becomes_of_eq rfl (if_neg hno)

theorem addrAssign_writes (halive : twAlive s.blk = true) (hnone : s.blk.flag TW_CFG.IND_VALID = false) (data : List Byte) :
    Becomes (.addrAssign data) s (twWrite 0x3A false 0x20 data { s.blk with tw := { s.blk.tw with addrIn := true } }) :=
  becomes_of_eq rfl (if_pos (by rw [halive, hnone]; rfl))

theorem partialByte_ends (halive : twAlive s.blk = true) : Completes .partialByte s (fun t => t.flag TW_ERR.PARTIAL_BYTE = true ∧
    t.evtStatus 962 = true ∧ t.tw.readWait = none ∧ t.tw.sclHeld = false) := by
  obtain ⟨hflag, hevt⟩ := twErr_raised (s := twEnd s.blk) (f := TW_ERR.PARTIAL_BYTE) 962 (by decide) (by decide)
  refine completes_of_becomes (becomes_of_eq rfl (if_pos halive)) ⟨hflag, hevt, ?_, ?_⟩ <;>
    · rw [raise_tw, setFlag_tw]
      dsimp only [twEnd]

theorem twTargetSclStuck_ends (halive : twAlive s.blk = true) : Completes .twTargetSclStuck s (fun t =>
    t.flag TW_ERR.BUS_STUCK = true ∧ t.tw.waitStart = true ∧ t.tw.sclHeld = false ∧ t.evt = s.blk.evt) := by
  have hend : Becomes .twTargetSclStuck s { (twEnd s.blk).setFlag TW_ERR.BUS_STUCK true with
      tw := { ((twEnd s.blk).setFlag TW_ERR.BUS_STUCK true).tw with waitStart := true } } := becomes_of_eq rfl (if_pos halive)
  refine completes_of_becomes hend ⟨?_, rfl, ?_, ?_⟩
  · exact flag_setFlag_same (twEnd s.blk) _ true (by decide)
  · exact congrArg (·.sclHeld) (setFlag_tw (twEnd s.blk) TW_ERR.BUS_STUCK true)
  · exact setFlag_evt (twEnd s.blk) TW_ERR.BUS_STUCK true

theorem busConditions_stay (h : twAlive s.blk = false) : Becomes .partialByte s s.blk ∧ Becomes .twTargetSclStuck s s.blk :=
  ⟨becomes_of_eq rfl (if_neg (ne_true_of_eq_false h)), becomes_of_eq rfl (if_neg (ne_true_of_eq_false h))⟩

theorem twBusFree_stays (h : s.blk.tw.xfer = none ∨ s.blk.pwr.coreDown = true) (b : BusStart) (r : BusResult) :
    Becomes (.twBusFree b r) s s.blk := by
  refine becomes_of_eq rfl ?_
  cases hx : s.blk.tw.xfer with
  | none => rfl
  | some x =>
    have hdown : s.blk.pwr.coreDown = true := h.resolve_left (by rw [hx]; nofun)
    exact if_neg (by rw [hdown, Bool.not_true, Bool.and_false]; nofun)

theorem twBusFree_tries {x : Xfer} (hx : s.blk.tw.xfer = some x) (hct : s.blk.flag SYS_DOMAIN.CT_ON = true)
    (hup : s.blk.pwr.coreDown = false) (b : BusStart) (r : BusResult) : Becomes (.twBusFree b r) s (xferTry x b r s.blk) := by
  refine becomes_of_eq rfl ?_
  rw [hx]
  exact if_pos (by rw [hct, hup]; rfl)

end

/-- Settles O55: each transaction by its data bytes, each of the other rows by its one test. -/
theorem twoWireEvents : Obligations.TwoWireEvents := by
  unfold Obligations.TwoWireEvents
  refine fun s => ⟨fun a g ptr data h => twTarget_stays h ptr data,
    fun a g halive hmatch => ⟨fun ptr => ?_, twWindowWrite_bank halive hmatch,
      fun b hfull hidle => twWindowWrite_mailbox halive hmatch hfull hidle b,
      fun b hfull hbusy => twWindowWrite_busy halive hmatch hfull hbusy b,
      fun b0 b1 b2 b3 hfull => ⟨writeBegun s.blk, rfl, rfl, twWindowWrite_word halive hmatch hfull b0 b1 b2 b3⟩,
      fun b0 b1 hfull => twWindowWrite_part halive hmatch hfull b0 b1⟩,
    fun a ptr n h => twWindowRead_stays h ptr n, fun a p => twWindowRead_low,
    twWindowReadTimeout_stays, fun n => twWindowReadTimeout_ends,
    fun a g hfull hmatch => ⟨fun hidle => ?_, fun hidle => ?_, fun hbusy => ?_⟩, fun hbusy => ?_,
    fun hidle => becomes_of_eq rfl (if_neg hidle),
    fun data => ⟨fun h => addrAssign_stays h data, fun halive hnone => addrAssign_writes halive hnone data⟩,
    fun halive => ⟨partialByte_ends halive, twTargetSclStuck_ends halive⟩, busConditions_stay,
    fun b r => ⟨fun h => twBusFree_stays h b r, fun x hx hct hup => twBusFree_tries hx hct hup b r⟩⟩
  · exact completes_of_becomes (twWindowWrite_pointer halive hmatch ptr) ⟨rfl, rfl, rfl, rfl⟩
  · exact completes_of_becomes (becomes_of_eq (mbxRelease_becomes hfull hmatch) (mbxRelease_idle hidle)) ⟨rfl, rfl, rfl⟩
  · exact ⟨{ s.blk with tw := { s.blk.tw with mbxStat := 1, repBuf := [] } }, rfl, rfl, rfl, rfl,
      becomes_of_eq (mbxSubmit_becomes hfull hmatch) (mbxSubmit_idle hidle)⟩
  · obtain ⟨hflag, hevt, htw, hacc⟩ := mbxOverrun_fields s.blk
    exact completes_of_becomes (becomes_of_eq (mbxSubmit_becomes hfull hmatch) (mbxSubmit_busy hbusy)) ⟨hflag, hevt, hacc, htw ▸ hbusy⟩
  · obtain ⟨hflag, hevt, htw, -⟩ := mbxOverrun_fields s.blk
    exact completes_of_becomes (mbxOverrun_becomes hbusy) ⟨hflag, hevt, htw ▸ hbusy⟩

end Sys2Proof.Machine
end

section
/-! The bytes of a cairn (R5, R127): each field at its place, and the cairn that the bytes tell. -/

namespace Sys2Proof.Machine

/-! ### Little-endian bytes (R5) -/

@[simp] theorem length_leBytes (n v : Nat) : (leBytes n v).length = n := by
  induction n generalizing v with
  | zero => rfl
  | succ n ih => rw [leBytes, List.length_cons, ih]

@[simp] theorem length_wordBytes (w : Word) : (wordBytes w).length = 4 := length_leBytes 4 _

/-- The bytes of a value give it back, modulo what they hold. -/
theorem leVal_leBytes (n v : Nat) : leVal (leBytes n v) = v % 256 ^ n := by
  induction n generalizing v with
  | zero => rw [pow_zero, Nat.mod_one]; rfl
  | succ n ih => rw [leBytes, leVal, ih, BitVec.toNat_ofNat, pow_succ' 256, Nat.mod_mul (x := v)]

theorem leVal_wordBytes (w : Word) : leVal (wordBytes w) = w.toNat := by
  rw [wordBytes, leVal_leBytes]
  exact Nat.mod_eq_of_lt w.isLt

/-- A field at the front of a byte string. -/
theorem leAt_front {l : List Byte} {n : Nat} (h : l.length = n) (m : List Byte) : leAt (l ++ m) 0 n = leVal l := by
  rw [leAt, List.drop_zero, List.take_left' h]

/-- A field behind the bytes of other fields. -/
theorem leAt_behind {l : List Byte} {k o : Nat} (h : l.length = k) (hk : k ≤ o) (m : List Byte) (n : Nat) :
    leAt (l ++ m) o n = leAt m (o - k) n := by
  rw [leAt, List.drop_append, List.drop_eq_nil_of_le (by omega), List.nil_append, h, leAt]

theorem leAt_whole {l : List Byte} {n : Nat} (h : l.length = n) : leAt l 0 n = leVal l := by
  rw [leAt, List.drop_zero, List.take_of_length_le h.le]

/-! ### The fields of a cairn (R127) -/

section
variable (e : Entry)

@[simp] theorem length_entryBytes : (entryBytes e).length = 32 := by simp [entryBytes]

/-- The fields of a stored cairn, and what of each its bytes hold. -/
theorem fields_entryBytes :
    leAt (entryBytes e) 0 4 = e.seq % 2 ^ 32 ∧ leAt (entryBytes e) 4 8 = e.cairn.stamp.toNat ∧
    leAt (entryBytes e) 12 2 = e.cairn.origin % 2 ^ 16 ∧ leAt (entryBytes e) 14 2 = e.cairn.kind % 2 ^ 16 ∧
    leAt (entryBytes e) 16 4 = e.cairn.target % 2 ^ 32 ∧ leAt (entryBytes e) 20 4 = e.cairn.old.toNat ∧
    leAt (entryBytes e) 24 4 = e.cairn.new.toNat ∧ leAt (entryBytes e) 28 4 = e.chain.toNat := by
  have hstamp : e.cairn.stamp.toNat % 256 ^ 8 = e.cairn.stamp.toNat := Nat.mod_eq_of_lt e.cairn.stamp.isLt
  simp only [entryBytes, List.append_assoc]
  refine ⟨(leAt_front (length_leBytes _ _) _).trans (leVal_leBytes _ _), ?stamp, ?origin, ?kind, ?target, ?old, ?new, ?chain⟩ <;>
    simp (disch := simp) only [leAt_behind (length_leBytes _ _), leAt_behind (length_wordBytes _), Nat.reduceSub]
  case stamp => exact (leAt_front (length_leBytes _ _) _).trans ((leVal_leBytes _ _).trans hstamp)
  case origin | kind | target => exact (leAt_front (length_leBytes _ _) _).trans (leVal_leBytes _ _)
  case old | new => exact (leAt_front (length_wordBytes _) _).trans (leVal_wordBytes _)
  case chain => exact (leAt_whole (length_wordBytes _)).trans (leVal_wordBytes _)

end

/-- The numbers of an entry lie in their fields (R127). -/
structure FitsFields (e : Entry) : Prop where
  seq : e.seq < 2 ^ 32
  origin : e.cairn.origin < 2 ^ 16
  kind : e.cairn.kind < 2 ^ 16
  target : e.cairn.target < 2 ^ 32

/-- Two entries whose numbers lie in their fields are the same when their bytes are. -/
theorem entryBytes_inj {e f : Entry} (he : FitsFields e) (hf : FitsFields f) (h : entryBytes f = entryBytes e) : f = e := by
  obtain ⟨seq, stamp, origin, kind, target, old, new, chain⟩ := fields_entryBytes e
  obtain ⟨seq', stamp', origin', kind', target', old', new', chain'⟩ := fields_entryBytes f
  rw [h] at seq' stamp' origin' kind' target' old' new' chain'
  rw [seq, Nat.mod_eq_of_lt he.seq, Nat.mod_eq_of_lt hf.seq] at seq'
  rw [origin, Nat.mod_eq_of_lt he.origin, Nat.mod_eq_of_lt hf.origin] at origin'
  rw [kind, Nat.mod_eq_of_lt he.kind, Nat.mod_eq_of_lt hf.kind] at kind'
  rw [target, Nat.mod_eq_of_lt he.target, Nat.mod_eq_of_lt hf.target] at target'
  have hstamp : f.cairn.stamp = e.cairn.stamp := BitVec.eq_of_toNat_eq (stamp'.symm.trans stamp)
  have hold : f.cairn.old = e.cairn.old := BitVec.eq_of_toNat_eq (old'.symm.trans old)
  have hnew : f.cairn.new = e.cairn.new := BitVec.eq_of_toNat_eq (new'.symm.trans new)
  have hchain : f.chain = e.chain := BitVec.eq_of_toNat_eq (chain'.symm.trans chain)
  obtain ⟨_, ⟨_, _, _, _, _, _⟩, _⟩ := e
  obtain ⟨_, ⟨_, _, _, _, _, _⟩, _⟩ := f
  dsimp only at *
  subst seq' origin' kind' target' hstamp hold hnew hchain
  rfl

/-- Settles O60: each field is read behind the ones before it, and the fields make the entry. -/
theorem cairnBytes : Obligations.CairnBytes := by
  intro e hseq horigin hkind htarget
  obtain ⟨seq, stamp, origin, kind, target, old, new, chain⟩ := fields_entryBytes e
  exact ⟨length_entryBytes e, seq.trans (Nat.mod_eq_of_lt hseq), stamp, origin.trans (Nat.mod_eq_of_lt horigin),
    kind.trans (Nat.mod_eq_of_lt hkind), target.trans (Nat.mod_eq_of_lt htarget), old, new, chain,
    fun f hs ho hk ht => entryBytes_inj ⟨hseq, horigin, hkind, htarget⟩ ⟨hs, ho, hk, ht⟩⟩

end Sys2Proof.Machine
end

section
/-! NVM and what waits: its bytes (R112, R139), the ends of MAINTAIN, of the lock-out and of the staging buffer, the cairn queue as it
reaches NVM, and the words of the journal slot (R113, R115, R122, R125, R126, R131). -/

namespace Sys2Proof.Machine

/-! ### Bytes put in a row (R112, R139) -/

/-- A sparse memory with the bytes `l` put from `a` on. -/
def putBytes (a : Nat) (l : List Byte) (m : List (Nat × Byte)) : List (Nat × Byte) :=
  l.zipIdx.foldl (fun m (bi : Byte × Nat) => smSet 0 m (a + bi.2) bi.1) m

theorem nvmPut_mem (s : Block) (a : Nat) (l : List Byte) : (s.nvmPut a l).nvm.mem = putBytes a l s.nvm.mem := rfl

theorem putBytes_cons (a : Nat) (b : Byte) (l : List Byte) (m : List (Nat × Byte)) :
    putBytes a (b :: l) m = putBytes (a + 1) l (smSet 0 m a b) := by
  unfold putBytes
  rw [List.zipIdx_cons, List.foldl_cons, List.zipIdx_succ, List.foldl_map]
  simp only [Nat.add_zero, Nat.add_assoc, Nat.add_comm 1]

theorem smGet_putBytes (a : Nat) (l : List Byte) (m : List (Nat × Byte)) (x : Nat) :
    smGet 0 (putBytes a l m) x = if a ≤ x ∧ x < a + l.length then l.getD (x - a) 0 else smGet 0 m x := by
  induction l generalizing a m with
  | nil => exact (if_neg (by simp)).symm
  | cons b l ih =>
    rw [putBytes_cons, ih, smGet_smSet, List.length_cons]
    by_cases hx : x = a
    · subst hx
      rw [if_neg (by omega), if_pos rfl, if_pos (by omega), Nat.sub_self, List.getD_cons_zero]
    · rw [if_neg hx]
      refine ite_congr (by rw [eq_iff_iff]; omega) (fun hin => ?_) fun _ => rfl
      rw [show x - a = x - (a + 1) + 1 by omega, List.getD_cons_succ]

theorem smWf_putBytes (a : Nat) (l : List Byte) {m : List (Nat × Byte)} (h : smWf (fun _ => 0) m = true) :
    smWf (fun _ => 0) (putBytes a l m) = true := by
  induction l generalizing a m with
  | nil => exact h
  | cons b l ih =>
    rw [putBytes_cons]
    exact ih _ (smSet_wf (fun _ => 0) m a b h)

section
variable (s : Block) (a : Nat) (l : List Byte)

theorem nvmByte_nvmPut (x : Nat) :
    (s.nvmPut a l).nvmByte x = if a ≤ x ∧ x < a + l.length then l.getD (x - a) 0 else s.nvmByte x := by
  rw [Block.nvmByte, nvmPut_mem, smGet_putBytes, Block.nvmByte]

/-- The first bytes put read back. -/
theorem nvmBytes_nvmPut_take {n : Nat} (h : n ≤ l.length) : (s.nvmPut a l).nvmBytes a n = l.take n := by
  refine List.ext_getElem (by simp [Block.nvmBytes, h]) fun i hi _ => ?_
  have hin : i < n := by simpa [Block.nvmBytes] using hi
  have hil : i < l.length := by omega
  rw [List.getElem_take, ← List.getD_eq_getElem l 0 hil]
  simp only [Block.nvmBytes, List.getElem_map, List.getElem_range]
  rw [nvmByte_nvmPut, if_pos (by omega), Nat.add_sub_cancel_left]

theorem nvmBytes_nvmPut : (s.nvmPut a l).nvmBytes a l.length = l := by
  rw [nvmBytes_nvmPut_take s a l le_rfl, List.take_length]

end

/-! ### The end of MAINTAIN (R126) -/

/-- MAINTAIN has ended for one holder: a cairn and event 975. -/
def maintainEnded (byCommand : Bool) (t : Block) (m : Maint) : Block :=
  (t.cairnN (if byCommand then m.origin else oFirmware) 0x0111 0 3 (tableClass t m.origin)).raise 975

theorem endMaintain_eq (byCommand : Bool) (p : Maint → Bool) (s : Block) :
    endMaintain byCommand p s = (s.acc.maintain.filter p).foldl (maintainEnded byCommand) (dropMaintain p s) := rfl

theorem endMaintain_maintain (byCommand : Bool) (p : Maint → Bool) (s : Block) :
    (endMaintain byCommand p s).acc.maintain = s.acc.maintain.filter fun m => !p m :=
  congrArg AccState.maintain (foldl_keeps (g := Block.acc) (fun t m => by simp) _ (dropMaintain p s))

/-- Each end adds a cairn while the queue has room for all. -/
theorem length_queue_maintainEnded (byCommand : Bool) (l : List Maint) (t : Block) (h : t.log.queue.length + l.length ≤ 4096) :
    (l.foldl (maintainEnded byCommand) t).log.queue.length = t.log.queue.length + l.length := by
  induction l generalizing t with
  | nil => rfl
  | cons m l ih =>
    rw [List.length_cons] at h ⊢
    have hone : (maintainEnded byCommand t m).log.queue.length = t.log.queue.length + 1 := by
      rw [maintainEnded, raise_log, Block.cairnN, queue_cairn _ _ _ _ _ _ (by omega), List.length_append, List.length_singleton]
    rw [List.foldl_cons, ih _ (by omega), hone]
    omega

theorem evtStatus_maintainEnded (byCommand : Bool) {l : List Maint} (h : l ≠ []) (t : Block) :
    (l.foldl (maintainEnded byCommand) t).evtStatus 975 = true := by
  obtain ⟨l', m, rfl⟩ := (List.eq_nil_or_concat l).resolve_left h
  rw [List.concat_eq_append, List.foldl_append, List.foldl_cons, List.foldl_nil, maintainEnded, evtStatus_raise, decide_eq_true rfl,
    Bool.true_or]

theorem endMaintain_none (byCommand : Bool) (p : Maint → Bool) {s : Block} (h : s.acc.maintain = []) : endMaintain byCommand p s = s := by
  have hkept : s.acc.maintain.filter (fun m => !p m) = s.acc.maintain := by
    rw [h]
    rfl
  have hended : s.acc.maintain.filter p = [] := by
    rw [h]
    rfl
  rw [endMaintain_eq, hended, List.foldl_nil, dropMaintain, hkept]

/-- The holder has sent no command for 15 minutes. -/
def maintainStale (s : Block) (m : Maint) : Bool := decide (900 * secT ≤ s.sinceT m.last)

theorem not_maintainStale (s : Block) : (fun m => !maintainStale s m) = fun m => decide (s.sinceT m.last < 900 * secT) := by
  funext m
  rw [maintainStale, ← decide_not]
  exact decide_eq_decide.mpr not_le

section
variable {s : State}

theorem maintainTimeout_becomes : Becomes .maintainTimeout s (endMaintain false (maintainStale s.blk) s.blk) := rfl

theorem maintainTimeout_completes (h : s.blk.log.queue.length + s.blk.acc.maintain.length ≤ 4096) : Completes .maintainTimeout s (fun t =>
    t.acc.maintain = s.blk.acc.maintain.filter (fun m => decide (s.blk.sinceT m.last < 900 * secT)) ∧
    t.log.queue.length = s.blk.log.queue.length + (s.blk.acc.maintain.filter (maintainStale s.blk)).length ∧
    ((∃ m ∈ s.blk.acc.maintain, 900 * secT ≤ s.blk.sinceT m.last) → t.evtStatus 975 = true)) := by
  refine completes_of_becomes maintainTimeout_becomes ⟨?_, ?_, fun ⟨m, hm, hstale⟩ => ?_⟩
  · rw [endMaintain_maintain, not_maintainStale]
  · have hfilter := List.length_filter_le (maintainStale s.blk) s.blk.acc.maintain
    exact length_queue_maintainEnded false _ (dropMaintain _ s.blk) ((Nat.add_le_add_left hfilter _).trans h)
  · exact evtStatus_maintainEnded false (List.ne_nil_of_mem (List.mem_filter.mpr ⟨hm, decide_eq_true hstale⟩)) _

/-! ### The lock-out and the staging buffer (R122, R125) -/

theorem challengeLockoutEnd_becomes {u : Tick} (hu : s.blk.acc.lockUntil = some u) (hover : laterThan u s.blk.now = false) :
    Becomes .challengeLockoutEnd s { s.blk with acc := { s.blk.acc with lockUntil := none } } := by
  refine becomes_of_eq rfl ?_
  rw [hu]
  exact if_neg (ne_true_of_eq_false hover)

theorem stagingRelease_becomes (howned : s.blk.nvm.stageOwner.isSome = true) (hold : 60 * secT ≤ s.blk.sinceT s.blk.nvm.stageSince) :
    Becomes .stagingRelease s { s.blk with nvm := { s.blk.nvm with stageOwner := none } } :=
  becomes_of_eq rfl (if_pos (by rw [howned, decide_eq_true hold]; rfl))

/-! ### The cairn queue reaches NVM (R131) -/

theorem cairnFlush_becomes (h : s.blk.log.lost = 0) : Becomes .cairnFlush s (queueStored s.blk) := becomes_of_eq rfl (if_pos h)

theorem cairnFlush_becomes_lossNoted (h : s.blk.log.lost ≠ 0) :
    Becomes .cairnFlush s (lossNoted s.blk.log.lost (queueStored s.blk)) := becomes_of_eq rfl (if_neg h)

end

theorem queue_queueStored (s : Block) : (queueStored s).log.queue = [] := rfl

theorem queued_queueStored (s : Block) : (queueStored s).fld LOG_STAT.QUEUED = 0 := fld_setFld _ _ _ (by decide)

/-- What a cairn changes of the log while its queue has room. -/
theorem log_cairn (s : Block) (o k a : Nat) (x y : Word) (h : s.log.queue.length < 4096) :
    (s.cairn o k a x y).log = { s.log with queue := s.log.queue ++ [⟨s.now, o, k, a, x, y⟩] } := by
  rw [Block.cairn, Block.cairnAt, if_pos h, setFld_log]

/-- While the queue has room a cairn changes QUEUED alone of the registers. -/
theorem flag_cairn_room (s : Block) (o k a : Nat) (x y : Word) {f : RF} (h : s.log.queue.length < 4096) (hf : LOG_STAT.QUEUED.apart f) :
    (s.cairn o k a x y).flag f = s.flag f := by
  rw [Block.cairn, Block.cairnAt, if_pos h, flag_setFld_apart _ _ _ _ hf, flag_mk]

/-- GAP tells that entries were lost. -/
def gapSet (s : Block) : Block := ({ s with log := { s.log with lost := 0 } } : Block).setFlag LOG_STAT.GAP true

theorem lossNoted_eq (n : Nat) (s : Block) : lossNoted n s = ((gapSet s).cairnN oFirmware 0x0121 0 0 n).raise 978 := rfl

theorem lossNoted_fields (n : Nat) {s : Block} (h : s.log.queue.length < 4096) : (lossNoted n s).log.lost = 0 ∧
    (lossNoted n s).log.entries = s.log.entries ∧ (lossNoted n s).flag LOG_STAT.GAP = true ∧ (lossNoted n s).evtStatus 978 = true ∧
    Logged oFirmware 0x0121 0 0 (BitVec.ofNat 32 n) (lossNoted n s) := by
  have hroom : (gapSet s).log.queue.length < 4096 := h
  have hlog := log_cairn (gapSet s) oFirmware 0x0121 0 (BitVec.ofNat 32 0) (BitVec.ofNat 32 n) hroom
  rw [lossNoted_eq, logged_congr (raise_log _ _), raise_log, Block.cairnN, hlog]
  refine ⟨rfl, rfl, ?_, ?_, logged_cairn _ oFirmware 0x0121 0 _ _ hroom⟩
  · rw [(regsBut_raise _ _).flag (by decide), flag_cairn_room _ _ _ _ _ _ hroom (by decide)]
    exact flag_setFlag_same _ _ _ (by decide)
  · rw [evtStatus_raise, decide_eq_true rfl, Bool.true_or]

/-! ### Words of the journal slot (R113, R115) -/

section
variable (w : NvmWrite) (s : Block)

theorem nvmPut_journal (a : Nat) (l : List Byte) : (s.nvmPut a l).nvm.journal = s.nvm.journal := rfl

theorem nvmSpoil_log : (nvmSpoil w s).log = s.log := by
  unfold nvmSpoil
  exact foldl_keeps (g := Block.log) (fun t i => by rw [draw_log, nvmPut_log]) _ s

theorem nvmSpoil_journal : (nvmSpoil w s).nvm.journal = s.nvm.journal := by
  unfold nvmSpoil
  exact foldl_keeps (g := fun t => t.nvm.journal) (fun t i => by rw [draw_nvm, nvmPut_journal]) _ s

end

theorem nvmFault_fields (offset cause : Nat) {s : Block} (h : s.log.queue.length < 4096) :
    (nvmFault offset cause s).nvm = s.nvm ∧ (nvmFault offset cause s).evtStatus 983 = true ∧
      Logged oFirmware 0x0123 offset 0 (BitVec.ofNat 32 cause) (nvmFault offset cause s) := by
  refine ⟨?_, ?_, logged_cairnN _ _ _ _ _ _ (by rwa [raise_log])⟩
  · rw [nvmFault, cairnN_nvm, raise_nvm]
  · rw [nvmFault, evtStatus_cairnN, evtStatus_raise, decide_eq_true rfl, Bool.true_or]

/-- The journal slot goes on to the next word. -/
def slotTaken (rest : List NvmWrite) (s : Block) : Block := { s with nvm := { s.nvm with journal := rest } }

section
variable {s : State} {rest : List NvmWrite} {offset : Nat} {data : List Byte} {ok1 ok2 : Bool}

theorem nvmWordWrite_bytes (hj : s.blk.nvm.journal = ⟨offset, data, .bytes⟩ :: rest) (hok : (ok1 || ok2) = true) :
    Becomes (.nvmWordWrite ok1 ok2) s ((slotTaken rest s.blk).nvmPut offset data) := by
  refine (onBlock_next ?_ : execNvmWordWrite ok1 ok2 s = _)
  rw [hj]
  exact if_pos hok

theorem nvmWordWrite_key (hj : s.blk.nvm.journal = ⟨offset, data, .key⟩ :: rest) (hok : (ok1 || ok2) = true) :
    Becomes (.nvmWordWrite ok1 ok2) s
      ((nvmOwner .key ⟨offset, data, .key⟩ ((slotTaken rest s.blk).nvmPut offset data)).releaseFirst .nvm id) := by
  refine (onBlock_next ?_ : execNvmWordWrite ok1 ok2 s = _)
  rw [hj]
  exact if_pos hok

/-- Bytes that nobody waits for: a word that could not be written is told by event and cairn alone. -/
theorem nvmWordWrite_fails (hj : s.blk.nvm.journal = ⟨offset, data, .bytes⟩ :: rest) (hno : (ok1 || ok2) = false) :
    Becomes (.nvmWordWrite ok1 ok2) s (nvmFault offset 1 (nvmSpoil ⟨offset, data, .bytes⟩ (slotTaken rest s.blk))) := by
  refine (onBlock_next ?_ : execNvmWordWrite ok1 ok2 s = _)
  rw [hj]
  exact if_neg (ne_true_of_eq_false hno)

end

/-- Settles O37: bytes put are read by place; each row that ends a wait is its named update, whose fields are read off. -/
theorem maintainNvmEvents : Obligations.MaintainNvmEvents := by
  refine ⟨fun b a l => ⟨nvmBytes_nvmPut b a l, fun x hx => ?other, smWf_putBytes a l⟩,
    fun s => ⟨maintainTimeout_completes, fun hnone => becomes_of_eq maintainTimeout_becomes (endMaintain_none _ _ hnone),
      fun u hu hover => challengeLockoutEnd_becomes hu hover, stagingRelease_becomes, fun hlost => ?stored, fun hlost => ?lost,
      fun w rest ok1 ok2 hj howner => ?bytes, fun w rest ok1 ok2 hj howner hok => ?key⟩⟩
  case other => rw [nvmByte_nvmPut, if_neg (by omega)]
  case stored => exact completes_of_becomes (cairnFlush_becomes hlost) ⟨rfl, rfl, queued_queueStored s.blk, rfl⟩
  case lost =>
    obtain ⟨hzero, hentries, hgap, hevt, hlogged⟩ := lossNoted_fields s.blk.log.lost (s := queueStored s.blk) (by rw [queue_queueStored]; decide)
    exact completes_of_becomes (cairnFlush_becomes_lossNoted hlost) ⟨hzero, hgap, hevt, hentries, hlogged⟩
  case bytes =>
    obtain ⟨offset, data, owner⟩ := w
    subst howner
    refine ⟨nvmWordWrite_bytes hj, fun hno hroom => ?_⟩
    have hspoil : (nvmSpoil ⟨offset, data, .bytes⟩ (slotTaken rest s.blk)).log.queue.length < 4096 := by rwa [nvmSpoil_log]
    obtain ⟨hnvm, hevt, hlogged⟩ := nvmFault_fields offset 1 hspoil
    exact completes_of_becomes (nvmWordWrite_fails hj hno) ⟨by rw [hnvm, nvmSpoil_journal]; rfl, hevt, hlogged⟩
  case key =>
    obtain ⟨offset, data, owner⟩ := w
    subst howner
    exact ⟨_, rfl, rfl, nvmWordWrite_key hj hok⟩

end Sys2Proof.Machine
end

section
/-! Profiles and firmware images: staging, commit, selection and application (R119 to R122, R126), the update and the choice of the image
to boot (R135 to R138). -/

namespace Sys2Proof.Machine

/-! ### A change's reply (R78), and what a command's touch of MAINTAIN leaves -/

section
variable (op : Nat) (q : Req) (deferred : Bool) (pre : List Byte) (s : Block)

@[simp] theorem replyDeferred_regs : (replyDeferred op q deferred pre s).regs = s.regs := by
  unfold replyDeferred
  split
  · split
    · exact replyLater_regs ..
    · exact reply_regs ..
  · exact reply_regs ..

@[simp] theorem replyDeferred_nvm : (replyDeferred op q deferred pre s).nvm = s.nvm := by
  unfold replyDeferred
  split
  · split
    · exact replyLater_nvm ..
    · exact reply_nvm ..
  · exact reply_nvm ..

end

@[simp] theorem touchMaintain_nvm (c : Carrier) (s : Block) : (touchMaintain c s).nvm = s.nvm := rfl

theorem nvmBytes_congr {s t : Block} (h : t.nvm.mem = s.nvm.mem) (a n : Nat) : t.nvmBytes a n = s.nvmBytes a n := by
  unfold Block.nvmBytes Block.nvmByte
  rw [h]

theorem nvmBytes_reply (s : Block) (q : Req) (op st : Nat) (res : List Byte) (a n : Nat) :
    (s.reply q op st res).nvmBytes a n = s.nvmBytes a n := nvmBytes_congr (congrArg NvmState.mem (reply_nvm ..)) a n

theorem nvmBytes_replyLater (s : Block) (q : Req) (op st : Nat) (res : List Byte) (w : WaitOn) (a n : Nat) :
    (s.replyLater q op st res w).nvmBytes a n = s.nvmBytes a n := rfl

theorem nvmBytes_nvmWord (s : Block) (w : NvmWrite) (a n : Nat) : (s.nvmWord w).nvmBytes a n = s.nvmBytes a n := rfl

@[simp] theorem profileValid_touchMaintain (c : Carrier) (s : Block) (n : Nat) : profileValid (touchMaintain c s) n = profileValid s n := rfl

/-! ### A profile applies (R119, R121, R126) -/

/-- Profile `n` is the active one, and the loops count from frame `frame` on. -/
def profileActive (n frame : Nat) (s : Block) : Block :=
  { ((s.setFld PRF_STATE.ACTIVE n).setFlag PRF_STATE.DEFAULTS false).setFlag SYS_BOOT.DEFAULTS false with
    stat := { s.stat with aeFirst := some frame, awbFirst := some frame } }

/-- Nothing of a selection waits any more. -/
def selectionOver (s : Block) : Block :=
  { (s.setFlag PRF_STATE.PENDING false).setFld PRF_STATE.PENDING_NUM 0 with nvm := { s.nvm with pendProfile := none } }

/-- The cairn of a profile, its access table and its records (R116, R650). -/
def profileWritten (n : Nat) (recs : List ProfRec) (s : Block) : Block :=
  profWrite n recs (profAccess (profileImage s n)
    ((selectionOver s).cairnN (oProfile n) 0x0102 PRF_STATE.addr (s.fld PRF_STATE.ACTIVE) n))

theorem applyProfile_valid {b : Block} {n : Nat} {recs : List ProfRec} (frame : Nat) (hvalid : profileValid b n = true)
    (hrecs : recordsOf (profileImage b n) = some recs) (hnone : profRefused b recs = none) :
    applyProfile n frame b = endMaintain false (fun _ => true) ((profileActive n frame (profileWritten n recs b)).raise 971) := by
  unfold applyProfile
  dsimp only
  rw [hrecs]
  exact if_pos (by rw [hvalid, hnone]; rfl)

/-- The end of MAINTAIN raises event 975 and no other. -/
theorem evtStatus_endMaintain (byCommand : Bool) (p : Maint → Bool) (s : Block) {e : Nat} (he : e ≠ 975) :
    (endMaintain byCommand p s).evtStatus e = s.evtStatus e := by
  rw [endMaintain_eq]
  refine foldl_keeps (g := fun t => t.evtStatus e) (fun t m => ?_) _ (dropMaintain p s)
  rw [maintainEnded, evtStatus_raise, decide_eq_false he, Bool.false_or, evtStatus_cairnN]

section
variable (n frame : Nat) (u : Block)

theorem active_profileActive (hn : n < 8) : (profileActive n frame u).fld PRF_STATE.ACTIVE = n := by
  rw [profileActive, fld_mk, fld_setFlag_apart _ _ _ _ (by decide), fld_setFlag_apart _ _ _ _ (by decide), fld_setFld _ _ _ (by decide)]
  exact Nat.mod_eq_of_lt hn

theorem profileApplied_fields (hn : n < 8) {t : Block} (ht : t = endMaintain false (fun _ => true) ((profileActive n frame u).raise 971)) :
    t.fld PRF_STATE.ACTIVE = n ∧ t.evtStatus 971 = true ∧ t.acc.maintain = [] ∧ t.stat.aeFirst = some frame := by
  subst ht
  have hwords := regsBut_endMaintain false (fun _ => true) ((profileActive n frame u).raise 971)
  refine ⟨?_, ?_, ?_, ?_⟩
  · rw [hwords.fld (by decide), (regsBut_raise _ _).fld (by decide), active_profileActive n frame u hn]
  · rw [evtStatus_endMaintain _ _ _ (by decide), evtStatus_raise, decide_eq_true rfl, Bool.true_or]
  · rw [endMaintain_maintain]
    exact List.filter_false _
  · rw [endMaintain_keeps (g := Block.stat) false _ (fun _ => rfl) (fun t => cairnN_stat t) (fun t => raise_stat t), raise_stat]
    rfl

end

/-! ### The profile opcodes (R119 to R122) -/

section
variable {q : Req} {s : State}

/-- Bytes put into the staging buffer, which is their origin's from now on. -/
def bytesStaged (q : Req) (s : Block) : Block :=
  { s with nvm := { s.nvm with staging := putBytes (pNat q 0 4) (q.params.drop 8) s.nvm.staging, stageOwner := some (originOf q.carrier),
                               stageSince := s.now } }

theorem stageProfile_executes {len : Nat} (hlen : len = pNat q 4 2) (h : AtOnce 2 0 q s.blk) (hq : Shaped q (8 + len) [6, 7])
    (hroom : pNat q 0 4 + len ≤ 262144) (hmine : ∀ x, s.blk.nvm.stageOwner = some x → x = originOf q.carrier) :
    Executes (.stageProfile q) q (fun b => (bytesStaged q b).reply q 0x0103 stOk []) s := by
  subst hlen
  have hshape := shape_of_shaped hq
  refine executes_of rfl h ?_
  cases howner : s.blk.nvm.stageOwner with
  | none => simp [hshape, bad, hroom, howner]
  | some x => simp [hshape, bad, hroom, howner, hmine x howner]

theorem stageProfile_completes {len : Nat} (hlen : len = pNat q 4 2) (h : AtOnce 2 0 q s.blk) (hq : Shaped q (8 + len) [6, 7])
    (hroom : pNat q 0 4 + len ≤ 262144) (hmine : ∀ x, s.blk.nvm.stageOwner = some x → x = originOf q.carrier) :
    Completes (.stageProfile q) s (fun t => Replied q 0x0103 stOk [] t ∧ t.nvm.stageOwner = some (originOf q.carrier) ∧
      t.nvm.stageSince = s.blk.now ∧
      ∀ x, smGet 0 t.nvm.staging x = if pNat q 0 4 ≤ x ∧ x < pNat q 0 4 + len then (q.params.drop 8).getD (x - pNat q 0 4) 0
        else smGet 0 s.blk.nvm.staging x) := by
  have hbytes : (q.params.drop 8).length = len := by rw [List.length_drop, hq.1, Nat.add_sub_cancel_left]
  refine completes_of_executes (stageProfile_executes hlen h hq hroom hmine)
    ⟨replied_reply _ _ _ _ _ (not_dropped h.notPin h.loud _), ?_, ?_, fun x => ?_⟩
  · rw [reply_nvm]
    rfl
  · rw [reply_nvm]
    rfl
  · rw [reply_nvm, ← hbytes]
    exact smGet_putBytes _ _ _ x

/-- The staged image as it is stored in slot `n`: the part's own store count, stamp and CRC (R116). -/
def imageToStore (n : Nat) (s : Block) : List Byte :=
  storedImage s ((leVal (s.nvmBytes (profileBase n + 12) 4) + 1) % 2 ^ 32) (stagedImage s)

/-- The staging buffer is empty and nobody's. -/
def stagingFreed (s : Block) : Block := { s with nvm := { s.nvm with staging := [], stageOwner := none } }

/-- The image stands in its slot but for its magic, which reads zero, and the staging buffer is free (R122). -/
def bodyStored (n : Nat) (s : Block) : Block := stagingFreed (s.nvmPut (profileBase n) (zeros 4 ++ (imageToStore n s).drop 4))

/-- The word that makes the slot valid: the header with its magic (R122). -/
def headerWord (q : Req) (n : Nat) (s : Block) : NvmWrite :=
  ⟨profileBase n, (imageToStore n s).take 64, .profile n (originOf q.carrier) (leVal (s.nvmBytes (profileBase n + 12) 4))⟩

theorem commitProfile_executes {n : Nat} (hn : n = pByte q 0) (h : AtOnce 2 4 q s.blk) (hq : Shaped q 4 [1, 2, 3]) (h7 : n ≤ 7)
    (himage : imageOk n (stagedImage (touchMaintain q.carrier s.blk)) = true)
    (hwords : wordsRefused (stagedImage (touchMaintain q.carrier s.blk)) = false)
    (hclasses : ((stagedImage (touchMaintain q.carrier s.blk)).drop 48).take 5 =
      (touchMaintain q.carrier s.blk).nvmBytes (profileBase n + 48) 5) :
    Executes (.commitProfile q) q (fun b => ((bodyStored n b).nvmWord (headerWord q n b)).replyLater q 0x0104 stOk
      (leBytes 4 ((leVal (b.nvmBytes (profileBase n + 12) 4) + 1) % 2 ^ 32)) .nvm) s := by
  subst hn
  have hshape := shape_of_shaped hq
  refine executes_congr (executes_of rfl h (by simp [hshape, bad, h7, himage, hwords, hclasses])) ?_
  unfold bodyStored headerWord imageToStore
  rfl

theorem nvmWord_stagingFreed (u : Block) (w : NvmWrite) : ((stagingFreed u).nvmWord w).nvm =
    { u.nvm with staging := [], stageOwner := none, journal := u.nvm.journal ++ [w] } := rfl

/-- The magic of the slot reads zero until its header's word is written. -/
theorem magic_bodyStored (n : Nat) (s : Block) : (bodyStored n s).nvmBytes (profileBase n) 4 = zeros 4 := by
  have hfreed : ∀ u, (stagingFreed u).nvm.mem = u.nvm.mem := fun _ => rfl
  have hzeros : (zeros 4).length = 4 := List.length_replicate
  rw [bodyStored, nvmBytes_congr (hfreed _), nvmBytes_nvmPut_take _ _ _ (by rw [List.length_append, hzeros]; omega), List.take_left' hzeros]

theorem commitProfile_completes {n : Nat} (hn : n = pByte q 0) (h : AtOnce 2 4 q s.blk) (hq : Shaped q 4 [1, 2, 3]) (h7 : n ≤ 7)
    (himage : imageOk n (stagedImage (touchMaintain q.carrier s.blk)) = true)
    (hwords : wordsRefused (stagedImage (touchMaintain q.carrier s.blk)) = false)
    (hclasses : ((stagedImage (touchMaintain q.carrier s.blk)).drop 48).take 5 =
      (touchMaintain q.carrier s.blk).nvmBytes (profileBase n + 48) 5) :
    Completes (.commitProfile q) s (fun t => Held q 0x0104 .nvm t ∧ t.nvm.staging = [] ∧ t.nvm.stageOwner = none ∧
      t.nvmBytes (profileBase n) 4 = zeros 4 ∧
      t.nvm.journal = s.blk.nvm.journal ++ [headerWord q n (touchMaintain q.carrier s.blk)]) := by
  refine completes_of_executes (commitProfile_executes hn h hq h7 himage hwords hclasses) ⟨held_replyLater _ _ _ _ _ _, ?_, ?_, ?_, ?_⟩
  · rw [replyLater_nvm, bodyStored, nvmWord_stagingFreed]
  · rw [replyLater_nvm, bodyStored, nvmWord_stagingFreed]
  · rw [nvmBytes_replyLater, nvmBytes_nvmWord, magic_bodyStored]
  · rw [replyLater_nvm, bodyStored, nvmWord_stagingFreed, nvmPut_journal, touchMaintain_nvm]

/-- The selection of a profile, as the log has it. -/
def selectionLogged (n o : Nat) (s : Block) : Block := s.cairnN o 0x0101 PRF_STATE.addr (s.fld PRF_STATE.ACTIVE) n

/-- The profile waits for the next FCP (R119). -/
def profilePending (n o : Nat) (s : Block) : Block :=
  { ((selectionLogged n o s).setFlag PRF_STATE.PENDING true).setFld PRF_STATE.PENDING_NUM n with
    nvm := { (selectionLogged n o s).nvm with pendProfile := some ⟨n, firstFrame s, o⟩ } }

section
variable {n : Nat} (hn : n = pByte q 0) (h : AtOnce 2 12 q s.blk) (hq : Shaped q 4 [1, 2, 3]) (h7 : n ≤ 7)
  (hidle : s.blk.takeOpen = false) (hvalid : profileValid s.blk n = true)
  (hnone : (recordsOf (profileImage (touchMaintain q.carrier s.blk) n)).bind (profRefused (touchMaintain q.carrier s.blk)) = none)
include hn h hq h7 hidle hvalid hnone

theorem selectProfile_executes_running (hrun : s.blk.running = true) : Executes (.selectProfile q) q
    (fun b => replyDeferred 0x0101 q true [] (profilePending n (originOf q.carrier) b)) s := by
  subst hn
  have hshape := shape_of_shaped hq
  refine executes_congr (executes_of rfl h (by simp [hshape, bad, h7, hidle, hvalid, hnone])) ?_
  simp only [touchMaintain_takeOpen, hidle, profileValid_touchMaintain, hvalid, touchMaintain_running, hrun, Bool.false_eq_true, if_false,
    Bool.not_true, if_true]
  rfl

theorem selectProfile_executes_idle (hrun : s.blk.running = false) : Executes (.selectProfile q) q
    (fun b => replyDeferred 0x0101 q false [] (applyProfile n b.ft.nextNum (selectionLogged n (originOf q.carrier) b))) s := by
  subst hn
  have hshape := shape_of_shaped hq
  refine executes_congr (executes_of rfl h (by simp [hshape, bad, h7, hidle, hvalid, hnone])) ?_
  simp only [touchMaintain_takeOpen, hidle, profileValid_touchMaintain, hvalid, touchMaintain_running, hrun, Bool.false_eq_true, if_false,
    Bool.not_true, cairnN_ft]
  rfl

end

theorem profilePending_fields {n : Nat} (h7 : n ≤ 7) (o : Nat) (s : Block) : (profilePending n o s).flag PRF_STATE.PENDING = true ∧
    (profilePending n o s).fld PRF_STATE.PENDING_NUM = n ∧ (profilePending n o s).fld PRF_STATE.ACTIVE = s.fld PRF_STATE.ACTIVE := by
  unfold profilePending
  refine ⟨?_, ?_, ?_⟩
  · rw [flag_mk, flag_setFld_apart _ _ _ _ (by decide), flag_setFlag_same _ _ _ (by decide)]
  · rw [fld_mk, fld_setFld _ _ _ (by decide)]
    exact Nat.mod_eq_of_lt (Nat.lt_succ_of_le h7)
  · rw [fld_mk, fld_setFld_apart _ _ _ _ (by decide), fld_setFlag_apart _ _ _ _ (by decide)]
    exact (regsBut_cairnN s _ _ _ _ _).fld (by decide)

theorem selectProfile_completes_pending {n : Nat} (hn : n = pByte q 0) (h : AtOnce 2 12 q s.blk) (hq : Shaped q 4 [1, 2, 3]) (h7 : n ≤ 7)
    (hidle : s.blk.takeOpen = false) (hvalid : profileValid s.blk n = true)
    (hnone : (recordsOf (profileImage (touchMaintain q.carrier s.blk) n)).bind (profRefused (touchMaintain q.carrier s.blk)) = none)
    (hrun : s.blk.running = true) :
    Completes (.selectProfile q) s (fun t => t.flag PRF_STATE.PENDING = true ∧ t.fld PRF_STATE.PENDING_NUM = n ∧
      t.nvm.pendProfile = some ⟨n, firstFrame (touchMaintain q.carrier s.blk), originOf q.carrier⟩ ∧
      t.fld PRF_STATE.ACTIVE = s.blk.fld PRF_STATE.ACTIVE) := by
  obtain ⟨hflag, hnum, hactive⟩ := profilePending_fields h7 (originOf q.carrier) (touchMaintain q.carrier s.blk)
  have hsame : RegsBut [] (profilePending n (originOf q.carrier) (touchMaintain q.carrier s.blk)) _ :=
    .of_regs (replyDeferred_regs 0x0101 q true [] _)
  refine completes_of_executes (selectProfile_executes_running hn h hq h7 hidle hvalid hnone hrun) ⟨?_, ?_, ?_, ?_⟩
  · rw [hsame.flag List.not_mem_nil, hflag]
  · rw [hsame.fld List.not_mem_nil, hnum]
  · rw [replyDeferred_nvm]
    rfl
  · rw [hsame.fld List.not_mem_nil, hactive, touchMaintain_fld]

end

/-! ### Firmware images (R135, R137, R138) -/

@[simp] theorem syncFw_nvm (s : Block) : (syncFw s).nvm = s.nvm := rfl

theorem fwImage_congr {s t : Block} (h : t.nvm = s.nvm) (i : Nat) : fwImage t i = fwImage s i := by
  unfold fwImage
  rw [h]

section
variable (i : Nat) (x : FwImage) (s : Block)

theorem setFw_nvm : (setFw i x s).nvm = if i = 0 then { s.nvm with fw0 := x } else { s.nvm with fw1 := x } := by
  unfold setFw
  split <;> rfl

theorem fwImage_setFw : fwImage (setFw i x s) i = x := by
  unfold fwImage
  rw [setFw_nvm]
  split <;> rfl

theorem fwImage_setFw_other (hi : i ≤ 1) : fwImage (setFw i x s) (1 - i) = fwImage s (1 - i) := by
  unfold fwImage
  rw [setFw_nvm]
  by_cases h0 : i = 0
  · rw [if_pos h0, if_neg (by omega), if_neg (by omega)]
  · rw [if_neg h0, if_pos (by omega), if_pos (by omega)]

theorem setFw_updating : (setFw i x s).nvm.updating = s.nvm.updating := by
  rw [setFw_nvm]
  split <;> rfl

theorem setFw_updateLen : (setFw i x s).nvm.updateLen = s.nvm.updateLen := by
  rw [setFw_nvm]
  split <;> rfl

end

/-! ### The firmware opcodes (R137) -/

/-- An update of image `i`, `len` bytes long, has begun. -/
def updateBegun (i len : Nat) (s : Block) : Block := { s with nvm := { s.nvm with updating := some i, updateLen := len } }

/-- No update is under way. -/
def updateOver (s : Block) : Block := syncFw { s with nvm := { s.nvm with updating := none, updateLen := 0 } }

/-- The version that the header of image `i` names. -/
def fwVersion (i : Nat) (s : Block) : Word := BitVec.ofNat 32 (leAt (s.nvmBytes (fwBase i) 128) 4 4)

/-- Image `i` is valid, by its header, and this is logged and raised. -/
def imageValidated (o i : Nat) (s : Block) : Block :=
  ((setFw i ⟨fwVersion i s, leAt (s.nvmBytes (fwBase i) 128) 16 4, true⟩ (updateOver s)).cairn o 0x0130 i (fwImage s i).version
    (fwVersion i s)).raise 980

/-- Image `i` is preferred, and the rollback counter is at least its own. -/
def imagePreferred (o i : Nat) (s : Block) : Block :=
  (((syncFw { s with nvm := { s.nvm with rollback := max s.nvm.rollback (fwImage s i).rollback } }).setFld FW_STATE.PREFERRED i).cairnN o
    0x0131 FW_STATE.addr (s.fld FW_STATE.PREFERRED) i).raise 982

section
variable (o i : Nat) (s : Block)

theorem imageValidated_nvm : (imageValidated o i s).nvm =
    (setFw i ⟨fwVersion i s, leAt (s.nvmBytes (fwBase i) 128) 16 4, true⟩ (updateOver s)).nvm := by
  rw [imageValidated, raise_nvm, cairn_nvm]

theorem imageValidated_fields : (fwImage (imageValidated o i s) i).valid = true ∧ (imageValidated o i s).nvm.updating = none ∧
    (imageValidated o i s).evtStatus 980 = true := by
  refine ⟨?_, ?_, ?_⟩
  · rw [fwImage_congr (imageValidated_nvm o i s), fwImage_setFw]
  · rw [imageValidated_nvm, setFw_updating]
    rfl
  · rw [imageValidated, evtStatus_raise, decide_eq_true rfl, Bool.true_or]

theorem imagePreferred_fields (h1 : i ≤ 1) : (imagePreferred o i s).fld FW_STATE.PREFERRED = i ∧
    (imagePreferred o i s).evtStatus 982 = true ∧ (imagePreferred o i s).nvm.rollback = max s.nvm.rollback (fwImage s i).rollback := by
  unfold imagePreferred
  refine ⟨?_, ?_, ?_⟩
  · rw [(regsBut_raise _ _).fld (by decide), (regsBut_cairnN _ _ _ _ _ _).fld (by decide), fld_setFld _ _ _ (by decide)]
    exact Nat.mod_eq_of_lt (Nat.lt_succ_of_le h1)
  · rw [evtStatus_raise, decide_eq_true rfl, Bool.true_or]
  · rw [raise_nvm, cairnN_nvm, setFld_nvm, syncFw_nvm]

end

section
variable {q : Req} {s : State} (hidle : s.blk.takeOpen = false)
include hidle

theorem fwBegin_executes {i : Nat} (hi : i = pByte q 0) (h : AtOnce 3 0 q s.blk) (hq : Shaped q 8 [1, 2, 3]) (h1 : i ≤ 1)
    (hother : i ≠ s.blk.fld SYS_BOOT.IMAGE) (hlow : 128 ≤ pNat q 4 4) (hhigh : pNat q 4 4 ≤ 4194304) :
    Executes (.fwBegin q) q
      (fun b => (setFw i { fwImage b i with valid := false } (updateBegun i (pNat q 4 4) b)).reply q 0x0130 stOk []) s := by
  subst hi
  have hshape := shape_of_shaped hq
  refine executes_of rfl h ?_
  simp [hshape, bad, fwTake, hidle, h1, hlow, hhigh, hother]

theorem fwBegin_completes {i : Nat} (hi : i = pByte q 0) (h : AtOnce 3 0 q s.blk) (hq : Shaped q 8 [1, 2, 3]) (h1 : i ≤ 1)
    (hother : i ≠ s.blk.fld SYS_BOOT.IMAGE) (hlow : 128 ≤ pNat q 4 4) (hhigh : pNat q 4 4 ≤ 4194304) :
    Completes (.fwBegin q) s (fun t => Replied q 0x0130 stOk [] t ∧ (fwImage t i).valid = false ∧ t.nvm.updating = some i ∧
      t.nvm.updateLen = pNat q 4 4 ∧ fwImage t (1 - i) = fwImage s.blk (1 - i)) := by
  refine completes_of_executes (fwBegin_executes hidle hi h hq h1 hother hlow hhigh)
    ⟨replied_reply _ _ _ _ _ (not_dropped h.notPin h.loud _), ?_, ?_, ?_, ?_⟩
  · rw [fwImage_congr (reply_nvm ..), fwImage_setFw]
  · rw [reply_nvm, setFw_updating]
    rfl
  · rw [reply_nvm, setFw_updateLen]
    rfl
  · rw [fwImage_congr (reply_nvm ..), fwImage_setFw_other _ _ _ h1]
    rfl

theorem fwWrite_executes {i o len : Nat} (ho : o = pNat q 0 4) (hlen : len = pNat q 4 2) (h : AtOnce 3 0 q s.blk)
    (hq : Shaped q (8 + len) [6, 7]) (hupd : s.blk.nvm.updating = some i) (ho64 : o % 64 = 0) (hl64 : len % 64 = 0) (h1 : 1 ≤ len)
    (hlim : len ≤ carrierLimit q 4032 448) (htop : o + len ≤ s.blk.nvm.updateLen) :
    Executes (.fwWrite q) q (fun b => (b.nvmPut (fwBase i + o) (q.params.drop 8)).reply q 0x0131 stOk []) s := by
  subst ho hlen
  have hshape := shape_of_shaped hq
  have hsome : pNat q 4 2 ≠ 0 := by omega
  refine executes_congr (executes_of rfl h ?_) ?_
  · cases hc : q.carrier <;> simp only [carrierLimit, hc] at hlim <;>
      simp [hshape, bad, fwTake, hidle, hupd, ho64, hl64, hsome, hlim, Nat.not_lt.mpr htop]
  · simp [hupd]

theorem fwWrite_completes {i o len : Nat} (ho : o = pNat q 0 4) (hlen : len = pNat q 4 2) (h : AtOnce 3 0 q s.blk)
    (hq : Shaped q (8 + len) [6, 7]) (hupd : s.blk.nvm.updating = some i) (ho64 : o % 64 = 0) (hl64 : len % 64 = 0) (h1 : 1 ≤ len)
    (hlim : len ≤ carrierLimit q 4032 448) (htop : o + len ≤ s.blk.nvm.updateLen) :
    Completes (.fwWrite q) s (fun t => Replied q 0x0131 stOk [] t ∧ t.nvmBytes (fwBase i + o) len = q.params.drop 8) := by
  have hbytes : (q.params.drop 8).length = len := by rw [List.length_drop, hq.1, Nat.add_sub_cancel_left]
  refine completes_of_executes (fwWrite_executes hidle ho hlen h hq hupd ho64 hl64 h1 hlim htop)
    ⟨replied_reply _ _ _ _ _ (not_dropped h.notPin h.loud _), ?_⟩
  rw [nvmBytes_reply, ← hbytes, nvmBytes_nvmPut]

theorem fwFinish_executes_verified {i : Nat} (h : AtOnce 3 4 q s.blk) (hq : q.params = []) (hupd : s.blk.nvm.updating = some i)
    (hok : fwVerifies (touchMaintain q.carrier s.blk) i = true) : Executes (.fwFinish q) q
      (fun b => (imageValidated (originOf q.carrier) i b).reply q 0x0132 stOk (wordBytes (fwVersion i b))) s := by
  have hshape : (shape q 0 []).1 = false := shape_of_length (by rw [hq]; rfl)
  refine executes_congr (executes_of rfl h (by simp [hshape, bad, fwTake, hidle, hupd])) ?_
  simp only [touchMaintain_nvm, hupd, Option.getD_some, hok, if_true]
  rfl

theorem fwFinish_completes_verified {i : Nat} (h : AtOnce 3 4 q s.blk) (hq : q.params = []) (hupd : s.blk.nvm.updating = some i)
    (hok : fwVerifies (touchMaintain q.carrier s.blk) i = true) :
    Completes (.fwFinish q) s (fun t => Replied q 0x0132 stOk (wordBytes (fwVersion i (touchMaintain q.carrier s.blk))) t ∧
      (fwImage t i).valid = true ∧ t.nvm.updating = none ∧ t.evtStatus 980 = true) := by
  obtain ⟨hvalid, hover, hevt⟩ := imageValidated_fields (originOf q.carrier) i (touchMaintain q.carrier s.blk)
  refine completes_of_executes (fwFinish_executes_verified hidle h hq hupd hok)
    ⟨replied_reply _ _ _ _ _ (not_dropped h.notPin h.loud _), ?_, ?_, ?_⟩
  · rw [fwImage_congr (reply_nvm ..), hvalid]
  · rw [reply_nvm, hover]
  · rw [evtStatus_reply, hevt]

theorem fwFinish_executes_failed {i : Nat} (h : AtOnce 3 4 q s.blk) (hq : q.params = []) (hupd : s.blk.nvm.updating = some i)
    (hno : fwVerifies (touchMaintain q.carrier s.blk) i = false) : Executes (.fwFinish q) q
      (fun b => ((updateOver b).raise 981).reply q 0x0132 stFault []) s := by
  have hshape : (shape q 0 []).1 = false := shape_of_length (by rw [hq]; rfl)
  refine executes_congr (executes_of rfl h (by simp [hshape, bad, fwTake, hidle, hupd])) ?_
  simp only [touchMaintain_nvm, hupd, Option.getD_some, hno, Bool.false_eq_true, if_false]
  rfl

theorem fwFinish_completes_failed {i : Nat} (h : AtOnce 3 4 q s.blk) (hq : q.params = []) (hupd : s.blk.nvm.updating = some i)
    (hno : fwVerifies (touchMaintain q.carrier s.blk) i = false) :
    Completes (.fwFinish q) s (fun t => Replied q 0x0132 stFault [] t ∧ fwImage t i = fwImage s.blk i ∧ t.nvm.updating = none ∧
      t.evtStatus 981 = true) := by
  refine completes_of_executes (fwFinish_executes_failed hidle h hq hupd hno)
    ⟨replied_reply _ _ _ _ _ (not_dropped h.notPin h.loud _), ?_, ?_, ?_⟩
  · rw [fwImage_congr ((reply_nvm ..).trans (raise_nvm ..))]
    rfl
  · rw [reply_nvm, raise_nvm]
    rfl
  · rw [evtStatus_reply, evtStatus_raise, decide_eq_true rfl, Bool.true_or]

theorem fwSetBoot_executes {i : Nat} (hi : i = pByte q 0) (h : AtOnce 3 0 q s.blk) (hq : Shaped q 4 [1, 2, 3]) (h1 : i ≤ 1)
    (hvalid : (fwImage s.blk i).valid = true) :
    Executes (.fwSetBoot q) q (fun b => (imagePreferred (originOf q.carrier) i b).reply q 0x0133 stOk []) s := by
  subst hi
  have hshape := shape_of_shaped hq
  exact executes_congr (executes_of rfl h (by simp [hshape, bad, fwTake, hidle, h1])) (if_pos hvalid)

theorem fwSetBoot_completes {i : Nat} (hi : i = pByte q 0) (h : AtOnce 3 0 q s.blk) (hq : Shaped q 4 [1, 2, 3]) (h1 : i ≤ 1)
    (hvalid : (fwImage s.blk i).valid = true) :
    Completes (.fwSetBoot q) s (fun t => Replied q 0x0133 stOk [] t ∧ t.fld FW_STATE.PREFERRED = i ∧ t.evtStatus 982 = true ∧
      t.nvm.rollback = max s.blk.nvm.rollback (fwImage s.blk i).rollback) := by
  obtain ⟨hpref, hevt, hroll⟩ := imagePreferred_fields (originOf q.carrier) i (touchMaintain q.carrier s.blk) h1
  refine completes_of_executes (fwSetBoot_executes hidle hi h hq h1 hvalid)
    ⟨replied_reply _ _ _ _ _ (not_dropped h.notPin h.loud _), ?_, ?_, ?_⟩
  · rw [fld_reply, hpref]
  · rw [evtStatus_reply, hevt]
  · rw [reply_nvm, hroll]
    rfl

end

/-- Settles O20: each request passes its checks, and its body is the named update, whose fields are read off. -/
theorem profileFirmwareCommands : Obligations.ProfileFirmwareCommands := by
  refine ⟨fun q s b hb => ?profiles, fun b n frame recs hn hvalid hrecs hnone =>
    profileApplied_fields n frame _ hn (applyProfile_valid frame hvalid hrecs hnone), fun q s b hb hidle => ?firmware⟩
  case profiles =>
    subst hb
    refine ⟨fun len hlen h hq hroom hmine => stageProfile_completes hlen h hq hroom hmine,
      fun n hn h hq h7 himage hwords hclasses => ?commit,
      fun n hn h hq h7 hidle hvalid hnone => ⟨selectProfile_completes_pending hn h hq h7 hidle hvalid hnone,
        selectProfile_executes_idle hn h hq h7 hidle hvalid hnone⟩⟩
    case commit =>
      obtain ⟨t, ht, hheld, hempty, hfree, hmagic, hjournal⟩ := commitProfile_completes hn h hq h7 himage hwords hclasses
      exact ⟨t, ht, hheld, hempty, hfree, hmagic, _, hjournal, rfl, rfl⟩
  case firmware =>
    subst hb
    exact ⟨fun i hi h hq h1 hother hlow hhigh => fwBegin_completes hidle hi h hq h1 hother hlow hhigh,
      fun i o len ho hlen h hq hupd ho64 hl64 h1 hlim htop => fwWrite_completes hidle ho hlen h hq hupd ho64 hl64 h1 hlim htop,
      fun i h hq hupd _ => ⟨fwFinish_completes_verified hidle h hq hupd, fwFinish_completes_failed hidle h hq hupd⟩,
      fun i hi h hq h1 hvalid => fwSetBoot_completes hidle hi h hq h1 hvalid⟩

end Sys2Proof.Machine
end

section
/-! Frame timing and the transfer pulse (R151, R265, R267 to R269): the pulse's lead, capture by itself, edge stamps as triggers, edges of
the genlock reference, and holdover. -/

namespace Sys2Proof.Machine

/-! ### The transfer pulse and capture by itself (R151, R265) -/

section
variable {s : State}

theorem txPulseLead_becomes_of_mark {node : Bool} {m : MarkAt} (hidle : s.blk.pix.pulse = none)
    (hmark : s.blk.ft.sched.find? (fun m => decide (m.mark.chan = 1 + b2n node) &&
      decide (m.tick = s.blk.now + BitVec.ofNat 64 (ttx s.blk))) = some m) :
    Becomes (.txPulseLead node) s { s.blk with pix := { s.blk.pix with pulse := some (node, s.blk.now) } } := by
  refine becomes_of_eq rfl ((if_neg (by simp [hidle])).trans ?_)
  rw [hmark]

theorem captureAutoStart_becomes_start (hstage : s.blk.fld SYS_BOOT.STAGE = 9) (hperm : permCapture s.blk = true)
    (hrun : s.blk.running = false) (hearly : startTooEarly s.blk = false) (hwait : captureWaits s.blk = false)
    (hconf : conflictArmed s.blk = false) (hserv : inService s.blk ≠ []) (hco : s.blk.rsv.closeOut = none) :
    Becomes .captureAutoStart s (startCapture (oProfile (s.blk.fld PRF_STATE.ACTIVE)) s.blk) :=
  becomes_of_eq rfl (if_pos (by simp [hstage, hperm, hrun, hearly, hwait, hconf, hserv, hco]))

/-! ### Edge stamps (R269) -/

theorem popSunk_of_find_none {n : Nat} {b : Block} (h : b.eng.sunk.find? (fun k => decide (k.sink = n)) = none) : popSunk n b = b := by
  unfold popSunk
  rw [h]

/-- A stamp that no engine sent comes from a pin: it counts but for the source FABRIC. -/
theorem triggerStamp_becomes_trigger (te : Tick) (hmode : trigMode s.blk = true)
    (hnone : s.blk.eng.sunk.find? (fun k => decide (k.sink = 3)) = none) (hsrc : s.blk.fld FT_TRIG.SRC ≠ 3) :
    Becomes (.triggerStamp te) s (takeTrigger te s.blk) := by
  refine becomes_of_eq rfl ((if_pos ?_).trans ?_)
  · rw [hmode, hnone]
    exact decide_eq_true hsrc
  · rw [popSunk_of_find_none hnone]

end

/-! ### LOCKED and HOLDOVER (R268) -/


/-- LOCKED and HOLDOVER as set, before the change is reported. -/
def glSet (locked holdover : Bool) (s : Block) : Block := (s.setFlag FT_STAT.LOCKED locked).setFlag FT_STAT.HOLDOVER holdover

/-- LOCKED and HOLDOVER as one number. -/
def glBits (s : Block) : Nat := s.fld FT_STAT.LOCKED + 2 * s.fld FT_STAT.HOLDOVER

/-- The number tells both flags. -/
theorem flags_of_glBits {s t : Block} (h : glBits s = glBits t) :
    s.flag FT_STAT.LOCKED = t.flag FT_STAT.LOCKED ∧ s.flag FT_STAT.HOLDOVER = t.flag FT_STAT.HOLDOVER := by
  have hs : s.fld FT_STAT.LOCKED < 2 := fld_lt s FT_STAT.LOCKED
  have ht : t.fld FT_STAT.LOCKED < 2 := fld_lt t FT_STAT.LOCKED
  unfold glBits at h
  obtain ⟨hl, hh⟩ : s.fld FT_STAT.LOCKED = t.fld FT_STAT.LOCKED ∧ s.fld FT_STAT.HOLDOVER = t.fld FT_STAT.HOLDOVER := by omega
  exact ⟨by rw [Block.flag, hl, Block.flag], by rw [Block.flag, hh, Block.flag]⟩

section
variable (locked holdover : Bool) (s : Block)

theorem setGl_eq : setGl locked holdover s = if glBits s = glBits (glSet locked holdover s) then s else
    if s.flag FT_STAT.LOCKED != locked || (holdover && !s.flag FT_STAT.HOLDOVER)
      then ((glSet locked holdover s).policyCairn 0x202 0x0202 FT_STAT.addr (glBits s) (glBits (glSet locked holdover s))).raise 1021
      else (glSet locked holdover s).policyCairn 0x202 0x0202 FT_STAT.addr (glBits s) (glBits (glSet locked holdover s)) := rfl

theorem glSet_flags : (glSet locked holdover s).flag FT_STAT.LOCKED = locked ∧
    (glSet locked holdover s).flag FT_STAT.HOLDOVER = holdover := by
  unfold glSet
  refine ⟨?_, flag_setFlag_same _ _ _ (by decide)⟩
  rw [flag_setFlag_apart _ _ _ _ (by decide), flag_setFlag_same _ _ _ (by decide)]

/-- The words that a report of the genlock state changes. -/
theorem regsBut_glSet_setGl (h : glBits s ≠ glBits (glSet locked holdover s)) :
    RegsBut [POL_LAST.addr, LOG_STAT.addr, LOG_HEAD.addr, evtStatusA 1021] (glSet locked holdover s) (setGl locked holdover s) := by
  rw [setGl_eq, if_neg h]
  have hc := regsBut_policyCairn (glSet locked holdover s) 0x202 0x0202 FT_STAT.addr (glBits s) (glBits (glSet locked holdover s))
  exact .ite (hc.append (regsBut_raise _ 1021)) (hc.mono (by simp))

/-- R268: both flags are as told, whether or not that is a change. -/
theorem setGl_flags : (setGl locked holdover s).flag FT_STAT.LOCKED = locked ∧
    (setGl locked holdover s).flag FT_STAT.HOLDOVER = holdover := by
  obtain ⟨hl, hh⟩ := glSet_flags locked holdover s
  by_cases h : glBits s = glBits (glSet locked holdover s)
  · obtain ⟨hsl, hsh⟩ := flags_of_glBits h
    rw [setGl_eq, if_pos h, hsl, hsh]
    exact ⟨hl, hh⟩
  · have hr := regsBut_glSet_setGl locked holdover s h
    rw [hr.flag (by decide), hr.flag (by decide)]
    exact ⟨hl, hh⟩

theorem regsBut_setGl :
    RegsBut [FT_STAT.addr, POL_LAST.addr, LOG_STAT.addr, LOG_HEAD.addr, evtStatusA 1021] s (setGl locked holdover s) := by
  by_cases h : glBits s = glBits (glSet locked holdover s)
  · rw [setGl_eq, if_pos h]
    exact .refl s
  · have hset : RegsBut [FT_STAT.addr] s (glSet locked holdover s) :=
      (regsBut_setFlag s FT_STAT.LOCKED locked).trans (regsBut_setFlag _ FT_STAT.HOLDOVER holdover)
    exact hset.append (regsBut_glSet_setGl locked holdover s h)

@[simp] theorem setGl_ft : (setGl locked holdover s).ft = s.ft := by
  rw [setGl_eq]
  split
  · rfl
  · split <;> simp [glSet]

@[simp] theorem setGl_ks : (setGl locked holdover s).ks = s.ks := by
  rw [setGl_eq]
  split
  · rfl
  · split <;> simp [glSet]

end

/-! ### The slew (R300) -/

/-- The words that a slew shows in; KS_TRIM is not among them. -/
def slewWords : List Nat :=
  [KS_SLEW.addr, KS_STAT.addr, KS_TRIM_EFF.addr, POL_LAST.addr, LOG_STAT.addr, LOG_HEAD.addr, evtStatusA 1022]

section
variable (s : Block)

theorem regsBut_retrim :
    RegsBut [KS_TRIM_EFF.addr, KS_STAT.addr, POL_LAST.addr, LOG_STAT.addr, LOG_HEAD.addr, evtStatusA 1022] s (retrim s) := by
  have hset (e : Nat) (b : Bool) : RegsBut [KS_TRIM_EFF.addr, KS_STAT.addr] s ((s.setFld KS_TRIM_EFF.EFF e).setFlag KS_STAT.TRIM_LIMIT b) :=
    (regsBut_setFld s KS_TRIM_EFF.EFF e).append (regsBut_setFlag _ KS_STAT.TRIM_LIMIT b)
  unfold retrim
  dsimp only
  exact .ite ((hset _ _).mono (by simp)) (((hset _ _).append (regsBut_policyCairn _ _ _ _ _ _)).append (regsBut_raise _ 1022))

@[simp] theorem retrim_ft : (retrim s).ft = s.ft := by
  unfold retrim
  dsimp only
  split <;> simp

theorem regsBut_setSlew (v : Int) : RegsBut slewWords s (setSlew v s) := by
  have hks : RegsBut [] s { s with ks := { s.ks with slew := v } } := .of_regs rfl
  exact (((hks.append (regsBut_setFld _ KS_SLEW.REMAIN _)).append (regsBut_setFlag _ KS_STAT.SLEWING _)).append (regsBut_retrim _)).mono
    (by decide)

@[simp] theorem setSlew_ft (v : Int) : (setSlew v s).ft = s.ft := retrim_ft _

end

/-! ### Edges of the reference (R267, R301) -/

/-- An edge that comes `te - l` after the last one and is good is noted; the first one ever is the origin of the expected ticks. -/
def edgeAccepted (te l : Tick) (s : Block) : Block :=
  { s with ft := { s.ft with
    glLast := some te, glGood := s.ft.glGood + 1, glIntervals := ((te - l).toNat :: s.ft.glIntervals).take 16,
    glTr := if s.ft.glTr.isNone then some te else s.ft.glTr } }

/-- The keystone and LOCKED follow a good edge: locked within 8 ticks of the expected tick, with the trim inside its limit. -/
def edgeFollowed (te : Tick) (s : Block) : Block :=
  setGl (decide (((te - glExpected s te).toInt).natAbs ≤ 8) && !(glLoop te s).flag KS_STAT.TRIM_LIMIT) false (glLoop te s)

/-- A keystone that the reference does not discipline is left alone. -/
theorem glLoop_of_not_disciplined (te : Tick) {s : Block} (h : s.fld KS_CFG.DISC ≠ 1) : glLoop te s = s := if_pos h

theorem edgeFollowed_ft_ks (te : Tick) {s : Block} (h : s.fld KS_CFG.DISC ≠ 1) :
    (edgeFollowed te s).ft = s.ft ∧ (edgeFollowed te s).ks = s.ks := by
  rw [edgeFollowed, glLoop_of_not_disciplined te h]
  exact ⟨setGl_ft _ _ s, setGl_ks _ _ s⟩

section
variable {te : Tick} {s : State} (hnone : s.blk.eng.sunk.find? (fun k => decide (k.sink = 3)) = none)
include hnone

theorem genlockEdge_becomes_of_off (hoff : glOn s.blk = false) : Becomes (.genlockEdge te) s s.blk := by
  change execGenlockEdge te s = .next _
  refine onBlock_next ?_
  simp only [popSunk_of_find_none hnone, hoff, Bool.not_false, if_true]

/-- R268: an interval within 1 % of FT_GL_REF makes an edge good. -/
theorem genlockEdge_becomes_of_good {l : Tick} (hon : glOn s.blk = true) (hlast : s.blk.ft.glLast = some l)
    (hlo : 99 * s.blk.fld FT_GL_REF.REF ≤ 100 * (te - l).toNat) (hhi : 100 * (te - l).toNat ≤ 101 * s.blk.fld FT_GL_REF.REF)
    (hstart : s.blk.ft.glStart = false) (hhold : s.blk.flag FT_STAT.HOLDOVER = false) :
    Becomes (.genlockEdge te) s (edgeFollowed te (edgeAccepted te l s.blk)) := by
  have hearly : ¬ 100 * (te - l).toNat < 99 * s.blk.fld FT_GL_REF.REF := Nat.not_lt.mpr hlo
  have hbegin : (s.blk.ft.glStart && !laterThan s.blk.ft.notBefore te) = false := by rw [hstart, Bool.false_and]
  change execGenlockEdge te s = .next _
  refine onBlock_next ?_
  simp only [popSunk_of_find_none hnone, hon, hlast, hlo, hhi, hearly, hbegin, hhold, flag_mk, Option.isSome_some, decide_true, decide_false,
    Bool.and_true, Bool.and_false, Bool.not_true, Bool.false_and, Bool.false_eq_true, if_false, if_true]
  rfl

end

/-! ### Holdover (R268) -/

/-- Holdover as entered, before the slew of a disciplined keystone is discarded. -/
def heldOver (s : Block) : Block :=
  let t := setGl false true (s.setFlag FT_ERR.REF_LOST true)
  { t with ft := { t.ft with glGood := 0, glIntervals := [] } }

theorem glHold_eq (b : Block) : glHold b = if (heldOver b).fld KS_CFG.DISC = 1 then setSlew 0 (heldOver b) else heldOver b := rfl

theorem heldOver_fields (b : Block) : (heldOver b).flag FT_STAT.HOLDOVER = true ∧ (heldOver b).flag FT_STAT.LOCKED = false ∧
    (heldOver b).flag FT_ERR.REF_LOST = true ∧ (heldOver b).fld KS_TRIM.TRIM = b.fld KS_TRIM.TRIM := by
  obtain ⟨hl, hh⟩ := setGl_flags false true (b.setFlag FT_ERR.REF_LOST true)
  have hr := regsBut_setGl false true (b.setFlag FT_ERR.REF_LOST true)
  refine ⟨hh, hl, ?_, ?_⟩
  · exact (hr.flag (by decide)).trans (flag_setFlag_same _ _ _ (by decide))
  · exact (hr.fld (by decide)).trans (fld_setFlag_apart _ _ _ _ (by decide))

theorem regsBut_heldOver_glHold (b : Block) : RegsBut slewWords (heldOver b) (glHold b) :=
  .ite (regsBut_setSlew _ 0) (.refl _)

theorem glHold_glIntervals (b : Block) : (glHold b).ft.glIntervals = [] := by
  rw [glHold_eq]
  split
  · rw [setSlew_ft, heldOver]
  · rfl

theorem genlockRefLost_completes {s : State} (hon : glOn s.blk = true) (hhold : s.blk.flag FT_STAT.HOLDOVER = false)
    (hmiss : glMissed s.blk = true) :
    Completes .genlockRefLost s (fun t => t.flag FT_STAT.HOLDOVER = true ∧ t.flag FT_STAT.LOCKED = false ∧ t.flag FT_ERR.REF_LOST = true ∧
      t.ft.glIntervals = [] ∧ t.fld KS_TRIM.TRIM = s.blk.fld KS_TRIM.TRIM) := by
  obtain ⟨hh, hl, hlost, htrim⟩ := heldOver_fields s.blk
  have hr := regsBut_heldOver_glHold s.blk
  refine completes_of_becomes (becomes_of_eq rfl (if_pos (by simp [hon, hhold, hmiss]))) ⟨?_, ?_, ?_, glHold_glIntervals s.blk, ?_⟩
  · rw [hr.flag (by decide), hh]
  · rw [hr.flag (by decide), hl]
  · rw [hr.flag (by decide), hlost]
  · rw [hr.fld (by decide), htrim]

/-- Settles O32: each row is the branch its premises select; an accepted edge is noted before the genlock state follows, and holdover leaves
the trim's word alone. -/
theorem timingEvents : Obligations.TimingEvents := by
  unfold Obligations.TimingEvents
  intro s
  refine ⟨?lead, ?auto, ?denied, ?trigger, ?other, ?edgeOff, ?edge, ?lost, ?present⟩
  case lead => exact fun _ _ => txPulseLead_becomes_of_mark
  case auto => exact captureAutoStart_becomes_start
  case denied => exact fun h => becomes_of_eq rfl (if_neg (by simp [h]))
  case trigger => exact triggerStamp_becomes_trigger
  case other => exact fun _ h => becomes_of_eq rfl (if_neg (by simp [h]))
  case edgeOff => exact fun _ hoff hnone => genlockEdge_becomes_of_off hnone hoff
  case edge =>
    intro te l hon hnone hlast hlo hhi hstart hhold hdisc
    obtain ⟨hft, hks⟩ := edgeFollowed_ft_ks te (s := edgeAccepted te l s.blk) hdisc
    refine completes_of_becomes (genlockEdge_becomes_of_good hnone hon hlast hlo hhi hstart hhold) ⟨?_, ?_, hks, ?_⟩ <;> rw [hft] <;> rfl
  case lost => exact genlockRefLost_completes
  case present => exact fun h => becomes_of_eq rfl (if_neg (by simp [h]))

end Sys2Proof.Machine
end

section
/-! The reads of calibration, engines, frame memory and frames in memory (R203, R254, R354, R389). -/

namespace Sys2Proof.Machine

/-! ### Calibration, engines and memory errors (R203, R254, R354) -/

section
variable {q : Req} {s : State}

theorem calReadEntry_answers {n u : Nat} (hn : n = pNat q 4 2) (hu : u = pNat q 0 4) (h : AtOnce 0 (8 * n) q s.blk) (hq : Shaped q 8 [6, 7])
    (h1 : 1 ≤ n) (hlim : n ≤ carrierLimit q 500 62) (htop : u + n ≤ unitCount) :
    Answers (.calReadEntry q) q 0x0302 (fun b => (List.range n).flatMap (fun i => leBytes 8 (b.calEntry (u + i)).toNat)) s := by
  subst hn hu
  have hshape := shape_of_shaped hq
  refine executes_of rfl h ?_
  cases hc : q.carrier <;> simp [hshape, bad, carrierLimit, hc] at hlim ⊢ <;> omega

theorem defectRead_answers {n i : Nat} (hn : n = pNat q 4 2) (hi : i = pNat q 0 4) (h : AtOnce 0 (4 * n) q s.blk) (hq : Shaped q 8 [6, 7])
    (h1 : 1 ≤ n) (hlim : n ≤ carrierLimit q 1000 124) (htop : i + n ≤ s.blk.cal.defects.length) :
    Answers (.defectRead q) q 0x0304 (fun b => ((b.cal.defects.drop i).take n).flatMap wordBytes) s := by
  subst hn hi
  have hshape := shape_of_shaped hq
  have htop' : pNat q 0 4 + pNat q 4 2 ≤ (touchMaintain q.carrier s.blk).cal.defects.length := htop
  refine executes_of rfl h ?_
  cases hc : q.carrier <;> simp [hshape, bad, carrierLimit, hc] at hlim htop' ⊢ <;> omega

theorem calReadEpoch_answers {n u : Nat} (hn : n = pNat q 4 2) (hu : u = pNat q 0 4) (h : AtOnce 0 (2 * n) q s.blk) (hq : Shaped q 8 [6, 7])
    (h1 : 1 ≤ n) (hlim : n ≤ carrierLimit q 2000 248) (htop : u + n ≤ unitCount) :
    Answers (.calReadEpoch q) q 0x0307 (fun b => (List.range n).flatMap (fun i => leBytes 2 (epochRatio b (u + i)))) s := by
  subst hn hu
  have hshape := shape_of_shaped hq
  refine executes_of rfl h ?_
  cases hc : q.carrier <;> simp [hshape, bad, carrierLimit, hc] at hlim ⊢ <;> omega

theorem engGetState_answers {e : Nat} (he : e = pNat q 0 2) (h : AtOnce 0 20 q s.blk) (hq : Shaped q 4 [2, 3]) (h144 : e < 144) :
    Answers (.engGetState q) q 0x0400
      (fun b => wordsFrom b (ENG_STAT.addr e) 3 ++ wordBytes (bankCrc b e false) ++ wordBytes (bankCrc b e true)) s := by
  subst he
  have hshape := shape_of_shaped hq
  exact executes_of rfl h (by simp [hshape, bad, engOk, h144])

theorem engReadProg_answers {e n f : Nat} (he : e = pNat q 0 2) (hf : f = pNat q 4 2) (hn : n = pNat q 6 2) (h : AtOnce 0 (4 * n) q s.blk)
    (hq : Shaped q 8 [3]) (h144 : e < 144) (hbank : pByte q 2 ≤ 1) (h1 : 1 ≤ n) (hlim : n ≤ carrierLimit q 1022 124) (htop : f + n ≤ 1024) :
    Answers (.engReadProg q) q 0x0406
      (fun b => (List.range n).flatMap (fun i => wordBytes (bankWord b e (decide (pByte q 2 = 1)) (f + i)))) s := by
  subst he hf hn
  have hshape := shape_of_shaped hq
  refine executes_of rfl h ?_
  cases hc : q.carrier <;> simp [hshape, bad, engOk, h144, hbank, carrierLimit, hc] at hlim ⊢ <;> omega

theorem mcGetErrors_answers {n f : Nat} (hn : n = pNat q 2 2) (hf : f = pNat q 0 2) (h : AtOnce 0 (16 * n) q s.blk) (hq : q.params.length = 4)
    (h1 : 1 ≤ n) (h64 : n ≤ 64) (htop : f + n ≤ s.blk.mc.ring.length) :
    Answers (.mcGetErrors q) q 0x0802 (fun b => ((b.mc.ring.drop f).take n).flatMap errBytes) s := by
  subst hn hf
  have hshape := shape_of_length hq
  have htop' : pNat q 0 2 + pNat q 2 2 ≤ (touchMaintain q.carrier s.blk).mc.ring.length := htop
  exact executes_of rfl h (by simp [hshape, bad]; omega)

end

/-! ### Frames in memory (R389) -/

@[simp] theorem slot?_touchMaintain (c : Carrier) (s : Block) (n : Nat) : (touchMaintain c s).slot? n = s.slot? n := rfl

@[simp] theorem frameFlags_touchMaintain (c : Carrier) (s : Block) (n : Nat) : frameFlags (touchMaintain c s) n = frameFlags s n := rfl

section
variable {q : Req} {s : State}

section
variable {l : Slot} (h : AtOnce 0 (pNat q 8 2) q s.blk) (hq : Shaped q 12 [10, 11]) (h1 : 1 ≤ pNat q 8 2) (h4080 : pNat q 8 2 ≤ 4080)
  (htop : pNat q 4 4 + pNat q 8 2 ≤ 65536) (hl : s.blk.slot? (pNat q 0 4) = some l)
include h hq h1 h4080 htop hl

theorem recReadHeader_answers {b : List Byte} (hb : l.header = some b) :
    Answers (.recReadHeader q) q 0x0602 (fun _ => (b.drop (pNat q 4 4)).take (pNat q 8 2)) s := by
  have hshape := shape_of_shaped hq
  refine executes_congr (executes_of rfl h ?_) ?_
  · simp [hshape, bad, hl]
    omega
  · simp [hl, hb]

theorem recReadHeader_free (hb : l.header = none) :
    Executes (.recReadHeader q) q
      (fun b => (freeBytes (pNat q 8 2) b).2.reply q 0x0602 stOk (freeBytes (pNat q 8 2) b).1) s := by
  have hshape := shape_of_shaped hq
  refine executes_congr (executes_of rfl h ?_) ?_
  · simp [hshape, bad, hl]
    omega
  · simp [hl, hb]

end

theorem recGetFlags_answers {f : Word} {d c : Nat} (h : AtOnce 0 12 q s.blk) (hq : q.params.length = 4)
    (hf : frameFlags s.blk (pNat q 0 4) = some (f, d, c)) :
    Answers (.recGetFlags q) q 0x0603 (fun _ => wordBytes f ++ leBytes 4 d ++ leBytes 4 c) s := by
  have hshape := shape_of_length hq
  refine executes_congr (executes_of rfl h ?_) ?_
  · simp [hshape, bad, hf]
  · simp [hf]

end

/-- Settles O11: with parameters in range no check of the row fails, and its body is the reply; a header that is not complete draws free
bytes. -/
theorem unitEngineFrameReads : Obligations.UnitEngineFrameReads := by
  unfold Obligations.UnitEngineFrameReads
  intro q s
  refine ⟨fun n u => calReadEntry_answers, fun n i => defectRead_answers, fun n u => calReadEpoch_answers, fun e => engGetState_answers,
    fun e n f => engReadProg_answers, fun n f => mcGetErrors_answers, fun k l hk h hq h1 h4080 htop hl => ?header,
    fun f d c => recGetFlags_answers⟩
  case header =>
    subst hk
    exact ⟨fun b => recReadHeader_answers h hq h1 h4080 htop hl, recReadHeader_free h hq h1 h4080 htop hl⟩

end Sys2Proof.Machine
end

section
/-! What shared operations leave of the calibration state: the table and the defect list (R186, R191, R193), and what a conversion, a line's
edge, a frame flag or a metadata extent leaves alone. -/

namespace Sys2Proof.Machine

/-! ### The table and the defect list (R186, R191) -/

section
variable (s : Block)

theorem setDefects_cal (l : List Word) (store : Bool) : (setDefects l store s).cal = { s.cal with
    defects := l, defectsInForce := if s.running then s.cal.defectsInForce else l,
    defectsStored := if store then l else s.cal.defectsStored, defectStores := if store then s.cal.defectStores + 1 else s.cal.defectStores } := by
  unfold setDefects
  dsimp only
  cases store <;> rfl

theorem setEntry_cal (u : Nat) (e : BitVec 64) : (setEntry u e s).cal = { s.cal with
    held := if s.running && !smHas s.cal.held u then smPut s.cal.held u (s.calEntry u) else s.cal.held,
    entries := smPut s.cal.entries u e, pendBg := smDel s.cal.pendBg u } := by
  unfold setEntry
  dsimp only
  cases hrun : s.running with
  | false => rfl
  | true => cases hheld : smHas s.cal.held u <;> simp

theorem calEntry_of_entries {s t : Block} (h : t.cal.entries = s.cal.entries) (u : Nat) : t.calEntry u = s.calEntry u := by
  rw [Block.calEntry, h, Block.calEntry]

theorem calEntry_setEntry (u : Nat) (e : BitVec 64) : (setEntry u e s).calEntry u = e := by
  rw [Block.calEntry, setEntry_cal]
  exact (smGet_smPut ..).trans (if_pos rfl)

/-! ### What is no entry and no defect -/

/-- The calibration state but for its entries and its defects. -/
def CalState.rest (c : CalState) : CalState :=
  { c with entries := [], held := [], pendBg := [], defects := [], defectsInForce := [], defectsStored := [], defectStores := 0 }

theorem rest_setDefects (l : List Word) (store : Bool) : (setDefects l store s).cal.rest = s.cal.rest := by
  rw [setDefects_cal]
  rfl

theorem rest_addDefect (w : Word) : (addDefect w s).cal.rest = s.cal.rest := rest_setDefects ..

theorem rest_setEntry (u : Nat) (e : BitVec 64) : (setEntry u e s).cal.rest = s.cal.rest := by
  rw [setEntry_cal]
  rfl

/-! ### A unit is retired (R176, R193) -/

/-- The unit's entry as its retirement leaves it: UNIT_BAD set. -/
def entryRetired (u : Nat) (s : Block) : Block := setEntry u (s.calEntry u ||| (0xC000000000000000 : BitVec 64)) s

/-- The unit stands whole on the defect list. -/
def unitListed (u : Nat) (s : Block) : Block :=
  if wholeListed s u then s else addDefect (BitVec.ofNat 32 (u + 3 * 2 ^ 28 + 2 * 2 ^ 30)) s

/-- A retirement that nobody asked for is a decision of POLICY. -/
def retirementDecided (origin : Nat) (s : Block) : Block := if origin = oPolicy 0x303 then s.policy 0x303 else s

theorem retireUnit_eq (u cause origin : Nat) : retireUnit u cause origin s = if (s.calEntry u).getLsbD 63 then s else
    (retirementDecided origin ((unitListed u (entryRetired u s)).raise (3 * clusterOf u + 2))).cairnN origin 0x0302 u 0 cause := rfl

theorem unitListed_entries (u : Nat) : (unitListed u s).cal.entries = s.cal.entries := by
  unfold unitListed
  split
  · rfl
  · rw [addDefect, setDefects_cal]

theorem retirementDecided_cal (origin : Nat) : (retirementDecided origin s).cal = s.cal := by
  unfold retirementDecided
  split <;> rfl

theorem retirement_cal (u cause origin e : Nat) (t : Block) :
    ((retirementDecided origin (t.raise e)).cairnN origin 0x0302 u 0 cause).cal = t.cal := by
  rw [cairnN_cal, retirementDecided_cal, raise_cal]

theorem rest_retireUnit (u cause origin : Nat) : (retireUnit u cause origin s).cal.rest = s.cal.rest := by
  rw [retireUnit_eq]
  split
  · rfl
  · rw [retirement_cal, ← rest_setEntry s u]
    unfold unitListed
    split
    · rfl
    · exact rest_addDefect _ _

/-- R176: a retired unit's entry says UNIT_BAD. -/
theorem retireUnit_bad (u cause origin : Nat) : ((retireUnit u cause origin s).calEntry u).getLsbD 63 = true := by
  rw [retireUnit_eq]
  split
  · assumption
  · have hentry : ∀ e, (s.calEntry u ||| e).getLsbD 63 = ((s.calEntry u).getLsbD 63 || e.getLsbD 63) := fun _ => BitVec.getLsbD_or
    rw [calEntry_of_entries (t := Block.cairnN ..) ((congrArg CalState.entries (retirement_cal ..)).trans (unitListed_entries _ u)),
      entryRetired, calEntry_setEntry, hentry]
    exact Bool.or_true _

theorem evtStatus_retirementDecided (origin e : Nat) : (retirementDecided origin s).evtStatus e = s.evtStatus e :=
  (RegsBut.ite (regsBut_policy s 0x303) (.refl s)).evtStatus (by
    rw [List.mem_singleton, evtStatusA_eq, POL_LAST.addr]
    omega)

/-- R176: the retirement of a unit in service is an event of its cluster. -/
theorem retireUnit_event (u cause origin : Nat) (h : (s.calEntry u).getLsbD 63 = false) :
    (retireUnit u cause origin s).evtStatus (3 * clusterOf u + 2) = true := by
  rw [retireUnit_eq, if_neg (ne_true_of_eq_false h), evtStatus_cairnN, evtStatus_retirementDecided, evtStatus_raise, decide_eq_true rfl,
    Bool.true_or]

end

/-! ### Conversions and line edges (R156, R223, R230) -/

section
variable (s : Block)

theorem markConverted_cal (c p : Nat) (node : Bool) (n : Nat) : (markConverted c p node n s).cal = s.cal := by
  unfold markConverted
  dsimp only
  split
  · split <;> rfl
  · split <;> split <;> rfl

theorem endAction_cal (a : Action) : (endAction a s).cal = s.cal := by
  unfold endAction
  dsimp only
  split
  · split
    · rfl
    · exact markConverted_cal ..
  · split
    · refine foldl_keeps (g := Block.cal) (fun t nd => ?_) _ _
      split <;> exact markConverted_cal ..
    · rfl

theorem unitEnded_cal (a : Action) (u sat : Nat) (tmo : Bool) : (unitEnded a u sat tmo s).cal = s.cal := by
  unfold unitEnded
  dsimp only
  split
  · exact endAction_cal ..
  · rfl

theorem occur_cal (e ch : Nat) (src : Src) (t : Tick) : (occur e ch src t s).cal = s.cal := by
  unfold occur
  dsimp only
  split_ifs <;> rfl

theorem withEdges_cal (f : Block → Block) : (withEdges f s).cal = (f s).cal := by
  unfold withEdges
  refine foldl_keeps (g := Block.cal) (fun t k => ?_) _ _
  dsimp only
  split
  · split
    · exact occur_cal ..
    · rfl
  · rfl

theorem sunEvent_cal (r n : Nat) : (sunEvent r n s).cal = s.cal := by
  unfold sunEvent
  dsimp only
  split
  · rfl
  · exact raise_cal ..

theorem noteTime_pix (r n t : Nat) : (noteTime r n t s).pix = s.pix := by
  unfold noteTime
  dsimp only
  split <;> rfl

end

/-! ### Frame flags (R364, R376) -/

section
variable (s : Block) (n : Nat)

theorem flagEffects_fExcess : s.flagEffects fExcess = (s.setFlag REC_STAT.EXCESS true).raise 797 := by
  simp [Block.flagEffects, fExcess, fIncomplete, fDamaged, fNoSlot, fOverflow]

theorem regsBut_excess : RegsBut [REC_STAT.addr, evtStatusA 797] s ((s.setFlag REC_STAT.EXCESS true).raise 797) :=
  (regsBut_setFlag s REC_STAT.EXCESS true).append (regsBut_raise _ 797)

theorem mark_fExcess_fields : (s.mark n fExcess).cal = s.cal ∧ (s.mark n fExcess).rcd = s.rcd ∧
    RegsBut [REC_STAT.addr, evtStatusA 797] s (s.mark n fExcess) := by
  unfold Block.mark
  split
  · split
    · exact ⟨rfl, rfl, .refl s⟩
    · rw [flagEffects_fExcess, raise_cal, raise_rcd]
      exact ⟨rfl, rfl, fun a ha => regsBut_excess _ a ha⟩
  · exact ⟨rfl, rfl, .refl s⟩

end

/-! ### Metadata extents and the ratio epoch (R185, R503) -/

section
variable (s : Block)

theorem magPump_cal (fuel m : Nat) : (magPump fuel m s).cal = s.cal := by
  induction fuel generalizing s with
  | zero => rfl
  | succ fuel ih =>
    unfold magPump
    dsimp only
    split
    · rfl
    · split
      · rfl
      · rw [ih]
        split <;> rfl

theorem writeMeta_cal (m kind : Nat) (body : List Byte) : (writeMeta m kind body s).cal = s.cal := by
  unfold writeMeta
  split
  · rfl
  · split
    · rfl
    · exact magPump_cal ..

theorem takeMeta_cal (kind : Nat) (body : List Byte) : (takeMeta kind body s).cal = s.cal := by
  unfold takeMeta
  split
  · split
    · rfl
    · exact foldl_keeps (g := Block.cal) (fun t m => writeMeta_cal t m kind body) _ _
  · rfl

theorem commitEpoch_cal (origin : Nat) : (commitEpoch origin s).cal = { s.cal with
    epoch := s.cal.entries.foldl (fun m e => smPut m e.1 (ratioOf e.2)) s.cal.epoch, lastCommit := s.now, passDone := false } := by
  unfold commitEpoch
  dsimp only
  rw [takeMeta_cal, cairnN_cal, setFld_cal]

end

end Sys2Proof.Machine
end

section
/-! The commands of calibration, self-test and defects (R196, R203, R624, R630). -/

namespace Sys2Proof.Machine

/-! ### Runs whose end is answered later (R196, R624, R630) -/

section
variable (s : Block) (q : Req) (op st : Nat) (res : List Byte) (w : WaitOn) (f : RF)

@[simp] theorem flag_replyLater : (s.replyLater q op st res w).flag f = s.flag f := rfl

@[simp] theorem fld_replyLater : (s.replyLater q op st res w).fld f = s.fld f := rfl

end

section
variable {q : Req} {s : State}

/-- Capture is stopped, and a full calibration asked by `origin` is under way. -/
def calibrating (origin : Nat) (s : Block) : Block :=
  { ((stopCapture s).setFlag CNV_STAT.FULL_RUNNING true) with
    cal := { (stopCapture s).cal with full := some ⟨s.now, s.running, origin⟩ } }

theorem calFull_executes (h : AtOnce 2 16 q s.blk) (hq : q.params = []) (htake : s.blk.takeOpen = false) (hclose : s.blk.rsv.closeOut = none)
    (hfull : s.blk.flag CNV_STAT.FULL_RUNNING = false) (hbands : allNominal s.blk = true) :
    Executes (.calFull q) q (fun b => (calibrating (originOf q.carrier) b).replyLater q 0x0301 stOk [] .fullCal) s := by
  have hshape : (shape q 0 []).1 = false := shape_of_length (by rw [hq]; rfl)
  have hbands' : allNominal (touchMaintain q.carrier s.blk) = true := hbands
  refine executes_congr (executes_of rfl h ?_) ?_
  · simp [hshape, htake, hclose, hfull]
  · simp [htake, hbands', calibrating]

theorem calibrating_fields (origin : Nat) (b : Block) : (calibrating origin b).flag CNV_STAT.FULL_RUNNING = true ∧
    (calibrating origin b).cal.full = some ⟨b.now, b.running, origin⟩ := by
  refine ⟨?_, rfl⟩
  rw [calibrating, flag_mk, flag_setFlag_same _ _ _ (by decide)]

/-- The self-test that request `q` asks for has begun. -/
def testing (q : Req) (s : Block) : Block :=
  let again := decide (pByte q 0 = 1) && s.running
  let t := (((if again then stopCapture s else s).setFlag ST_STAT.RUNNING true).setFld ST_STAT.SCOPE (pByte q 0)).cairnN
    (originOf q.carrier) 0x0F01 ST_STAT.addr 0 (pByte q 0 * 256 + pNat q 4 4)
  { t with flt := { t.flt with stItems := scopeItems (pByte q 0) (pNat q 4 4), stCut := false, stStart := t.now, stRestart := again,
                               stOrigin := originOf q.carrier } }

theorem stRun_executes (h : AtOnce 2 12 q s.blk) (hq : Shaped q 8 [1, 2, 3]) (h1 : pByte q 0 ≤ 1) (h255 : pNat q 4 4 ≤ 255)
    (htake : s.blk.takeOpen = false) (hclose : s.blk.rsv.closeOut = none) (hfull : s.blk.flag CNV_STAT.FULL_RUNNING = false)
    (hidle : s.blk.flag ST_STAT.RUNNING = false) :
    Executes (.stRun q) q (fun b => (testing q b).replyLater q 0x0F00 stOk [] .selfTest) s := by
  have hshape := shape_of_shaped hq
  refine executes_congr (executes_of rfl h ?_) ?_
  · simp [hshape, bad, h1, h255, htake, hclose, hfull, hidle]
  · simp [htake, testing]

theorem testing_flt (b : Block) : (testing q b).flt.stItems = scopeItems (pByte q 0) (pNat q 4 4) ∧ (testing q b).flt.stCut = false := by
  unfold testing
  exact ⟨rfl, rfl⟩

theorem testing_stStat (hscope : pByte q 0 ≤ 1) (b : Block) :
    (testing q b).flag ST_STAT.RUNNING = true ∧ (testing q b).fld ST_STAT.SCOPE = pByte q 0 := by
  refine ⟨?_, ?_⟩
  · rw [testing, flag_mk, (regsBut_cairnN _ _ _ _ _ _).flag (by decide), flag_setFld_apart _ _ _ _ (by decide),
      flag_setFlag_same _ _ _ (by decide)]
  · rw [testing, fld_mk, (regsBut_cairnN _ _ _ _ _ _).fld (by decide), fld_setFld _ _ _ (by decide)]
    exact Nat.mod_eq_of_lt (lt_of_le_of_lt hscope (by decide))

end

/-! ### Entries (R203) -/

section
variable {q : Req} {s : State}

/-- The NVM word of entry `u` waits its turn; written, it changes the working copy. -/
def entryQueued (q : Req) (u : Nat) (s : Block) : Block :=
  s.nvmWord { calWord s u (BitVec.ofNat 64 (pNat q 4 8)) with owner := .cal u (BitVec.ofNat 64 (pNat q 4 8)) (originOf q.carrier) }

theorem calWriteEntry_executes {u : Nat} (hu : u = pNat q 0 4) (h : AtOnce 3 12 q s.blk) (hq : q.params.length = 12) (hlt : u < unitCount)
    (htake : s.blk.takeOpen = false) :
    Executes (.calWriteEntry q) q
      (fun b => (entryQueued q u b).replyLater q 0x0303 (if wantsComplete q || !b.running then stOk else stDeferred) [] .nvm) s := by
  subst hu
  have hshape := shape_of_length hq
  refine executes_congr (executes_of rfl h ?_) ?_
  · simp [hshape, bad, htake, hlt]
  · simp [htake, entryQueued]

end

/-! ### The defect list (R191, R203) -/

theorem setDefects_log (l : List Word) (store : Bool) (s : Block) : (setDefects l store s).log = s.log := by
  unfold setDefects
  dsimp only
  split <;> rfl

section
variable (op : Nat) (q : Req) (deferred : Bool) (pre : List Byte) (s : Block)

@[simp] theorem replyDeferred_cal : (replyDeferred op q deferred pre s).cal = s.cal := by
  unfold replyDeferred
  split
  · split
    · exact replyLater_cal ..
    · exact reply_cal ..
  · exact reply_cal ..

@[simp] theorem replyDeferred_log : (replyDeferred op q deferred pre s).log = s.log := by
  unfold replyDeferred
  split
  · split
    · exact replyLater_log ..
    · exact reply_log ..
  · exact reply_log ..

end

/-- The defect list becomes `l`, and this is logged. -/
def defectsLogged (l : List Word) (store : Bool) (origin kind target : Nat) (old new : Word) (s : Block) : Block :=
  (setDefects l store s).cairn origin kind target old new

/-- What a logged change of the list leaves, behind its reply. -/
theorem defectsLogged_fields {l : List Word} {store : Bool} {origin kind target : Nat} {old new : Word} {s t : Block}
    (hcal : t.cal = (defectsLogged l store origin kind target old new s).cal)
    (hlog : t.log = (defectsLogged l store origin kind target old new s).log) (hroom : s.log.queue.length < 4096) :
    t.cal.defects = l ∧ Logged origin kind target old new t ∧
      (s.running = true → t.cal.defectsInForce = s.cal.defectsInForce) := by
  rw [defectsLogged, cairn_cal, setDefects_cal] at hcal
  rw [defectsLogged] at hlog
  refine ⟨?_, (logged_congr hlog).mpr (logged_cairn _ _ _ _ _ _ (by rwa [setDefects_log])), fun hrun => ?_⟩
  · rw [hcal]
  · rw [hcal]
    exact if_pos hrun

section
variable {q : Req} {s : State} {w : Word} (hw : w = BitVec.ofNat 32 (pNat q 0 4)) (hq : q.params.length = 4) (hok : defectBad w = false)
include hw hq hok

theorem defectAdd_answers (h : AtOnce 2 12 q s.blk) (hstored : wfield w 30 2 = 3) (hcov : defectCovered s.blk w = true) :
    Answers (.defectAdd q) q 0x0305 (fun b => stampFrame b 0xFFFFFFFF) s := by
  subst hw
  have hshape := shape_of_length hq
  exact executes_congr (executes_of rfl h (by simp [hshape, bad, hok, hstored])) (if_pos hcov)

theorem defectAdd_executes (h : AtOnce 2 12 q s.blk) (hstored : wfield w 30 2 = 3) (hcov : defectCovered s.blk w = false) :
    Executes (.defectAdd q) q (fun b => replyDeferred 0x0305 q b.running []
      (defectsLogged (defectInsert w b.cal.defects) (decide (b.cal.defects.length < 131056)) (originOf q.carrier) 0x0303 (dUnit w) 0 w b)) s := by
  subst hw
  have hshape := shape_of_length hq
  exact executes_congr (executes_of rfl h (by simp [hshape, bad, hok, hstored])) (if_neg (ne_true_of_eq_false hcov))

theorem defectRemove_executes (h : AtOnce 3 12 q s.blk) (hin : s.blk.cal.defects.contains w = true) :
    Executes (.defectRemove q) q (fun b => replyDeferred 0x0306 q b.running []
      (defectsLogged (b.cal.defects.erase w) true (originOf q.carrier) 0x0304 (dUnit w) w 0 b)) s := by
  subst hw
  have hshape := shape_of_length hq
  have hin' : (touchMaintain q.carrier s.blk).cal.defects.contains (BitVec.ofNat 32 (pNat q 0 4)) = true := hin
  exact executes_of rfl h (by simp only [List.forall_mem_cons, hshape, bad, hok, hin']; simp)

end

/-- Settles O23: each request passes its checks, and its body is the named update, whose fields are read off. -/
theorem calibrationCommands : Obligations.CalibrationCommands := by
  unfold Obligations.CalibrationCommands
  refine ⟨fun q s htake hclose hfull => ⟨?full, ?test⟩, fun q s w hw => ⟨?entry, fun h hq hok hstored => ⟨?covered, ?add⟩, ?remove⟩⟩
  case full =>
    intro h hq hbands
    obtain ⟨hrun, hstart⟩ := calibrating_fields (originOf q.carrier) (touchMaintain q.carrier s.blk)
    exact completes_of_executes (calFull_executes h hq htake hclose hfull hbands)
      ⟨held_replyLater _ _ _ _ _ _, (flag_replyLater ..).trans hrun, hstart⟩
  case test =>
    intro h hq h1 h255 hidle
    obtain ⟨hrun, hscope⟩ := testing_stStat h1 (touchMaintain q.carrier s.blk)
    obtain ⟨hitems, hcut⟩ := testing_flt (q := q) (touchMaintain q.carrier s.blk)
    exact completes_of_executes (stRun_executes h hq h1 h255 htake hclose hfull hidle)
      ⟨held_replyLater _ _ _ _ _ _, (flag_replyLater ..).trans hrun, (fld_replyLater ..).trans hscope, hitems, hcut⟩
  case entry =>
    intro u hu h hq hlt htake
    exact completes_of_executes (calWriteEntry_executes hu h hq hlt htake) ⟨held_replyLater _ _ _ _ _ _, rfl, _, rfl, rfl, rfl⟩
  case covered => exact defectAdd_answers hw hq hok h hstored
  case add =>
    intro hcov hroom
    exact completes_of_executes (defectAdd_executes hw hq hok h hstored hcov)
      (defectsLogged_fields (s := touchMaintain q.carrier s.blk) (replyDeferred_cal ..) (replyDeferred_log ..) hroom)
  case remove =>
    intro h hq hok hin hroom
    exact completes_of_executes (defectRemove_executes hw hq hok h hin)
      (defectsLogged_fields (s := touchMaintain q.carrier s.blk) (replyDeferred_cal ..) (replyDeferred_log ..) hroom)

end Sys2Proof.Machine
end

section
/-! What the unit converters and their calibration do of themselves (R176, R185, R186, R190, R193, R196, R364). -/

namespace Sys2Proof.Machine

/-! ### Conversions that end (R173, R176) -/

/-- The words of a unit that is stopped: those converted, then the no-conversion marker (R174, R176). -/
def stoppedWords (f : FrameRec) (mode tu : Nat) (px : List Sample) : List (Nat × Bool) :=
  let done := (px.take 63).map (pixelWord f mode tu)
  done ++ List.replicate (64 - done.length) (noConv, false)

/-- Unit `u` is stopped and its words `l` are handed on; `sun` when sun protection acted on one of them (R169, R176). -/
def unitStopped (f : FrameRec) (a : Action) (u : Nat) (l : List (Nat × Bool)) (sun : Bool) (s : Block) : Block :=
  let t := withEdges (unitEnded a u (l.filter (fun w => w.2)).length true)
    { bufferUnit f a u l s with cal := { s.cal with stoppedUnits := u :: s.cal.stoppedUnits } }
  if sun then sunEvent (regionOf a.cluster) f.num t else t

theorem unitStopped_cal (f : FrameRec) (a : Action) (u : Nat) (l : List (Nat × Bool)) (sun : Bool) (s : Block) :
    (unitStopped f a u l sun s).cal = { s.cal with stoppedUnits := u :: s.cal.stoppedUnits } := by
  unfold unitStopped
  dsimp only
  split
  · rw [sunEvent_cal, withEdges_cal, unitEnded_cal]
  · rw [withEdges_cal, unitEnded_cal]

section
variable {s : State} {u : BitVec 22} {nodeB : Bool} {px : List Sample} (hu : u.toNat < 2462720)
include hu

theorem unitTimeout_stays (hconv : convOf s.blk u.toNat nodeB = none) : Becomes (.unitTimeout u nodeB px) s s.blk := by
  show execUnitTimeout u nodeB px s = _
  refine onBlock_next ?_
  rw [if_neg (not_le.mpr hu), hconv]

variable {a : Action} {f : FrameRec} (hconv : convOf s.blk u.toNat nodeB = some a) (hf : s.blk.frame? a.frame = some f)
include hconv hf

theorem unitTimeout_becomes : Becomes (.unitTimeout u nodeB px) s (retireUnit u.toNat 1 (oPolicy 0x303)
    (unitStopped f a u.toNat (stoppedWords f (a.mode f) (threshold f (calFor s.blk f u.toNat)) px) ((px.take 63).any (sunActs f)) s.blk)) := by
  show execUnitTimeout u nodeB px s = _
  refine onBlock_next ?_
  rw [if_neg (not_le.mpr hu), hconv]
  dsimp only
  rw [hf]
  rfl

theorem unitTimeout_completes : Completes (.unitTimeout u nodeB px) s (fun t => u.toNat ∈ t.cal.stoppedUnits ∧
    (t.calEntry u.toNat).getLsbD 63 = true ∧
    ((s.blk.calEntry u.toNat).getLsbD 63 = false → t.evtStatus (3 * clusterOf u.toNat + 2) = true)) := by
  refine completes_of_becomes (unitTimeout_becomes hu hconv hf) ?_
  generalize htold : unitStopped f a u.toNat _ _ s.blk = t
  have hcal : t.cal = { s.blk.cal with stoppedUnits := u.toNat :: s.blk.cal.stoppedUnits } := htold ▸ unitStopped_cal ..
  have hstopped : (retireUnit u.toNat 1 (oPolicy 0x303) t).cal.stoppedUnits = u.toNat :: s.blk.cal.stoppedUnits :=
    (congrArg CalState.stoppedUnits (rest_retireUnit t _ _ _)).trans (congrArg CalState.stoppedUnits hcal)
  refine ⟨hstopped ▸ List.mem_cons_self, retireUnit_bad .., fun hgood => retireUnit_event _ _ _ _ ?_⟩
  rwa [calEntry_of_entries (s := s.blk) (by rw [hcal])]

theorem nodeConversionDone_becomes {ns : BitVec 18} (hlen : px.length = 64) (htest : a.test = false) (hsun : ∀ x ∈ px, sunActs f x = false)
    {l : List (Nat × Bool)} (hl : l = px.map (pixelWord f (a.mode f) (threshold f (calFor s.blk f u.toNat)))) :
    Becomes (.nodeConversionDone u nodeB ns px) s (withEdges (unitEnded a u.toNat (l.filter (fun w => w.2)).length false)
      (noteTime (regionOf a.cluster) f.num ((ns.toNat + 9) / 10) (bufferUnit f a u.toNat l s.blk))) := by
  subst hl
  have hnosun : px.any (sunActs f) = false := List.any_eq_false.mpr fun x hx => by rw [hsun x hx]; exact Bool.false_ne_true
  show execNodeConversionDone u nodeB ns px s = _
  refine onBlock_next ?_
  rw [if_neg (not_le.mpr hu), hconv]
  dsimp only
  rw [hf]
  dsimp only
  rw [if_neg (not_not_intro hlen), hnosun, htest]
  rfl

end

/-! ### Background calibration (R190, R193, R364) -/

section
variable {s : State}

theorem calVisitDone_becomes {c pair : BitVec 7} {meas : List (BitVec 22 × BitVec 64)} {a : Action}
    (ha : actionOn s.blk c.toNat pair.toNat = some a) (h1 : a.action = 1) {v : Block}
    (hv : v = visitCounted (regionOf c.toNat) (c.toNat * 128 + pair.toNat) a.ofs
      (((meas.map (fun m => (m.1.toNat, m.2))).filter (fun m => a.units.contains m.1)).foldl (visitUnit a.ofs)
        (withEdges (endAction a) s.blk))) :
    Becomes (.calVisitDone c pair meas) s (if v.running then v else epochAtFcp v) := by
  subst hv
  show execCalVisitDone c pair meas s = _
  refine onBlock_next ?_
  rw [ha]
  exact if_pos h1

theorem calVisitDone_stays {c pair : BitVec 7} {meas : List (BitVec 22 × BitVec 64)} (ha : actionOn s.blk c.toNat pair.toNat = none) :
    Becomes (.calVisitDone c pair meas) s s.blk := by
  show execCalVisitDone c pair meas s = _
  refine onBlock_next ?_
  rw [ha]

theorem bgcalPassLate_becomes {r : BitVec 3} (hen : s.blk.flag CNV_CFG.BGCAL_EN = true)
    (hlate : 4 * s.blk.fld CNV_BGCAL.INTERVAL * msT ≤ s.blk.sinceT (smGet 0 s.blk.cal.passStart r.toNat)) :
    Becomes (.bgcalPassLate r) s ((s.blk.setFlag CNV_STAT.PASS_LATE true).raise (419 + 16 * r.toNat)) := by
  show execBgcalPassLate r s = _
  exact onBlock_next (if_pos (by rw [hen, decide_eq_true hlate]; rfl))

theorem bgcalPassLate_completes {r : BitVec 3} (hen : s.blk.flag CNV_CFG.BGCAL_EN = true)
    (hlate : 4 * s.blk.fld CNV_BGCAL.INTERVAL * msT ≤ s.blk.sinceT (smGet 0 s.blk.cal.passStart r.toNat)) :
    Completes (.bgcalPassLate r) s (fun t => t.flag CNV_STAT.PASS_LATE = true ∧ t.evtStatus (419 + 16 * r.toNat) = true ∧
      t.cal = s.blk.cal) := by
  refine completes_of_becomes (bgcalPassLate_becomes hen hlate) ⟨?_, ?_, ?_⟩
  · rw [flag_raise _ _ _ (by decide), flag_setFlag_same _ _ _ (by decide)]
  · rw [evtStatus_raise, decide_eq_true rfl, Bool.true_or]
  · rw [raise_cal, setFlag_cal]

theorem bgcalPassLate_stays {r : BitVec 3} (hen : s.blk.flag CNV_CFG.BGCAL_EN = false) : Becomes (.bgcalPassLate r) s s.blk := by
  show execBgcalPassLate r s = _
  exact onBlock_next (if_neg (by rw [hen]; exact Bool.false_ne_true))

/-- The working copy is the table stored, with the epoch in force (R190). -/
def tableWritten (s : Block) : Block :=
  { s with cal := { s.cal with stored := s.cal.entries, writtenEpoch := s.fld CNV_STAT.EPOCH } }

/-- How many blocks of the table have entries that changed since it was stored. -/
def blocksChanged (s : Block) : Nat :=
  ((s.cal.entries.filter (fun e => !s.cal.stored.any (fun o => decide (o = e)))).map (fun e => e.1 / 4096)).eraseDups.length

theorem calWriteback_becomes (hcore : s.blk.pwr.coreDown = false) (hclose : s.blk.rsv.closeOut = none) :
    Becomes .calWriteback s ((tableWritten s.blk).policyCairn 0x304 0x0306 0 0 (blocksChanged s.blk)) := by
  show execCalWriteback s = _
  refine onBlock_next ?_
  rw [hcore, hclose]
  rfl

theorem calWriteback_completes (hcore : s.blk.pwr.coreDown = false) (hclose : s.blk.rsv.closeOut = none) :
    Completes .calWriteback s (fun t => t.cal.stored = s.blk.cal.entries ∧ t.cal.entries = s.blk.cal.entries ∧
      t.cal.writtenEpoch = s.blk.fld CNV_STAT.EPOCH) := by
  refine completes_of_becomes (calWriteback_becomes hcore hclose) ?_
  rw [policyCairn_cal]
  exact ⟨rfl, rfl, rfl⟩

theorem calWriteback_stays (h : s.blk.pwr.coreDown = true ∨ s.blk.rsv.closeOut.isSome = true) : Becomes .calWriteback s s.blk := by
  show execCalWriteback s = _
  refine onBlock_next ?_
  split
  · rfl
  · exact if_pos (h.resolve_left ‹_›)

section
variable {r : BitVec 3} {hdr : BitVec 64} {c pair : BitVec 7} {meas : List (BitVec 22 × BitVec 64)}

theorem calPacketRx_stays (hnone : ∀ n, (r.toNat, n) ∉ s.blk.rcd.openFrame) : Becomes (.calPacketRx r hdr c pair meas) s s.blk := by
  have hfind : s.blk.rcd.openFrame.find? (fun e => decide (e.1 = r.toNat)) = none :=
    List.find?_eq_none.mpr fun e he heq => hnone e.2 (of_decide_eq_true heq ▸ he)
  show execCalPacketRx r hdr c pair meas s = _
  refine onBlock_next ?_
  rw [hfind]

theorem calPacketRx_completes {n : Nat} (hopen : s.blk.rcd.openFrame.find? (fun e => decide (e.1 = r.toNat)) = some (r.toNat, n)) :
    Completes (.calPacketRx r hdr c pair meas) s (fun t => t.cal = s.blk.cal ∧ t.rcd.ingest = s.blk.rcd.ingest ∧
      t.fld (ING_STAT.EXCESS r.toNat) = (s.blk.fld (ING_STAT.EXCESS r.toNat) + 1) % 256) := by
  have hrow : Becomes (.calPacketRx r hdr c pair meas) s ((s.blk.incFld (ING_STAT.EXCESS r.toNat) 1).mark n fExcess) := by
    show execCalPacketRx r hdr c pair meas s = _
    refine onBlock_next ?_
    rw [hopen]
    rfl
  obtain ⟨hcal, hrcd, hregs⟩ := mark_fExcess_fields (s.blk.incFld (ING_STAT.EXCESS r.toNat) 1) n
  have haddr : (ING_STAT.EXCESS r.toNat).addr ∉ [REC_STAT.addr, evtStatusA 797] := by
    have hr : r.toNat < 8 := r.isLt
    simp only [List.mem_cons, List.not_mem_nil, or_false, evtStatusA_eq, ING_STAT.EXCESS, ING_STAT.addr, REC_STAT.addr]
    omega
  refine completes_of_becomes hrow ⟨hcal, congrArg RecState.ingest hrcd, ?_⟩
  rw [hregs.fld haddr, Block.incFld]
  exact fld_setFld _ _ _ (Nat.le_of_ble_eq_true rfl)

end
end

/-! ### The end of a full calibration (R195 to R197) -/

/-- No full calibration is under way, and every region says so. -/
def calEnded (s : Block) : Block :=
  (List.range 8).foldl (fun u r => u.raise (420 + 16 * r))
    { (s.setFlag CNV_STAT.FULL_RUNNING false) with cal := { s.cal with full := none } }

/-- The request that started the run is answered. -/
def calAnswered (f : Reply → Reply) (s : Block) : Block := (calEnded s).release (fun w => decide (w = .fullCal)) f

section
variable (f : Reply → Reply) (s : Block)

theorem calAnswered_cal : (calAnswered f s).cal = { s.cal with full := none } := by
  rw [calAnswered, release_keeps (g := Block.cal) (fun _ _ => rfl) deliver_cal, calEnded,
    foldl_keeps (g := Block.cal) (fun t r => raise_cal t _)]

theorem calAnswered_regs : (calAnswered f s).regs = (calEnded s).regs :=
  release_keeps (g := Block.regs) (fun _ _ => rfl) deliver_regs _ _ _

/-- Of the register words below the events' the end of a run changes CNV_STAT alone. -/
theorem fld_calAnswered {g : RF} (hg : g.addr < 0x2800000) : (calAnswered f s).fld g = (s.setFlag CNV_STAT.FULL_RUNNING false).fld g := by
  rw [fld_congr _ _ g (reg_of_regs (calAnswered_regs f s) _), calEnded,
    foldl_keeps (g := fun t => Block.fld t g) (fun t r => fld_raise t _ g hg), fld_mk]

theorem calAnswered_cnvStat : (calAnswered f s).flag CNV_STAT.FULL_RUNNING = false ∧
    (calAnswered f s).fld CNV_STAT.EPOCH = s.fld CNV_STAT.EPOCH := by
  refine ⟨?_, ?_⟩
  · rw [Block.flag, fld_calAnswered _ _ (by decide)]
    exact flag_setFlag_same s _ _ (by decide)
  · rw [fld_calAnswered _ _ (by decide), fld_setFlag_apart _ _ _ _ (by decide)]

theorem calAnswered_event {r : Nat} (hr : r < 8) : (calAnswered f s).evtStatus (420 + 16 * r) = true := by
  rw [evtStatus_congr _ _ _ (reg_of_regs (calAnswered_regs f s) _), calEnded]
  refine foldl_reaches (P := fun t => t.evtStatus (420 + 16 * r) = true) (fun t x ht => ?_) (List.mem_range.mpr hr) (fun t => ?_) _
  · rw [evtStatus_raise, ht, Bool.or_true]
  · rw [evtStatus_raise, decide_eq_true rfl, Bool.true_or]

end

/-- The defects found that the list does not hold. -/
def defectsFresh (l : List Word) (s : Block) : List Word :=
  l.filter (fun d => !s.cal.defects.any (fun x => decide (dUnit x = dUnit d) && decide (dPix x = dPix d)))

/-- The defects found join the list. -/
def defectsJoined (l : List Word) (s : Block) : Block := (defectsFresh l s).foldl (fun t d => addDefect (wsetField d 30 2 1) t) s

/-- The table's header is that of the run now ended. -/
def tableRecorded (temp : BitVec 16) (s : Block) : Block :=
  { (s.setFlag CNV_STAT.TABLE_DEGRADED false) with cal := { s.cal with
    fullCount := (s.cal.fullCount + 1) % 2 ^ 32, fullStamp := s.now, fullTemp := temp.toInt, badBlocks := [], badStreak := [], pendBg := [] } }

/-- The table's epoch is committed and written, and the run logged against the count before it. -/
def epochRecorded (origin count : Nat) (s : Block) : Block :=
  let t := commitEpoch origin s
  let u : Block := { t with cal := { t.cal with writtenEpoch := t.fld CNV_STAT.EPOCH } }
  u.cairnN origin 0x0305 0x20C count u.cal.fullCount

/-- A run's table, defects and header are stored and its epoch committed. -/
def fullCalStored (origin : Nat) (entries : List (BitVec 22 × BitVec 64)) (defects : List Word) (temp : BitVec 16) (s : Block) : Block :=
  epochRecorded origin s.cal.fullCount (tableRecorded temp (defectsJoined defects (entries.foldl (fullEntry origin) s)))

theorem fullCount_of_rest {s t : Block} (h : t.cal.rest = s.cal.rest) : t.cal.fullCount = s.cal.fullCount := by
  show t.cal.rest.fullCount = s.cal.rest.fullCount
  rw [h]

section
variable (s : Block)

theorem fullEntry_fullCount (origin : Nat) (e : BitVec 22 × BitVec 64) : (fullEntry origin s e).cal.fullCount = s.cal.fullCount := by
  unfold fullEntry
  dsimp only
  split
  · exact fullCount_of_rest (t := retireUnit _ _ _ s) (rest_retireUnit ..)
  · split
    · split
      · rfl
      · exact (fullCount_of_rest (rest_setDefects ..)).trans rfl
    · rfl

theorem defectsJoined_fullCount (l : List Word) : (defectsJoined l s).cal.fullCount = s.cal.fullCount :=
  foldl_keeps (g := fun t => t.cal.fullCount) (fun t _ => fullCount_of_rest (rest_addDefect t _)) _ _

theorem epochRecorded_fields (origin count : Nat) : (epochRecorded origin count s).cal.fullCount = s.cal.fullCount ∧
    (epochRecorded origin count s).cal.fullTemp = s.cal.fullTemp ∧ (epochRecorded origin count s).cal.badBlocks = s.cal.badBlocks := by
  rw [epochRecorded, cairnN_cal, commitEpoch_cal]
  exact ⟨rfl, rfl, rfl⟩

theorem fullCalStored_fields (origin : Nat) (entries : List (BitVec 22 × BitVec 64)) (defects : List Word) (temp : BitVec 16) :
    (fullCalStored origin entries defects temp s).cal.fullCount = (s.cal.fullCount + 1) % 2 ^ 32 ∧
      (fullCalStored origin entries defects temp s).cal.fullTemp = temp.toInt ∧
      (fullCalStored origin entries defects temp s).cal.badBlocks = [] := by
  have hcount : (defectsJoined defects (entries.foldl (fullEntry origin) s)).cal.fullCount = s.cal.fullCount := by
    rw [defectsJoined_fullCount, foldl_keeps (g := fun t => t.cal.fullCount) (fun t e => fullEntry_fullCount t origin e)]
  obtain ⟨hfull, htemp, hbad⟩ := epochRecorded_fields (tableRecorded temp (defectsJoined defects (entries.foldl (fullEntry origin) s)))
    origin s.cal.fullCount
  refine ⟨hfull.trans ?_, htemp, hbad⟩
  rw [← hcount]
  rfl

end

/-- The reply of a run that was dark-limited (R197, R203). -/
def darkReply (run : FullCal) (s : Block) (r : Reply) : Reply :=
  { r with status := stFault, result := calResult 1 0 0 (s.sinceT run.start / msT) }

/-- The result of a run that stored its table: the units that newly fail, the defects that joined the list, and whether it is full (R203). -/
def storedResult (run : FullCal) (entries : List (BitVec 22 × BitVec 64)) (defects : List Word) (temp : BitVec 16) (s : Block) : List Byte :=
  let full := decide (131056 ≤ (fullCalStored run.origin entries defects temp s).cal.defects.length)
  let failed := entries.filter (fun e => e.2.getLsbD 63 && !(s.calEntry e.1.toNat).getLsbD 63)
  calResult (if full then 3 else 0) failed.length (defectsFresh defects (entries.foldl (fullEntry run.origin) s)).length
    (s.sinceT run.start / msT)

section
variable {s : State} {entries : List (BitVec 22 × BitVec 64)} {defects : List Word} {temp : BitVec 16}

theorem fullCalDone_stays {nd : Bool} (hnone : s.blk.cal.full = none) : Becomes (.fullCalDone nd entries defects temp) s s.blk := by
  show execFullCalDone nd entries defects temp s = _
  refine onBlock_next ?_
  rw [hnone]

variable {run : FullCal} (hrun : s.blk.cal.full = some run)
include hrun

theorem fullCalDone_darkLimited :
    Becomes (.fullCalDone true entries defects temp) s (calAnswered (darkReply run s.blk) s.blk) := by
  show execFullCalDone true entries defects temp s = _
  refine onBlock_next ?_
  rw [hrun]
  rfl

theorem fullCalDone_stores (hin : ∀ e ∈ entries, e.1.toNat < unitCount) {v : Block}
    (hv : v = calAnswered (fun r => { r with result := storedResult run entries defects temp s.blk })
      (fullCalStored run.origin entries defects temp s.blk)) :
    Becomes (.fullCalDone false entries defects temp) s
      (if run.restart && !v.running then startCaptureIn run.origin 88000000 false v else v) := by
  subst hv
  have hunits : entries.any (fun e => decide (unitCount ≤ e.1.toNat)) = false :=
    List.any_eq_false.mpr fun e he => by simpa using hin e he
  show execFullCalDone false entries defects temp s = _
  refine onBlock_next ?_
  rw [hrun]
  exact (if_neg Bool.false_ne_true).trans (if_neg (ne_true_of_eq_false hunits))

end

/-- Settles O38: each row is the branch its premises select; a retirement and the end of a full calibration are told by their named parts,
whose fields are read off. -/
theorem unitCalibrationEvents : Obligations.UnitCalibrationEvents := by
  unfold Obligations.UnitCalibrationEvents
  intro s
  refine ⟨fun u nodeB px a f hu hconv hf => unitTimeout_completes hu hconv hf, fun u nodeB px => unitTimeout_stays, ?node,
    fun c pair meas a ha h1 => ⟨_, rfl, calVisitDone_becomes ha h1 rfl⟩, fun c pair meas => calVisitDone_stays,
    fun r => bgcalPassLate_completes, fun r => bgcalPassLate_stays, calWriteback_completes, calWriteback_stays,
    fun r hdr c pair meas => ⟨calPacketRx_stays, fun n => calPacketRx_completes⟩, fun run nd entries defects temp hrun => ⟨?dark, ?stored⟩,
    fun nd entries defects temp => fullCalDone_stays⟩
  case node =>
    intro u nodeB ns px a f hu hconv hf hlen htest hsun
    exact ⟨_, _, rfl, rfl, congrArg PixState.bufs (noteTime_pix ..), nodeConversionDone_becomes hu hconv hf hlen htest hsun rfl⟩
  case dark =>
    rintro rfl
    have hcal := calAnswered_cal (darkReply run s.blk) s.blk
    obtain ⟨hflag, hepoch⟩ := calAnswered_cnvStat (darkReply run s.blk) s.blk
    refine completes_of_becomes (fullCalDone_darkLimited hrun) ⟨?_, ?_, hflag, hepoch, fun r hr => calAnswered_event _ _ hr⟩ <;> rw [hcal]
  case stored =>
    rintro rfl hin
    obtain ⟨hcount, htemp, hbad⟩ := fullCalStored_fields s.blk run.origin entries defects temp
    have hcal := calAnswered_cal (fun r => { r with result := storedResult run entries defects temp s.blk })
      (fullCalStored run.origin entries defects temp s.blk)
    refine ⟨_, ?_, ?_, ?_, ?_, (calAnswered_cnvStat _ _).1, fun r hr => calAnswered_event _ _ hr, fullCalDone_stores hrun hin rfl⟩
    · rw [hcal]
    · rw [hcal, hcount]
    · rw [hcal, htemp]
    · rw [hcal, hbad]

end Sys2Proof.Machine
end

section
/-! The exposure tables that the settings build (R259 to R262): entries laid end to end, and the slices of TERRACED_INT. -/

namespace Sys2Proof.Machine

/-! ### Entries laid end to end -/

/-- The total width of entries given by width and node. -/
def totalWidth (l : List (Nat × Bool)) : Nat := (l.map Prod.fst).sum

@[simp] theorem totalWidth_nil : totalWidth [] = 0 := rfl

@[simp] theorem totalWidth_cons (p : Nat × Bool) (l : List (Nat × Bool)) : totalWidth (p :: l) = p.1 + totalWidth l := by
  simp [totalWidth]

@[simp] theorem totalWidth_append (l l' : List (Nat × Bool)) : totalWidth (l ++ l') = totalWidth l + totalWidth l' := by
  simp [totalWidth]

theorem totalWidth_take_succ {l : List (Nat × Bool)} {k : Nat} {p : Nat × Bool} (h : l[k]? = some p) :
    totalWidth (l.take (k + 1)) = totalWidth (l.take k) + p.1 := by
  rw [List.take_add_one, h]
  simp

theorem totalWidth_reverse (l : List (Nat × Bool)) : totalWidth l.reverse = totalWidth l := by
  simp [totalWidth, List.sum_reverse]

@[simp] theorem length_merged (o : Nat) (l : List (Nat × Bool)) : (merged o l).length = l.length := by
  induction l generalizing o with
  | nil => rfl
  | cons p l ih => rw [merged, List.length_cons, List.length_cons, ih]

/-- Each entry starts where those before it end. -/
theorem getElem?_merged (o : Nat) (l : List (Nat × Bool)) (k : Nat) :
    (merged o l)[k]? = l[k]?.map fun p => ⟨o + totalWidth (l.take k), p.1, p.2⟩ := by
  induction l generalizing o k with
  | nil => rfl
  | cons p l ih =>
    cases k with
    | zero => simp [merged]
    | succ k => simp [merged, ih, Nat.add_assoc]

theorem extentOf_merged (o : Nat) {l : List (Nat × Bool)} (h : l ≠ []) : extentOf (merged o l) = o + totalWidth l := by
  have hlast : l.length - 1 < l.length := Nat.sub_one_lt (mt List.length_eq_zero_iff.mp h)
  have htake := totalWidth_take_succ (List.getElem?_eq_getElem hlast)
  rw [Nat.sub_add_cancel (Nat.one_le_of_lt hlast), List.take_length] at htake
  rw [extentOf, List.getLast?_eq_getElem?, length_merged, getElem?_merged, List.getElem?_eq_getElem hlast]
  dsimp only [Option.map_some]
  omega

/-- The widths of the entries on the nodes that `p` picks. -/
theorem widths_filter_merged (p : Bool → Bool) (o : Nat) (l : List (Nat × Bool)) :
    (((merged o l).filter fun e => p e.node).map fun e => e.width).sum = totalWidth (l.filter fun x => p x.2) := by
  induction l generalizing o with
  | nil => rfl
  | cons x l ih => cases hp : p x.2 <;> simp [merged, hp, ih]

/-- Entries whose widths and nodes read the same from either end lie symmetrically about the middle of the extent. -/
theorem merged_symmetric {l : List (Nat × Bool)} (hl : l.reverse = l) {k : Nat} {a b : SubExp} (ha : (merged 0 l)[k]? = some a)
    (hb : (merged 0 l)[l.length - 1 - k]? = some b) :
    a.width = b.width ∧ a.node = b.node ∧ a.start + b.start + b.width = extentOf (merged 0 l) := by
  have hk : k < l.length := length_merged 0 l ▸ (List.getElem?_eq_some_iff.mp ha).1
  have hmirror : l[k]? = l[l.length - 1 - k]? := by rw [← List.getElem?_reverse hk, hl]
  rw [extentOf_merged 0 (List.length_pos_iff.mp (Nat.zero_lt_of_lt hk))]
  rw [getElem?_merged, Option.map_eq_some_iff] at ha hb
  obtain ⟨p, hp, rfl⟩ := ha
  obtain ⟨p', hp', rfl⟩ := hb
  obtain rfl : p = p' := Option.some_inj.mp (hp ▸ hmirror ▸ hp')
  have hend : totalWidth (l.take (l.length - 1 - k)) + p.1 = totalWidth (l.drop k) := by
    have hnext : l.length - 1 - k + 1 = l.length - k := by omega
    calc totalWidth (l.take (l.length - 1 - k)) + p.1 = totalWidth (l.take (l.length - k)) := by
          rw [← hnext, totalWidth_take_succ hp']
      _ = totalWidth (l.drop k).reverse := by rw [List.reverse_drop, hl]
      _ = totalWidth (l.drop k) := totalWidth_reverse _
  have hall : totalWidth (l.take k) + totalWidth (l.drop k) = totalWidth l := by rw [← totalWidth_append, List.take_append_drop]
  refine ⟨rfl, rfl, ?_⟩
  dsimp only
  omega

theorem totalWidth_filter_singleton (p : Bool → Bool) (x : Nat × Bool) :
    totalWidth ([x].filter fun y => p y.2) = if p x.2 then x.1 else 0 := by
  cases hp : p x.2 <;> simp [hp]

/-! ### The slices of TERRACED_INT (R262) -/

/-- Slice `k` of 2`m` + 1: short ones at the odd places, half of a long one's width at either end. -/
def slice (h s m : Nat) (n : Bool) (k : Nat) : Nat × Bool :=
  if k % 2 = 1 then (s, !n) else if k = 0 ∨ k = 2 * m then (h, n) else (2 * h, n)

/-- The slices of TERRACED_INT, in their order. -/
def slices (h s m : Nat) (n : Bool) : List (Nat × Bool) := (List.range (2 * m + 1)).map (slice h s m n)

section
variable {h s m : Nat} {n : Bool}

@[simp] theorem length_slices : (slices h s m n).length = 2 * m + 1 := by simp [slices]

theorem slice_odd (j : Nat) : slice h s m n (2 * j + 1) = (s, !n) := if_pos (by omega)

theorem slice_even {j : Nat} (h0 : 0 < j) (hj : j < m) : slice h s m n (2 * j) = (2 * h, n) :=
  (if_neg (by omega)).trans (if_neg (by omega))

theorem slice_first : slice h s m n 0 = (h, n) := rfl

theorem slice_last : slice h s m n (2 * m) = (h, n) := (if_neg (by omega)).trans (if_pos (.inr rfl))

theorem slice_mirror {k : Nat} (hk : k ≤ 2 * m) : slice h s m n (2 * m - k) = slice h s m n k := by
  have hodd : (2 * m - k) % 2 = 1 ↔ k % 2 = 1 := by omega
  have hend : (2 * m - k = 0 ∨ 2 * m - k = 2 * m) ↔ (k = 0 ∨ k = 2 * m) := by omega
  simp only [slice, hodd, hend]

theorem slices_reverse : (slices h s m n).reverse = slices h s m n := by
  refine List.ext_getElem (by simp) fun k hk _ => ?_
  have hle : k ≤ 2 * m := by simpa [Nat.lt_succ_iff] using hk
  simpa [slices] using slice_mirror hle

/-- The widths of the first 2`j` + 1 slices on the nodes that `p` picks. -/
theorem totalWidth_first_slices (p : Bool → Bool) {j : Nat} (hj : j < m) :
    totalWidth (((List.range (2 * j + 1)).map (slice h s m n)).filter fun x => p x.2) =
      (if p n then h + 2 * h * j else 0) + (if p (!n) then s * j else 0) := by
  induction j with
  | zero => cases hp : p n <;> simp [slice_first, hp]
  | succ j ih =>
    have hodd : slice h s m n (2 * j + 1) = (s, !n) := slice_odd j
    have heven : slice h s m n (2 * j + 1 + 1) = (2 * h, n) := slice_even (Nat.succ_pos j) hj
    rw [show 2 * (j + 1) + 1 = 2 * j + 1 + 1 + 1 from rfl, List.range_succ, List.range_succ]
    simp only [List.map_append, List.filter_append, totalWidth_append, ih (by omega), List.map_cons, List.map_nil, hodd, heven,
      totalWidth_filter_singleton]
    split_ifs <;> ring

/-- All slices on the nodes that `p` picks. -/
theorem totalWidth_slices (p : Bool → Bool) (hm : 1 ≤ m) :
    totalWidth ((slices h s m n).filter fun x => p x.2) = (if p n then 2 * h * m else 0) + (if p (!n) then s * m else 0) := by
  obtain ⟨j, rfl⟩ : ∃ j, m = j + 1 := ⟨m - 1, by omega⟩
  have hodd : slice h s (j + 1) n (2 * j + 1) = (s, !n) := slice_odd j
  have hlast : slice h s (j + 1) n (2 * j + 1 + 1) = (h, n) := slice_last
  rw [slices, show 2 * (j + 1) + 1 = 2 * j + 1 + 1 + 1 from rfl, List.range_succ, List.range_succ]
  simp only [List.map_append, List.filter_append, totalWidth_append, totalWidth_first_slices p (Nat.lt_succ_self j), List.map_cons,
    List.map_nil, hodd, hlast, totalWidth_filter_singleton]
  split_ifs <;> ring

end

/-! ### Tables by exposure mode (R260 to R262) -/

section
variable {rd : Nat → Word}

theorem tableOf_single (h : rdFld rd FT_CFG.EXPO = 0) : tableOf rd = [⟨0, rdFld rd FT_EXPOSURE.EXPOSURE, false⟩] := by
  unfold tableOf
  rw [h]
  rfl

theorem tableOf_terracedSeq (h : rdFld rd FT_CFG.EXPO = 1) :
    tableOf rd = merged 0 (if rdFld rd FT_TERRACE.SHORT_FIRST = 1 then
      [(rdFld rd FT_EXPOSURE.EXPOSURE / rdFld rd FT_TERRACE.RATIO, !decide (rdFld rd FT_TERRACE.LONG_NODE = 1)),
        (rdFld rd FT_EXPOSURE.EXPOSURE, decide (rdFld rd FT_TERRACE.LONG_NODE = 1))]
      else [(rdFld rd FT_EXPOSURE.EXPOSURE, decide (rdFld rd FT_TERRACE.LONG_NODE = 1)),
        (rdFld rd FT_EXPOSURE.EXPOSURE / rdFld rd FT_TERRACE.RATIO, !decide (rdFld rd FT_TERRACE.LONG_NODE = 1))]) := by
  unfold tableOf
  rw [h]
  rfl

theorem tableOf_terracedInt {h : Nat} (hmode : rdFld rd FT_CFG.EXPO = 2)
    (hh : h = rdFld rd FT_EXPOSURE.EXPOSURE / (2 * rdFld rd FT_TERRACE.SLICES)) :
    tableOf rd = merged 0 (slices h (2 * h / rdFld rd FT_TERRACE.RATIO) (rdFld rd FT_TERRACE.SLICES)
      (decide (rdFld rd FT_TERRACE.LONG_NODE = 1))) := by
  subst hh
  unfold tableOf
  rw [hmode]
  rfl

end

/-- Settles O57: the two merged entries by SHORT_FIRST; TERRACED_INT's slices read the same from either end. -/
theorem generatedTables : Obligations.GeneratedTables := by
  intro rd x r n hx hr hn
  refine ⟨fun h => ?single, fun h => ⟨fun hfirst => ?longFirst, fun hfirst => ?shortFirst⟩, fun m hm h h1 => ?slices⟩
  case single => rw [tableOf_single h, hx]
  case longFirst =>
    rw [tableOf_terracedSeq h, hfirst, ← hx, ← hr, ← hn]
    simp [merged]
  case shortFirst =>
    rw [tableOf_terracedSeq h, hfirst, ← hx, ← hr, ← hn]
    simp [merged]
  case slices =>
    have htable : tableOf rd = merged 0 (slices (x / (2 * m)) (2 * (x / (2 * m)) / r) m n) := by
      rw [tableOf_terracedInt h rfl, hx, hr, hn, hm]
    rw [htable]
    refine ⟨by simp, ?long, ?short, fun k a b ha hb => ?symmetric⟩
    case long =>
      rw [widths_filter_merged (· == n), totalWidth_slices (· == n) h1]
      simp
    case short =>
      rw [widths_filter_merged (· != n), totalWidth_slices (· != n) h1]
      simp
    case symmetric => exact merged_symmetric slices_reverse ha (by simpa using hb)

end Sys2Proof.Machine
end

section
/-! The reads that compute a plan (R276, R291, R585). -/

namespace Sys2Proof.Machine

@[simp] theorem touchMaintain_ft (c : Carrier) (s : Block) : (touchMaintain c s).ft = s.ft := rfl

section
variable {q : Req} {s : State}

/-- What FT_GET_SCHEDULE answers: a period, a table, and the plan values of the settings that `rd` reads (R291). -/
def scheduleBytes (period : Nat) (t : List SubExp) (v : PlanVals) : List Byte :=
  leBytes 4 period ++ leBytes 4 t.length ++ t.flatMap (fun e => leBytes 4 e.start ++ leBytes 4 e.width ++ leBytes 4 (b2n e.node)) ++
    leBytes 4 v.tro ++ leBytes 4 v.tfree ++ leBytes 4 v.ping ++ leBytes 4 v.pmin ++ leBytes 4 v.span

theorem ftGetSchedule_pending (h : AtOnce 0 412 q s.blk) (hq : Shaped q 4 [1, 2, 3]) (hw : pByte q 0 = 1) :
    Answers (.ftGetSchedule q) q 0x0200
      (fun b => scheduleBytes (b.fld FT_PERIOD.PERIOD) (tableOf b.reg) (planNow b b.reg)) s := by
  refine executes_congr (executes_of rfl h ?_) ?_
  · simp [shape_of_shaped hq, bad, hw]
  · simp only [hw]
    rfl

/-- With a frame's table in force, that table and its period. -/
theorem ftGetSchedule_running (h : AtOnce 0 412 q s.blk) (hq : Shaped q 4 [1, 2, 3]) (hw : pByte q 0 = 0) (hrun : s.blk.running = true)
    (htable : s.blk.ft.table ≠ []) :
    Answers (.ftGetSchedule q) q 0x0200 (fun b => scheduleBytes b.ft.period b.ft.table (planNow b b.eff)) s := by
  have hempty : (touchMaintain q.carrier s.blk).ft.table.isEmpty = false := by simpa using htable
  refine executes_congr (executes_of rfl h ?_) ?_
  · simp [shape_of_shaped hq, bad, hw]
  · simp only [hw, touchMaintain_running, hrun, hempty]
    rfl

/-- With no table in force, what the words in force make. -/
theorem ftGetSchedule_idle (h : AtOnce 0 412 q s.blk) (hq : Shaped q 4 [1, 2, 3]) (hw : pByte q 0 = 0)
    (hidle : s.blk.running = false ∨ s.blk.ft.table = []) :
    Answers (.ftGetSchedule q) q 0x0200
      (fun b => scheduleBytes (rdFld b.eff FT_PERIOD.PERIOD) (tableOf b.eff) (planNow b b.eff)) s := by
  have hnone : ((touchMaintain q.carrier s.blk).running && !(touchMaintain q.carrier s.blk).ft.table.isEmpty) = false := by
    rcases hidle with hrun | htable
    · simp [hrun]
    · simp [htable]
  refine executes_congr (executes_of rfl h ?_) ?_
  · simp [shape_of_shaped hq, bad, hw]
  · simp only [hw, Bool.and_assoc, hnone, Bool.and_false]
    rfl

/-- Of the checks of a write FT_CHECK makes those that refuse with BAD_PARAM (R276). -/
theorem ftCheck_answers (h : AtOnce 0 8 q s.blk) (hlen : q.params.length = 12) (hwidth : pNat q 8 2 ≤ 511) (hslices : pByte q 10 ≤ 15)
    (hflags : pByte q 11 ≤ 15)
    (hbad : ∀ c ∈ writeChecks (touchMaintain q.carrier s.blk) 3 false 0 (timingWords s.blk q), c.2 = stBadParam → c.1 = false)
    (hok : timingOk (touchMaintain q.carrier s.blk) (candidate? (touchMaintain q.carrier s.blk) (timingWords s.blk q)) = true) :
    Answers (.ftCheck q) q 0x0204 (fun b => leBytes 4 (planNow b (candidate? b (timingWords b q))).pmin ++
      leBytes 4 (planNow b (candidate? b (timingWords b q))).span) s := by
  refine executes_of rfl h ?_
  simp only [List.forall_mem_append, List.forall_mem_singleton, List.mem_filter, decide_eq_true_eq]
  refine ⟨⟨?form, fun c hc => hbad c hc.1 hc.2⟩, ?schedule⟩
  case form => simp [timingShape, shape_of_length hlen, bad, hwidth, hslices, hflags]
  case schedule => exact congrArg Bool.not hok

theorem agGetPlan_answers (h : AtOnce 0 96 q s.blk) (hq : Shaped q 4 [1, 2, 3]) (hvalid : profileValid s.blk (pByte q 0) = true) :
    Answers (.agGetPlan q) q 0x0B02 (fun b => (List.range 6).flatMap (fun x =>
      leBytes 4 (planVals b.th.plan ((advRd b (pByte q 0)).getD regReset) (fun _ => x)).pmin ++
      leBytes 4 (planVals b.th.plan ((advRd b (pByte q 0)).getD regReset) (fun _ => x)).tro ++
      leBytes 4 (planVals b.th.plan ((advRd b (pByte q 0)).getD regReset) (fun _ => x)).tfree ++
      leBytes 2 (advRate b (pByte q 0) x) ++ zeros 2)) s :=
  executes_of rfl h (by simp [shape_of_shaped hq, bad, hvalid])

end

/-- Settles O13: with no check failing each row's body is its reply; FT_GET_SCHEDULE's by whether a table is in force. -/
theorem planReads : Obligations.PlanReads := by
  intro q s
  exact ⟨ftGetSchedule_pending, ftGetSchedule_running, ftGetSchedule_idle, ftCheck_answers, agGetPlan_answers⟩

end Sys2Proof.Machine
end

section
/-! Compare channels by command, and the trigger command (R269, R270, R304, R306, R309, R318). -/

namespace Sys2Proof.Machine

/-! ### The own words of a compare channel (R316) -/

/-- Word `k` of channel `i`'s row: 0 is its CTL, 1 and 2 its C, 3 its P, 4 its POST word, 5 its STAT. -/
def chanWord (i k : Nat) : Nat := 0x2000100 + 4 * k + 0x20 * i

/-- Of channel `i`'s own words at most those at the places `ks` have changed. -/
def ChanBut (i : Nat) (ks : List Nat) (s t : Block) : Prop := ∀ k, k ∉ ks → t.reg (chanWord i k) = s.reg (chanWord i k)

namespace ChanBut

variable {i k : Nat} {ks js : List Nat} {s t u : Block} {f : RF}

theorem fld (h : ChanBut i ks s t) (hf : f.addr = chanWord i k) (hk : k ∉ ks) : t.fld f = s.fld f :=
  fld_congr _ _ _ (by rw [hf, h k hk])

theorem flag (h : ChanBut i ks s t) (hf : f.addr = chanWord i k) (hk : k ∉ ks) : t.flag f = s.flag f :=
  flag_congr _ _ _ (by rw [hf, h k hk])

theorem cmpOf (h : ChanBut i ks s t) (hlo : 1 ∉ ks) (hhi : 2 ∉ ks) : cmpOf t i = cmpOf s i := by
  unfold Machine.cmpOf
  rw [h.fld (f := KS_CH_CMP_LO.CMP i) rfl hlo, h.fld (f := KS_CH_CMP_HI.CMP i) rfl hhi]

theorem append (h : ChanBut i ks s t) (h' : ChanBut i js t u) : ChanBut i (ks ++ js) s u := fun k hk =>
  (h' k fun hx => hk (List.mem_append_right ks hx)).trans (h k fun hx => hk (List.mem_append_left js hx))

/-- Words below the channel's row are not its own. -/
theorem of_regsBut {l : List Nat} (h : RegsBut l s t) (hl : ∀ a ∈ l, a < KS_CH_CTL.addr i) : ChanBut i [] s t := fun k _ =>
  h.reg fun hm => by
    have hlt := hl _ hm
    simp only [chanWord, KS_CH_CTL.addr] at hlt
    omega

end ChanBut

section
variable (i : Nat) (s : Block)

theorem chanBut_setReg {a k : Nat} (w : Word) (ha : a = chanWord i k) : ChanBut i [k] s (s.setReg a w) := fun j hj => by
  have hne : chanWord i j ≠ a := by
    simp only [List.mem_singleton, chanWord] at hj ha ⊢
    omega
  rw [reg_setReg, if_neg hne]

theorem chanBut_setFld {f : RF} {k : Nat} (v : Nat) (hf : f.addr = chanWord i k) : ChanBut i [k] s (s.setFld f v) :=
  chanBut_setReg i s _ hf

/-- The words that list the armed and the late channels lie below the channels' rows. -/
theorem chanBut_setPairBit {a : Nat} (b : Bool) (ha : a ≤ KS_LATE.addr 0) : ChanBut i [] s (setPairBit a i b s) := by
  refine .of_regsBut (regsBut_setReg s _ _) fun x hx => ?_
  rw [List.mem_singleton.mp hx]
  simp only [KS_LATE.addr, KS_CH_CTL.addr] at ha ⊢
  omega

theorem chanBut_cairn (o k a : Nat) (x y : Word) : ChanBut i [] s (s.cairn o k a x y) :=
  .of_regsBut (regsBut_cairn s o k a x y) fun x hx => by
    simp only [List.mem_cons, List.not_mem_nil, or_false, LOG_STAT.addr, LOG_HEAD.addr, KS_CH_CTL.addr] at hx ⊢
    omega

/-! ### ARMED, LATE and C (R315) -/

theorem chanBut_setArmed (b : Bool) : ChanBut i [0] s (setArmed i b s) :=
  (chanBut_setFld i s (f := KS_CH_CTL.ARMED i) (b2n b) rfl).append (chanBut_setPairBit i _ b (by decide))

theorem armedCh_setArmed (b : Bool) : armedCh (setArmed i b s) i = b :=
  ((chanBut_setPairBit i _ b (by decide)).flag (f := KS_CH_CTL.ARMED i) (k := 0) rfl List.not_mem_nil).trans
    (flag_setFlag_same s (KS_CH_CTL.ARMED i) b ⟨show 0 + 1 ≤ 32 by decide, rfl⟩)

theorem rel_setArmed (b : Bool) : (setArmed i b s).flag (KS_CH_CTL.REL i) = s.flag (KS_CH_CTL.REL i) :=
  ((chanBut_setPairBit i _ b (by decide)).flag (f := KS_CH_CTL.REL i) (k := 0) rfl List.not_mem_nil).trans
    (flag_setFlag_apart s (KS_CH_CTL.ARMED i) (KS_CH_CTL.REL i) b (.inr (.inl (show 0 + 1 ≤ 2 by decide))))

theorem chanBut_setLate (b : Bool) : ChanBut i [5] s (setLate i b s) :=
  (chanBut_setFld i s (f := KS_CH_STAT.LATE i) (b2n b) rfl).append (chanBut_setPairBit i _ b (by decide))

theorem late_setLate (b : Bool) : (setLate i b s).flag (KS_CH_STAT.LATE i) = b :=
  ((chanBut_setPairBit i _ b (by decide)).flag (f := KS_CH_STAT.LATE i) (k := 5) rfl List.not_mem_nil).trans
    (flag_setFlag_same s (KS_CH_STAT.LATE i) b ⟨show 16 + 1 ≤ 32 by decide, rfl⟩)

theorem missed_setLate (b : Bool) : (setLate i b s).fld (KS_CH_STAT.MISSED i) = s.fld (KS_CH_STAT.MISSED i) :=
  ((chanBut_setPairBit i _ b (by decide)).fld (f := KS_CH_STAT.MISSED i) (k := 5) rfl List.not_mem_nil).trans
    (fld_setFlag_apart s (KS_CH_STAT.LATE i) (KS_CH_STAT.MISSED i) b (.inr (.inr (show 0 + 16 ≤ 16 by decide))))

theorem chanBut_setCmp (t : Tick) : ChanBut i [1, 2] s (setCmp i t s) :=
  (chanBut_setFld i s (f := KS_CH_CMP_LO.CMP i) _ rfl).append (chanBut_setFld i _ (f := KS_CH_CMP_HI.CMP i) _ rfl)

/-- C as its two words were written. -/
theorem cmpOf_setFlds (lo hi : Nat) : cmpOf ((s.setFld (KS_CH_CMP_LO.CMP i) lo).setFld (KS_CH_CMP_HI.CMP i) hi) i =
    BitVec.ofNat 64 (lo % 2 ^ 32 + 2 ^ 32 * (hi % 2 ^ 32)) := by
  have hkeep := (chanBut_setFld i (s.setFld (KS_CH_CMP_LO.CMP i) lo) (f := KS_CH_CMP_HI.CMP i) (k := 2) hi rfl).fld
    (f := KS_CH_CMP_LO.CMP i) (k := 1) rfl (by decide)
  rw [cmpOf, hkeep, fld_setFld s (KS_CH_CMP_LO.CMP i) lo le_rfl, fld_setFld _ (KS_CH_CMP_HI.CMP i) hi le_rfl]
  rfl

theorem cmpOf_setCmp (t : Tick) : cmpOf (setCmp i t s) i = t := by
  refine (cmpOf_setFlds i s _ _).trans (BitVec.eq_of_toNat_eq ?_)
  rw [BitVec.toNat_ofNat]
  have := t.isLt
  omega

/-! ### A channel is armed (R304) -/

/-- The point at which channel `i` is armed: C, or under REL its period after `a`. -/
def armPoint (a : Tick) : Tick := if s.flag (KS_CH_CTL.REL i) then a + BitVec.ofNat 64 (perOf s i) else cmpOf s i

theorem armChan_regs (a : Tick) : (armChan i a s).regs = (setArmed i true (setCmp i (armPoint i s a) s)).regs := by
  unfold armChan
  rfl

theorem chanBut_armChan_setArmed (a : Tick) : ChanBut i [] (setArmed i true (setCmp i (armPoint i s a) s)) (armChan i a s) :=
  .of_regsBut (l := []) (.of_regs (armChan_regs i s a)) (by simp)

theorem chanBut_armChan (a : Tick) : ChanBut i [1, 2, 0] s (armChan i a s) :=
  ((chanBut_setCmp i s _).append (chanBut_setArmed i _ true)).append (chanBut_armChan_setArmed i s a)

theorem armedCh_armChan (a : Tick) : armedCh (armChan i a s) i = true :=
  ((chanBut_armChan_setArmed i s a).flag (f := KS_CH_CTL.ARMED i) (k := 0) rfl (by decide)).trans (armedCh_setArmed i _ true)

theorem rel_armChan (a : Tick) : (armChan i a s).flag (KS_CH_CTL.REL i) = s.flag (KS_CH_CTL.REL i) := by
  rw [(chanBut_armChan_setArmed i s a).flag (f := KS_CH_CTL.REL i) (k := 0) rfl (by decide), rel_setArmed]
  exact (chanBut_setCmp i s _).flag (f := KS_CH_CTL.REL i) (k := 0) rfl (by decide)

theorem cmpOf_armChan (a : Tick) : cmpOf (armChan i a s) i = armPoint i s a := by
  rw [(chanBut_armChan_setArmed i s a).cmpOf (by decide) (by decide), (chanBut_setArmed i _ true).cmpOf (by decide) (by decide),
    cmpOf_setCmp]

end

/-! ### KS_ARM and KS_DISARM (R304, R309, R318) -/

theorem leVal_lt (l : List Byte) : leVal l < 256 ^ l.length := by
  induction l with
  | nil => exact Nat.one_pos
  | cons b l ih =>
    have := b.isLt
    rw [leVal, List.length_cons, pow_succ]
    omega

/-- Four bytes fit a word. -/
theorem leAt_four_mod (l : List Byte) (o : Nat) : leAt l o 4 % 2 ^ 32 = leAt l o 4 :=
  Nat.mod_eq_of_lt ((leVal_lt _).trans_le (Nat.pow_le_pow_right (by decide) (List.length_take_le ..)))

/-- The words of channel `i` as KS_ARM's parameters give them. -/
def givenChan (i : Nat) (p : List Byte) (s : Block) : Block :=
  ((((s.setReg (KS_CH_CTL.addr i) (ctlTaken (BitVec.ofNat 32 (leAt p 16 4)))).setFld (KS_CH_CMP_LO.CMP i) (leAt p 4 4)).setFld
    (KS_CH_CMP_HI.CMP i) (leAt p 8 4)).setFld (KS_CH_PERIOD.PERIOD i) (leAt p 12 4)).setFld (KS_CH_POST.WORD i) (leAt p 20 4)

/-- MISSED and LATE of channel `i` cleared. -/
def clearedChan (i : Nat) (s : Block) : Block := setLate i false (s.setFld (KS_CH_STAT.MISSED i) 0)

section
variable (i : Nat) (p : List Byte) (s : Block)

theorem period_givenChan : (givenChan i p s).fld (KS_CH_PERIOD.PERIOD i) = leAt p 12 4 :=
  ((chanBut_setFld i _ (f := KS_CH_POST.WORD i) (k := 4) _ rfl).fld (f := KS_CH_PERIOD.PERIOD i) (k := 3) rfl (by decide)).trans
    ((fld_setFld _ (KS_CH_PERIOD.PERIOD i) _ le_rfl).trans (leAt_four_mod p 12))

theorem post_givenChan : (givenChan i p s).fld (KS_CH_POST.WORD i) = leAt p 20 4 :=
  (fld_setFld _ (KS_CH_POST.WORD i) _ le_rfl).trans (leAt_four_mod p 20)

theorem cmpOf_givenChan : cmpOf (givenChan i p s) i = BitVec.ofNat 64 (leAt p 4 4 + 2 ^ 32 * leAt p 8 4) := by
  have hrest := (chanBut_setFld i (((s.setReg (KS_CH_CTL.addr i) (ctlTaken (BitVec.ofNat 32 (leAt p 16 4)))).setFld
    (KS_CH_CMP_LO.CMP i) (leAt p 4 4)).setFld (KS_CH_CMP_HI.CMP i) (leAt p 8 4)) (f := KS_CH_PERIOD.PERIOD i) (k := 3) (leAt p 12 4)
    rfl).append (chanBut_setFld i _ (f := KS_CH_POST.WORD i) (k := 4) (leAt p 20 4) rfl)
  rw [givenChan, hrest.cmpOf (by decide) (by decide), cmpOf_setFlds, leAt_four_mod, leAt_four_mod]

theorem chanBut_clearedChan : ChanBut i [5, 5] s (clearedChan i s) :=
  (chanBut_setFld i s (f := KS_CH_STAT.MISSED i) 0 rfl).append (chanBut_setLate i _ false)

theorem missed_clearedChan : (clearedChan i s).fld (KS_CH_STAT.MISSED i) = 0 :=
  (missed_setLate i _ false).trans (fld_setFld s (KS_CH_STAT.MISSED i) 0 (show 0 + 16 ≤ 32 by decide))

theorem late_clearedChan : (clearedChan i s).flag (KS_CH_STAT.LATE i) = false := late_setLate i _ false

/-- What KS_ARM arms: the words given, MISSED and LATE cleared. -/
def readyChan (i : Nat) (p : List Byte) (s : Block) : Block := clearedChan i (givenChan i p s)

theorem period_readyChan : (readyChan i p s).fld (KS_CH_PERIOD.PERIOD i) = leAt p 12 4 :=
  ((chanBut_clearedChan i _).fld (k := 3) rfl (by decide)).trans (period_givenChan i p s)

theorem post_readyChan : (readyChan i p s).fld (KS_CH_POST.WORD i) = leAt p 20 4 :=
  ((chanBut_clearedChan i _).fld (k := 4) rfl (by decide)).trans (post_givenChan i p s)

theorem cmpOf_readyChan : cmpOf (readyChan i p s) i = BitVec.ofNat 64 (leAt p 4 4 + 2 ^ 32 * leAt p 8 4) :=
  ((chanBut_clearedChan i _).cmpOf (by decide) (by decide)).trans (cmpOf_givenChan i p s)

theorem missed_readyChan : (readyChan i p s).fld (KS_CH_STAT.MISSED i) = 0 := missed_clearedChan i _

theorem late_readyChan : (readyChan i p s).flag (KS_CH_STAT.LATE i) = false := late_clearedChan i _

/-- Once armed, only the cairn follows. -/
theorem chanBut_armBy (o : Nat) {i : Nat} (hi : i = leAt p 0 1) : ChanBut i [] (armChan i s.now (readyChan i p s)) (armBy o p s) := by
  subst hi
  exact chanBut_cairn (leAt p 0 1) _ o _ _ _ _

end

/-- A channel that KS_ARM has armed from the parameters `p` at tick `now` (R304, R318). -/
structure ArmedBy (i : Nat) (p : List Byte) (now : Tick) (t : Block) : Prop where
  armed : armedCh t i = true
  missed : t.fld (KS_CH_STAT.MISSED i) = 0
  late : t.flag (KS_CH_STAT.LATE i) = false
  period : t.fld (KS_CH_PERIOD.PERIOD i) = leAt p 12 4
  post : t.fld (KS_CH_POST.WORD i) = leAt p 20 4
  cmp : cmpOf t i = if t.flag (KS_CH_CTL.REL i) then now + BitVec.ofNat 64 (leAt p 12 4)
    else BitVec.ofNat 64 (leAt p 4 4 + 2 ^ 32 * leAt p 8 4)

theorem armedBy_armBy (o : Nat) (p : List Byte) (s : Block) {i : Nat} (hi : i = leAt p 0 1) : ArmedBy i p s.now (armBy o p s) := by
  have hlog := chanBut_armBy p s o hi
  have harm := (chanBut_armChan i (readyChan i p s) s.now).append hlog
  refine ⟨?armed, ?missed, ?late, ?period, ?post, ?cmp⟩
  case armed => exact (hlog.flag (k := 0) rfl (by decide)).trans (armedCh_armChan i _ s.now)
  case missed => exact (harm.fld (k := 5) rfl (by decide)).trans (missed_readyChan i p s)
  case late => exact (harm.flag (k := 5) rfl (by decide)).trans (late_readyChan i p s)
  case period => exact (harm.fld (k := 3) rfl (by decide)).trans (period_readyChan i p s)
  case post => exact (harm.fld (k := 4) rfl (by decide)).trans (post_readyChan i p s)
  case cmp =>
    rw [hlog.cmpOf (by decide) (by decide), hlog.flag (f := KS_CH_CTL.REL i) (k := 0) rfl (by decide), rel_armChan, cmpOf_armChan, armPoint,
      perOf, period_readyChan, cmpOf_readyChan]

theorem armedCh_disarmBy (o i : Nat) (s : Block) : armedCh (disarmBy o i s) i = false := by
  have hdisarm : armedCh (disarmChan i s) i = false := armedCh_setArmed i s false
  unfold disarmBy
  split_ifs with h
  · exact ((chanBut_cairn i _ o _ _ _ _).flag (f := KS_CH_CTL.ARMED i) (k := 0) rfl (by decide)).trans hdisarm
  · exact Bool.eq_false_of_not_eq_true h

@[simp] theorem armedCh_touchMaintain (c : Carrier) (s : Block) (i : Nat) : armedCh (touchMaintain c s) i = armedCh s i := rfl

@[simp] theorem chanOwned_touchMaintain (c : Carrier) (s : Block) (i : Nat) : chanOwned (touchMaintain c s) i = chanOwned s i := rfl

section
variable {q : Req} {s : State}

/-- KS_ARM's reply: its tick, and whether the point is past already (R318). -/
def armReply (q : Req) (b t : Block) : Block :=
  t.reply q 0x0501 stOk (leBytes 8 b.now.toNat ++ leBytes 1 (b2n (smHas t.ks.late (pByte q 0))) ++ zeros 3)

theorem ksArm_executes {i : Nat} (hi : i = pByte q 0) (h63 : i < 64) (h : AtOnce 1 12 q s.blk) (hlen : q.params.length = 24)
    (hres : leAt q.params 1 3 = 0) (hper : pNat q 12 4 ≠ 0) (hctl : ctlBad i (ctlTaken (BitVec.ofNat 32 (pNat q 16 4))) = false)
    (harmed : armedCh s.blk i = false) (howned : chanOwned s.blk i = false)
    (hconf : s.blk.running = true → ctlConflicts i (ctlTaken (BitVec.ofNat 32 (pNat q 16 4))) = false) :
    Executes (.ksArm q) q (fun b => armReply q b (armBy (originOf q.carrier) q.params b)) s := by
  have hconflict : (s.blk.running && ctlConflicts i (ctlTaken (BitVec.ofNat 32 (pNat q 16 4)))) = false := by
    cases hrun : s.blk.running
    · rfl
    · exact hconf hrun
  refine executes_of rfl h (List.forall_mem_cons.mpr ⟨shape_of_length hlen, ?_⟩)
  have hchan : leAt q.params 0 1 = i := hi.symm
  unfold pNat at hper hctl hconflict
  simp only [armChecks, hchan, List.forall_mem_cons, bad, armedCh_touchMaintain, chanOwned_touchMaintain, touchMaintain_running, hctl, hres,
    harmed, howned, Bool.and_assoc, hconflict, Bool.and_false, Bool.or_self, Bool.or_false, hper, ne_eq, not_true_eq_false, decide_false,
    List.not_mem_nil, false_imp_iff, implies_true, and_true, decide_eq_false_iff_not]
  omega

theorem ksDisarm_executes {i : Nat} (hi : i = pByte q 0) (h63 : i < 64) (h : AtOnce 1 12 q s.blk) (hq : Shaped q 4 [1, 2, 3])
    (howned : chanOwned s.blk i = false) :
    Executes (.ksDisarm q) q (fun b => (disarmBy (originOf q.carrier) i b).reply q 0x0502 stOk
      (leBytes 8 (matchOf b i) ++ leBytes 2 (b.fld (KS_CH_STAT.MISSED i)) ++ zeros 2)) s := by
  subst hi
  refine executes_of rfl h ?_
  simp [shape_of_shaped hq, bad, howned]
  omega

end

/-! ### FT_TRIGGER (R269, R270) -/

@[simp] theorem trigMode_touchMaintain (c : Carrier) (s : Block) : trigMode (touchMaintain c s) = trigMode s := rfl

@[simp] theorem trigMissed_touchMaintain (c : Carrier) (s : Block) (t : Tick) : trigMissed t (touchMaintain c s) = trigMissed t s := rfl

/-- A trigger missed: counted, and flagged in FT_ERR, as late too where it is. -/
def missCounted (te : Tick) (s : Block) : Block :=
  let t := (s.incFld FT_TRIG_CNT.MISSED 1).setFlag FT_ERR.TRIG_MISSED true
  if laterThan s.now (te + BitVec.ofNat 64 (s.effFld FT_TRIG.LATENCY) - 80000) then t.setFlag FT_ERR.TRIG_LATE true else t

theorem takeTrigger_of_missed {te : Tick} {s : Block} (h : trigMissed te s = true) :
    takeTrigger te s = (missCounted te s).raiseAt 1020 te := by
  unfold takeTrigger
  dsimp only
  rw [if_pos h]
  rfl

theorem missCounted_count (te : Tick) (s : Block) :
    (missCounted te s).fld FT_TRIG_CNT.MISSED = (s.fld FT_TRIG_CNT.MISSED + 1) % 2 ^ FT_TRIG_CNT.MISSED.width := by
  have hcount : (s.incFld FT_TRIG_CNT.MISSED 1).fld FT_TRIG_CNT.MISSED = (s.fld FT_TRIG_CNT.MISSED + 1) % 2 ^ FT_TRIG_CNT.MISSED.width :=
    fld_setFld s _ _ (by decide)
  unfold missCounted
  dsimp only
  split_ifs
  · rw [fld_setFlag_apart _ _ _ _ (by decide), fld_setFlag_apart _ _ _ _ (by decide), hcount]
  · rw [fld_setFlag_apart _ _ _ _ (by decide), hcount]

theorem missCounted_flag (te : Tick) (s : Block) : (missCounted te s).flag FT_ERR.TRIG_MISSED = true := by
  unfold missCounted
  dsimp only
  split_ifs
  · rw [flag_setFlag_apart _ _ _ _ (by decide), flag_setFlag_same _ _ _ (by decide)]
  · rw [flag_setFlag_same _ _ _ (by decide)]

theorem missCounted_ft (te : Tick) (s : Block) : (missCounted te s).ft = s.ft := by
  unfold missCounted
  dsimp only
  split_ifs <;> rfl

theorem missCounted_ks (te : Tick) (s : Block) : (missCounted te s).ks = s.ks := by
  unfold missCounted
  dsimp only
  split_ifs <;> rfl

/-- A trigger stamped now that is missed raises its event at this tick. -/
theorem takeTrigger_now_of_missed {s : Block} (h : trigMissed s.now s = true) :
    takeTrigger s.now s = (missCounted s.now s).raise 1020 := by
  rw [takeTrigger_of_missed h, Block.raise, Block.now, Block.now, missCounted_ks]

section
variable {q : Req} {s : State}

/-- What FT_TRIGGER does in TRIGGERED mode, accepted or missed. -/
theorem ftTrigger_executes (h : AtOnce 1 4 q s.blk) (hq : q.params = []) (hmode : trigMode s.blk = true) :
    Executes (.ftTrigger q) q (fun b => if trigMissed b.now b then (takeTrigger b.now b).reply q 0x0203 stBusy []
      else (takeTrigger b.now b).reply q 0x0203 stOk (leBytes 4 b.ft.nextNum)) s := by
  refine executes_of rfl h ?_
  simp [shape_of_length (q := q) (n := 0) (by simp [hq]), hmode]

theorem ftTrigger_accepted (h : AtOnce 1 4 q s.blk) (hq : q.params = []) (hmode : trigMode s.blk = true)
    (hmiss : trigMissed s.blk.now s.blk = false) :
    Executes (.ftTrigger q) q (fun b => (takeTrigger b.now b).reply q 0x0203 stOk (leBytes 4 b.ft.nextNum)) s :=
  executes_congr (ftTrigger_executes h hq hmode) (if_neg (by simp [hmiss]))

theorem ftTrigger_missed (h : AtOnce 1 4 q s.blk) (hq : q.params = []) (hmode : trigMode s.blk = true)
    (hmiss : trigMissed s.blk.now s.blk = true) :
    Executes (.ftTrigger q) q (fun b => ((missCounted b.now b).raise 1020).reply q 0x0203 stBusy []) s := by
  have htouch : trigMissed (touchMaintain q.carrier s.blk).now (touchMaintain q.carrier s.blk) = true := by simpa using hmiss
  refine executes_congr (ftTrigger_executes h hq hmode) ((if_pos htouch).trans ?_)
  rw [takeTrigger_now_of_missed htouch]

end

/-- Settles O29: the three rows with no check failing; the fields of a channel that KS_ARM armed, and of a trigger missed, by name. -/
theorem compareChannelCommands : Obligations.CompareChannelCommands := by
  refine ⟨fun q s i hi h63 => ⟨fun h hlen hres hper hctl harmed howned hconf => ?arm, fun h hq howned => ?disarm⟩,
    fun q s h hq hmode => ⟨ftTrigger_accepted h hq hmode, fun hmiss => ?missed⟩⟩
  case arm =>
    obtain ⟨hset, hmissed, hlate, hperiod, hpost, hcmp⟩ := armedBy_armBy (originOf q.carrier) q.params (touchMaintain q.carrier s.blk) hi
    refine completes_of_executes (ksArm_executes hi h63 h hlen hres hper hctl harmed howned hconf) ⟨?_, ?_⟩
    · subst hi
      simpa [armReply] using replied_reply (armBy (originOf q.carrier) q.params (touchMaintain q.carrier s.blk)) q 0x0501 stOk _
        (not_dropped h.notPin h.loud stOk)
    · simp only [armReply, armedCh, cmpOf, flag_reply, fld_reply] at hset hcmp ⊢
      exact ⟨hset, hmissed, hlate, hperiod, hpost, hcmp⟩
  case disarm =>
    refine completes_of_executes (ksDisarm_executes hi h63 h hq howned) ⟨replied_reply _ q _ _ _ (not_dropped h.notPin h.loud stOk), ?_⟩
    exact (flag_reply ..).trans (armedCh_disarmBy (originOf q.carrier) i _)
  case missed =>
    refine completes_of_executes (ftTrigger_missed h hq hmode hmiss)
      ⟨replied_reply _ q _ _ _ (not_dropped h.notPin h.loud stBusy), ?_, ?_, ?_, ?_⟩
    · rw [fld_reply, (regsBut_raise _ 1020).fld (by decide), missCounted_count]
      rfl
    · rw [flag_reply, (regsBut_raise _ 1020).flag (by decide), missCounted_flag]
    · rw [evtStatus_reply, evtStatus_raise]
      rfl
    · rw [reply_ft, raise_ft, missCounted_ft]
      rfl

end Sys2Proof.Machine
end

section
/-! The keystone as a whole: its idle tick (R293), trim, slew, discipline and alignment by command (R298 to R303, R313, R318, R530), its wrap
(R294) and the end of a slew (R300). -/

namespace Sys2Proof.Machine

/-! ### Signed words -/

/-- A number that fits `n` bits in two's complement is read back as written. -/
theorem sgn_unsgn {n : Nat} {v : Int} (hn : 0 < n) (hlo : -(2 ^ (n - 1) : Nat) ≤ v) (hhi : v < (2 ^ (n - 1) : Nat)) :
    sgn n (unsgn n v) = v := by
  obtain ⟨m, rfl⟩ : ∃ m, n = m + 1 := ⟨n - 1, by omega⟩
  simp only [sgn, unsgn, Nat.add_sub_cancel] at hlo hhi ⊢
  have hpow : 2 ^ (m + 1) = 2 * 2 ^ m := by rw [pow_succ, mul_comm]
  have hpos : 0 < 2 ^ m := Nat.two_pow_pos m
  rw [hpow]
  generalize 2 ^ m = p at hlo hhi hpos ⊢
  by_cases hneg : v < 0
  · have hmod : v % ((2 * p : Nat) : Int) = v + (2 * p : Nat) := by
      rw [← Int.add_emod_right, Int.emod_eq_of_lt (by omega) (by omega)]
    rw [hmod, Nat.mod_eq_of_lt (by omega), if_neg (by omega)]
    omega
  · rw [Int.emod_eq_of_lt (by omega) (by omega), Nat.mod_eq_of_lt (by omega), if_pos (by omega)]
    omega

/-! ### A step with nothing to do (R293, log entry 3) -/

theorem nextRequest_of_no_accepted {b : Block} (h : b.cmd.accepted = []) : nextRequest b = none := by
  unfold nextRequest
  rw [h]
  split <;> rfl

theorem step_of_no_request {s : State} (hp : s.pending = []) (h : s.blk.cmd.accepted = []) :
    step s = .next { s with blk := tickKs s.blk } := by
  unfold step
  split
  case h_1 i rest hcons => cases hp.symm.trans hcons
  case h_2 => rw [idle, nextRequest_of_no_accepted h]

theorem tickKs_of_no_slew {b : Block} (hrun : b.ks.stopped = false) (hslew : b.ks.slew = 0) (hnow : b.now ≠ BitVec.ofNat 64 (2 ^ 64 - 1)) :
    tickKs b = { b with ks := { b.ks with now := b.now + 1 } } := by
  unfold tickKs
  rw [if_neg (ne_true_of_eq_false hrun), if_pos hslew]
  exact if_neg hnow

/-- Settles O2: an empty queue with no request accepted is idle, and a tick without slew or wrap only counts. -/
theorem idleTick : Obligations.IdleTick := by
  intro s hp hacc hrun hslew hnow
  rw [step_of_no_request hp hacc, tickKs_of_no_slew hrun hslew hnow]

/-! ### The trim and the slew (R298, R300) -/

section
variable (s : Block) (v : Int)

@[simp] theorem retrim_ks : (retrim s).ks = s.ks := by
  unfold retrim
  dsimp only
  split <;> simp

@[simp] theorem setTrim_ks : (setTrim v s).ks = s.ks := retrim_ks _

@[simp] theorem setSlew_ks : (setSlew v s).ks = { s.ks with slew := v } := retrim_ks _

/-- Of KS_STAT a change of the trim or the slew sets TRIM_LIMIT alone. -/
theorem fld_retrim_apart {f : RF}
    (h : KS_STAT.TRIM_LIMIT.apart f ∧ f.addr ∉ [KS_TRIM_EFF.addr, POL_LAST.addr, LOG_STAT.addr, LOG_HEAD.addr, evtStatusA 1022]) :
    (retrim s).fld f = s.fld f := by
  obtain ⟨hapart, hmem⟩ := h
  simp only [List.mem_cons, List.not_mem_nil, or_false, not_or] at hmem
  obtain ⟨heff, hpol, hstat, hhead, hevt⟩ := hmem
  have hset (e : Nat) (b : Bool) : ((s.setFld KS_TRIM_EFF.EFF e).setFlag KS_STAT.TRIM_LIMIT b).fld f = s.fld f := by
    rw [fld_setFlag_apart _ _ _ _ hapart, fld_setFld_apart _ _ _ _ (.inl (Ne.symm heff))]
  unfold retrim
  dsimp only
  split
  · exact hset _ _
  · rw [(regsBut_raise _ 1022).fld (by simp [hevt]), (regsBut_policyCairn _ _ _ _ _ _).fld (by simp [hpol, hstat, hhead]), hset]

theorem trimOf_setTrim (hlo : -trimMax ≤ v) (hhi : v ≤ trimMax) : trimOf (setTrim v s) = v := by
  unfold trimMax at hlo hhi
  have hword : (setTrim v s).fld KS_TRIM.TRIM = unsgn 32 v % 2 ^ 32 :=
    ((regsBut_retrim _).fld (by decide)).trans (fld_setFld s KS_TRIM.TRIM _ (by decide))
  have hmod : sgn 32 (unsgn 32 v % 2 ^ 32) = sgn 32 (unsgn 32 v) := by simp only [sgn, Nat.mod_mod]
  rw [trimOf, hword, hmod, sgn_unsgn (by decide) (by omega) (by omega)]

theorem slewing_setSlew : (setSlew v s).flag KS_STAT.SLEWING = decide (v ≠ 0) := by
  rw [Block.flag, setSlew, fld_retrim_apart _ (by decide)]
  exact flag_setFlag_same _ _ _ (by decide)

theorem remain_setSlew_zero : (setSlew 0 s).fld KS_SLEW.REMAIN = 0 := by
  rw [setSlew, (regsBut_retrim _).fld (by decide), fld_setFlag_apart _ _ _ _ (by decide), fld_setFld _ _ _ (by decide)]
  rfl

end

/-! ### The discipline (R299) -/

theorem setDisc_of_same (o : Nat) {v : Nat} {s : Block} (h : s.fld KS_CFG.DISC = v) : setDisc o v s = s := if_pos h

theorem setDisc_of_change (o : Nat) {v : Nat} {s : Block} (h : s.fld KS_CFG.DISC ≠ v) : setDisc o v s =
    (setSlew 0 (s.setFld KS_CFG.DISC v)).cairn o 0x0504 KS_CFG.addr (s.reg KS_CFG.addr)
      ((setSlew 0 (s.setFld KS_CFG.DISC v)).reg KS_CFG.addr) := if_neg h

theorem disc_setDisc (o : Nat) {v : Nat} (s : Block) (hv : v < 4) : (setDisc o v s).fld KS_CFG.DISC = v := by
  by_cases h : s.fld KS_CFG.DISC = v
  · rw [setDisc_of_same o h, h]
  · rw [setDisc_of_change o h, (regsBut_cairn _ _ _ _ _ _).fld (by decide), (regsBut_setSlew _ 0).fld (by decide),
      fld_setFld _ _ _ (by decide)]
    exact Nat.mod_eq_of_lt hv

/-- R299: a change of the discipline discards what remains of the slew. -/
theorem slew_setDisc (o v : Nat) (s : Block) : (setDisc o v s).ks.slew = if s.fld KS_CFG.DISC = v then s.ks.slew else 0 := by
  split
  · next h => rw [setDisc_of_same o h]
  · next h => rw [setDisc_of_change o h, cairn_ks, setSlew_ks]

theorem lt_of_discBad_eq_false {s : Block} {v : Nat} (h : discBad s v = false) : v < 4 := by
  simp only [discBad, Bool.or_eq_false_iff, decide_eq_false_iff_not] at h
  omega

/-! ### Alignment and the wrap (R294, R302, R303) -/

section
variable (s : Block)

/-- The counter at its new value, and what elapses shifted with it. -/
def shiftedTo (v : Tick) : Block := shiftTicks (v - s.now) { s with ks := { s.ks with now := v } }

theorem alignKs_eq (o : Nat) (v : Tick) : alignKs o v s =
    ((((shiftedTo s v).setFlag KS_STAT.ALIGNED true).raise 1022).cairnN o 0x0505 (KS_NOW.addr 0) (s.now.toNat % 2 ^ 32)
      (v.toNat % 2 ^ 32)).cairnN o 0x0506 (KS_NOW.addr 1) (s.now.toNat / 2 ^ 32) (v.toNat / 2 ^ 32) := rfl

theorem now_alignKs (o : Nat) (v : Tick) : (alignKs o v s).now = v := by
  rw [alignKs_eq, Block.now, cairnN_ks, cairnN_ks, raise_ks, setFlag_ks]
  rfl

theorem aligned_alignKs (o : Nat) (v : Tick) : (alignKs o v s).flag KS_STAT.ALIGNED = true := by
  rw [alignKs_eq, (regsBut_cairnN _ _ _ _ _ _).flag (by decide), (regsBut_cairnN _ _ _ _ _ _).flag (by decide),
    (regsBut_raise _ 1022).flag (by decide), flag_setFlag_same _ _ _ (by decide)]

theorem evtStatus_alignKs (o : Nat) (v : Tick) : (alignKs o v s).evtStatus 1022 = true := by
  rw [alignKs_eq, evtStatus_cairnN, evtStatus_cairnN, evtStatus_raise, decide_eq_true rfl, Bool.true_or]

/-- The counter at 0, with WRAPPED and its event. -/
def wrapNoted : Block := (({ s with ks := { s.ks with now := 0 } } : Block).setFlag KS_STAT.WRAPPED true).raise 1022

theorem wrapKs_eq : wrapKs s = (wrapNoted s).cairnN oFirmware 0x0508 (KS_NOW.addr 1) 0xFFFFFFFF 0 := rfl

theorem now_wrapKs : (wrapKs s).now = 0 := by
  rw [wrapKs_eq, Block.now, cairnN_ks, wrapNoted, raise_ks, setFlag_ks]

theorem ft_wrapKs : (wrapKs s).ft = s.ft := by
  rw [wrapKs_eq, cairnN_ft, wrapNoted, raise_ft, setFlag_ft]

theorem wrapped_wrapKs : (wrapKs s).flag KS_STAT.WRAPPED = true := by
  rw [wrapKs_eq, (regsBut_cairnN _ _ _ _ _ _).flag (by decide), wrapNoted, (regsBut_raise _ 1022).flag (by decide),
    flag_setFlag_same _ _ _ (by decide)]

theorem evtStatus_wrapKs : (wrapKs s).evtStatus 1022 = true := by
  rw [wrapKs_eq, evtStatus_cairnN, wrapNoted, evtStatus_raise, decide_eq_true rfl, Bool.true_or]

theorem logged_wrapKs (h : s.log.queue.length < 4096) : Logged oFirmware 0x0508 (KS_NOW.addr 1) 0xFFFFFFFF 0 (wrapKs s) :=
  logged_cairnN (wrapNoted s) _ _ _ _ _ (by rwa [wrapNoted, raise_log, setFlag_log])

end

/-! ### The opcodes (R318) -/

@[simp] theorem fabricBound_touchMaintain (c : Carrier) (s : Block) : fabricBound (touchMaintain c s) = fabricBound s := rfl

@[simp] theorem discBad_touchMaintain (c : Carrier) (s : Block) (v : Nat) : discBad (touchMaintain c s) v = discBad s v := rfl

@[simp] theorem anyArmed_touchMaintain (c : Carrier) (s : Block) : anyArmed (touchMaintain c s) = anyArmed s := rfl

section
variable {q : Req} {s : State}

/-- The trim that KS_SET_TRIM gives, with its cairn. -/
def trimGiven (q : Req) (b : Block) : Block :=
  (setTrim (sgn 32 (pNat q 0 4)) b).cairn (originOf q.carrier) 0x0503 KS_TRIM.addr (b.reg KS_TRIM.addr)
    ((setTrim (sgn 32 (pNat q 0 4)) b).reg KS_TRIM.addr)

theorem ksSetTrim_executes (h : AtOnce 2 0 q s.blk) (hlen : q.params.length = 4) (hlo : -trimMax ≤ sgn 32 (pNat q 0 4))
    (hhi : sgn 32 (pNat q 0 4) ≤ trimMax) (hfree : s.blk.fld KS_CFG.DISC = 0) :
    Executes (.ksSetTrim q) q (fun b => (trimGiven q b).reply q 0x0503 stOk []) s := by
  refine executes_of rfl h ?_
  simp [shape_of_length hlen, bad, hfree, hlo, hhi]

theorem ksSetTrim_completes (h : AtOnce 2 0 q s.blk) (hlen : q.params.length = 4) (hlo : -trimMax ≤ sgn 32 (pNat q 0 4))
    (hhi : sgn 32 (pNat q 0 4) ≤ trimMax) (hfree : s.blk.fld KS_CFG.DISC = 0) :
    Completes (.ksSetTrim q) s (fun t => Replied q 0x0503 stOk [] t ∧ trimOf t = sgn 32 (pNat q 0 4) ∧ t.ks = s.blk.ks) := by
  refine completes_of_executes (ksSetTrim_executes h hlen hlo hhi hfree)
    ⟨replied_reply _ q _ _ _ (not_dropped h.notPin h.loud stOk), ?trim, ?ks⟩
  case trim =>
    rw [trimOf, fld_reply, trimGiven, (regsBut_cairn _ _ _ _ _ _).fld (by decide)]
    exact trimOf_setTrim _ _ hlo hhi
  case ks => rw [reply_ks, trimGiven, cairn_ks, setTrim_ks, touchMaintain_ks]

/-- The slew remainder `d` that KS_SLEW leaves, with its cairn. -/
def slewGiven (q : Req) (d : Int) (b : Block) : Block :=
  (setSlew d b).cairn (originOf q.carrier) 0x0507 KS_SLEW.addr (b.reg KS_SLEW.addr) ((setSlew d b).reg KS_SLEW.addr)

theorem reg_slewGiven (q : Req) (d : Int) (b : Block) : (slewGiven q d b).reg KS_SLEW.addr = (setSlew d b).reg KS_SLEW.addr :=
  (regsBut_cairn _ _ _ _ _ _).reg (by decide)

theorem ksSlew_executes {d : Int} (hd : d = s.blk.ks.slew + sgn 32 (pNat q 0 4) * 4294967296) (h : AtOnce 2 4 q s.blk)
    (hlen : q.params.length = 4) (hlo : -(2147483648 * 4294967296) ≤ d) (hhi : d ≤ 2147483647 * 4294967296)
    (hfree : s.blk.fld KS_CFG.DISC = 0) :
    Executes (.ksSlew q) q (fun b => (slewGiven q d b).reply q 0x0504 stOk (wordBytes ((slewGiven q d b).reg KS_SLEW.addr))) s := by
  subst hd
  refine executes_congr (executes_of rfl h ?_) ?_
  · simp only [List.forall_mem_cons, bad, Bool.or_eq_false_iff, decide_eq_false_iff_not, not_lt, not_not, List.not_mem_nil, false_imp_iff,
      implies_true, and_true, ne_eq]
    exact ⟨shape_of_length hlen, ⟨hlo, hhi⟩, hfree⟩
  · rw [reg_slewGiven]
    rfl

theorem ksSlew_completes {d : Int} (hd : d = s.blk.ks.slew + sgn 32 (pNat q 0 4) * 4294967296) (h : AtOnce 2 4 q s.blk)
    (hlen : q.params.length = 4) (hlo : -(2147483648 * 4294967296) ≤ d) (hhi : d ≤ 2147483647 * 4294967296)
    (hfree : s.blk.fld KS_CFG.DISC = 0) :
    Completes (.ksSlew q) s (fun t => Replied q 0x0504 stOk (wordBytes (t.reg KS_SLEW.addr)) t ∧ t.ks.slew = d ∧
      t.flag KS_STAT.SLEWING = decide (d ≠ 0) ∧ t.now = s.blk.now) := by
  refine completes_of_executes (ksSlew_executes hd h hlen hlo hhi hfree) ⟨?reply, ?slew, ?slewing, ?now⟩
  case reply =>
    rw [reg_reply]
    exact replied_reply _ q _ _ _ (not_dropped h.notPin h.loud stOk)
  case slew => rw [reply_ks, slewGiven, cairn_ks, setSlew_ks]
  case slewing => rw [flag_reply, slewGiven, (regsBut_cairn _ _ _ _ _ _).flag (by decide), slewing_setSlew]
  case now => rw [Block.now, reply_ks, slewGiven, cairn_ks, setSlew_ks]; rfl

/-- The value that KS_ALIGN steps to: the one given, or that many ticks on. -/
def alignTarget (q : Req) (b : Block) : Tick := if pByte q 0 = 0 then BitVec.ofNat 64 (pNat q 4 8) else b.now + BitVec.ofNat 64 (pNat q 4 8)

theorem ksAlign_executes (h : AtOnce 2 16 q s.blk) (hq : Shaped q 12 [1, 2, 3]) (h1 : pByte q 0 ≤ 1) (hidle : anyArmed s.blk = false)
    (hfree : s.blk.fld KS_CFG.DISC = 0) (htake : s.blk.takeOpen = false) :
    Executes (.ksAlign q) q (fun b => (alignKs (originOf q.carrier) (alignTarget q b) b).reply q 0x0505 stOk
      (leBytes 8 b.now.toNat ++ leBytes 8 (alignTarget q b).toNat)) s := by
  refine executes_of rfl h ?_
  simp [shape_of_shaped hq, bad, hidle, hfree, htake, h1]

theorem ksSetDisc_executes {v : Nat} (hv : v = pByte q 0) (h : AtOnce 2 0 q s.blk) (hq : Shaped q 4 [1, 2, 3])
    (hok : discBad s.blk v = false) (hbound : fabricBound s.blk = true → v = 2) :
    Executes (.ksSetDisc q) q (fun b => (setDisc (originOf q.carrier) v b).reply q 0x0506 stOk []) s := by
  subst hv
  refine executes_of rfl h ?_
  simpa [shape_of_shaped hq, bad, hok] using hbound

end

/-- Settles O22: each request passes its checks, and its body is the trim, the slew, the alignment or the discipline, whose fields are
read off. -/
theorem keystoneCommands : Obligations.KeystoneCommands := by
  refine fun q s => ⟨ksSetTrim_completes, fun d => ksSlew_completes, ?align, ?disc⟩
  case align =>
    rintro v rfl h hq h1 hidle hfree htake
    refine completes_of_executes (ksAlign_executes h hq h1 hidle hfree htake)
      ⟨replied_reply _ q _ _ _ (not_dropped h.notPin h.loud stOk), ?_, ?_, ?_⟩
    · rw [Block.now, reply_ks]
      exact now_alignKs _ _ _
    · rw [flag_reply, aligned_alignKs]
    · rw [evtStatus_reply, evtStatus_alignKs]
  case disc =>
    intro v hv h hq hok hbound
    refine completes_of_executes (ksSetDisc_executes hv h hq hok hbound)
      ⟨replied_reply _ q _ _ _ (not_dropped h.notPin h.loud stOk), ?_, ?_⟩
    · rw [fld_reply, disc_setDisc _ _ (lt_of_discBad_eq_false hok)]
    · rw [reply_ks, slew_setDisc, touchMaintain_fld, touchMaintain_ks]

end Sys2Proof.Machine
end

section
/-! The rows of the keystone: its wrap, the end of a slew, chained arming, and compare channels that fire in time or late (R294, R300, R305 to
R308, R310). -/

namespace Sys2Proof.Machine

/-! ### The counter and the slew (R294, R300) -/

section
variable {s : State}

theorem keystoneWrap_becomes (hnow : s.blk.now = BitVec.ofNat 64 (2 ^ 64 - 1)) (hrun : s.blk.ks.stopped = false) :
    Becomes .keystoneWrap s (wrapKs s.blk) := by
  refine becomes_of_eq rfl (if_pos ?_)
  rw [decide_eq_true hnow, hrun]
  rfl

theorem keystoneWrap_stays (hnow : s.blk.now ≠ BitVec.ofNat 64 (2 ^ 64 - 1)) : Becomes .keystoneWrap s s.blk := by
  refine becomes_of_eq rfl (if_neg ?_)
  rw [decide_eq_false hnow]
  exact Bool.false_ne_true

theorem slewEnd_becomes (hslew : s.blk.ks.slew ≠ 0) (hlast : s.blk.ks.slew = slewPart s.blk) : Becomes .slewEnd s (setSlew 0 s.blk) :=
  becomes_of_eq rfl (if_pos ⟨hslew, hlast⟩)

theorem slewEnd_stays (hslew : s.blk.ks.slew = 0) : Becomes .slewEnd s s.blk := becomes_of_eq rfl (if_neg fun h => h.1 hslew)

end

/-! ### A chain target is armed (R307, R308) -/

/-- Channel `i` with its chain entry taken; it starts without MISSED where it was not armed. -/
def chainTaken (i : Nat) (s : Block) : Block :=
  let t : Block := { s with ks := { s.ks with chains := smDel s.ks.chains i } }
  if armedCh s i then t else t.setFld (KS_CH_STAT.MISSED i) 0

theorem chanBut_chainTaken (i : Nat) (s : Block) : ChanBut i [5] s (chainTaken i s) := by
  have hks : ChanBut i [] s { s with ks := { s.ks with chains := smDel s.ks.chains i } } := fun _ _ => rfl
  unfold chainTaken
  dsimp only
  split
  · exact fun k _ => hks k List.not_mem_nil
  · exact hks.append (chanBut_setFld i _ (f := KS_CH_STAT.MISSED i) 0 rfl)

theorem chains_chainTaken (i : Nat) (s : Block) : (chainTaken i s).ks.chains = smDel s.ks.chains i := by
  unfold chainTaken
  dsimp only
  split <;> rfl

theorem chains_armChan (i : Nat) (a : Tick) (s : Block) : (armChan i a s).ks.chains = s.ks.chains := rfl

theorem perOf_armChan (i : Nat) (a : Tick) (s : Block) : perOf (armChan i a s) i = perOf s i :=
  (chanBut_armChan i s a).fld (k := 3) rfl (by decide)

theorem chainArm_becomes {i : BitVec 6} {t : Tick} {s : State}
    (hfind : s.blk.ks.chains.find? (fun e => decide (e.1 = i.toNat)) = some (i.toNat, t)) (hnow : s.blk.now = t + 1) :
    Becomes (.chainArm i) s (armChan i.toNat t (chainTaken i.toNat s.blk)) := by
  refine (onBlock_next ?_ : execChainArm i s = _)
  dsimp only
  rw [hfind]
  exact if_pos hnow

theorem chainArm_completes {i : BitVec 6} {t : Tick} {s : State}
    (hfind : s.blk.ks.chains.find? (fun e => decide (e.1 = i.toNat)) = some (i.toNat, t)) (hnow : s.blk.now = t + 1) :
    Completes (.chainArm i) s (fun u => armedCh u i.toNat = true ∧ smHas u.ks.chains i.toNat = false ∧
      cmpOf u i.toNat = (if u.flag (KS_CH_CTL.REL i.toNat) then t + BitVec.ofNat 64 (perOf u i.toNat) else cmpOf s.blk i.toNat)) := by
  refine completes_of_becomes (chainArm_becomes hfind hnow) ⟨armedCh_armChan _ _ _, ?chain, ?cmp⟩
  case chain =>
    rw [chains_armChan, chains_chainTaken, smHas_smDel, decide_eq_true rfl]
    rfl
  case cmp =>
    rw [cmpOf_armChan, rel_armChan, perOf_armChan, armPoint, (chanBut_chainTaken _ s.blk).cmpOf (by decide) (by decide)]

/-! ### MATCH (R310, R315) -/

theorem ChanBut.matchOf {i : Nat} {ks : List Nat} {s t : Block} (h : ChanBut i ks s t) (hlo : 6 ∉ ks) (hhi : 7 ∉ ks) :
    matchOf t i = matchOf s i := by
  unfold Machine.matchOf
  rw [h.fld (f := KS_CH_MATCH_LO.MATCH i) rfl hlo, h.fld (f := KS_CH_MATCH_HI.MATCH i) rfl hhi]

section
variable (i : Nat) (s : Block)

theorem matchOf_setMatch (t : Tick) : matchOf (setMatch i t s) i = t.toNat := by
  have hkeep := (chanBut_setFld i (s.setFld (KS_CH_MATCH_LO.MATCH i) (t.toNat % 2 ^ 32)) (f := KS_CH_MATCH_HI.MATCH i) (k := 7)
    (t.toNat / 2 ^ 32) rfl).fld (f := KS_CH_MATCH_LO.MATCH i) (k := 6) rfl (by decide)
  rw [matchOf, setMatch, hkeep, fld_setFld s (KS_CH_MATCH_LO.MATCH i) _ le_rfl, fld_setFld _ (KS_CH_MATCH_HI.MATCH i) _ le_rfl]
  simp only [KS_CH_MATCH_LO.MATCH, KS_CH_MATCH_HI.MATCH]
  have := t.isLt
  omega

/-- What waits for an occurrence notes it; of the registers only the engines' MISS bits can change. -/
theorem reg_occurAll (src : Src) (t : Tick) {a : Nat} (ha : a % 0x10000 ≠ 8) : (occurAll src t s).reg a = s.reg a := by
  refine foldl_keeps (g := fun u => Block.reg u a) (fun u k => ?_) _ _
  split
  · exact reg_occur _ _ _ _ _ ha
  · rfl

theorem matchOf_occurAll (src : Src) (t : Tick) : matchOf (occurAll src t s) i = matchOf s i := by
  have hlo : KS_CH_MATCH_LO.addr i % 0x10000 ≠ 8 := by
    rw [KS_CH_MATCH_LO.addr]
    omega
  have hhi : KS_CH_MATCH_HI.addr i % 0x10000 ≠ 8 := by
    rw [KS_CH_MATCH_HI.addr]
    omega
  rw [matchOf, fld_congr s _ (KS_CH_MATCH_LO.MATCH i) (reg_occurAll s src t hlo),
    fld_congr s _ (KS_CH_MATCH_HI.MATCH i) (reg_occurAll s src t hhi), matchOf]

theorem evtStatus_occurAll (src : Src) (t : Tick) {e : Nat} (hlo : 96 ≤ e) (hhi : e < 1024) : (occurAll src t s).evtStatus e = s.evtStatus e :=
  evtStatus_congr _ _ _ (reg_occurAll s src t (by rw [evtStatusA_eq]; omega))

end

/-! ### A channel fires (R305, R307, R310) -/

section
variable (i : Nat) (s : Block)

/-- A firing ends with MATCH and the occurrence, and one that is late has raised its event before. -/
theorem channelTargets_ends (late : Bool) : ∃ u, channelTargets i late s = occurAll (.compare i) s.now (setMatch i s.now u) ∧
    (late = true → u.evtStatus (840 + i) = true) := by
  refine ⟨_, rfl, fun h => ?_⟩
  rw [h, Bool.or_true, if_pos rfl, evtStatus_raise, decide_eq_true rfl, Bool.true_or]

theorem matchOf_channelTargets (late : Bool) : matchOf (channelTargets i late s) i = s.now.toNat := by
  obtain ⟨u, hu, -⟩ := channelTargets_ends i s late
  rw [hu, matchOf_occurAll, matchOf_setMatch]

theorem matchAddr_lt (hi : i < 64) : KS_CH_MATCH_LO.addr i < 0x2800000 ∧ KS_CH_MATCH_HI.addr i < 0x2800000 := by
  simp only [KS_CH_MATCH_LO.addr, KS_CH_MATCH_HI.addr]
  omega

theorem evtStatus_setMatch (t : Tick) (e : Nat) (hi : i < 64) : (setMatch i t s).evtStatus e = s.evtStatus e := by
  obtain ⟨hlo, hhi⟩ := matchAddr_lt i hi
  rw [setMatch, evtStatus_setFld _ _ _ _ hhi, evtStatus_setFld _ _ _ _ hlo]

theorem evtStatus_channelTargets_late (hi : i < 64) : (channelTargets i true s).evtStatus (840 + i) = true := by
  obtain ⟨u, hu, hraised⟩ := channelTargets_ends i s true
  rw [hu, evtStatus_occurAll _ _ _ (by omega) (by omega), evtStatus_setMatch _ _ _ _ hi, hraised rfl]

theorem chanBut_disarmChan : ChanBut i [0] s (disarmChan i s) := (chanBut_setArmed i s false).append fun _ _ => rfl

theorem armedCh_disarmChan : armedCh (disarmChan i s) i = false := armedCh_setArmed i s false

theorem evtStatus_disarmChan (e : Nat) (hi : i < 64) : (disarmChan i s).evtStatus e = s.evtStatus e := by
  have hctl : (KS_CH_CTL.ARMED i).addr < 0x2800000 := by
    simp only [KS_CH_CTL.ARMED, KS_CH_CTL.addr]
    omega
  have hpair : KS_ARMED.addr 0 + 4 * (i / 32) < 0x2800000 := by
    simp only [KS_ARMED.addr]
    omega
  rw [disarmChan, evtStatus_mk, setArmed, setPairBit, evtStatus_setReg _ _ _ _ hpair, evtStatus_setFlag _ _ _ _ hctl]

theorem matchOf_fireChannel : matchOf (fireChannel i s) i = s.now.toNat := by
  rw [← matchOf_channelTargets i s false]
  unfold fireChannel
  dsimp only
  split
  · rfl
  · exact (chanBut_disarmChan i _).matchOf (by decide) (by decide)

theorem armedCh_fireChannel (h : s.flag (KS_CH_CTL.REPEAT i) = false) : armedCh (fireChannel i s) i = false := by
  unfold fireChannel
  dsimp only
  rw [if_neg (ne_true_of_eq_false h)]
  exact armedCh_disarmChan i _

/-! ### A channel fires late (R306) -/

/-- A late firing's targets, and its entry among the late ones taken. -/
def lateFired (i : Nat) (s : Block) : Block :=
  let t := channelTargets i true (setLate i true s)
  { t with ks := { t.ks with late := smDel t.ks.late i } }

theorem lateFired_fields (hi : i < 64) : matchOf (lateFired i s) i = s.now.toNat ∧ (lateFired i s).evtStatus (840 + i) = true :=
  ⟨matchOf_channelTargets i (setLate i true s) true, evtStatus_channelTargets_late i (setLate i true s) hi⟩

/-- A channel that repeats counts the points missed and goes on; another is disarmed. -/
theorem fireLate_cases : (∃ (n : Nat) (ks : KsState), fireLate i s = { (lateFired i s).satFld (KS_CH_STAT.MISSED i) n with ks := ks }) ∨
    fireLate i s = disarmChan i (lateFired i s) := by
  unfold fireLate
  dsimp only
  split
  · exact .inl ⟨_, _, rfl⟩
  · exact .inr rfl

theorem matchOf_fireLate (hi : i < 64) : matchOf (fireLate i s) i = s.now.toNat := by
  rw [← (lateFired_fields i s hi).1]
  obtain ⟨n, ks, h⟩ | h := fireLate_cases i s
  · rw [h]
    exact (chanBut_setFld i _ (f := KS_CH_STAT.MISSED i) (k := 5) _ rfl).matchOf (by decide) (by decide)
  · rw [h, (chanBut_disarmChan i _).matchOf (by decide) (by decide)]

theorem evtStatus_fireLate (hi : i < 64) : (fireLate i s).evtStatus (840 + i) = true := by
  have hstat : (KS_CH_STAT.MISSED i).addr < 0x2800000 := by
    simp only [KS_CH_STAT.MISSED, KS_CH_STAT.addr]
    omega
  rw [← (lateFired_fields i s hi).2]
  obtain ⟨n, ks, h⟩ | h := fireLate_cases i s
  · rw [h, evtStatus_mk, Block.satFld, evtStatus_setFld _ _ _ _ hstat]
  · rw [h, evtStatus_disarmChan _ _ _ hi]

end

/-! ### The compare rows (R305, R306) -/

section
variable {i : BitVec 6} {s : State}

theorem compareFire_becomes_mark {m : MarkAt}
    (hmark : s.blk.ft.sched.find? (fun m => decide (m.tick = s.blk.now) && decide (m.mark.chan = i.toNat)) = some m) :
    Becomes (.compareFire i) s (fireMark m s.blk) := by
  refine (onBlock_next ?_ : execCompareFire i s = _)
  dsimp only
  rw [hmark]

variable (harmed : armedCh s.blk i.toNat = true)
include harmed

theorem compareFire_becomes_channel
    (hnone : s.blk.ft.sched.find? (fun m => decide (m.tick = s.blk.now) && decide (m.mark.chan = i.toNat)) = none)
    (hown : chanOwned s.blk i.toNat = false) (hlate : smHas s.blk.ks.late i.toNat = false) (hpoint : pointOf s.blk i.toNat = s.blk.now) :
    Becomes (.compareFire i) s (fireChannel i.toNat s.blk) := by
  refine (onBlock_next ?_ : execCompareFire i s = _)
  dsimp only
  rw [hnone]
  simp only [harmed, hown, hlate, hpoint, decide_true, Bool.not_false, Bool.and_self, if_true]

theorem compareLateFire_becomes {t : Tick} (hlate : s.blk.ks.late.find? (fun e => decide (e.1 = i.toNat)) = some (i.toNat, t))
    (hnow : s.blk.now = t + 1) : Becomes (.compareLateFire i) s (fireLate i.toNat s.blk) := by
  refine becomes_of_eq rfl (if_pos ?_)
  rw [harmed, hlate]
  exact decide_eq_true hnow

end

/-- Settles O31: each row is the wrap, the end of the slew, the arming or the firing that its premises select, whose fields are read off. -/
theorem keystoneEvents : Obligations.KeystoneEvents := by
  refine ⟨fun s => ⟨fun hnow hrun hlog => ?wrap, keystoneWrap_stays, fun hslew hlast => ?slew, slewEnd_stays,
    fun i t => chainArm_completes⟩, ?fires⟩
  case wrap =>
    exact completes_of_becomes (keystoneWrap_becomes hnow hrun)
      ⟨now_wrapKs _, wrapped_wrapKs _, evtStatus_wrapKs _, ft_wrapKs _, logged_wrapKs _ hlog⟩
  case slew =>
    refine completes_of_becomes (slewEnd_becomes hslew hlast) ⟨?_, slewing_setSlew _ 0, remain_setSlew_zero _, ?_⟩
    · rw [setSlew_ks]
    · rw [Block.now, setSlew_ks, Block.now]
  case fires =>
    rintro i k s rfl harmed
    exact ⟨fun hnone hown hlate hpoint => ⟨compareFire_becomes_channel harmed hnone hown hlate hpoint, matchOf_fireChannel _ _,
        armedCh_fireChannel _ _⟩,
      fun m => compareFire_becomes_mark,
      fun t hlate hnow => ⟨compareLateFire_becomes harmed hlate hnow, matchOf_fireLate _ _ i.isLt, evtStatus_fireLate _ _ i.isLt⟩⟩

end Sys2Proof.Machine
end

section
/-! What leaves the frame memory's state as it was: grants, frame flags, error responses, lost extents and a retired channel's monitor
(R332, R342, R345, R347). -/

namespace Sys2Proof.Machine

/-! ### The frame memory's words and the events' status bits -/

/-- The words that tell the channels in service and the state, counts and errors of each channel (R349, R352, R353). -/
abbrev MemWord (a : Nat) : Prop := a = MC_STAT.addr ∨ 0x2101000 ≤ a ∧ a < 0x2102000

/-- The words of the events' status bits (R612). -/
abbrev StatusWord (a : Nat) : Prop := 0x2800000 ≤ a ∧ a < 0x2800080

/-- A word apart from both. -/
abbrev Elsewhere (a : Nat) : Prop := ¬ MemWord a ∧ ¬ StatusWord a

/-- The frame memory's words and what no register shows of it are as before, and no status bit of an event is cleared. -/
structure MemKept (s t : Block) : Prop where
  reg : ∀ a, MemWord a → t.reg a = s.reg a
  events : ∀ e, e < 1024 → s.evtStatus e = true → t.evtStatus e = true
  mc : t.mc = s.mc
  ks : t.ks = s.ks

namespace MemKept

variable {s t u : Block}

theorem fld (h : MemKept s t) {f : RF} (hf : MemWord f.addr) : t.fld f = s.fld f := fld_congr _ _ _ (h.reg _ hf)

theorem flag (h : MemKept s t) {f : RF} (hf : MemWord f.addr) : t.flag f = s.flag f := flag_congr _ _ _ (h.reg _ hf)

theorem inService (h : MemKept s t) : inService t = inService s := by
  unfold Machine.inService
  rw [h.reg MC_STAT.IN_SERVICE.addr (.inl rfl)]

theorem refl (s : Block) : MemKept s s := ⟨fun _ _ => rfl, fun _ _ h => h, rfl, rfl⟩

theorem trans (h : MemKept s t) (h' : MemKept t u) : MemKept s u :=
  ⟨fun a ha => (h'.reg a ha).trans (h.reg a ha), fun e he hs => h'.events e he (h.events e he hs), h'.mc.trans h.mc, h'.ks.trans h.ks⟩

theorem of_regs (hregs : t.regs = s.regs) (hmc : t.mc = s.mc) (hks : t.ks = s.ks) : MemKept s t :=
  ⟨fun a _ => reg_of_regs hregs a, fun e _ h => (evtStatus_congr s t e (reg_of_regs hregs _)).trans h, hmc, hks⟩

theorem of_regsBut {l : List Nat} (h : RegsBut l s t) (hl : ∀ a ∈ l, Elsewhere a) (hmc : t.mc = s.mc) (hks : t.ks = s.ks) :
    MemKept s t where
  reg a ha := h.reg fun hm => (hl a hm).1 ha
  events e he hs := (h.evtStatus fun hm => (hl _ hm).2 (by rw [evtStatusA_eq]; omega)).trans hs
  mc := hmc
  ks := hks

theorem ite {c : Prop} [Decidable c] (ht : MemKept s t) (hu : MemKept s u) : MemKept s (if c then t else u) := by
  split <;> assumption

theorem foldl {α : Type} {f : Block → α → Block} {l : List α} (h : ∀ x ∈ l, ∀ t, MemKept t (f t x)) (s : Block) :
    MemKept s (l.foldl f s) := by
  induction l generalizing s with
  | nil => exact refl s
  | cons x l ih => exact (h x List.mem_cons_self s).trans (ih (fun y hy => h y (List.mem_cons_of_mem x hy)) _)

end MemKept

section
variable (s : Block)

theorem memKept_setFld {f : RF} (v : Nat) (h : Elsewhere f.addr) : MemKept s (s.setFld f v) :=
  .of_regsBut (regsBut_setFld s f v) (fun _ ha => List.mem_singleton.mp ha ▸ h) rfl rfl

theorem memKept_setFlag {f : RF} (b : Bool) (h : Elsewhere f.addr) : MemKept s (s.setFlag f b) := memKept_setFld s _ h

theorem memKept_raise (e : Nat) : MemKept s (s.raise e) where
  reg a ha := (regsBut_raise s e).reg fun hm => by
    rw [List.mem_singleton.mp hm, evtStatusA_eq, MemWord, MC_STAT.addr] at ha
    omega
  events d _ hd := by rw [evtStatus_raise, hd, Bool.or_true]
  mc := raise_mc s e
  ks := raise_ks s e

theorem memKept_cairnN (o k a x y : Nat) : MemKept s (s.cairnN o k a x y) :=
  .of_regsBut (regsBut_cairnN s o k a x y) (by decide) (cairnN_mc ..) (cairnN_ks ..)

theorem memKept_policyCairn (c k a x y : Nat) : MemKept s (s.policyCairn c k a x y) :=
  .of_regsBut (regsBut_policyCairn s c k a x y) (by decide) (policyCairn_mc ..) (policyCairn_ks ..)

/-! ### Grants, depth, containment and plans -/

/-- The grants change no word of a channel (R332). -/
theorem memKept_regrant : MemKept s (regrant s) := by
  unfold regrant
  split
  · exact .refl s
  · refine .foldl (fun q hq t => ?_) s
    have hgrant (v : Nat) : MemKept t (t.setFld (MC_REG1.GRANTED q) v) := by
      refine memKept_setFld t v ?_
      have hport : q < 11 := List.mem_range.mp hq
      show Elsewhere (MC_REG1.addr q)
      rw [Elsewhere, MemWord, StatusWord, MC_REG1.addr, MC_STAT.addr]
      omega
    exact .ite (.refl t) (.ite (hgrant _) (((hgrant _).trans (memKept_policyCairn ..)).trans (memKept_raise ..)))

theorem memKept_updateDepth (origin : Option Nat) : MemKept s (updateDepth origin s) := by
  have hlimit (b : Bool) : MemKept s { s with rcd := { s.rcd with depth := depthOf s }, rsv := { s.rsv with limited := b } } :=
    .of_regs rfl rfl rfl
  have hraised (c b : Bool) := MemKept.ite (c := c = true) ((hlimit b).trans (memKept_raise _ 952)) (hlimit b)
  have hword (c b : Bool) (d : Nat) := (hraised c b).trans (memKept_setFld (f := REC_DEPTH.DEPTH) _ d (by decide))
  cases origin with
  | none => exact .ite (hraised _ _) (((hword _ _ _).trans (memKept_policyCairn ..)).trans (memKept_raise ..))
  | some o => exact .ite (hraised _ _) (((hword _ _ _).trans (memKept_cairnN ..)).trans (memKept_raise ..))

theorem memKept_contain (k : Nat) : MemKept s (s.contain k) := by
  have hdraw (c : Prop) [Decidable c] : MemKept s (if c then s else s.draw) := .ite (.refl s) (.of_regs rfl rfl rfl)
  have hwords (t : Block) (a b c d : Nat) :
      MemKept t ((((t.setFld FLT_STAT.KIND a).incFld FLT_STAT.COUNT b).setFld FLT_INTR.LAST c).setFld FLT_INTR.MAX d) :=
    (((memKept_setFld t a (by decide)).trans (memKept_setFld _ _ (by decide))).trans (memKept_setFld _ c (by decide))).trans
      (memKept_setFld _ d (by decide))
  exact (((hdraw _).trans (hwords _ _ _ _ _)).trans (memKept_raise ..)).trans (.of_regs rfl rfl rfl)

theorem memKept_startPlan : MemKept s (startPlan s) :=
  .of_regsBut (regsBut_startPlan s) (by decide) (by unfold startPlan; split <;> rfl) (by unfold startPlan; split <;> rfl)

/-! ### Frame and course flags, slots and contexts -/

theorem memKept_flagEffects (b : Nat) : MemKept s (s.flagEffects b) := by
  have hbit (f : RF) (h : f.addr = REC_STAT.addr) : MemKept s (s.setFlag f true) := memKept_setFlag s true (by rw [h]; decide)
  have hevent (f : RF) (h : f.addr = REC_STAT.addr) (e : Nat) : MemKept s ((s.setFlag f true).raise e) := (hbit f h).trans (memKept_raise _ e)
  have hfirst : MemKept s ((s.setFlag REC_STAT.CLAMP true).raiseFirst 799) := (hbit _ rfl).trans (.ite (.refl _) (memKept_raise ..))
  exact .ite (hevent _ rfl _) (.ite (hevent _ rfl _) (.ite (hbit _ rfl) (.ite (hevent _ rfl _) (.ite (hevent _ rfl _) (.ite (hevent _ rfl _)
    (.ite hfirst (.ite (hbit _ rfl) (.refl s))))))))

theorem memKept_onFrame (n : Nat) (g : FrameRec → FrameRec) : MemKept s (s.onFrame n g) := .of_regs rfl rfl rfl

theorem memKept_mark (n b : Nat) : MemKept s (s.mark n b) := by
  unfold Block.mark
  split
  · exact .ite (.refl s) ((memKept_onFrame s n _).trans (memKept_flagEffects _ b))
  · exact .refl s

theorem memKept_marks (n : Nat) (l : List Nat) : MemKept s (s.marks n l) := .foldl (fun b _ t => memKept_mark t n b) s

theorem memKept_onSlot (n : Nat) (g : Slot → Slot) : MemKept s (s.onSlot n g) := .of_regs rfl rfl rfl

theorem memKept_flagCourse (n q col : Nat) (bits : Byte) : MemKept s (s.flagCourse n q col bits) := .of_regs rfl rfl rfl

theorem memKept_onCtx (x : Nat) (g : MonCtx → MonCtx) : MemKept s (s.onCtx x g) := .of_regs rfl rfl rfl

/-! ### Error responses, lost extents and the monitor's rebuild -/

theorem memKept_damageSlot (n r o : Nat) : MemKept s (damageSlot n r o s) := by
  have hslot := memKept_onSlot s n fun l => { l with damaged := (l.damaged ++ [(r, o)]).take 16, damageCount := satAdd 65535 l.damageCount 1 }
  refine .trans (.trans hslot ?_) (memKept_mark _ n fDamaged)
  split
  · exact .ite (.foldl (fun q _ t => memKept_flagCourse t n q _ _) _) (.refl _)
  · exact .refl _

theorem memKept_errorEffect (r q pa : Nat) : MemKept s (errorEffect r q pa s) := by
  have hcontexts (c : Block → Nat → Prop) [∀ t x, Decidable (c t x)] : MemKept s (((List.range 4).foldl (fun t x =>
      if c t x then t.onCtx x (fun k => { k with memErr := true }) else t) s).raise 987) :=
    (MemKept.foldl (fun x _ t => .ite (memKept_onCtx t x _) (.refl t)) s).trans (memKept_raise ..)
  unfold errorEffect
  split
  · exact .ite (memKept_damageSlot ..) (.ite (memKept_mark ..) (.ite (hcontexts _) (.refl s)))
  · exact .ite (hcontexts _) (.refl s)

theorem memKept_loseExtent (r : Nat) (l : Slot) : MemKept s (loseExtent r l s) := by
  unfold loseExtent
  split
  · exact .refl s
  · have hfilled (qs : List Nat) : MemKept s (fillCourses l.frame r qs (bit8 cDamaged) s) :=
      .foldl (fun q _ t => memKept_flagCourse t _ q _ _) s
    exact .ite ((memKept_onSlot ..).trans (memKept_mark ..)) (.ite (hfilled _) ((hfilled _).trans (memKept_marks ..)))

theorem memKept_monRebuild (r : Nat) : MemKept s (monRebuild r s) := by
  have hsync (t : Block) : MemKept t (syncMon t) :=
    ((memKept_setFld t _ (by decide)).trans (memKept_setFld _ _ (by decide))).trans (memKept_setFlag _ _ (by decide))
  exact ((((MemKept.foldl (fun x _ t => memKept_onCtx t x _) s).trans (hsync _)).trans (memKept_setFlag _ _ (by decide))).trans
    (memKept_raise ..)).trans (memKept_policyCairn ..)

end

end Sys2Proof.Machine
end

section
/-! The frame memory by itself: rows, refreshes, die temperatures, passes, data rates, uncorrectable accesses and retirement (R328, R333 to
R336, R338 to R340, R342, R344, R345). -/

namespace Sys2Proof.Machine

/-! ### Fields of a channel's words -/

/-- Fields of one word are apart by their places in it. -/
theorem apart_of_bits {f g : RF} (h : ((f.lo + f.width).ble g.lo || (g.lo + g.width).ble f.lo) = true) : f.apart g :=
  .inr ((Bool.or_eq_true _ _).mp h |>.imp Nat.le_of_ble_eq_true Nat.le_of_ble_eq_true)

/-- Words at different places of one channel are apart. -/
theorem apart_of_words {f g : RF} {a b k : Nat} (hf : f.addr = a + 0x100 * k) (hg : g.addr = b + 0x100 * k) (h : a ≠ b) : f.apart g :=
  .inl (by rw [hf, hg]; omega)

theorem memWord_channel {a k : Nat} (hk : k < 8) (ha : a < 0x100) : MemWord (0x2101000 + a + 0x100 * k) := .inr (by omega)

section
variable {k : Nat} (hk : k < 8)
include hk

theorem memWord_stat : MemWord (MC_CH_STAT.addr k) := memWord_channel (a := 0) hk (by decide)

theorem memWord_ecc : MemWord (MC_CH_ECC.addr k) := memWord_channel (a := 4) hk (by decide)

theorem memWord_errLo : MemWord (MC_CH_ERR_LO.addr k) := memWord_channel (a := 12) hk (by decide)

theorem memWord_errHi : MemWord (MC_CH_ERR_HI.addr k) := memWord_channel (a := 16) hk (by decide)

theorem chStat_lt : MC_CH_STAT.addr k < 0x2800000 := by
  rw [MC_CH_STAT.addr]
  omega

end

theorem evtStatus_raise_self (s : Block) (e : Nat) : (s.raise e).evtStatus e = true := by
  rw [evtStatus_raise, decide_eq_true rfl, Bool.true_or]

theorem mem_inService {s : Block} {j : Nat} : j ∈ inService s ↔ j < 8 ∧ (s.reg MC_STAT.addr).getLsbD j = true := by
  rw [inService, List.mem_filter, List.mem_range]
  rfl

theorem not_contains_of_mem {l : List Nat} {k : Nat} (h : k ∈ l) : ¬ (!l.contains k) = true := by simpa using h

theorem not_contains_of_not_mem {l : List Nat} {k : Nat} (h : k ∉ l) : (!l.contains k) = true := by simpa using h

/-! ### Rows and refreshes (R328, R334) -/

section
variable (k : Nat) (s : Block)

theorem closed_closeRows : ∀ e ∈ (closeRows k s).mc.openRows, e.1 / 32 ≠ k := fun _ he => of_decide_eq_true (List.mem_filter.mp he).2

theorem owedLimit_le (band : Nat) : owedLimit band ≤ 8 := by
  unfold owedLimit
  split_ifs <;> decide

end

section
variable {r : BitVec 3} {s : State}

theorem pageIdleTimeout_completes (bank : BitVec 5) : Completes (.pageIdleTimeout r bank) s (fun t =>
    smGet 0 t.mc.openRows (r.toNat * 32 + bank.toNat) = 0 ∧
      (∀ j, j ≠ r.toNat * 32 + bank.toNat → smGet 0 t.mc.openRows j = smGet 0 s.blk.mc.openRows j) ∧ t.regs = s.blk.regs) :=
  completes_of_becomes rfl ⟨(smGet_smDel ..).trans (if_pos rfl), fun _ hj => (smGet_smDel ..).trans (if_neg hj), rfl⟩

theorem refreshDue_stays (busy : Bool) (hout : r.toNat ∉ inService s.blk) : Becomes (.refreshDue r busy) s s.blk :=
  (onBlock_next (if_pos (not_contains_of_not_mem hout)) : execRefreshDue r busy s = _)

theorem refreshDue_owes (hin : r.toNat ∈ inService s.blk)
    (hlow : s.blk.fld (MC_CH_STAT.OWED r.toNat) < owedLimit (s.blk.fld (MC_CH_STAT.RBAND r.toNat))) :
    Completes (.refreshDue r true) s (fun t => t.fld (MC_CH_STAT.OWED r.toNat) = s.blk.fld (MC_CH_STAT.OWED r.toNat) + 1 ∧ t.mc = s.blk.mc) := by
  have hx : Becomes (.refreshDue r true) s (s.blk.incFld (MC_CH_STAT.OWED r.toNat) 1) := by
    refine (onBlock_next ?_ : execRefreshDue r true s = _)
    exact (if_neg (not_contains_of_mem hin)).trans (if_pos (decide_eq_true hlow))
  refine completes_of_becomes hx ⟨(fld_setFld _ _ _ (Nat.le_of_ble_eq_true rfl)).trans (Nat.mod_eq_of_lt ?_), rfl⟩
  have hlimit := owedLimit_le (s.blk.fld (MC_CH_STAT.RBAND r.toNat))
  show _ < 16
  omega

theorem refreshDue_closes {busy : Bool} (hin : r.toNat ∈ inService s.blk)
    (hnow : busy = false ∨ owedLimit (s.blk.fld (MC_CH_STAT.RBAND r.toNat)) ≤ s.blk.fld (MC_CH_STAT.OWED r.toNat)) :
    Becomes (.refreshDue r busy) s (closeRows r.toNat s.blk) := by
  refine (onBlock_next ?_ : execRefreshDue r busy s = _)
  refine (if_neg (not_contains_of_mem hin)).trans (if_neg ?_)
  rw [Bool.and_eq_true, decide_eq_true_eq]
  rintro ⟨rfl, hlow⟩
  rcases hnow with hnow | hnow
  · cases hnow
  · omega

theorem refreshPayback_completes : Completes (.refreshPayback r) s (fun t => t.fld (MC_CH_STAT.OWED r.toNat) = 0 ∧
    (s.blk.fld (MC_CH_STAT.OWED r.toNat) = 0 → t = s.blk) ∧
    (s.blk.fld (MC_CH_STAT.OWED r.toNat) ≠ 0 → ∀ e ∈ t.mc.openRows, e.1 / 32 ≠ r.toNat)) := by
  by_cases howed : s.blk.fld (MC_CH_STAT.OWED r.toNat) = 0
  · exact completes_of_becomes (onBlock_next (if_pos howed) : execRefreshPayback r s = _)
      ⟨howed, fun _ => rfl, fun h => absurd howed h⟩
  · exact completes_of_becomes (onBlock_next (if_neg howed) : execRefreshPayback r s = _)
      ⟨fld_setFld _ _ _ (Nat.le_of_ble_eq_true rfl), fun h => absurd h howed, fun _ => closed_closeRows _ s.blk⟩

end

/-! ### Die temperatures and refresh bands (R333, R336) -/

/-- The temperature of channel `k`, whether it is valid and the refresh band are as before, and no status bit of an event is cleared. -/
structure BandKept (k : Nat) (s t : Block) : Prop where
  tempOk : t.fld (MC_CH_STAT.TEMP_OK k) = s.fld (MC_CH_STAT.TEMP_OK k)
  temp : t.fld (MC_CH_STAT.TEMP k) = s.fld (MC_CH_STAT.TEMP k)
  band : t.fld (MC_CH_STAT.RBAND k) = s.fld (MC_CH_STAT.RBAND k)
  events : ∀ e, e < 1024 → s.evtStatus e = true → t.evtStatus e = true

namespace BandKept

variable {k : Nat} {s t u : Block}

theorem refl (s : Block) : BandKept k s s := ⟨rfl, rfl, rfl, fun _ _ h => h⟩

theorem trans (h : BandKept k s t) (h' : BandKept k t u) : BandKept k s u :=
  ⟨h'.tempOk.trans h.tempOk, h'.temp.trans h.temp, h'.band.trans h.band, fun e he hs => h'.events e he (h.events e he hs)⟩

theorem ite {c : Prop} [Decidable c] (ht : BandKept k s t) (hu : BandKept k s u) : BandKept k s (if c then t else u) := by
  split <;> assumption

theorem of_memKept (hk : k < 8) (h : MemKept s t) : BandKept k s t :=
  ⟨h.fld (memWord_stat hk), h.fld (memWord_stat hk), h.fld (memWord_stat hk), h.events⟩

theorem mcOnly (mc : McState) : BandKept k s { s with mc := mc } := ⟨rfl, rfl, rfl, fun _ _ h => h⟩

end BandKept

/-- A change of refresh band is told (R333). -/
def bandTold (k b : Nat) (s : Block) : Block :=
  (s.policyCairn 0x801 0x0802 (chanBase k) (s.fld (MC_CH_STAT.RBAND k)) b).raise (547 + 8 * k)

section
variable {k : Nat} (hk : k < 8) (s : Block)
include hk

/-- A write of a field of the channel's state word that is none of these. -/
theorem bandKept_setFld {f : RF} (v : Nat) (haddr : f.addr = MC_CH_STAT.addr k) (hok : f.apart (MC_CH_STAT.TEMP_OK k))
    (htemp : f.apart (MC_CH_STAT.TEMP k)) (hband : f.apart (MC_CH_STAT.RBAND k)) : BandKept k s (s.setFld f v) where
  tempOk := fld_setFld_apart _ _ _ _ hok
  temp := fld_setFld_apart _ _ _ _ htemp
  band := fld_setFld_apart _ _ _ _ hband
  events e _ h := (evtStatus_setFld s f v e (haddr ▸ chStat_lt hk)).trans h

theorem bandKept_owed (n : Nat) : BandKept k s (s.setFld (MC_CH_STAT.OWED k) n) :=
  bandKept_setFld hk s n rfl (apart_of_bits rfl) (apart_of_bits rfl) (apart_of_bits rfl)

theorem bandKept_pass (b : Bool) : BandKept k s (s.setFlag (MC_CH_STAT.PASS k) b) :=
  bandKept_setFld hk s _ rfl (apart_of_bits rfl) (apart_of_bits rfl) (apart_of_bits rfl)

/-- A band comes into force; what follows a change of band leaves the die temperature and the band itself. -/
theorem setRefreshBand_fields {b : Nat} (hb : b < 4) : (setRefreshBand k b s).fld (MC_CH_STAT.RBAND k) = b ∧
    (setRefreshBand k b s).fld (MC_CH_STAT.TEMP_OK k) = s.fld (MC_CH_STAT.TEMP_OK k) ∧
    (setRefreshBand k b s).fld (MC_CH_STAT.TEMP k) = s.fld (MC_CH_STAT.TEMP k) ∧
    ∀ e, e < 1024 → s.evtStatus e = true → (setRefreshBand k b s).evtStatus e = true := by
  by_cases hsame : s.fld (MC_CH_STAT.RBAND k) = b
  · rw [setRefreshBand, if_pos hsame]
    exact ⟨hsame, rfl, rfl, fun _ _ h => h⟩
  · have htold : BandKept k s (bandTold k b s) := .of_memKept hk ((memKept_policyCairn ..).trans (memKept_raise ..))
    have hleave (u : Block) : BandKept k u
        (((u.policyCairn 0x801 0x0806 (chanBase k) 0 5600).raise (549 + 8 * k)).setFlag (MC_CH_STAT.PASS k) false) :=
      (BandKept.of_memKept hk ((memKept_policyCairn ..).trans (memKept_raise ..))).trans (bandKept_pass hk _ false)
    have hafter : BandKept k ((bandTold k b s).setFld (MC_CH_STAT.RBAND k) b) (setRefreshBand k b s) := by
      rw [setRefreshBand, if_neg hsame]
      exact (BandKept.ite ((BandKept.mcOnly _).trans (bandKept_owed hk _ _)) (.refl _)).trans ((BandKept.ite
        ((BandKept.ite (hleave _) (.refl _)).trans (.mcOnly _)) (.ite (.mcOnly _) (.refl _))).trans (.of_memKept hk (memKept_regrant _)))
    refine ⟨?_, ?_, ?_, fun e he h => hafter.events e he ?_⟩
    · rw [hafter.band, fld_setFld _ _ _ (Nat.le_of_ble_eq_true rfl)]
      exact Nat.mod_eq_of_lt hb
    · rw [hafter.tempOk, fld_setFld_apart _ _ _ _ (apart_of_bits rfl), htold.tempOk]
    · rw [hafter.temp, fld_setFld_apart _ _ _ _ (apart_of_bits rfl), htold.temp]
    · rw [evtStatus_setFld _ _ _ _ (chStat_lt hk)]
      exact htold.events e he h

end

/-- The die temperature as written, with its event at 140 °C (R333). -/
def tempTaken (k : Nat) (temp : Int) (s : Block) : Block :=
  let t := s.setFld (MC_CH_STAT.TEMP k) (unsgn 16 temp)
  if 140 * 16 < temp ∧ sgn 16 (s.fld (MC_CH_STAT.TEMP k)) ≤ 140 * 16 then t.raise (551 + 8 * k) else t

section
variable {k : Nat} (hk : k < 8) (temp : Int) (s : Block)

theorem tempTaken_hot (hot : 140 * 16 < temp) (hwas : sgn 16 (s.fld (MC_CH_STAT.TEMP k)) ≤ 140 * 16) :
    (tempTaken k temp s).evtStatus (551 + 8 * k) = true := by
  rw [tempTaken, if_pos ⟨hot, hwas⟩, evtStatus_raise_self]

theorem memKept_tempTaken : MemKept (s.setFld (MC_CH_STAT.TEMP k) (unsgn 16 temp)) (tempTaken k temp s) :=
  .ite (memKept_raise ..) (.refl _)

theorem refreshBand_lt (b : Nat) : refreshBand b temp < 4 := by
  unfold refreshBand
  split_ifs <;> decide

include hk

theorem tempTaken_fields : (tempTaken k temp s).fld (MC_CH_STAT.RBAND k) = s.fld (MC_CH_STAT.RBAND k) ∧
    (tempTaken k temp s).fld (MC_CH_STAT.TEMP_OK k) = s.fld (MC_CH_STAT.TEMP_OK k) ∧
    (tempTaken k temp s).fld (MC_CH_STAT.TEMP k) = unsgn 16 temp % 2 ^ 16 ∧
    ∀ e, e < 1024 → s.evtStatus e = true → (tempTaken k temp s).evtStatus e = true := by
  have hword := memWord_stat hk
  have hkept := memKept_tempTaken (k := k) temp s
  refine ⟨?_, ?_, ?_, fun e he h => hkept.events e he ((evtStatus_setFld _ _ _ _ (chStat_lt hk)).trans h)⟩
  · rw [hkept.fld hword, fld_setFld_apart _ _ _ _ (apart_of_bits rfl)]
  · rw [hkept.fld hword, fld_setFld_apart _ _ _ _ (apart_of_bits rfl)]
  · rw [hkept.fld hword, fld_setFld _ _ _ (Nat.le_of_ble_eq_true rfl)]
    rfl

/-- A die temperature comes into force with its band (R333). -/
theorem dieTemp_fields : (dieTemp k temp s).fld (MC_CH_STAT.RBAND k) = refreshBand (s.fld (MC_CH_STAT.RBAND k)) temp ∧
    (dieTemp k temp s).fld (MC_CH_STAT.TEMP_OK k) = s.fld (MC_CH_STAT.TEMP_OK k) ∧
    (dieTemp k temp s).fld (MC_CH_STAT.TEMP k) = unsgn 16 temp % 2 ^ 16 ∧
    (∀ e, e < 1024 → (tempTaken k temp s).evtStatus e = true → (dieTemp k temp s).evtStatus e = true) := by
  obtain ⟨hband, hok, htemp, -⟩ := tempTaken_fields hk temp s
  obtain ⟨hband', hok', htemp', hevents⟩ := setRefreshBand_fields hk (tempTaken k temp s) (refreshBand_lt temp (s.fld (MC_CH_STAT.RBAND k)))
  have heq : dieTemp k temp s = setRefreshBand k (refreshBand (s.fld (MC_CH_STAT.RBAND k)) temp) (tempTaken k temp s) := by
    rw [← hband]
    rfl
  rw [heq]
  exact ⟨hband', hok'.trans hok, htemp'.trans htemp, hevents⟩

end

/-- A signed reading is encoded as it was read. -/
theorem unsgn_toInt (v : BitVec 16) : unsgn 16 v.toInt = v.toNat := by
  rw [unsgn, BitVec.toInt_eq_toNat_bmod, Int.bmod_emod, ← Int.natCast_emod, Int.toNat_natCast, Nat.mod_eq_of_lt v.isLt]

section
variable {r : BitVec 3} {s : State}

/-- The block as a valid reading of channel `k` arrives (R336). -/
def tempArrived (k : Nat) (s : Block) : Block :=
  let t := s.setFlag (MC_CH_STAT.TEMP_OK k) true
  { t with mc := { t.mc with tempAt := smPut t.mc.tempAt k t.now } }

theorem dramTempRead_completes (temp : BitVec 16) : Completes (.dramTempRead r temp) s (fun t =>
    t.flag (MC_CH_STAT.TEMP_OK r.toNat) = true ∧ t.fld (MC_CH_STAT.TEMP r.toNat) = temp.toNat ∧
      t.fld (MC_CH_STAT.RBAND r.toNat) = refreshBand (s.blk.fld (MC_CH_STAT.RBAND r.toNat)) temp.toInt ∧
      (140 * 16 < temp.toInt → sgn 16 (s.blk.fld (MC_CH_STAT.TEMP r.toNat)) ≤ 140 * 16 → t.evtStatus (551 + 8 * r.toNat) = true)) := by
  have hx : Becomes (.dramTempRead r temp) s (dieTemp r.toNat temp.toInt (tempArrived r.toNat s.blk)) := rfl
  obtain ⟨hband, hok, htemp, hevents⟩ := dieTemp_fields r.isLt temp.toInt (tempArrived r.toNat s.blk)
  have hwas : (tempArrived r.toNat s.blk).fld (MC_CH_STAT.TEMP r.toNat) = s.blk.fld (MC_CH_STAT.TEMP r.toNat) :=
    fld_setFlag_apart _ _ _ _ (apart_of_bits rfl)
  have hwasBand : (tempArrived r.toNat s.blk).fld (MC_CH_STAT.RBAND r.toNat) = s.blk.fld (MC_CH_STAT.RBAND r.toNat) :=
    fld_setFlag_apart _ _ _ _ (apart_of_bits rfl)
  refine completes_of_becomes hx ⟨?_, ?_, ?_, fun hot hcool => hevents _ (by omega) (tempTaken_hot _ _ hot (hwas ▸ hcool))⟩
  · rw [Block.flag, hok]
    exact flag_setFlag_same s.blk (MC_CH_STAT.TEMP_OK r.toNat) true ⟨Nat.le_of_ble_eq_true rfl, rfl⟩
  · rw [htemp, unsgn_toInt, Nat.mod_eq_of_lt temp.isLt]
  · rw [hband, hwasBand]

/-- The block as a reading of channel `k` stays away (R336). -/
def tempLost (k : Nat) (s : Block) : Block :=
  if s.flag (MC_CH_STAT.TEMP_OK k) then (s.setFlag (MC_CH_STAT.TEMP_OK k) false).raise (551 + 8 * k) else s

theorem tempLost_fields {k : Nat} (hk : k < 8) (s : Block) : (tempLost k s).flag (MC_CH_STAT.TEMP_OK k) = false ∧
    (s.flag (MC_CH_STAT.TEMP_OK k) = true → (tempLost k s).evtStatus (551 + 8 * k) = true) := by
  unfold tempLost
  split
  · refine ⟨?_, fun _ => by rw [evtStatus_raise_self]⟩
    rw [flag_raise _ _ _ (chStat_lt hk), flag_setFlag_same _ _ _ ⟨Nat.le_of_ble_eq_true rfl, rfl⟩]
  · next hoff => exact ⟨eq_false_of_ne_true hoff, fun h => absurd h hoff⟩

theorem dramTempMissing_completes : Completes (.dramTempMissing r) s (fun t => t.flag (MC_CH_STAT.TEMP_OK r.toNat) = false ∧
    (s.blk.flag (MC_CH_STAT.TEMP_OK r.toNat) = true → t.evtStatus (551 + 8 * r.toNat) = true)) := by
  obtain ⟨est, hx⟩ : ∃ est, Becomes (.dramTempMissing r) s (dieTemp r.toNat est (tempLost r.toNat s.blk)) := ⟨_, rfl⟩
  obtain ⟨-, hok, -, hevents⟩ := dieTemp_fields r.isLt est (tempLost r.toNat s.blk)
  obtain ⟨hoff, hevent⟩ := tempLost_fields r.isLt s.blk
  obtain ⟨-, -, -, hkeep⟩ := tempTaken_fields r.isLt est (tempLost r.toNat s.blk)
  refine completes_of_becomes hx ⟨?_, fun hon => hevents _ (by omega) (hkeep _ (by omega) (hevent hon))⟩
  rw [Block.flag, hok]
  exact hoff

end

/-! ### Recentring passes (R338) -/

section
variable {r : BitVec 3} {s : State}

theorem recentrePass_completes (hin : r.toNat ∈ inService s.blk) :
    Completes (.recentrePass r) s (fun t => t.flag (MC_CH_STAT.PASS r.toNat) = true ∧ t.evt = s.blk.evt) :=
  completes_of_becomes (onBlock_next (if_pos (List.contains_iff_mem.mpr hin)) : execRecentrePass r s = _)
    ⟨flag_setFlag_same s.blk (MC_CH_STAT.PASS r.toNat) true ⟨Nat.le_of_ble_eq_true rfl, rfl⟩, rfl⟩

theorem recentrePass_stays (hout : r.toNat ∉ inService s.blk) : Becomes (.recentrePass r) s s.blk :=
  (onBlock_next (if_neg (mt List.contains_iff_mem.mp hout)) : execRecentrePass r s = _)

theorem recentrePassEnd_completes {low : Bool} (hpass : s.blk.flag (MC_CH_STAT.PASS r.toNat) = true) :
    Completes (.recentrePassEnd r low) s (fun t => t.flag (MC_CH_STAT.PASS r.toNat) = false ∧
      (low = true → t.evtStatus (549 + 8 * r.toNat) = true) ∧ (low = false → t.evt = s.blk.evt)) := by
  have hx : Becomes (.recentrePassEnd r low) s (if low then (s.blk.setFlag (MC_CH_STAT.PASS r.toNat) false).raise (549 + 8 * r.toNat)
      else s.blk.setFlag (MC_CH_STAT.PASS r.toNat) false) := (onBlock_next (if_pos hpass) : execRecentrePassEnd r low s = _)
  have hclear : (s.blk.setFlag (MC_CH_STAT.PASS r.toNat) false).flag (MC_CH_STAT.PASS r.toNat) = false :=
    flag_setFlag_same _ _ _ ⟨Nat.le_of_ble_eq_true rfl, rfl⟩
  cases low with
  | false => exact completes_of_becomes hx ⟨hclear, nofun, fun _ => rfl⟩
  | true =>
    refine completes_of_becomes hx ⟨(flag_raise _ _ _ (chStat_lt r.isLt)).trans hclear, fun _ => ?_, nofun⟩
    rw [if_pos rfl, evtStatus_raise_self]

theorem recentrePassEnd_stays {low : Bool} (hnone : s.blk.flag (MC_CH_STAT.PASS r.toNat) = false) :
    Becomes (.recentrePassEnd r low) s s.blk :=
  (onBlock_next (if_neg (ne_true_of_eq_false hnone)) : execRecentrePassEnd r low s = _)

end

/-! ### Changes of data rate (R339, R340) -/

/-- Channel `k` at its wanted rate, its rows closed and its owed refreshes issued. -/
def rateSet (k : Nat) (to56 : Bool) (s : Block) : Block :=
  let t := (closeRows k s).setFld (MC_CH_STAT.OWED k) 0
  let u := (t.setFlag (MC_CH_STAT.AT_5600 k) to56).setReg MC_STAT.AT_5600.addr (wput (t.reg MC_STAT.AT_5600.addr) (16 + k) to56)
  { u with mc := { u.mc with rateWant := smDel u.mc.rateWant k } }

/-- A change of rate is told, as its origin's. -/
def rateTold (k : Nat) (to56 : Bool) (origin : Nat) (s : Block) : Block :=
  let rates := if to56 then (6400, 5600) else (5600, 6400)
  (if origin = oPolicy 0x801 then s.policyCairn 0x801 0x0803 (chanBase k) rates.1 rates.2
    else s.cairnN origin 0x0803 (chanBase k) rates.1 rates.2).raise (548 + 8 * k)

/-- In the highest band a channel that slowed down begins a new pass. -/
def rateResumed (k : Nat) (to56 : Bool) (s : Block) : Block :=
  if to56 && decide (s.fld (MC_CH_STAT.RBAND k) = 2) then s.setFlag (MC_CH_STAT.PASS k) true else s

/-- A wanted change of rate as it has run (R339, R340). -/
def rateChanged (k : Nat) (to56 : Bool) (s : Block) : Block := rateResumed k to56 (rateTold k to56 s.mc.rateOrigin (rateSet k to56 s))

section
variable {k : Nat} (s : Block)

theorem mcStat_ne_chStat (k : Nat) : MC_CH_STAT.addr k ≠ MC_STAT.AT_5600.addr := by
  show MC_CH_STAT.addr k ≠ 0x2100004
  rw [MC_CH_STAT.addr]
  omega

theorem rateSet_fields (to56 : Bool) : (rateSet k to56 s).flag (MC_CH_STAT.AT_5600 k) = to56 ∧
    (rateSet k to56 s).fld (MC_CH_STAT.OWED k) = 0 ∧ smGet 0 (rateSet k to56 s).mc.rateWant k = 0 ∧
    ∀ e ∈ (rateSet k to56 s).mc.openRows, e.1 / 32 ≠ k := by
  refine ⟨?_, ?_, (smGet_smDel ..).trans (if_pos rfl), closed_closeRows k s⟩
  · rw [rateSet, flag_mk, (regsBut_setReg _ _ _).flag (by rw [List.mem_singleton]; exact mcStat_ne_chStat k),
      flag_setFlag_same _ _ _ ⟨Nat.le_of_ble_eq_true rfl, rfl⟩]
  · rw [rateSet, fld_mk, fld_setReg_other _ _ _ _ (mcStat_ne_chStat k), fld_setFlag_apart _ _ _ _ (apart_of_bits rfl),
      fld_setFld _ _ _ (Nat.le_of_ble_eq_true rfl)]
    rfl

theorem memKept_rateTold (to56 : Bool) (origin : Nat) : MemKept s (rateTold k to56 origin s) :=
  (MemKept.ite (memKept_policyCairn ..) (memKept_cairnN ..)).trans (memKept_raise ..)

theorem evtStatus_rateTold (to56 : Bool) (origin : Nat) : (rateTold k to56 origin s).evtStatus (548 + 8 * k) = true := by
  rw [rateTold, evtStatus_raise_self]

theorem rateResumed_fields (hk : k < 8) (to56 : Bool) : (rateResumed k to56 s).mc = s.mc ∧
    (rateResumed k to56 s).flag (MC_CH_STAT.AT_5600 k) = s.flag (MC_CH_STAT.AT_5600 k) ∧
    (rateResumed k to56 s).fld (MC_CH_STAT.OWED k) = s.fld (MC_CH_STAT.OWED k) ∧
    (rateResumed k to56 s).evtStatus (548 + 8 * k) = s.evtStatus (548 + 8 * k) := by
  unfold rateResumed
  split
  · exact ⟨rfl, flag_setFlag_apart _ _ _ _ (apart_of_bits rfl), fld_setFlag_apart _ _ _ _ (apart_of_bits rfl),
      evtStatus_setFlag _ _ _ _ (chStat_lt hk)⟩
  · exact ⟨rfl, rfl, rfl, rfl⟩

theorem rateChanged_fields (hk : k < 8) (to56 : Bool) : (rateChanged k to56 s).flag (MC_CH_STAT.AT_5600 k) = to56 ∧
    smGet 0 (rateChanged k to56 s).mc.rateWant k = 0 ∧ (rateChanged k to56 s).evtStatus (548 + 8 * k) = true ∧
    (rateChanged k to56 s).fld (MC_CH_STAT.OWED k) = 0 ∧ ∀ e ∈ (rateChanged k to56 s).mc.openRows, e.1 / 32 ≠ k := by
  have hword := memWord_stat hk
  obtain ⟨hrate, howed, hdone, hrows⟩ := rateSet_fields (k := k) s to56
  have htold := memKept_rateTold (k := k) (rateSet k to56 s) to56 s.mc.rateOrigin
  obtain ⟨hmc, hflag, hfld, hevt⟩ := rateResumed_fields (rateTold k to56 s.mc.rateOrigin (rateSet k to56 s)) hk to56
  have hsame : (rateChanged k to56 s).mc = (rateSet k to56 s).mc := hmc.trans htold.mc
  rw [hsame]
  exact ⟨hflag.trans ((htold.flag hword).trans hrate), hdone, hevt.trans (evtStatus_rateTold ..), hfld.trans ((htold.fld hword).trans howed),
    hrows⟩

end

section
variable {r : BitVec 3} {s : State}

theorem dataRateChange_stays {ok : Bool} (hno : smGet 0 s.blk.mc.rateWant r.toNat = 0 ∨ s.blk.flag (MC_CH_STAT.PASS r.toNat) = true ∨
    r.toNat ∉ inService s.blk) : Becomes (.dataRateChange r ok) s s.blk := by
  refine (onBlock_next (if_pos ?_) : execDataRateChange r ok s = _)
  rw [Bool.or_eq_true, Bool.or_eq_true, or_assoc, decide_eq_true_eq]
  exact hno.imp_right (Or.imp_right not_contains_of_not_mem)

theorem dataRateChange_becomes (hwant : smGet 0 s.blk.mc.rateWant r.toNat ≠ 0) (hpass : s.blk.flag (MC_CH_STAT.PASS r.toNat) = false)
    (hin : r.toNat ∈ inService s.blk) {to56 : Bool} (hto : to56 = decide (smGet 0 s.blk.mc.rateWant r.toNat = 1)) :
    Becomes (.dataRateChange r true) s (regrant (rateChanged r.toNat to56 s.blk)) := by
  subst hto
  refine (onBlock_next ((if_neg ?_).trans rfl) : execDataRateChange r true s = _)
  rw [Bool.or_eq_true, Bool.or_eq_true, or_assoc, decide_eq_true_eq, hpass]
  rintro (h | h | h)
  · exact hwant h
  · cases h
  · exact not_contains_of_mem hin h

theorem dataRateChange_completes (hwant : smGet 0 s.blk.mc.rateWant r.toNat ≠ 0) (hpass : s.blk.flag (MC_CH_STAT.PASS r.toNat) = false)
    (hin : r.toNat ∈ inService s.blk) : Completes (.dataRateChange r true) s (fun t =>
      t.flag (MC_CH_STAT.AT_5600 r.toNat) = decide (smGet 0 s.blk.mc.rateWant r.toNat = 1) ∧ smGet 0 t.mc.rateWant r.toNat = 0 ∧
      t.evtStatus (548 + 8 * r.toNat) = true ∧ t.fld (MC_CH_STAT.OWED r.toNat) = 0 ∧ ∀ e ∈ t.mc.openRows, e.1 / 32 ≠ r.toNat) := by
  obtain ⟨to56, hto⟩ : ∃ b, b = decide (smGet 0 s.blk.mc.rateWant r.toNat = 1) := ⟨_, rfl⟩
  rw [← hto]
  obtain ⟨hrate, hdone, hevent, howed, hrows⟩ := rateChanged_fields s.blk r.isLt to56
  have hgrant := memKept_regrant (rateChanged r.toNat to56 s.blk)
  have hword := memWord_stat r.isLt
  exact completes_of_becomes (dataRateChange_becomes hwant hpass hin hto) ⟨(hgrant.flag hword).trans hrate, hgrant.mc ▸ hdone,
    hgrant.events _ (by omega) hevent, (hgrant.fld hword).trans howed, hgrant.mc ▸ hrows⟩

end

/-! ### Uncorrectable accesses (R342, R344) -/

theorem satAdd_eq_min (top a b : Nat) : satAdd top a b = min top (a + b) := by
  unfold satAdd
  split_ifs <;> omega

section
variable (k : Nat) (s : Block)

/-- An activate counts neighbour refreshes and opens a row (R337). -/
theorem regsBut_activate (pa : Nat) : RegsBut [MC_CH_NBR.addr k] s (activate k pa s) := by
  have hcount (c : Prop) [Decidable c] (n : Nat) : RegsBut [MC_CH_NBR.addr k] s (if c then s.draw.incFld (MC_CH_NBR.COUNT k) n else s.draw) :=
    .ite (RegsBut.trans (.of_regs rfl) (regsBut_incFld s.draw (MC_CH_NBR.COUNT k) n)) (.of_regs rfl)
  exact .ite (.refl s) (.trans (hcount _ _) (.of_regs rfl))

theorem activate_keeps (pa : Nat) : (activate k pa s).mc.recent = s.mc.recent ∧ (activate k pa s).ks = s.ks := by
  unfold activate
  dsimp only
  split_ifs <;> exact ⟨rfl, rfl⟩

/-- The access is counted, and its address and port noted (R342). -/
def accessCounted (p q : Nat) (s : Block) : Block :=
  (((s.satFld (MC_CH_ECC.UNCORR k) 1).setFld (MC_CH_ERR_LO.ADDRESS k) p).setFld (MC_CH_ERR_HI.ADDR32 k) (p / 2 ^ 32)).setFld
    (MC_CH_ERR_HI.PORT k) q

theorem accessCounted_fields {p q : Nat} (hp : p < 2 ^ 33) (hq : q < 2 ^ 4) :
    (accessCounted k p q s).fld (MC_CH_ECC.UNCORR k) = min 65535 (s.fld (MC_CH_ECC.UNCORR k) + 1) ∧
    (accessCounted k p q s).fld (MC_CH_ERR_LO.ADDRESS k) = p % 2 ^ 32 ∧ (accessCounted k p q s).fld (MC_CH_ERR_HI.ADDR32 k) = p / 2 ^ 32 ∧
    (accessCounted k p q s).fld (MC_CH_ERR_HI.PORT k) = q := by
  have heccLo : (MC_CH_ERR_LO.ADDRESS k).apart (MC_CH_ECC.UNCORR k) := apart_of_words rfl rfl (by decide)
  have heccHi : (MC_CH_ERR_HI.ADDR32 k).apart (MC_CH_ECC.UNCORR k) := apart_of_words rfl rfl (by decide)
  have heccPort : (MC_CH_ERR_HI.PORT k).apart (MC_CH_ECC.UNCORR k) := apart_of_words rfl rfl (by decide)
  have hloHi : (MC_CH_ERR_HI.ADDR32 k).apart (MC_CH_ERR_LO.ADDRESS k) := apart_of_words rfl rfl (by decide)
  have hloPort : (MC_CH_ERR_HI.PORT k).apart (MC_CH_ERR_LO.ADDRESS k) := apart_of_words rfl rfl (by decide)
  have hbits : (MC_CH_ERR_HI.PORT k).apart (MC_CH_ERR_HI.ADDR32 k) := apart_of_bits rfl
  have hwidth (f : RF) (v : Nat) (t : Block) (h : (f.lo + f.width).ble 32 = true) : (t.setFld f v).fld f = v % 2 ^ f.width :=
    fld_setFld _ _ _ (Nat.le_of_ble_eq_true h)
  unfold accessCounted
  refine ⟨?_, ?_, ?_, ?_⟩
  · rw [fld_setFld_apart _ _ _ _ heccPort, fld_setFld_apart _ _ _ _ heccHi, fld_setFld_apart _ _ _ _ heccLo, Block.satFld,
      hwidth _ _ _ rfl, satAdd_eq_min]
    exact Nat.mod_eq_of_lt (show min 65535 _ < 65536 by omega)
  · rw [fld_setFld_apart _ _ _ _ hloPort, fld_setFld_apart _ _ _ _ hloHi, hwidth _ _ _ rfl]
    rfl
  · rw [fld_setFld_apart _ _ _ _ hbits, hwidth _ _ _ rfl]
    exact Nat.mod_eq_of_lt (show p / 2 ^ 32 < 2 ^ 1 by omega)
  · rw [hwidth _ _ _ rfl]
    exact Nat.mod_eq_of_lt hq

theorem regsBut_accessCounted (p q : Nat) :
    RegsBut [MC_CH_ECC.addr k, MC_CH_ERR_LO.addr k, MC_CH_ERR_HI.addr k] s (accessCounted k p q s) :=
  ((regsBut_setFld s (MC_CH_ECC.UNCORR k) _).append (regsBut_setFld _ (MC_CH_ERR_LO.ADDRESS k) p)).append
    ((regsBut_setFld _ (MC_CH_ERR_HI.ADDR32 k) _).trans (regsBut_setFld _ (MC_CH_ERR_HI.PORT k) q))

/-- The access joins the error ring and the errors of the last second, and its event is raised (R342, R344). -/
def accessKept (p q : Nat) (s : Block) : Block :=
  let e : ErrRec := ⟨s.now, k, q, p⟩
  ({ s with mc := { s.mc with
      ring := (s.mc.ring ++ [e]).drop (s.mc.ring.length + 1 - 256)
      recent := s.mc.recent.filter (fun x => decide (s.sinceT x.stamp < secT)) ++ [e] } } : Block).raise (545 + 8 * k)

/-- The access's cairn, at most once per millisecond (R342). -/
def accessLogged (p q frame : Nat) (s : Block) : Block :=
  let due := match s.mc.cairnAt.find? (fun x => decide (x.1 = k)) with
    | some (_, t) => decide (msT ≤ s.sinceT t)
    | none => true
  if due then { s.cairnN oFirmware 0x0804 (p % 2 ^ 32) q frame with mc := { s.mc with cairnAt := smPut s.mc.cairnAt k s.now } } else s

theorem accessLogged_keeps (p q frame : Nat) : (∀ a, MemWord a → (accessLogged k p q frame s).reg a = s.reg a) ∧
    (∀ e, e < 1024 → s.evtStatus e = true → (accessLogged k p q frame s).evtStatus e = true) ∧
    (accessLogged k p q frame s).mc.recent = s.mc.recent := by
  have hcairn := memKept_cairnN s oFirmware 0x0804 (p % 2 ^ 32) q frame
  unfold accessLogged
  dsimp only
  split_ifs
  · exact ⟨hcairn.reg, hcairn.events, rfl⟩
  · exact ⟨fun _ _ => rfl, fun _ _ h => h, rfl⟩

end

/-- The block as the access has been answered and counted (R342). -/
def accessAnswered (k p q : Nat) (s : Block) : Block := accessCounted k p q (errorEffect k q p (activate k p s))

/-- The block as the access is kept among the errors too (R342, R344). -/
def accessTaken (k p q : Nat) (s : Block) : Block := accessKept k p q (accessAnswered k p q s)

/-- The frame whose slot the access fell in, as its cairn tells it (R342). -/
def accessFrame (k p : Nat) (s : Block) : Nat :=
  match slotOfPa s k p with
  | some (l, _, _) => l.frame
  | none => 0xFFFFFFFF

/-- The addresses of channel `k` with an error in the last second (R344). -/
def errorAddresses (k : Nat) (l : List ErrRec) : List Nat := ((l.filter (fun x => decide (x.chan = k))).map (fun x => x.pa)).eraseDups

section
variable {k p q : Nat} {s : Block}

theorem accessAnswered_keeps : (accessAnswered k p q s).mc.recent = s.mc.recent ∧ (accessAnswered k p q s).now = s.now := by
  obtain ⟨hrecent, hks⟩ := activate_keeps k s p
  have hkept := memKept_errorEffect (activate k p s) k q p
  exact ⟨(congrArg McState.recent hkept.mc).trans hrecent, congrArg KsState.now (hkept.ks.trans hks)⟩

theorem recent_accessTaken (hnone : s.mc.recent = []) : (accessTaken k p q s).mc.recent = [⟨s.now, k, q, p⟩] := by
  obtain ⟨hrecent, hnow⟩ := accessAnswered_keeps (k := k) (p := p) (q := q) (s := s)
  rw [accessTaken, accessKept, raise_mc, hrecent, hnone, hnow]
  rfl

/-- What the answer to the access leaves of the channel's words is counted, noted and kept. -/
theorem accessTaken_fields (hk : k < 8) (hp : p < 2 ^ 33) (hq : q < 2 ^ 4) : (accessTaken k p q s).evtStatus (545 + 8 * k) = true ∧
    (accessTaken k p q s).fld (MC_CH_ECC.UNCORR k) = min 65535 (s.fld (MC_CH_ECC.UNCORR k) + 1) ∧
    (accessTaken k p q s).fld (MC_CH_ERR_LO.ADDRESS k) = p % 2 ^ 32 ∧ (accessTaken k p q s).fld (MC_CH_ERR_HI.ADDR32 k) = p / 2 ^ 32 ∧
    (accessTaken k p q s).fld (MC_CH_ERR_HI.PORT k) = q ∧
    (accessTaken k p q s).flag (MC_CH_STAT.RETIRED k) = s.flag (MC_CH_STAT.RETIRED k) := by
  have hraised (f : RF) (hf : MemWord f.addr) : (accessTaken k p q s).fld f = (accessAnswered k p q s).fld f := by
    rw [accessTaken, accessKept, (memKept_raise _ _).fld hf, fld_mk]
  have hstat : (MC_CH_STAT.RETIRED k).addr ∉ [MC_CH_ECC.addr k, MC_CH_ERR_LO.addr k, MC_CH_ERR_HI.addr k] := by
    simp [MC_CH_STAT.RETIRED, MC_CH_STAT.addr, MC_CH_ECC.addr, MC_CH_ERR_LO.addr, MC_CH_ERR_HI.addr]
  have hnbr (a : Nat) (ha : a ≠ 8) : 0x2101000 + a + 0x100 * k ∉ [MC_CH_NBR.addr k] := by
    rw [List.mem_singleton, MC_CH_NBR.addr]
    omega
  have hkept := memKept_errorEffect (activate k p s) k q p
  have hopened := regsBut_activate k s p
  obtain ⟨huncorr, haddr, hhi, hport⟩ := accessCounted_fields k (errorEffect k q p (activate k p s)) hp hq
  refine ⟨?_, ?_, (hraised _ (memWord_errLo hk)).trans haddr, (hraised _ (memWord_errHi hk)).trans hhi,
    (hraised _ (memWord_errHi hk)).trans hport, ?_⟩
  · rw [accessTaken, accessKept, evtStatus_raise_self]
  · rw [hraised _ (memWord_ecc hk), accessAnswered, huncorr, hkept.fld (memWord_ecc hk), hopened.fld (hnbr 4 (by decide))]
  · rw [Block.flag, hraised _ (memWord_stat hk), accessAnswered, (regsBut_accessCounted k _ p q).fld hstat, hkept.fld (memWord_stat hk),
      hopened.fld (hnbr 0 (by decide)), Block.flag]

end

section
variable {r : BitVec 3} {pa : BitVec 33} {port : BitVec 4} {bad : Bool} {s : State}

theorem uncorrectableAccess_stays (hout : r.toNat ∉ inService s.blk) : Becomes (.uncorrectableAccess r pa port bad) s s.blk :=
  (onBlock_next (if_pos (not_contains_of_not_mem hout)) : execUncorrectableAccess r pa port bad s = _)

theorem uncorrectableAccess_becomes (hin : r.toNat ∈ inService s.blk) {t u : Block}
    (ht : t = accessTaken r.toNat pa.toNat port.toNat s.blk)
    (hu : u = accessLogged r.toNat pa.toNat port.toNat (accessFrame r.toNat pa.toNat s.blk) t) :
    Becomes (.uncorrectableAccess r pa port bad) s
      (if 4 ≤ (errorAddresses r.toNat t.mc.recent).length then retireRun r.toNat 2 none u else u) := by
  subst ht hu
  refine (onBlock_next ((if_neg (not_contains_of_mem hin)).trans ?_) : execUncorrectableAccess r pa port bad s = _)
  rw [accessTaken, accessKept, raise_mc]
  rfl

theorem uncorrectableAccess_completes (hin : r.toNat ∈ inService s.blk) (hnone : s.blk.mc.recent = []) :
    Completes (.uncorrectableAccess r pa port bad) s (fun t => t.evtStatus (545 + 8 * r.toNat) = true ∧
      t.fld (MC_CH_ECC.UNCORR r.toNat) = min 65535 (s.blk.fld (MC_CH_ECC.UNCORR r.toNat) + 1) ∧
      t.fld (MC_CH_ERR_LO.ADDRESS r.toNat) = pa.toNat % 2 ^ 32 ∧ t.fld (MC_CH_ERR_HI.ADDR32 r.toNat) = pa.toNat / 2 ^ 32 ∧
      t.fld (MC_CH_ERR_HI.PORT r.toNat) = port.toNat ∧ t.mc.recent = [⟨s.blk.now, r.toNat, port.toNat, pa.toNat⟩] ∧
      t.flag (MC_CH_STAT.RETIRED r.toNat) = s.blk.flag (MC_CH_STAT.RETIRED r.toNat)) := by
  obtain ⟨t, ht⟩ : ∃ t, t = accessTaken r.toNat pa.toNat port.toNat s.blk := ⟨_, rfl⟩
  have hx := uncorrectableAccess_becomes (bad := bad) hin ht rfl
  have hrecent := ht ▸ recent_accessTaken (k := r.toNat) (p := pa.toNat) (q := port.toNat) hnone
  have hone : (errorAddresses r.toNat t.mc.recent).length = 1 := by
    simp [hrecent, errorAddresses, List.eraseDups_cons]
  rw [hone, if_neg (by decide)] at hx
  obtain ⟨hreg, hevents, hsame⟩ := accessLogged_keeps r.toNat t pa.toNat port.toNat (accessFrame r.toNat pa.toNat s.blk)
  obtain ⟨hevt, huncorr, haddr, hhi, hport, hretired⟩ := ht ▸ accessTaken_fields (s := s.blk) r.isLt pa.isLt port.isLt
  have hfld (f : RF) (hf : MemWord f.addr) := fld_congr _ _ f (hreg _ hf)
  exact completes_of_becomes hx ⟨hevents _ (by omega) hevt, (hfld _ (memWord_ecc r.isLt)).trans huncorr,
    (hfld _ (memWord_errLo r.isLt)).trans haddr, (hfld _ (memWord_errHi r.isLt)).trans hhi, (hfld _ (memWord_errHi r.isLt)).trans hport,
    hsame.trans hrecent, (flag_congr _ _ _ (hreg _ (memWord_stat r.isLt))).trans hretired⟩

end

/-! ### Retirement (R344, R345) -/

/-- Channel `r` is taken out of service with cause `cause`. -/
def isolated (r cause : Nat) (s : Block) : Block :=
  (((s.setReg MC_STAT.IN_SERVICE.addr (wput (wput (s.reg MC_STAT.IN_SERVICE.addr) r false) (8 + r) true)).setFlag
    (MC_CH_STAT.RETIRED r) true).setFld (MC_CH_STAT.CAUSE r) cause).setFlag (MC_CH_STAT.PASS r) false

section
variable {r cause : Nat} (s : Block)

theorem isolated_fields (hc : cause < 8) : (isolated r cause s).flag (MC_CH_STAT.RETIRED r) = true ∧
    (isolated r cause s).fld (MC_CH_STAT.CAUSE r) = cause := by
  unfold isolated
  refine ⟨?_, ?_⟩
  · rw [flag_setFlag_apart _ _ _ _ (apart_of_bits rfl), flag_setFld_apart _ _ _ _ (apart_of_bits rfl),
      flag_setFlag_same _ _ _ ⟨Nat.le_of_ble_eq_true rfl, rfl⟩]
  · rw [fld_setFlag_apart _ _ _ _ (apart_of_bits rfl), fld_setFld _ _ _ (Nat.le_of_ble_eq_true rfl)]
    exact Nat.mod_eq_of_lt hc

theorem reg_isolated_mcStat : (isolated r cause s).reg MC_STAT.addr = wput (wput (s.reg MC_STAT.addr) r false) (8 + r) true := by
  have hstat : MC_STAT.addr ∉ [MC_CH_STAT.addr r] := by
    rw [List.mem_singleton]
    exact (mcStat_ne_chStat r).symm
  rw [isolated, (regsBut_setFlag _ (MC_CH_STAT.PASS r) false).reg hstat, (regsBut_setFld _ (MC_CH_STAT.CAUSE r) cause).reg hstat,
    (regsBut_setFlag _ (MC_CH_STAT.RETIRED r) true).reg hstat]
  exact (reg_setReg ..).trans (if_pos rfl)

/-- An isolated channel alone leaves service. -/
theorem mem_inService_isolated {j : Nat} : j ∈ inService (isolated r cause s) ↔ j ≠ r ∧ j ∈ inService s := by
  rw [mem_inService, mem_inService, reg_isolated_mcStat]
  by_cases hj : j < 8
  · rw [wput, getLsbD_wput _ _ _ _ (by omega), if_neg (by omega), wput, getLsbD_wput _ _ _ _ (by omega)]
    by_cases hr : j = r <;> simp [hr, hj]
  · simp [hj]

end

/-- The frames held lose what lay in channel `r` (R345, R347). -/
def extentsLost (r : Nat) (s : Block) : Block :=
  (s.rcd.slots.filter (fun l => !l.stub && (List.range 8).any (fun x => decide ((extentAt s l.index x).1 = r)))).foldl (fun t l =>
    ((List.range 8).filter (fun x => decide ((extentAt s l.index x).1 = r))).foldl (fun t1 x => loseExtent x l t1) t) s

/-- POLICY's retirement of channel `r` is told, its rows and wanted rate dropped, and depth, grants, monitor and plan follow (R345). -/
def retirementFollowed (r cause : Nat) (s : Block) : Block :=
  let t := monRebuild r ((s.policyCairn 0x803 0x0801 (chanBase r) 0 cause).raise (546 + 8 * r))
  let u := { t with mc := { t.mc with
    openRows := t.mc.openRows.filter (fun e => decide (e.1 / 32 ≠ r)), rateWant := smDel t.mc.rateWant r } }
  startPlan ((regrant (updateDepth none u)).contain 5)

/-- What follows an isolation keeps the channels' words, and its event is raised. -/
theorem retirementFollowed_keeps (r cause : Nat) (s : Block) :
    (∀ a, MemWord a → (retirementFollowed r cause s).reg a = s.reg a) ∧
    (r < 8 → (retirementFollowed r cause s).evtStatus (546 + 8 * r) = true) := by
  have htold := memKept_policyCairn s 0x803 0x0801 (chanBase r) 0 cause
  have hraised := memKept_raise (s.policyCairn 0x803 0x0801 (chanBase r) 0 cause) (546 + 8 * r)
  have hmonitor := memKept_monRebuild ((s.policyCairn 0x803 0x0801 (chanBase r) 0 cause).raise (546 + 8 * r)) r
  have hafter (u : Block) : MemKept u (startPlan ((regrant (updateDepth none u)).contain 5)) :=
    (((memKept_updateDepth u none).trans (memKept_regrant _)).trans (memKept_contain _ 5)).trans (memKept_startPlan _)
  refine ⟨fun a ha => ((hafter _).reg a ha).trans (((htold.trans hraised).trans hmonitor).reg a ha), fun hr =>
    (hafter _).events _ (by omega) (hmonitor.events _ (by omega) ?_)⟩
  rw [evtStatus_raise_self]

/-- Channel `r` is retired by POLICY, before what the loss of every channel brings. -/
def policyRetired (r cause : Nat) (s : Block) : Block := retirementFollowed r cause (isolated r cause (extentsLost r s))

section
variable {r cause : Nat} {s : Block}

theorem retire_of_not_mem {origin : Option Nat} (hout : r ∉ inService s) : retire r cause origin s = s :=
  if_pos (not_contains_of_not_mem hout)

/-- While other channels are in service, a retirement stops nothing. -/
theorem retireRun_eq (hin : r ∈ inService s) (hleft : inService (policyRetired r cause s) ≠ []) :
    retireRun r cause none s = policyRetired r cause s := by
  have hempty : ¬ (inService (policyRetired r cause s)).isEmpty = true := by simpa using hleft
  have hretire : retire r cause none s = policyRetired r cause s := (if_neg (not_contains_of_mem hin)).trans (if_neg hempty)
  rw [retireRun, hretire, if_neg hempty]

theorem memKept_extentsLost : MemKept s (extentsLost r s) :=
  .foldl (fun l _ t => .foldl (fun x _ t1 => memKept_loseExtent t1 x l) t) s

theorem mem_inService_policyRetired {j : Nat} : j ∈ inService (policyRetired r cause s) ↔ j ≠ r ∧ j ∈ inService s := by
  rw [policyRetired, mem_inService, (retirementFollowed_keeps r cause _).1 _ (.inl rfl), ← mem_inService, mem_inService_isolated,
    memKept_extentsLost.inService]

theorem policyRetired_fields (hr : r < 8) (hc : cause < 8) : (policyRetired r cause s).flag (MC_CH_STAT.RETIRED r) = true ∧
    (policyRetired r cause s).fld (MC_CH_STAT.CAUSE r) = cause ∧ (policyRetired r cause s).evtStatus (546 + 8 * r) = true := by
  have hword := memWord_stat hr
  obtain ⟨hreg, hevent⟩ := retirementFollowed_keeps r cause (isolated r cause (extentsLost r s))
  obtain ⟨hretired, hcause⟩ := isolated_fields (r := r) (extentsLost r s) hc
  exact ⟨(flag_congr _ _ _ (hreg _ hword)).trans hretired, (fld_congr _ _ _ (hreg _ hword)).trans hcause, hevent hr⟩

/-- Of two channels in service one is another than `r`. -/
theorem exists_other_inService (h : 2 ≤ (inService s).length) (r : Nat) : ∃ j ∈ inService s, j ≠ r := by
  have hnodup : (inService s).Nodup := List.nodup_range.filter _
  have hcard : 1 < (inService s).toFinset.card := by rwa [List.toFinset_card_of_nodup hnodup]
  obtain ⟨j, hj, hne⟩ := Finset.exists_mem_ne hcard r
  exact ⟨j, List.mem_toFinset.mp hj, hne⟩

theorem retireRun_fields (hin : r ∈ inService s) (h : 2 ≤ (inService s).length) (hc : cause < 8) :
    (retireRun r cause none s).flag (MC_CH_STAT.RETIRED r) = true ∧ (retireRun r cause none s).fld (MC_CH_STAT.CAUSE r) = cause ∧
    r ∉ inService (retireRun r cause none s) ∧ (retireRun r cause none s).evtStatus (546 + 8 * r) = true := by
  obtain ⟨j, hj, hne⟩ := exists_other_inService h r
  have hleft : inService (policyRetired r cause s) ≠ [] := List.ne_nil_of_mem (mem_inService_policyRetired.mpr ⟨hne, hj⟩)
  obtain ⟨hretired, hcause, hevent⟩ := policyRetired_fields (s := s) (mem_inService.mp hin).1 hc
  rw [retireRun_eq hin hleft]
  exact ⟨hretired, hcause, fun hmem => (mem_inService_policyRetired.mp hmem).1 rfl, hevent⟩

theorem retireRun_of_not_mem {origin : Option Nat} (hout : r ∉ inService s) (hsome : inService s ≠ []) : retireRun r cause origin s = s := by
  rw [retireRun, retire_of_not_mem hout, if_neg (by simpa using hsome)]

end

/-- Settles O41: each row is the branch its premises select, whose fields are read off; a band's change, an error's answer and a retirement
are told by their named parts, most of which leave the frame memory's words alone. -/
theorem frameMemoryEvents : Obligations.FrameMemoryEvents := by
  rintro r k s rfl
  refine ⟨pageIdleTimeout_completes, fun busy hin => ⟨?owes, refreshDue_closes hin⟩, refreshDue_stays, refreshPayback_completes,
    dramTempRead_completes, dramTempMissing_completes, recentrePass_completes, recentrePass_stays, fun low => recentrePassEnd_completes,
    fun low => recentrePassEnd_stays, dataRateChange_completes, fun ok => dataRateChange_stays,
    fun pa port bad => uncorrectableAccess_completes, fun pa port bad => uncorrectableAccess_stays,
    fun hin => ⟨rfl, fun htwo => retireRun_fields hin htwo (by decide)⟩,
    fun hout hsome => becomes_of_eq (t := retireRun r.toNat 4 none s.blk) rfl (retireRun_of_not_mem hout hsome)⟩
  case owes =>
    rintro rfl hlow
    exact refreshDue_owes hin hlow

end Sys2Proof.Machine
end

section
/-! The reads of the monitor, statistics, links, magazines, fabric and ageing (R423, R449, R488, R518, R552, R585). -/

namespace Sys2Proof.Machine

@[simp] theorem magThere_touchMaintain (c : Carrier) (s : Block) (m : Nat) : magThere (touchMaintain c s) m = magThere s m := rfl

section
variable {q : Req} {s : State}

theorem monReadOutput_answers {k : Nat} {o : OutFrame} (hk : k = pNat q 8 2) (h : AtOnce 0 k q s.blk) (hq : Shaped q 12 [1, 2, 3, 10, 11])
    (hx : pByte q 0 ≤ 3) (h1 : 1 ≤ k) (h4080 : k ≤ 4080) (ho : (s.blk.ctx (pByte q 0)).last = some o)
    (htop : pNat q 4 4 + k ≤ (outBytes o).length) :
    Answers (.monReadOutput q) q 0x0703 (fun _ => ((outBytes o).drop (pNat q 4 4)).take k) s := by
  subst hk
  have hshape := shape_of_shaped hq
  have ho' : ((touchMaintain q.carrier s.blk).ctx (pByte q 0)).last = some o := ho
  refine executes_congr (executes_of rfl h ?_) ?_
  · simp [hshape, bad, ho']
    omega
  · simp [ho']

theorem statGet_answers {k : Nat} {x : StatArea} (hk : k = pNat q 8 2) (h : AtOnce 0 k q s.blk) (hq : Shaped q 12 [10, 11]) (h1 : 1 ≤ k)
    (h4080 : k ≤ 4080) (hlow : 0x4000 ≤ pNat q 4 4) (htop : pNat q 4 4 + k ≤ 0xA000)
    (hx : s.blk.stat.kept.find? (fun y => decide (y.frame = pNat q 0 4)) = some x) :
    Answers (.statGet q) q 0x0710 (fun _ => (x.bytes.drop (pNat q 4 4 - 0x4000)).take k) s := by
  subst hk
  have hshape := shape_of_shaped hq
  have hx' : (touchMaintain q.carrier s.blk).stat.kept.find? (fun y => decide (y.frame = pNat q 0 4)) = some x := hx
  refine executes_congr (executes_of rfl h ?_) ?_
  · simp [hshape, bad, hx']
    omega
  · simp [hx']

theorem statReadSat_answers {k : Nat} {m : Nat × List (Nat × Nat)} (hk : k = pNat q 8 2) (h : AtOnce 0 k q s.blk) (hq : Shaped q 12 [10, 11])
    (h1 : 1 ≤ k) (h4080 : k ≤ 4080) (htop : pNat q 4 4 + k ≤ 2359296)
    (hm : s.blk.stat.maps.find? (fun y => decide (y.1 = pNat q 0 4)) = some m) :
    Answers (.statReadSat q) q 0x0711 (fun _ => (List.range k).flatMap (fun i => leBytes 1 (smGet 0xFF m.2 (pNat q 4 4 + i)))) s := by
  subst hk
  have hshape := shape_of_shaped hq
  have hm' : (touchMaintain q.carrier s.blk).stat.maps.find? (fun y => decide (y.1 = pNat q 0 4)) = some m := hm
  refine executes_congr (executes_of rfl h ?_) ?_
  · simp [hshape, bad, hm']
    omega
  · simp [hm']

theorem lkGetPort_answers (h : AtOnce 0 68 q s.blk) (hq : Shaped q 4 [1, 2, 3]) (h7 : pByte q 0 ≤ 7) :
    Answers (.lkGetPort q) q 0x0900 (fun b => wordsFrom b (PT_CFG.addr (pByte q 0)) 9 ++
      (List.range (portWidth (pByte q 0))).flatMap (fun i => wordBytes (b.reg (LN_STAT.addr (laneBase (pByte q 0) + i))))) s := by
  have hshape := shape_of_shaped hq
  exact executes_of rfl h (by simp [hshape]; omega)

/-- LK_PRBS_READ answers the lane's counters; with parameter 1 it clears them. -/
theorem lkPrbsRead_executes {l : Nat} (hl : l = pByte q 0) (h : AtOnce 0 16 q s.blk) (hq : Shaped q 4 [2, 3]) (h40 : l < 40)
    (hclear : pByte q 1 ≤ 1) (hp : portPowered s.blk (portOf l) = true) :
    Executes (.lkPrbsRead q) q (fun b =>
      (if pByte q 1 = 1 then (b.setLane l { b.lane l with prbsErr := 0, prbsBits := 0 }).setFld (LN_PRBS_ERR_LO.ERR l) 0 else b).reply q
        0x0905 stOk (leBytes 8 (b.lane l).prbsErr ++ leBytes 8 (b.lane l).prbsBits)) s := by
  subst hl
  have hshape := shape_of_shaped hq
  exact executes_of rfl h (by simp [hshape, hp]; omega)

theorem magIdentify_answers {m : Nat} (hm : m = pByte q 0) (h : AtOnce 0 208 q s.blk) (hq : Shaped q 4 [1, 2, 3]) (h1 : m ≤ 1)
    (hthere : magThere s.blk m = true) :
    Answers (.magIdentify q) q 0x0613 (fun b => ((b.mag m).ident ++ zeros 72).take 72 ++ leBytes 8 (b.mag m).capacity ++
      (if (b.mag m).sb.valid then (superBytes (b.mag m).sb 0).take 128 else ((b.mag m).sbRaw ++ zeros 128).take 128)) s := by
  subst hm
  have hshape := shape_of_shaped hq
  exact executes_of rfl h (by simp [hshape, bad, hthere]; omega)

theorem fbGetNodes_answers {n f : Nat} (hn : n = pNat q 1 2) (hf : f = pByte q 0) (h : AtOnce 0 (12 * n) q s.blk) (hq : Shaped q 4 [3])
    (h1 : 1 ≤ n) (hlim : n ≤ carrierLimit q 256 41) (htop : f + n ≤ s.blk.fb.nodes.length) :
    Answers (.fbGetNodes q) q 0x0A01 (fun b => ((b.fb.nodes.drop f).take n).flatMap nodeBytes) s := by
  subst hn hf
  have hshape := shape_of_shaped hq
  have htop' : pByte q 0 + pNat q 1 2 ≤ (touchMaintain q.carrier s.blk).fb.nodes.length := htop
  refine executes_of rfl h ?_
  cases hc : q.carrier <;> simp [hshape, bad, carrierLimit, hc] at hlim htop' ⊢ <;> omega

theorem agReadHistory_answers {n f : Nat} (hn : n = pNat q 4 2) (hf : f = pNat q 0 4) (h : AtOnce 0 (64 * n) q s.blk) (hq : Shaped q 8 [6, 7])
    (h1 : 1 ≤ n) (hlim : n ≤ carrierLimit q 63 7) (htop : f + n ≤ s.blk.th.historySeq) (hkept : s.blk.th.historySeq ≤ f + 32768) :
    Answers (.agReadHistory q) q 0x0B03 (fun b => (List.range n).flatMap (fun i => historyBytes b (f + i))) s := by
  subst hn hf
  have hshape := shape_of_shaped hq
  have htop' : pNat q 0 4 + pNat q 4 2 ≤ (touchMaintain q.carrier s.blk).th.historySeq := htop
  have hkept' : (touchMaintain q.carrier s.blk).th.historySeq ≤ pNat q 0 4 + 32768 := hkept
  refine executes_of rfl h ?_
  cases hc : q.carrier <;> simp [hshape, bad, carrierLimit, hc] at hlim htop' hkept' ⊢ <;> omega

end

/-- Settles O12: with parameters in range no check of the row fails, and its body is the reply; LK_PRBS_READ clears what it read when its
second parameter says so. -/
theorem outputLinkFabricReads : Obligations.OutputLinkFabricReads := by
  unfold Obligations.OutputLinkFabricReads
  intro q s
  refine ⟨fun k o => monReadOutput_answers, fun k x => statGet_answers, fun k m => statReadSat_answers, lkGetPort_answers,
    fun l hl h hq h40 hp => ?prbs, fun m => magIdentify_answers, fun n f => fbGetNodes_answers, fun n f => agReadHistory_answers⟩
  case prbs =>
    exact ⟨fun h0 => executes_congr (lkPrbsRead_executes hl h hq h40 (by omega) hp) (by simp [h0]),
      fun h1 => executes_congr (lkPrbsRead_executes hl h hq h40 (by omega) hp) (by simp [h1])⟩

end Sys2Proof.Machine
end

section
/-! Link commands (R458, R462, R475, R482, R488): retraining, the lanes allowed, slips and pattern tests. -/

namespace Sys2Proof.Machine

@[simp] theorem mayslip_touchMaintain (c : Carrier) (s : Block) (l : Nat) : mayslip (touchMaintain c s) l = mayslip s l := rfl

/-! ### The generator and the checker of a lane (R462) -/

/-- The bits that start the generator and the checker of a lane. -/
def prbsSet (l tx rx : Nat) (s : Block) : Block := (s.setFld (LN_CTL.PRBS_TX l) tx).setFld (LN_CTL.PRBS_RX l) rx

theorem setPrbs_cases (l tx rx : Nat) (s : Block) :
    setPrbs l tx rx s = (prbsSet l tx rx s).setFlag (LN_STAT.PRBS_LOCK l) false ∨ (rx ≠ 0 ∧ setPrbs l tx rx s = prbsSet l tx rx s) := by
  unfold setPrbs
  dsimp only
  split
  · exact .inl rfl
  · split
    case isTrue => exact .inl rfl
    case isFalse h0 => exact .inr ⟨h0, rfl⟩

theorem fld_prbsSet (l tx rx : Nat) (s : Block) :
    (prbsSet l tx rx s).fld (LN_CTL.PRBS_TX l) = tx % 2 ∧ (prbsSet l tx rx s).fld (LN_CTL.PRBS_RX l) = rx % 2 := by
  unfold prbsSet
  constructor
  · rw [fld_setFld_apart _ _ _ _ (apart_of_bits rfl), fld_setFld _ _ _ (by decide : 1 + 1 ≤ 32)]
    rfl
  · rw [fld_setFld _ _ _ (by decide : 2 + 1 ≤ 32)]
    rfl

/-- The lane's control word says what runs; a checker that does not run has no lock. -/
theorem setPrbs_fields (l tx rx : Nat) (s : Block) :
    (setPrbs l tx rx s).fld (LN_CTL.PRBS_TX l) = tx % 2 ∧ (setPrbs l tx rx s).fld (LN_CTL.PRBS_RX l) = rx % 2 ∧
      (rx = 0 → (setPrbs l tx rx s).flag (LN_STAT.PRBS_LOCK l) = false) := by
  obtain ⟨htx, hrx⟩ := fld_prbsSet l tx rx s
  rcases setPrbs_cases l tx rx s with h | ⟨hne, h⟩
  · have hctl : ∀ f : RF, f.addr = LN_CTL.addr l → (LN_STAT.PRBS_LOCK l).apart f := fun f hf =>
      apart_of_words (a := 0x2210004) (b := 0x2210000) rfl hf (by decide)
    rw [h, fld_setFlag_apart _ _ _ _ (hctl _ rfl), fld_setFlag_apart _ _ _ _ (hctl _ rfl)]
    exact ⟨htx, hrx, fun _ => flag_setFlag _ _ _ (by decide : 3 + 1 ≤ 32) rfl⟩
  · rw [h]
    exact ⟨htx, hrx, fun h0 => absurd h0 hne⟩

/-! ### The rows (R488) -/

section
variable {q : Req} {s : State}

theorem lkRetrain_executes {t : Nat} (ht : t = pByte q 0) (h : AtOnce 2 0 q s.blk) (hq : Shaped q 4 [1, 2, 3]) (h8 : t < 8)
    (hp : portPowered s.blk t = true) (hu : takeUses s.blk t = false) :
    Executes (.lkRetrain q) q (fun b => enterRecover t false (sendCtl t 2 2 0 (b.reply q 0x0901 stOk []))) s := by
  subst ht
  have hshape := shape_of_shaped hq
  refine executes_congr (executes_of rfl h ?_) ?_
  · simp [hshape, hp, hu, h8]
  · exact if_neg (by simp [hu])

theorem lkSetLanes_executes {t m : Nat} (ht : t = pByte q 0) (hm : m = pByte q 1 % 2 ^ portWidth t) (h : AtOnce 2 4 q s.blk)
    (hq : Shaped q 4 [2, 3]) (h8 : t < 8) (hm0 : m ≠ 0) (hp : portPowered s.blk t = true)
    (hu : takeUses s.blk t = true → s.blk.fld (PT_STAT.LANES_IN t) &&& m = s.blk.fld (PT_STAT.LANES_IN t) ∨ forced q = true) :
    Executes (.lkSetLanes q) q (fun b => (allowLanes t m (originOf q.carrier) b).reply q 0x0902 stOk
      (leBytes 1 ((allowLanes t m (originOf q.carrier) b).fld (PT_STAT.LANES_IN t)) ++ zeros 3)) s := by
  subst hm ht
  have hshape := shape_of_shaped hq
  refine executes_of rfl h ?_
  simp only [List.forall_mem_cons, hshape, portPowered_touchMaintain, hp, takeUses_touchMaintain, touchMaintain_fld]
  refine ⟨trivial, by simp [h8, hm0], rfl, ?_, by simp⟩
  cases hcase : takeUses s.blk (pByte q 0)
  case false => rfl
  case true => rcases hu hcase with hsub | hforce <;> simp [*]

theorem lkSlip_executes {l : Nat} (hl : l = pByte q 0) (h : AtOnce 2 4 q s.blk) (hq : Shaped q 4 [2, 3]) (h40 : l < 40) (h1 : 1 ≤ pByte q 1)
    (h129 : pByte q 1 ≤ 129) (hp : portPowered s.blk (portOf l) = true) (hmay : mayslip s.blk l = true) :
    Executes (.lkSlip q) q (fun b => (slipLane l (pByte q 1) b).reply q 0x0903 stOk
      (wordBytes ((slipLane l (pByte q 1) b).reg (LN_STAT.addr l)))) s := by
  subst hl
  have hshape := shape_of_shaped hq
  exact executes_of rfl h (by simp [hshape, hp, hmay]; omega)

theorem lkPrbs_executes {l : Nat} (hl : l = pByte q 0) (h : AtOnce 2 0 q s.blk) (hq : Shaped q 4 [2, 3]) (h40 : l < 40) (h3 : pByte q 1 ≤ 3)
    (hp : portPowered s.blk (portOf l) = true) (hout : s.blk.flag (LN_STAT.IN_SERVICE l) = false) :
    Executes (.lkPrbs q) q (fun b => (setPrbs l (pByte q 1 % 2) (pByte q 1 / 2) b).reply q 0x0904 stOk []) s := by
  subst hl
  have hshape := shape_of_shaped hq
  exact executes_of rfl h (by simp [hshape, hp, hout]; omega)

theorem lkPrbs_completes {l : Nat} (hl : l = pByte q 0) (h : AtOnce 2 0 q s.blk) (hq : Shaped q 4 [2, 3]) (h40 : l < 40) (h3 : pByte q 1 ≤ 3)
    (hp : portPowered s.blk (portOf l) = true) (hout : s.blk.flag (LN_STAT.IN_SERVICE l) = false) :
    Completes (.lkPrbs q) s (fun t => Replied q 0x0904 stOk [] t ∧ t.fld (LN_CTL.PRBS_TX l) = pByte q 1 % 2 ∧
      t.fld (LN_CTL.PRBS_RX l) = pByte q 1 / 2 ∧ (pByte q 1 / 2 = 0 → t.flag (LN_STAT.PRBS_LOCK l) = false)) := by
  refine completes_of_executes (lkPrbs_executes hl h hq h40 h3 hp hout)
    ⟨replied_reply _ q _ _ _ (not_dropped h.notPin h.loud _), ?_⟩
  obtain ⟨htx, hrx, hlock⟩ := setPrbs_fields l (pByte q 1 % 2) (pByte q 1 / 2) (touchMaintain q.carrier s.blk)
  rw [fld_reply, fld_reply, flag_reply, htx, hrx]
  exact ⟨by omega, by omega, hlock⟩

end

/-- Settles O26: with parameters in range no check of the row fails, and its body is the effect; the words of the lane say what LK_PRBS
started or stopped. -/
theorem linkCommands : Obligations.LinkCommands := by
  unfold Obligations.LinkCommands
  intro q s
  exact ⟨fun t => lkRetrain_executes, fun t m => lkSetLanes_executes, fun l => lkSlip_executes, fun l => lkPrbs_completes⟩

end Sys2Proof.Machine
end

section
/-! The two-wire address that a node number gives (R546). -/

namespace Sys2Proof.Machine

/-! ### The node number in the registers (R524) -/

/-- The words that the node number and the root flag stand in, and their cairn. -/
def nodeTold (m : TableMsg) (root : Bool) (s : Block) : Block :=
  ((((s.setFld FB_STAT.NODE m.node).setFld SYS_STATE.NODE m.node).setFlag FB_STAT.ROOT root).setFlag SYS_STATE.ROOT root).cairnN oFirmware
    0x0A02 FB_STAT.addr (s.fld FB_STAT.NODE) m.node

theorem setNode_of_assigned {m : TableMsg} {s : Block} (root : Bool) (h : s.flag FB_STAT.READY = false ∨ s.fld FB_STAT.NODE ≠ m.node) :
    setNode m root s = deriveAddr m.node (nodeTold m root s) := by
  unfold setNode
  dsimp only
  refine if_pos ?_
  rcases h with h | h <;> simp [h]

theorem regsBut_nodeTold (m : TableMsg) (root : Bool) (s : Block) :
    RegsBut [FB_STAT.addr, SYS_STATE.addr, LOG_STAT.addr, LOG_HEAD.addr] s (nodeTold m root s) := by
  unfold nodeTold
  refine ((((regsBut_setFld s FB_STAT.NODE _).append (regsBut_setFld _ SYS_STATE.NODE _)).append (regsBut_setFlag _ FB_STAT.ROOT _)).append
    (regsBut_setFlag _ SYS_STATE.ROOT _) |>.append (regsBut_cairnN _ _ _ _ _ _)).mono ?_
  decide

theorem queue_nodeTold (m : TableMsg) (root : Bool) (s : Block) (h : s.log.queue.length < 4096) :
    (nodeTold m root s).log.queue.length = s.log.queue.length + 1 := by
  unfold nodeTold Block.cairnN
  rw [queue_cairn, List.length_append]
  · rfl
  · exact h

/-! ### The address (R546) -/

/-- May the target answer at address `a` (R546)? -/
def addrFree (a : Nat) (s : Block) : Prop :=
  8 ≤ a ∧ a ≤ 0x77 ∧ a ≠ 0x3A ∧ ¬ (s.flag TW_CFG.GROUP_EN = true ∧ s.fld TW_CFG.GROUP_ADDR = a)

/-- The own address is set and valid. -/
def addrSet (a : Nat) (s : Block) : Block := (s.setFld TW_CFG.IND_ADDR a).setFlag TW_CFG.IND_VALID true

/-- A change of the own address is logged. -/
def addrLogged (a : Nat) (s : Block) : Block :=
  if (addrSet a s).reg TW_CFG.addr = s.reg TW_CFG.addr then addrSet a s
  else (addrSet a s).cairn oFirmware 0x0001 TW_CFG.addr (s.reg TW_CFG.addr) ((addrSet a s).reg TW_CFG.addr)

section
variable {s : Block} {node a : Nat} (hd : s.flag FB_CFG.TW_DERIVE = true) (ha : a = s.fld FB_CFG.TW_BASE + node)
include hd ha

theorem deriveAddr_of_free (h : addrFree a s) : deriveAddr node s = (addrLogged a s).setFlag TW_CFG.ADDR_OUT true := by
  obtain ⟨h8, h77, h3A, hgroup⟩ := h
  subst ha
  unfold deriveAddr
  rw [hd]
  refine (if_neg (by simp)).trans (if_neg ?_)
  rintro (hlow | hhigh | hres | ⟨hen, heq⟩)
  · omega
  · omega
  · exact h3A hres
  · exact hgroup ⟨hen, heq.symm⟩

theorem deriveAddr_of_not_free (h : ¬ addrFree a s) : deriveAddr node s = s.raise 838 := by
  subst ha
  unfold deriveAddr
  rw [hd]
  refine (if_neg (by simp)).trans (if_pos ?_)
  by_contra hno
  simp only [not_or] at hno
  obtain ⟨hlow, hhigh, hres, hgroup⟩ := hno
  exact h ⟨by omega, by omega, hres, fun ⟨hen, heq⟩ => hgroup ⟨hen, heq.symm⟩⟩

end

theorem reg_addrSet (a : Nat) (s : Block) :
    (addrSet a s).reg TW_CFG.addr = wsetField (wsetField (s.reg TW_CFG.addr) 0 7 a) 7 1 1 := by
  simp [addrSet, Block.setFlag, reg_setFld, TW_CFG.IND_ADDR, TW_CFG.IND_VALID, b2n]

theorem fields_addrSet {a : Nat} (h : a < 128) (s : Block) :
    (addrSet a s).fld TW_CFG.IND_ADDR = a ∧ (addrSet a s).flag TW_CFG.IND_VALID = true := by
  unfold addrSet
  constructor
  · rw [fld_setFlag_apart _ _ _ _ (by decide), fld_setFld _ _ _ (by decide)]
    exact Nat.mod_eq_of_lt h
  · exact flag_setFlag _ _ _ (by decide) rfl

theorem regsBut_addrLogged (a : Nat) (s : Block) : RegsBut [LOG_STAT.addr, LOG_HEAD.addr] (addrSet a s) (addrLogged a s) :=
  .ite (.refl _) (regsBut_cairn _ _ _ _ _ _)

/-- An address that the target may answer at is taken. -/
theorem deriveAddr_fields {s : Block} {node a : Nat} (hd : s.flag FB_CFG.TW_DERIVE = true) (ha : a = s.fld FB_CFG.TW_BASE + node)
    (h : addrFree a s) : (deriveAddr node s).fld TW_CFG.IND_ADDR = a ∧ (deriveAddr node s).flag TW_CFG.IND_VALID = true ∧
      (deriveAddr node s).flag TW_CFG.ADDR_OUT = true := by
  obtain ⟨haddr, hvalid⟩ := fields_addrSet (show a < 128 by have := h.2.1; omega) s
  rw [deriveAddr_of_free hd ha h, fld_setFlag_apart _ _ _ _ (by decide), flag_setFlag_apart _ _ _ _ (by decide),
    (regsBut_addrLogged a s).fld (by decide), (regsBut_addrLogged a s).flag (by decide)]
  exact ⟨haddr, hvalid, flag_setFlag _ _ _ (by decide) rfl⟩

/-- An address that was another, or not valid, is logged when the queue has room. -/
theorem logged_deriveAddr {s : Block} {node a : Nat} (hd : s.flag FB_CFG.TW_DERIVE = true) (ha : a = s.fld FB_CFG.TW_BASE + node)
    (h : addrFree a s) (hroom : s.log.queue.length < 4096) (hnew : s.fld TW_CFG.IND_ADDR ≠ a ∨ s.flag TW_CFG.IND_VALID = false) :
    Logged oFirmware 0x0001 TW_CFG.addr (s.reg TW_CFG.addr) (wsetField (wsetField (s.reg TW_CFG.addr) 0 7 a) 7 1 1) (deriveAddr node s) := by
  have hchange : (addrSet a s).reg TW_CFG.addr ≠ s.reg TW_CFG.addr := by
    intro hsame
    obtain ⟨haddr, hvalid⟩ := fields_addrSet (show a < 128 by have := h.2.1; omega) s
    rw [fld_congr _ _ TW_CFG.IND_ADDR hsame] at haddr
    rw [flag_congr _ _ TW_CFG.IND_VALID hsame] at hvalid
    rcases hnew with hnew | hnew
    · exact hnew haddr
    · rw [hvalid] at hnew
      nomatch hnew
  rw [deriveAddr_of_free hd ha h, ← reg_addrSet, logged_congr (setFlag_log _ _ _), addrLogged, if_neg hchange]
  exact logged_cairn _ _ _ _ _ _ hroom

/-- Settles O59: the node number is told first, which leaves the words of the address alone; then the address is taken and logged, or event
838 raised. -/
theorem nodeAddress : Obligations.NodeAddress := by
  unfold Obligations.NodeAddress
  intro m root b a hderive _ hassigned ha
  have hregs := regsBut_nodeTold m root b
  have hreg : (nodeTold m root b).reg TW_CFG.addr = b.reg TW_CFG.addr := hregs.reg (by decide)
  have hd : (nodeTold m root b).flag FB_CFG.TW_DERIVE = true := (hregs.flag (by decide)).trans hderive
  have ha' : a = (nodeTold m root b).fld FB_CFG.TW_BASE + m.node := by rw [hregs.fld (by decide)]; exact ha
  have hfree : addrFree a (nodeTold m root b) ↔ addrFree a b := by
    unfold addrFree
    rw [hregs.flag (by decide), hregs.fld (by decide)]
  rw [setNode_of_assigned root hassigned]
  refine ⟨fun h8 h77 h3A hgroup => ?_, fun hbad => ?_⟩
  · have h := hfree.mpr ⟨h8, h77, h3A, hgroup⟩
    obtain ⟨haddr, hvalid, hout⟩ := deriveAddr_fields hd ha' h
    refine ⟨haddr, hvalid, hout, fun hroom hnew => ?_⟩
    rw [← hreg]
    refine logged_deriveAddr hd ha' h (by rw [queue_nodeTold] <;> omega) ?_
    rwa [hregs.fld (by decide), hregs.flag (by decide)]
  · have h : ¬ addrFree a (nodeTold m root b) := by
      rw [hfree]
      rintro ⟨h8, h77, h3A, hgroup⟩
      rcases hbad with hlow | hhigh | hres | hboth
      · omega
      · omega
      · exact h3A hres
      · exact hgroup hboth
    rw [deriveAddr_of_not_free hd ha' h]
    exact ⟨((regsBut_raise _ 838).reg (by decide)).trans hreg, evtStatus_raise_self _ _⟩

end Sys2Proof.Machine
end

section
/-! Fabric commands (R524, R533, R535, R536, R540, R552): rediscovery, remote requests, array takes and shared arms. -/

namespace Sys2Proof.Machine

@[simp] theorem arrayAnywhere_touchMaintain (c : Carrier) (s : Block) : arrayAnywhere (touchMaintain c s) = arrayAnywhere s := rfl

@[simp] theorem touchMaintain_fb (c : Carrier) (s : Block) : (touchMaintain c s).fb = s.fb := rfl

theorem armBy_fb (o : Nat) (p : List Byte) (s : Block) : (armBy o p s).fb = s.fb := cairn_fb ..

section
variable {q : Req} {s : State}

/-! ### Rediscovery (R524) -/

theorem fbRediscover_executes (h : AtOnce 2 0 q s.blk) (hq : q.params = []) (hfree : arrayAnywhere s.blk = false) :
    Executes (.fbRediscover q) q (fun b =>
      ({ startDiscovery b with fb := { (startDiscovery b).fb with nodes := [] } } : Block).reply q 0x0A02 stOk []) s := by
  have hshape := shape_of_length (q := q) (n := 0) (by rw [hq]; rfl)
  exact executes_of rfl h (by simp [hshape, hfree])

theorem fbRediscover_completes (h : AtOnce 2 0 q s.blk) (hq : q.params = []) (hfree : arrayAnywhere s.blk = false) :
    Completes (.fbRediscover q) s (fun t => Replied q 0x0A02 stOk [] t ∧ t.fb.nodes = [] ∧ t.fb.started = true ∧ t.fb.reports = []) := by
  refine completes_of_executes (fbRediscover_executes h hq hfree) ⟨replied_reply _ q _ _ _ (not_dropped h.notPin h.loud _), ?_⟩
  rw [reply_fb]
  exact ⟨rfl, rfl, rfl⟩

/-! ### Remote requests (R540) -/

/-- The command's reply waits for the reply of node `n`, which is listed with it. -/
def remoteAsked (q : Req) (n : Nat) (tag : Byte) (op : Nat) (b : Block) : Block :=
  { b.replyLater q 0x0A10 stOk [] (.remote (remoteId b)) with
    fb := { b.fb with remotes := b.fb.remotes ++ [⟨remoteId b, n, tag, op, b.now, false⟩] } }

theorem fbRemote_executes {p : List Byte} (hp : p = q.params.drop 4) (h : AtOnce 0 8 q s.blk) (h8 : 8 ≤ p.length) (hres : pNat q 1 3 = 0)
    (hlen : leAt p 4 2 = p.length - 8) (hlim : leAt p 4 2 ≤ 4076) (hop : leAt p 0 2 ≠ 0x0A10) :
    Executes (.fbRemote q) q (fun b => sendRequest (pByte q 0) q (leAt p 0 2) (BitVec.ofNat 8 (leAt p 2 1)) (BitVec.ofNat 8 (leAt p 3 1))
      (p.drop 8) (remoteAsked q (pByte q 0) (BitVec.ofNat 8 (leAt p 2 1)) (leAt p 0 2) b)) s := by
  subst hp
  refine executes_of rfl h ?_
  rw [List.forall_mem_singleton]
  simp only [bad, hres, hlen.symm, hop, ne_eq, not_true_eq_false, decide_false, Bool.or_false, Bool.or_eq_false_iff, decide_eq_false_iff_not]
  omega

/-! ### Array takes (R533, R535) -/

/-- The reply waits for the array take, whose coordinator this unit is. -/
def arrayAsked (q : Req) (k : Tick) (members : List Nat) (b : Block) : Block :=
  { b.replyLater q 0x0A20 stOk [] .array with
    fb := { b.fb with array := some ⟨true, k, b.fld FT_PERIOD.PERIOD, members, [b.fld FB_STAT.NODE], b.now, false, none⟩ } }

/-- The tick that FB_ARRAY_TAKE_OPEN gives its members (R533). -/
def arrayTick (q : Req) (b : Block) : Tick := b.now + BitVec.ofNat 64 (if pNat q 32 4 = 0 then b.fld FB_LEAD.LEAD else pNat q 32 4)

theorem fbArrayTakeOpen_executes {members : List Nat} (hm : members = bitmapNodes (q.params.take 32)) (h : AtOnce 1 40 q s.blk)
    (hlen : q.params.length = 36) (hme : s.blk.fld FB_STAT.NODE ∈ members) (hnone : s.blk.fb.array = none) :
    Executes (.fbArrayTakeOpen q) q (fun b =>
      if arrayOk (b.fld FT_PERIOD.PERIOD) b then
        tryCommit (sendMembers arrPrepare (arrayTick q b) (b.fld FT_PERIOD.PERIOD) members [] (arrayAsked q (arrayTick q b) members b))
      else abortArray stConflict [b.fld FB_STAT.NODE] (arrayAsked q (arrayTick q b) members b)) s := by
  subst hm
  have hshape := shape_of_length hlen
  refine executes_congr (executes_of rfl h ?_) ?_
  · simp [hshape, bad, hme, hnone]
  · dsimp only
    cases hok : arrayOk ((touchMaintain q.carrier s.blk).fld FT_PERIOD.PERIOD) (touchMaintain q.carrier s.blk) <;> rfl

/-- The tick of the close, one lead from now (R535). -/
def closeTick (b : Block) : Tick := b.now + BitVec.ofNat 64 (b.fld FB_LEAD.LEAD)

/-- The members that no pass leads to. -/
def farMembers (b : Block) : List Nat :=
  b.fb.lastMembers.filter (fun n => decide (n ≠ b.fld FB_STAT.NODE) && (routePort b n).isNone)

/-- The members have the tick of the close sent, and this unit keeps it. -/
def arrayClosing (b : Block) : Block :=
  let u := sendMembers arrClose (closeTick b) (b.fld FT_PERIOD.PERIOD) b.fb.lastMembers [] b
  { u with fb := { u.fb with array := u.fb.array.map (fun x => { x with closeAt := some (closeTick b) }) } }

theorem fbArrayTakeClose_executes (h : AtOnce 1 40 q s.blk) (hq : q.params = []) (hin : s.blk.flag FB_STAT.IN_ARRAY = true) :
    Executes (.fbArrayTakeClose q) q (fun b => (arrayClosing b).reply q 0x0A21 stOk (leBytes 8 (closeTick b).toNat ++ bitmap (farMembers b))) s := by
  have hshape := shape_of_length (q := q) (n := 0) (by rw [hq]; rfl)
  exact executes_of rfl h (by simp [hshape, bad, hin])

theorem fbArrayTakeClose_completes (h : AtOnce 1 40 q s.blk) (hq : q.params = []) (hin : s.blk.flag FB_STAT.IN_ARRAY = true) :
    Completes (.fbArrayTakeClose q) s (fun t => ∃ far : List Nat, Replied q 0x0A21 stOk
      (leBytes 8 (s.blk.now + BitVec.ofNat 64 (s.blk.fld FB_LEAD.LEAD)).toNat ++ bitmap far) t) :=
  completes_of_executes (fbArrayTakeClose_executes h hq hin) ⟨_, replied_reply _ q _ _ _ (not_dropped h.notPin h.loud _)⟩

/-! ### Shared arms (R536) -/

/-- This unit's own channel armed, if it is a member and its checks pass. -/
def ownArmed (q : Req) (members : List Nat) (arm : List Byte) (b : Block) : Block :=
  if members.contains (b.fld FB_STAT.NODE) && !(firstFail (armChecks arm b)).isSome then
    armBy (originOf q.carrier) arm (b.replyLater q 0x0A22 stOk [] (.remote (remoteId b)))
  else b.replyLater q 0x0A22 stOk [] (.remote (remoteId b))

/-- The members that have failed so far, and those asked. -/
def armsAsked (q : Req) (members : List Nat) (arm : List Byte) (b : Block) : Block :=
  { ownArmed q members arm b with fb := { (ownArmed q members arm b).fb with
    shared := smPut (ownArmed q members arm b).fb.shared (remoteId b)
      (if members.contains (b.fld FB_STAT.NODE) && (firstFail (armChecks arm b)).isSome then [b.fld FB_STAT.NODE] else []),
    remotes := (ownArmed q members arm b).fb.remotes ++
      (members.filter (fun n => decide (n ≠ b.fld FB_STAT.NODE))).map (fun n => ⟨remoteId b, n, q.tag, 0x0501, b.now, true⟩) } }

theorem ownArmed_fb (q : Req) (members : List Nat) (arm : List Byte) (b : Block) : (ownArmed q members arm b).fb = b.fb := by
  unfold ownArmed
  split
  · exact armBy_fb _ _ _
  · rfl

theorem and_not_and (a b : Bool) : (a && !(a && b)) = (a && !b) := by cases a <;> rfl

theorem fbSharedArm_executes {members : List Nat} {arm : List Byte} (hm : members = bitmapNodes (q.params.take 32))
    (harm : arm = (q.params.drop 32).take 24) (h : AtOnce 1 32 q s.blk) (hq : Shaped q 60 [56, 57, 58, 59]) :
    Executes (.fbSharedArm q) q (fun b => endShared (remoteId b)
      ((members.filter (fun n => decide (n ≠ b.fld FB_STAT.NODE))).foldl (fun c n => sendRequest n q 0x0501 q.tag 0 arm c)
        (armsAsked q members arm b))) s := by
  subst hm harm
  have hshape := shape_of_shaped hq
  refine executes_congr (executes_of rfl h (by simp [hshape])) ?_
  simp only [armsAsked, ownArmed, and_not_and]

end

/-- Settles O28: no check of a row fails, and its body is the effect. Of a shared arm only the own channel's words change before the members
are asked. -/
theorem fabricCommands : Obligations.FabricCommands := by
  unfold Obligations.FabricCommands
  intro q s b hb
  subst hb
  refine ⟨fbRediscover_completes, fun p hp h h8 hres hlen hlim hop => ?remote, fun members me k hm hme hk h hlen hin hnone => ?open_,
    fun a h hq hin _ => fbArrayTakeClose_completes h hq hin, fun members arm me hm harm hme h hq => ?arm⟩
  case remote =>
    exact ⟨remoteAsked q (pByte q 0) (BitVec.ofNat 8 (leAt p 2 1)) (leAt p 0 2) (touchMaintain q.carrier s.blk), rfl, rfl,
      fbRemote_executes hp h h8 hres hlen hlim hop⟩
  case open_ =>
    subst hme hk
    exact ⟨arrayAsked q (arrayTick q (touchMaintain q.carrier s.blk)) members (touchMaintain q.carrier s.blk), rfl,
      held_replyLater (touchMaintain q.carrier s.blk) q 0x0A20 stOk [] .array, fbArrayTakeOpen_executes hm h hlen hin hnone⟩
  case arm =>
    subst hme
    refine ⟨armsAsked q members arm (touchMaintain q.carrier s.blk), ?_, ?_, fbSharedArm_executes hm harm h hq⟩
    · change smPut (ownArmed q members arm (touchMaintain q.carrier s.blk)).fb.shared _ _ = _
      rw [ownArmed_fb]
      rfl
    · change (ownArmed q members arm (touchMaintain q.carrier s.blk)).regs = _
      unfold ownArmed
      rw [apply_ite Block.regs, apply_ite Block.regs]
      rfl

end Sys2Proof.Machine
end

section
/-! Which register fields an operation may change: every field apart from those reads as before, also in a word that the operation writes. -/

namespace Sys2Proof.Machine

/-- The whole register word at `a`, as a field. -/
def RF.word (a : Nat) : RF := ⟨a, 0, 32⟩

/-- Every field that is apart from all of `l` reads in `t` as in `s`. -/
def FldsBut (l : List RF) (s t : Block) : Prop := ∀ f : RF, (∀ g ∈ l, g.apart f) → t.fld f = s.fld f

namespace FldsBut

variable {l m : List RF} {s t u : Block}

theorem fld (h : FldsBut l s t) {f : RF} (hf : ∀ g ∈ l, g.apart f) : t.fld f = s.fld f := h f hf

theorem flag (h : FldsBut l s t) {f : RF} (hf : ∀ g ∈ l, g.apart f) : t.flag f = s.flag f := by
  unfold Block.flag
  rw [h f hf]

theorem refl (s : Block) : FldsBut l s s := fun _ _ => rfl

theorem of_regs (h : t.regs = s.regs) : FldsBut l s t := fun f _ => fld_congr _ _ _ (reg_of_regs h f.addr)

theorem mono (h : FldsBut l s t) (hl : l ⊆ m) : FldsBut m s t := fun f hf => h f fun g hg => hf g (hl hg)

theorem trans (h : FldsBut l s t) (h' : FldsBut l t u) : FldsBut l s u := fun f hf => (h' f hf).trans (h f hf)

theorem append (h : FldsBut l s t) (h' : FldsBut m t u) : FldsBut (l ++ m) s u := fun f hf =>
  (h' f fun g hg => hf g (List.mem_append_right l hg)).trans (h f fun g hg => hf g (List.mem_append_left m hg))

theorem ite {c : Prop} [Decidable c] (ht : FldsBut l s t) (hu : FldsBut l s u) : FldsBut l s (if c then t else u) := by
  split
  · exact ht
  · exact hu

theorem foldl {α : Type} {f : Block → α → Block} (h : ∀ t x, FldsBut l t (f t x)) (xs : List α) (s : Block) : FldsBut l s (xs.foldl f s) := by
  induction xs generalizing s with
  | nil => exact refl s
  | cons x xs ih => exact (h s x).trans (ih _)

end FldsBut

theorem fldsBut_setFld (s : Block) (f : RF) (v : Nat) : FldsBut [f] s (s.setFld f v) := fun g hg =>
  fld_setFld_apart s f g v (hg f (List.mem_singleton_self f))

theorem fldsBut_setFlag (s : Block) (f : RF) (b : Bool) : FldsBut [f] s (s.setFlag f b) := fldsBut_setFld s f _

/-- Words that an operation may change, as fields. -/
theorem RegsBut.fldsBut {l : List Nat} {s t : Block} (h : RegsBut l s t) : FldsBut (l.map RF.word) s t := by
  intro f hf
  by_cases hw : f.addr ∈ l
  · have hempty : f.width = 0 ∨ 32 ≤ f.lo := by
      rcases hf _ (List.mem_map_of_mem hw) with h | h | h
      · exact absurd rfl h
      · exact .inr (by simpa [RF.word] using h)
      · exact .inl (by simp only [RF.word] at h; omega)
    unfold Block.fld
    refine wfield_congr fun i hi => ?_
    rw [BitVec.getLsbD_of_ge _ _ (by omega), BitVec.getLsbD_of_ge _ _ (by omega)]
  · exact h.fld hw

theorem fldsBut_raise (s : Block) (e : Nat) : FldsBut [RF.word (evtStatusA e)] s (s.raise e) := (regsBut_raise s e).fldsBut

end Sys2Proof.Machine
end

section
/-! What sending on a port leaves alone (R464, R522): a message is queued at its port, and nothing else of the block changes. -/

namespace Sys2Proof.Machine

/-! ### A message is queued (R464) -/

section
variable (t vc dst src : Nat) (p : List Byte) (s : Block)

@[simp] theorem sendMsg_regs : (sendMsg t vc dst src p s).regs = s.regs := rfl

@[simp] theorem sendMsg_fb : (sendMsg t vc dst src p s).fb = s.fb := rfl

@[simp] theorem sendMsg_evt : (sendMsg t vc dst src p s).evt = s.evt := rfl

@[simp] theorem sendMsg_cmd : (sendMsg t vc dst src p s).cmd = s.cmd := rfl

@[simp] theorem sendMsg_rcd : (sendMsg t vc dst src p s).rcd = s.rcd := rfl

@[simp] theorem sendMsg_fld (f : RF) : (sendMsg t vc dst src p s).fld f = s.fld f := rfl

@[simp] theorem sendMsg_flag (f : RF) : (sendMsg t vc dst src p s).flag f = s.flag f := rfl

end

end Sys2Proof.Machine
end

section
/-! Election and discovery (R522 to R526, R543): what a pass table writes, and the rows that act on messages and timers. -/

namespace Sys2Proof.Machine

/-! ### The discipline and the lock that a table brings (R529, R530) -/

@[simp] theorem retrim_fb (s : Block) : (retrim s).fb = s.fb := by
  unfold retrim
  dsimp only
  split <;> simp

@[simp] theorem setSlew_fb (v : Int) (s : Block) : (setSlew v s).fb = s.fb := retrim_fb _

theorem setDisc_fb (o v : Nat) (s : Block) : (setDisc o v s).fb = s.fb := by
  by_cases h : s.fld KS_CFG.DISC = v
  · rw [setDisc_of_same o h]
  · rw [setDisc_of_change o h]
    simp

/-- The words that a change of the discipline writes. -/
def discWords : List Nat := KS_CFG.addr :: slewWords

theorem regsBut_setDisc (o v : Nat) (s : Block) : RegsBut discWords s (setDisc o v s) := by
  by_cases h : s.fld KS_CFG.DISC = v
  · rw [setDisc_of_same o h]
    exact .refl s
  · rw [setDisc_of_change o h]
    exact (((regsBut_setFld s KS_CFG.DISC v).append (regsBut_setSlew _ 0)).append (regsBut_cairn _ _ _ _ _ _)).mono (by decide)

theorem regsBut_fabricDisc (root : Bool) (s : Block) : RegsBut discWords s (fabricDisc root s) :=
  .ite (.ite (regsBut_setDisc _ _ s) (.refl s)) (.ite (regsBut_setDisc _ _ s) (.refl s))

theorem fabricDisc_fb (root : Bool) (s : Block) : (fabricDisc root s).fb = s.fb := by
  unfold fabricDisc
  rw [apply_ite Block.fb, apply_ite Block.fb, apply_ite Block.fb, setDisc_fb, setDisc_fb, ite_self, ite_self, ite_self]

theorem fldsBut_setTimeLocked (b : Bool) (s : Block) :
    FldsBut [FB_STAT.TIME_LOCKED, RF.word (evtStatusA 830)] s (setTimeLocked b s) :=
  .ite (.refl s) ((fldsBut_setFlag s FB_STAT.TIME_LOCKED b).append (fldsBut_raise _ 830))

theorem setTimeLocked_fb (b : Bool) (s : Block) : (setTimeLocked b s).fb = s.fb := by
  unfold setTimeLocked
  rw [apply_ite Block.fb, raise_fb, setFlag_fb, ite_self]

/-! ### The node number and the root (R524, R543, R546) -/

theorem regsBut_deriveAddr (node : Nat) (s : Block) :
    RegsBut [TW_CFG.addr, LOG_STAT.addr, LOG_HEAD.addr, evtStatusA 838] s (deriveAddr node s) := by
  unfold deriveAddr
  have hset (a : Nat) : RegsBut [TW_CFG.addr] s (addrSet a s) := (regsBut_setFld s TW_CFG.IND_ADDR a).trans (regsBut_setFlag _ TW_CFG.IND_VALID true)
  refine .ite (.refl s) (.ite ((regsBut_raise s 838).mono (by decide)) ?_)
  exact (((hset _).append (regsBut_addrLogged _ s)).append (regsBut_setFlag _ TW_CFG.ADDR_OUT true)).mono (by decide)

/-- The fields that the node number's assignment may change. -/
def nodeFields : List RF :=
  [FB_STAT.NODE, FB_STAT.ROOT] ++ [SYS_STATE.addr, LOG_STAT.addr, LOG_HEAD.addr, TW_CFG.addr, evtStatusA 838].map RF.word

/-- The number and the root flag, in FB_STAT and in SYS_STATE. -/
def numbered (m : TableMsg) (root : Bool) (s : Block) : Block :=
  (((s.setFld FB_STAT.NODE m.node).setFld SYS_STATE.NODE m.node).setFlag FB_STAT.ROOT root).setFlag SYS_STATE.ROOT root

/-- The words beside the number's that a new number writes. -/
theorem regsBut_setNode (m : TableMsg) (root : Bool) (s : Block) :
    RegsBut [LOG_STAT.addr, LOG_HEAD.addr, TW_CFG.addr, evtStatusA 838] (numbered m root s) (setNode m root s) :=
  .ite (((regsBut_cairnN _ _ _ _ _ _).append (regsBut_deriveAddr _ _)).mono (by decide)) (.refl _)

theorem fldsBut_setNode (m : TableMsg) (root : Bool) (s : Block) : FldsBut nodeFields s (setNode m root s) :=
  (((((fldsBut_setFld s FB_STAT.NODE _).append (regsBut_setFld _ SYS_STATE.NODE _).fldsBut).append (fldsBut_setFlag _ FB_STAT.ROOT _)).append
    (regsBut_setFlag _ SYS_STATE.ROOT _).fldsBut).append (regsBut_setNode m root s).fldsBut).mono (by decide)

theorem setNode_told (m : TableMsg) (root : Bool) (s : Block) :
    (setNode m root s).fld FB_STAT.NODE = m.node % 256 ∧ (setNode m root s).flag FB_STAT.ROOT = root := by
  rw [(regsBut_setNode m root s).fld (by decide), (regsBut_setNode m root s).flag (by decide)]
  unfold numbered
  constructor
  · rw [fld_setFlag_apart _ _ _ _ (by decide), fld_setFlag_apart _ _ _ _ (by decide), fld_setFld_apart _ _ _ _ (by decide)]
    exact fld_setFld _ _ _ (by decide)
  · rw [flag_setFlag_apart _ _ _ _ (by decide)]
    exact flag_setFlag _ _ _ (by decide) rfl

/-- The words that a table's root may change. -/
def rootWords : List Nat := [FB_ROOT_SN_LO.addr, FB_ROOT_SN_HI.addr, evtStatusA 825, POL_LAST.addr, LOG_STAT.addr, LOG_HEAD.addr]

/-- The new root's serial number, with event 825. -/
def rootTold (sn : Nat) (s : Block) : Block := ((s.setFld FB_ROOT_SN_LO.SN sn).setFld FB_ROOT_SN_HI.SN (sn / 2 ^ 32)).raise 825

theorem regsBut_rootTold (sn : Nat) (s : Block) : RegsBut [FB_ROOT_SN_LO.addr, FB_ROOT_SN_HI.addr, evtStatusA 825] s (rootTold sn s) :=
  ((regsBut_setFld s FB_ROOT_SN_LO.SN _).append (regsBut_setFld _ FB_ROOT_SN_HI.SN _)).append (regsBut_raise _ 825)

theorem regsBut_setRoot (m : TableMsg) (root : Bool) (s : Block) : RegsBut rootWords s (setRoot m root s) := by
  unfold setRoot
  dsimp only
  refine .ite (.refl s) (.ite ?_ (.ite ?_ ?_))
  · exact (regsBut_rootTold _ s).mono (by decide)
  · exact ((regsBut_rootTold _ s).append (regsBut_policyCairn _ _ _ _ _ _)).mono (by decide)
  · exact ((regsBut_rootTold _ s).append (regsBut_cairnN _ _ _ _ _ _)).mono (by decide)

/-! ### Nodes out of reach (R525, R544) -/

/-- The listed nodes that no pass leads to. -/
def unreached (m : TableMsg) (s : Block) : List Nat := (List.range m.nodes.length).filter (fun n => decide (s.fld (FB_ROUTE.PRIMARY n) = 7))

/-- Event 827 for each node that has become so. -/
def reachLost (m : TableMsg) (before : Nat → Nat) (s : Block) : Block :=
  ((unreached m s).filter (fun n => decide (before n ≠ 7))).foldl (fun (a : Block) _ => a.raise 827) s

theorem setReach_eq (m : TableMsg) (before : Nat → Nat) (s : Block) : setReach m before s =
    if (!(unreached m s).isEmpty && !(reachLost m before s).flag FB_STAT.PARTITIONED) = true then
      ((reachLost m before s).setFlag FB_STAT.PARTITIONED (!(unreached m s).isEmpty)).raise 829
    else (reachLost m before s).setFlag FB_STAT.PARTITIONED (!(unreached m s).isEmpty) := rfl

/-- The fields that reach is told in. -/
def reachFields : List RF := [RF.word (evtStatusA 827), FB_STAT.PARTITIONED, RF.word (evtStatusA 829)]

theorem fldsBut_setReach (m : TableMsg) (before : Nat → Nat) (s : Block) : FldsBut reachFields s (setReach m before s) := by
  have hlost : FldsBut [RF.word (evtStatusA 827)] s (reachLost m before s) := .foldl (fun t _ => fldsBut_raise t 827) _ s
  have hset := hlost.append (fldsBut_setFlag _ FB_STAT.PARTITIONED (!(unreached m s).isEmpty))
  rw [setReach_eq]
  exact .ite ((hset.append (fldsBut_raise _ 829)).mono (by decide)) (hset.mono (by decide))

theorem setReach_partitioned (m : TableMsg) (before : Nat → Nat) (s : Block) :
    (setReach m before s).flag FB_STAT.PARTITIONED = !(unreached m s).isEmpty := by
  rw [setReach_eq, apply_ite (fun t : Block => t.flag FB_STAT.PARTITIONED), flag_raise _ _ _ (by decide), ite_self]
  exact flag_setFlag _ _ _ (by decide) rfl

theorem setReach_fb (m : TableMsg) (before : Nat → Nat) (s : Block) : (setReach m before s).fb = s.fb := by
  rw [setReach_eq, apply_ite Block.fb, raise_fb, ite_self, setFlag_fb]
  exact foldl_keeps (g := Block.fb) (fun t _ => raise_fb t 827) _ s

/-! ### A pass table, part by part (R524 to R526, R530, R532) -/

/-- Is the unit that the table is for its root? -/
def tableRoot (m : TableMsg) : Bool := match m.nodes[m.node]? with | some n => n.root | none => false

/-- Does the table take the unit into a fabric? -/
def tableJoins (m : TableMsg) (s : Block) : Bool :=
  decide (1 < m.gen) && !tableRoot m && (!s.flag FB_STAT.READY || decide (s.fld FB_ID.ID ≠ m.id))

/-- The routes of the table. -/
def tableRoutes (m : TableMsg) (s : Block) : Block :=
  m.routes.zipIdx.foldl (fun (a : Block) (b : Byte × Nat) => a.setReg (FB_ROUTE.addr b.2) (BitVec.ofNat 32 (b.1.toNat % 64))) s

/-- Its generation, its fabric and the number of its nodes, after the routes. -/
def tableRead (m : TableMsg) (s : Block) : Block :=
  ((((tableRoutes m s).setFld FB_GEN.GEN m.gen).setFld FB_ID.ID m.id).setFld FB_STAT.NODES m.nodes.length).cairnN oFirmware 0x0A03
    FB_GEN.addr (s.fld FB_GEN.GEN) m.gen |>.raise 824

/-- The unit's place in the fabric. -/
def tablePlaced (m : TableMsg) (s : Block) : Block :=
  let s4 := (s.setFld FB_POS.X (unsgn 8 (((m.nodes[m.node]?).map (fun n => n.x)).getD 0))).setFld FB_POS.Y
    (unsgn 8 (((m.nodes[m.node]?).map (fun n => n.y)).getD 0))
  (s4.setFld FB_POS.HOPS (if tableRoot m then 0 else s4.fb.bestHops)).setFld FB_POS.PARENT
    (if tableRoot m then 0 else s4.fld (FB_ROUTE.PRIMARY ((m.nodes.findIdx? (fun n => n.root)).getD 0)))

/-- The unit is a node of the fabric. -/
def tableReady (s : Block) : Block := (s.setFlag FB_STAT.READY true).setFlag FB_STAT.ADMIT_WAIT false

/-- The node list kept, and no table waiting. -/
def tableKept (m : TableMsg) (join : Bool) (s : Block) : Block :=
  { s with fb := { s.fb with
    nodes := m.nodes, table := none, joining := s.fb.joining || join,
    ex := if join then Exchange.reset else s.fb.ex } }

/-- The node behind pass `d`, if it has a neighbour. -/
def passNode (m : TableMsg) (a : Block) (d : Nat) : Block :=
  let n := nodeOf m.nodes (smGet 0 a.fb.neighbours d)
  if smHas a.fb.neighbours d then (a.setFld (FB_PASS.NBR_NODE d) (n.getD 0)).setFlag (FB_PASS.NBR_VALID d) n.isSome else a

/-- What follows from the table: reach, the discipline and a root's lock. -/
def tableActs (m : TableMsg) (before : Nat → Nat) (s : Block) : Block :=
  let s9 := fabricDisc (tableRoot m) (setReach m before s)
  if tableRoot m then setTimeLocked true s9 else s9

/-- The unit as a node of the table's fabric. -/
def tableTaken (m : TableMsg) (s : Block) : Block :=
  tableReady (tablePlaced m (setRoot m (tableRoot m) (setNode m (tableRoot m) (tableRead m s))))

/-- The table learnt: the node list, and the nodes behind the passes. -/
def tableLearnt (m : TableMsg) (s : Block) : Block := passes.foldl (passNode m) (tableKept m (tableJoins m s) (tableTaken m s))

/-- The table applied, but for the news of a new unit. -/
def tableApplied (m : TableMsg) (s : Block) : Block := tableActs m (fun n => s.fld (FB_ROUTE.PRIMARY n)) (tableLearnt m s)

theorem applyTable_eq (m : TableMsg) (s : Block) : applyTable m s =
    if (m.nodes.any (fun n => !s.fb.nodes.any (fun o => decide (o.serial = n.serial))) && decide (1 < m.gen)) = true then
      (tableApplied m s).raise 826
    else tableApplied m s := rfl

theorem fldsBut_applyTable (m : TableMsg) (s : Block) : FldsBut [RF.word (evtStatusA 826)] (tableApplied m s) (applyTable m s) := by
  rw [applyTable_eq]
  exact .ite (fldsBut_raise _ 826) (.refl _)

theorem applyTable_fb (m : TableMsg) (s : Block) : (applyTable m s).fb = (tableApplied m s).fb := by
  rw [applyTable_eq, apply_ite Block.fb, raise_fb, ite_self]

theorem fldsBut_tablePlaced (m : TableMsg) (s : Block) : FldsBut [RF.word FB_POS.addr] s (tablePlaced m s) :=
  (((regsBut_setFld s FB_POS.X _).trans (regsBut_setFld _ FB_POS.Y _)).trans (regsBut_setFld _ FB_POS.HOPS _)).trans
    (regsBut_setFld _ FB_POS.PARENT _) |>.fldsBut

theorem regsBut_passNodes (m : TableMsg) (s : Block) : RegsBut (passes.map FB_PASS.addr) s (passes.foldl (passNode m) s) := by
  have hone (t : Block) (d : Nat) : RegsBut [FB_PASS.addr d] t (passNode m t d) :=
    .ite ((regsBut_setFld t (FB_PASS.NBR_NODE d) _).trans (regsBut_setFlag _ (FB_PASS.NBR_VALID d) _)) (.refl t)
  exact (RegsBut.foldl_flatMap hone passes s).mono (by decide)

theorem passNodes_fb (m : TableMsg) (s : Block) : (passes.foldl (passNode m) s).fb = s.fb :=
  foldl_keeps (g := Block.fb) (fun t d => by unfold passNode; dsimp only; split <;> rfl) passes s

/-- The fields that the table's consequences may change. -/
def actFields : List RF := reachFields ++ discWords.map RF.word ++ [FB_STAT.TIME_LOCKED, RF.word (evtStatusA 830)]

theorem fldsBut_tableActs_reach (m : TableMsg) (before : Nat → Nat) (s : Block) :
    FldsBut (discWords.map RF.word ++ [FB_STAT.TIME_LOCKED, RF.word (evtStatusA 830)]) (setReach m before s) (tableActs m before s) := by
  have hdisc := (regsBut_fabricDisc (tableRoot m) (setReach m before s)).fldsBut
  exact .ite (hdisc.append (fldsBut_setTimeLocked true _)) (hdisc.mono (List.subset_append_left _ _))

theorem fldsBut_tableActs (m : TableMsg) (before : Nat → Nat) (s : Block) : FldsBut actFields s (tableActs m before s) :=
  ((fldsBut_setReach m before s).append (fldsBut_tableActs_reach m before s)).mono (by decide)

theorem tableActs_fb (m : TableMsg) (before : Nat → Nat) (s : Block) : (tableActs m before s).fb = s.fb := by
  unfold tableActs
  dsimp only
  rw [apply_ite Block.fb, setTimeLocked_fb, ite_self, fabricDisc_fb, setReach_fb]

/-! ### What a table leaves in the registers -/

/-- The fields that may change after the unit is told to be ready. -/
def afterReady : List RF := (passes.map FB_PASS.addr).map RF.word ++ actFields ++ [RF.word (evtStatusA 826)]

theorem fldsBut_tableKept {l : List RF} (m : TableMsg) (join : Bool) (s : Block) : FldsBut l s (tableKept m join s) := .of_regs rfl

theorem fldsBut_tableLearnt (m : TableMsg) (s : Block) :
    FldsBut ((passes.map FB_PASS.addr).map RF.word) (tableTaken m s) (tableLearnt m s) :=
  (fldsBut_tableKept m _ _).trans (regsBut_passNodes m _).fldsBut

theorem fldsBut_afterReady (m : TableMsg) (s : Block) : FldsBut afterReady (tableTaken m s) (applyTable m s) :=
  ((fldsBut_tableLearnt m s).append (fldsBut_tableActs m _ _)).append (fldsBut_applyTable m s)

theorem fldsBut_tableReady (s : Block) : FldsBut [FB_STAT.READY, FB_STAT.ADMIT_WAIT] s (tableReady s) :=
  (fldsBut_setFlag s FB_STAT.READY true).append (fldsBut_setFlag _ FB_STAT.ADMIT_WAIT false)

/-- The fields that may change between the node number told and the unit ready. -/
def takenFields : List RF := rootWords.map RF.word ++ [RF.word FB_POS.addr] ++ [FB_STAT.READY, FB_STAT.ADMIT_WAIT]

theorem fldsBut_tableTaken (m : TableMsg) (s : Block) : FldsBut takenFields (setNode m (tableRoot m) (tableRead m s)) (tableTaken m s) :=
  ((regsBut_setRoot m _ _).fldsBut.append (fldsBut_tablePlaced m _)).append (fldsBut_tableReady _)

/-- The fields that may change after the node number is told. -/
def afterNode : List RF := takenFields ++ afterReady

theorem fldsBut_afterNode (m : TableMsg) (s : Block) : FldsBut afterNode (setNode m (tableRoot m) (tableRead m s)) (applyTable m s) :=
  (fldsBut_tableTaken m s).append (fldsBut_afterReady m s)

theorem fldsBut_afterRead (m : TableMsg) (s : Block) : FldsBut (nodeFields ++ afterNode) (tableRead m s) (applyTable m s) :=
  (fldsBut_setNode m _ _).append (fldsBut_afterNode m s)

theorem applyTable_ready (m : TableMsg) (s : Block) :
    (applyTable m s).flag FB_STAT.READY = true ∧ (applyTable m s).flag FB_STAT.ADMIT_WAIT = false := by
  rw [(fldsBut_afterReady m s).flag (by decide), (fldsBut_afterReady m s).flag (by decide)]
  refine ⟨?_, flag_setFlag _ _ _ (by decide) rfl⟩
  rw [tableTaken, tableReady, flag_setFlag_apart _ _ _ _ (by decide)]
  exact flag_setFlag _ _ _ (by decide) rfl

theorem applyTable_node (m : TableMsg) (s : Block) :
    (applyTable m s).fld FB_STAT.NODE = m.node % 256 ∧ (applyTable m s).flag FB_STAT.ROOT = tableRoot m := by
  rw [(fldsBut_afterNode m s).fld (by decide), (fldsBut_afterNode m s).flag (by decide)]
  exact setNode_told m _ _

theorem fldsBut_tableRead (m : TableMsg) (s : Block) :
    FldsBut [FB_GEN.GEN, FB_ID.ID, FB_STAT.NODES, RF.word LOG_STAT.addr, RF.word LOG_HEAD.addr, RF.word (evtStatusA 824)]
      (tableRoutes m s) (tableRead m s) :=
  ((((fldsBut_setFld _ FB_GEN.GEN _).append (fldsBut_setFld _ FB_ID.ID _)).append (fldsBut_setFld _ FB_STAT.NODES _)).append
    (regsBut_cairnN _ _ _ _ _ _).fldsBut).append (fldsBut_raise _ 824)

theorem tableRead_fields (m : TableMsg) (s : Block) : (tableRead m s).fld FB_GEN.GEN = m.gen % 2 ^ 32 ∧
    (tableRead m s).fld FB_ID.ID = m.id % 2 ^ 32 ∧ (tableRead m s).fld FB_STAT.NODES = m.nodes.length % 512 := by
  have hregs : RegsBut [LOG_STAT.addr, LOG_HEAD.addr, evtStatusA 824]
      ((((tableRoutes m s).setFld FB_GEN.GEN m.gen).setFld FB_ID.ID m.id).setFld FB_STAT.NODES m.nodes.length) (tableRead m s) :=
    (regsBut_cairnN _ _ _ _ _ _).append (regsBut_raise _ 824)
  rw [hregs.fld (by decide), hregs.fld (by decide), hregs.fld (by decide)]
  refine ⟨?_, ?_, fld_setFld _ _ _ (by decide)⟩
  · rw [fld_setFld_apart _ _ _ _ (by decide), fld_setFld_apart _ _ _ _ (by decide)]
    exact fld_setFld _ _ _ (by decide)
  · rw [fld_setFld_apart _ _ _ _ (by decide)]
    exact fld_setFld _ _ _ (by decide)

theorem applyTable_generation (m : TableMsg) (s : Block) : (applyTable m s).fld FB_GEN.GEN = m.gen % 2 ^ 32 ∧
    (applyTable m s).fld FB_ID.ID = m.id % 2 ^ 32 ∧ (applyTable m s).fld FB_STAT.NODES = m.nodes.length % 512 := by
  rw [(fldsBut_afterRead m s).fld (by decide), (fldsBut_afterRead m s).fld (by decide), (fldsBut_afterRead m s).fld (by decide)]
  exact tableRead_fields m s

theorem applyTable_nodes (m : TableMsg) (s : Block) : (applyTable m s).fb.nodes = m.nodes ∧ (applyTable m s).fb.table = none := by
  rw [applyTable_fb, tableApplied, tableActs_fb, tableLearnt, passNodes_fb]
  exact ⟨rfl, rfl⟩

/-! ### A fabric of one (R524) -/

theorem reg_routes_below (l : List Byte) {j k : Nat} (h : j < k) (s : Block) :
    ((l.zipIdx k).foldl (fun (a : Block) (b : Byte × Nat) => a.setReg (FB_ROUTE.addr b.2) (BitVec.ofNat 32 (b.1.toNat % 64))) s).reg
      (FB_ROUTE.addr j) = s.reg (FB_ROUTE.addr j) := by
  induction l generalizing s k with
  | nil => rfl
  | cons x l ih =>
    rw [List.zipIdx_cons, List.foldl_cons, ih (by omega), reg_setReg, if_neg]
    unfold FB_ROUTE.addr
    omega

/-- The table's routes are not written again before its reach is told. -/
theorem fldsBut_routes (m : TableMsg) (s : Block) : FldsBut ([FB_GEN.GEN, FB_ID.ID, FB_STAT.NODES, RF.word LOG_STAT.addr, RF.word LOG_HEAD.addr,
    RF.word (evtStatusA 824)] ++ nodeFields ++ takenFields ++ (passes.map FB_PASS.addr).map RF.word) (tableRoutes m s) (tableLearnt m s) :=
  (((fldsBut_tableRead m s).append (fldsBut_setNode m _ _)).append (fldsBut_tableTaken m s)).append (fldsBut_tableLearnt m s)

theorem primary_alone (id : Nat) (s u : Block) : (tableRoutes (aloneTable id s) u).fld (FB_ROUTE.PRIMARY 0) = 0 := by
  have hreg : (tableRoutes (aloneTable id s) u).reg (FB_ROUTE.addr 0) = 56 := by
    unfold tableRoutes aloneTable
    rw [List.zipIdx_cons, List.foldl_cons, reg_routes_below _ (by omega), reg_setReg, if_pos rfl]
    rfl
  change wfield ((tableRoutes (aloneTable id s) u).reg (FB_ROUTE.addr 0)) 0 3 = 0
  rw [hreg]
  rfl

/-- The one node is in reach: its own route is not 7. -/
theorem unreached_alone (id : Nat) (s u : Block) : unreached (aloneTable id s) (tableLearnt (aloneTable id s) u) = [] := by
  have hroute := (fldsBut_routes (aloneTable id s) u).fld (f := FB_ROUTE.PRIMARY 0) (by decide)
  rw [primary_alone] at hroute
  change (List.range 1).filter _ = []
  rw [List.filter_eq_nil_iff]
  intro n hn
  rw [List.mem_range, Nat.lt_one_iff] at hn
  rw [hn, hroute]
  decide

theorem applyTable_alone_partitioned (id : Nat) (s u : Block) : (applyTable (aloneTable id s) u).flag FB_STAT.PARTITIONED = false := by
  have hreach := setReach_partitioned (aloneTable id s) (fun n => u.fld (FB_ROUTE.PRIMARY n)) (tableLearnt (aloneTable id s) u)
  rw [unreached_alone] at hreach
  rw [(fldsBut_applyTable _ u).flag (by decide), tableApplied, (fldsBut_tableActs_reach _ _ _).flag (by decide), hreach]
  rfl

theorem tableRoot_alone (id : Nat) (s : Block) : tableRoot (aloneTable id s) = true := rfl

end Sys2Proof.Machine
end

section
/-! The rows of election and discovery (R522 to R526, R543), and obligation O50. -/

namespace Sys2Proof.Machine

section
variable {s : State}

/-! ### The timers (R523, R524, R543) -/

theorem discoveryStage_of (hc : s.blk.pwr.coreDown = false) {t : Block}
    (h : (if (decide (s.blk.fld SYS_BOOT.STAGE = 8) && s.blk.flag SYS_DOMAIN.FX_ON && !s.blk.fb.started) = true then startDiscovery s.blk
      else s.blk) = t) : Becomes .discoveryStage s t :=
  (onBlock_next ((if_neg (by simp [hc])).trans (congrArg _ h)) : execDiscoveryStage s = _)

/-- A HELLO on pass `d`. -/
def helloSent (b : Block) (d : Nat) : Block := sendMsg (passPort d) 0 0 (b.fld FB_STAT.NODE) (helloBytes b d) b

/-- A HELLO on every pass in service. -/
def hellosSent (b : Block) : Block := (passes.filter (fun d => portUp b (passPort d))).foldl helloSent b

theorem hellosSent_fb (b : Block) : (hellosSent b).fb = b.fb := foldl_keeps (f := helloSent) (g := Block.fb) (fun _ _ => rfl) _ b

theorem hellosSent_regs (b : Block) : (hellosSent b).regs = b.regs := foldl_keeps (f := helloSent) (g := Block.regs) (fun _ _ => rfl) _ b

/-- A declared root counts its heartbeat. -/
def beaten (b : Block) : Block :=
  if b.fb.declared then { b with fb := { b.fb with heartbeat := (b.fb.heartbeat + 1) % 2 ^ 32 } } else b

theorem beaten_regs (b : Block) : (beaten b).regs = b.regs := by
  unfold beaten
  split <;> rfl

theorem helloTimer_becomes (hc : s.blk.pwr.coreDown = false) (hon : fabricOn s.blk = true) (hst : s.blk.fb.started = true) :
    Becomes .helloTimer s (hellosSent (beaten s.blk)) := by
  refine (onBlock_next ((if_neg (by simp [hc])).trans ((if_neg (by simp [hon])).trans ?_)) : execHelloTimer s = _)
  dsimp only
  rw [hst]
  rfl

/-- The unit's own key has stayed best long enough to declare a root (R523). -/
def declares (b : Block) : Bool :=
  fabricOn b && b.fb.started && !b.fb.declared && decide (b.fb.bestKey = ownKey b) && decide (20 * msT ≤ b.sinceT b.fb.bestSince)

theorem rootDeclare_of (hc : s.blk.pwr.coreDown = false) {t : Block}
    (h : (if declares s.blk = true then { s.blk with fb := { s.blk.fb with declared := true, reportAt := some s.blk.now } } else s.blk) = t) :
    Becomes .rootDeclare s t :=
  (onBlock_next ((if_neg (by simp [hc])).trans (congrArg _ h)) : execRootDeclare s = _)

/-- The root has been silent for too long (R543). -/
def rootSilent (b : Block) : Bool :=
  fabricOn b && b.fb.started && decide (b.fb.bestKey ≠ ownKey b) && decide (10 * msT ≤ b.sinceT b.fb.beatAt)

theorem rootLost_of (hc : s.blk.pwr.coreDown = false) {t : Block}
    (h : (if rootSilent s.blk = true then
      { elect s.blk with fb := { (elect s.blk).fb with lost := some (s.blk.fb.bestKey, s.blk.fb.heartbeat) } } else s.blk) = t) :
    Becomes .rootLost s t :=
  (onBlock_next ((if_neg (by simp [hc])).trans (congrArg _ h)) : execRootLost s = _)

theorem discoveryQuiet_of (hc : s.blk.pwr.coreDown = false) {at_ : Tick} (hat : s.blk.fb.reportAt = some at_) {t : Block}
    (h : (if (fabricOn s.blk && s.blk.fb.declared && decide (10 * msT ≤ s.blk.sinceT at_) &&
      !(s.blk.fb.nodes.isEmpty && s.blk.fb.reports.isEmpty)) = true then issueTable s.blk else s.blk) = t) : Becomes .discoveryQuiet s t := by
  refine (onBlock_next ((if_neg (by simp [hc])).trans (congrArg _ ?_)) : execDiscoveryQuiet s = _)
  rw [hat]
  exact h

/-- No fabric has admitted the unit in time (R524). -/
def aloneDue (b : Block) : Bool :=
  fabricOn b && b.fb.started && !b.flag FB_STAT.READY &&
    (decide (500 * msT ≤ b.sinceT b.fb.stageAt) || (passes.all (fun d => !portUp b (passPort d)) && decide (100 * msT ≤ b.sinceT b.fb.stageAt)))

/-- The unit as a fabric of one, its root if its own key is best. -/
def alone (b : Block) : Block :=
  let s1 := applyTable (aloneTable b.drawn.toNat b) b.draw
  { s1 with fb := { s1.fb with declared := decide (s1.fb.bestKey = ownKey s1) } }

theorem fabricAloneTimeout_due (hc : s.blk.pwr.coreDown = false) (h : aloneDue s.blk = true) :
    Becomes .fabricAloneTimeout s (alone s.blk) :=
  (onBlock_next ((if_neg (by simp [hc])).trans (if_pos h)) : execFabricAloneTimeout s = _)

theorem fabricAloneTimeout_early (hc : s.blk.pwr.coreDown = false) (h : aloneDue s.blk = false) :
    Becomes .fabricAloneTimeout s s.blk :=
  (onBlock_next ((if_neg (by simp [hc])).trans (if_neg (Bool.eq_false_iff.mp h))) : execFabricAloneTimeout s = _)

theorem alone_fields (b : Block) : (alone b).flag FB_STAT.READY = true ∧ (alone b).fld FB_STAT.NODE = 0 ∧ (alone b).flag FB_STAT.ROOT = true ∧
    (alone b).fld FB_STAT.NODES = 1 ∧ (alone b).fld FB_GEN.GEN = 1 ∧ (alone b).fb.nodes = [⟨Config.serial.toNat, 0, 0, true, true⟩] ∧
    (alone b).fld FB_ID.ID = b.drawn.toNat ∧ (alone b).flag FB_STAT.PARTITIONED = false := by
  obtain ⟨hready, -⟩ := applyTable_ready (aloneTable b.drawn.toNat b) b.draw
  obtain ⟨hnode, hroot⟩ := applyTable_node (aloneTable b.drawn.toNat b) b.draw
  obtain ⟨hgen, hid, hnodes⟩ := applyTable_generation (aloneTable b.drawn.toNat b) b.draw
  obtain ⟨hlist, -⟩ := applyTable_nodes (aloneTable b.drawn.toNat b) b.draw
  exact ⟨hready, hnode, hroot.trans (tableRoot_alone _ _), hnodes, hgen, hlist, hid.trans (Nat.mod_eq_of_lt b.drawn.isLt),
    applyTable_alone_partitioned _ _ _⟩

/-! ### A HELLO (R521, R523) -/

section
variable {d : BitVec 3} {p : List Byte}

theorem pass_in_range (h1 : 1 ≤ d.toNat) (h4 : d.toNat ≤ 4) : ¬ (d.toNat = 0 ∨ 4 < d.toNat) := by omega

theorem helloRx_other (hc : s.blk.pwr.coreDown = false) (h1 : 1 ≤ d.toNat) (h4 : d.toNat ≤ 4)
    (h : leAt p 0 2 ≠ 0x0AF0 ∨ fabricOn s.blk = false ∨ portUp s.blk (passPort d.toNat) = false) : Becomes (.helloRx d p) s s.blk := by
  refine (onBlock_next ((if_neg (by simp [hc])).trans ((if_neg (pass_in_range h1 h4)).trans (if_pos ?_))) : execHelloRx d p s = _)
  rcases h with h | h | h <;> simp [h]

/-- The HELLO taken: the pass, then the key where the pass is usable. -/
def helloMet (d : Nat) (p : List Byte) (b : Block) : Block :=
  if passUsable (meetPass d p b) d then meetKey d p (meetPass d p b) else meetPass d p b

/-- Does the HELLO leave the passes, the parent and the best key? -/
def helloSame (v b : Block) : Bool :=
  decide (ownReport v = ownReport b) && decide (v.fb.parent = b.fb.parent) && decide (v.fb.bestKey = b.fb.bestKey)

theorem helloRx_becomes (hc : s.blk.pwr.coreDown = false) (h1 : 1 ≤ d.toNat) (h4 : d.toNat ≤ 4) (hty : leAt p 0 2 = 0x0AF0)
    (hon : fabricOn s.blk = true) (hst : s.blk.fb.started = true) (hup : portUp s.blk (passPort d.toNat) = true) :
    Becomes (.helloRx d p) s (if helloSame (helloMet d.toNat p s.blk) s.blk = true then helloMet d.toNat p s.blk
      else report (helloMet d.toNat p s.blk)) := by
  refine (onBlock_next ((if_neg (by simp [hc])).trans ((if_neg (pass_in_range h1 h4)).trans (if_neg ?_))) : execHelloRx d p s = _)
  simp [hty, hon, hst, hup]

end

/-- Does a HELLO from pass `sp` find pass `d` usable (R521)? -/
def passFits (d sp : Nat) (b : Block) : Bool := decide (sp = opposite d) && decide (b.fld (PT_PARTNER.KIND (passPort d)) = 6)

/-- The pass register after a HELLO. -/
def passMet (d : Nat) (p : List Byte) (b : Block) : Block :=
  (((b.setFld (FB_PASS.STATE d) (if passFits d (leAt p 30 1) b then 1 else 2)).setFld (FB_PASS.NBR_PASS d) (leAt p 30 1)).setFld
    (FB_PASS.NBR_NODE d) ((nodeOf b.fb.nodes (keyAt p 2 % 2 ^ 64)).getD 0)).setFlag (FB_PASS.NBR_VALID d)
      (nodeOf b.fb.nodes (keyAt p 2 % 2 ^ 64)).isSome

/-- The neighbour noted. -/
def neighbourMet (d : Nat) (p : List Byte) (b : Block) : Block :=
  { passMet d p b with fb := { b.fb with
    neighbours := smPut b.fb.neighbours d (keyAt p 2 % 2 ^ 64),
    nbrArray := if leAt p 29 1 = 1 then d :: b.fb.nbrArray.filter (fun x => decide (x ≠ d)) else b.fb.nbrArray.filter (fun x => decide (x ≠ d)) } }

theorem meetPass_eq (d : Nat) (p : List Byte) (b : Block) : meetPass d p b =
    if (passFits d (leAt p 30 1) b || decide (b.fld (FB_PASS.STATE d) = 2)) = true then neighbourMet d p b
    else (neighbourMet d p b).raise 837 := rfl

theorem neighbourMet_state (d : Nat) (p : List Byte) (b : Block) :
    (neighbourMet d p b).fld (FB_PASS.STATE d) = if passFits d (leAt p 30 1) b then 1 else 2 := by
  rw [neighbourMet, fld_mk, passMet, fld_setFlag_apart _ _ _ _ (apart_of_bits rfl), fld_setFld_apart _ _ _ _ (apart_of_bits rfl),
    fld_setFld_apart _ _ _ _ (apart_of_bits rfl), fld_setFld _ _ _ (by decide : 0 + 2 ≤ 32)]
  split <;> rfl

theorem meetPass_fits {d : Nat} {p : List Byte} {b : Block} (h : passFits d (leAt p 30 1) b = true) :
    (meetPass d p b).fld (FB_PASS.STATE d) = 1 ∧ (meetPass d p b).evt = b.evt := by
  rw [meetPass_eq, if_pos (by simp [h]), neighbourMet_state, if_pos h]
  exact ⟨rfl, rfl⟩

theorem meetPass_odd {d : Nat} {p : List Byte} {b : Block} (h : passFits d (leAt p 30 1) b = false) (hwas : b.fld (FB_PASS.STATE d) ≠ 2)
    (hd : d ≤ 4) : (meetPass d p b).fld (FB_PASS.STATE d) = 2 ∧ (meetPass d p b).evtStatus 837 = true := by
  rw [meetPass_eq, if_neg (by simp [h, hwas]), fld_raise _ _ _ (by simp only [FB_PASS.STATE, FB_PASS.addr]; omega), neighbourMet_state, h]
  exact ⟨rfl, evtStatus_raise_self _ _⟩

/-! ### REPORTs and TABLEs (R524, R526) -/

section
variable {p : List Byte}

/-- The report kept, in place of an older one of the same unit. -/
def reportKept (r : Report) (b : Block) : Block :=
  { b with fb := { b.fb with reports := r :: b.fb.reports.filter (fun x => decide (x.serial ≠ r.serial)) } }

theorem reportRx_becomes {d : BitVec 3} (hc : s.blk.pwr.coreDown = false) (h1 : 1 ≤ d.toNat) (h4 : d.toNat ≤ 4) (hty : leAt p 0 2 = 0x0AF1)
    (hon : fabricOn s.blk = true) {t : Block} {u : Block} (hu : u = reportKept (parseReport p d.toNat) s.blk)
    (ht : (if u.fb.bestKey = ownKey u then { u with fb := { u.fb with reportAt := some u.now } }
      else if u.fb.parent = 0 then u else sendMsg (passPort u.fb.parent) 0 0 (u.fld FB_STAT.NODE) p u) = t) :
    Becomes (.reportRx d p) s t := by
  subst hu
  refine (onBlock_next ((if_neg (by simp [hc])).trans ((if_neg (pass_in_range h1 h4)).trans ((if_neg ?_).trans (congrArg _ ht)))) :
    execReportRx d p s = _)
  simp [hty, hon]

section
variable (hc : s.blk.pwr.coreDown = false) (hty : leAt p 0 2 = 0x0AF2) (hon : fabricOn s.blk = true) {x : Node}
  (hx : (parseTable p).nodes[(parseTable p).node]? = some x)
include hc hty hon hx

theorem tableRx_own (hme : x.serial = Config.serial.toNat) {t : Block}
    (ht : (if (s.blk.flag FB_STAT.READY && decide ((parseTable p).id = s.blk.fld FB_ID.ID) &&
        decide ((parseTable p).gen < s.blk.fld FB_GEN.GEN)) = true then .next s.blk
      else if laterThan (parseTable p).switchAt s.blk.now = true then .next { s.blk with fb := { s.blk.fb with table := some (parseTable p) } }
      else .next (applyTable (parseTable p) s.blk)) = (.next t : Host.Outcome Block Fault Refusal)) : Becomes (.tableRx p) s t := by
  refine (onBlock_next ((if_neg (by simp [hc])).trans ((if_neg (by simp [hty, hon])).trans ?_)) : execTableRx p s = _)
  dsimp only
  rw [hx]
  exact (if_pos hme).trans ht

theorem tableRx_relayed (hme : x.serial ≠ Config.serial.toNat) {r : Report}
    (hr : s.blk.fb.reports.find? (fun r => decide (r.serial = x.serial)) = some r) :
    Becomes (.tableRx p) s (sendMsg (passPort r.via) 0 0 (s.blk.fld FB_STAT.NODE) p s.blk) := by
  refine (onBlock_next ((if_neg (by simp [hc])).trans ((if_neg (by simp [hty, hon])).trans ?_)) : execTableRx p s = _)
  dsimp only
  rw [hx]
  exact (if_neg hme).trans (by rw [hr])

theorem tableRx_dropped (hme : x.serial ≠ Config.serial.toNat)
    (hr : s.blk.fb.reports.find? (fun r => decide (r.serial = x.serial)) = none) :
    Becomes (.tableRx p) s (s.blk.satFld FB_STAT.DROPS 1) := by
  refine (onBlock_next ((if_neg (by simp [hc])).trans ((if_neg (by simp [hty, hon])).trans ?_)) : execTableRx p s = _)
  dsimp only
  rw [hx]
  exact (if_neg hme).trans (by rw [hr])

end

end

end

/-- Settles O50: each row is taken by the conditions that it tests; a table's parts write fields apart from those told, so READY, the number
and the generation stand to its end; a fabric of one has its own route in reach. -/
theorem discoveryEvents : Obligations.DiscoveryEvents := by
  unfold Obligations.DiscoveryEvents
  intro s
  refine ⟨fun hc => ?down, fun hc => ⟨fun h8 hfx hst => ?stage, fun hst => ?staged, fun hoff => ?helloOff, fun hon hst hdec => ?helloRoot,
    fun hon hst hdec => ?hello, fun hon hst hdec hkey hlong => ?declare, fun h => ?undeclared, fun hon hst hkey hlong => ?lost,
    fun h => ?notLost, fun d p h1 h4 => ⟨helloRx_other hc h1 h4, fun hty hon hst hup u v hu hv => ⟨fun hrep hpar hbest => ?same,
      fun hnew => ?news, fun hsp hkind => ?fits, fun hsp hwas => ?odd⟩, fun hty hon => ⟨fun hkey => ?reportRoot, fun hkey hpar => ?reportUp⟩,
      fun h => ?reportOther⟩, fun at_ hat hon hdec hlong hany => ⟨?issue, rfl⟩, fun at_ hat h => ?quietEarly, fun hnone => ?quietNone,
    fun hon hst hr hlong => ?alone, fun h => ?notAlone, fun p m x hty hon hm hx => ?tables⟩, fun m hm => ⟨fun hlate => ?later, fun hdue => ?switch⟩,
    fun m => ?applied⟩
  case down =>
    exact ⟨(onBlock_next (if_pos hc) : execDiscoveryStage s = _), (onBlock_next (if_pos hc) : execHelloTimer s = _),
      (onBlock_next (if_pos hc) : execRootDeclare s = _), (onBlock_next (if_pos hc) : execRootLost s = _),
      (onBlock_next (if_pos hc) : execDiscoveryQuiet s = _), (onBlock_next (if_pos hc) : execFabricAloneTimeout s = _),
      fun d p => ⟨completes_of_becomes (onBlock_next (if_pos hc) : execHelloRx d p s = _) ⟨rfl, rfl⟩,
        completes_of_becomes (onBlock_next (if_pos hc) : execReportRx d p s = _) ⟨rfl, rfl⟩⟩,
      fun p => completes_of_becomes (onBlock_next (if_pos hc) : execTableRx p s = _) ⟨rfl, rfl⟩⟩
  case stage =>
    exact completes_of_becomes (discoveryStage_of hc (if_pos (by simp [h8, hfx, hst]))) ⟨rfl, rfl, rfl, rfl, rfl, rfl, rfl, rfl⟩
  case staged => exact discoveryStage_of hc (if_neg (by simp [hst]))
  case helloOff => exact (onBlock_next ((if_neg (by simp [hc])).trans (if_pos (by simp [hoff]))) : execHelloTimer s = _)
  case helloRoot =>
    refine completes_of_becomes (helloTimer_becomes hc hon hst) ?_
    rw [hellosSent_fb, hellosSent_regs, beaten_regs, beaten, if_pos hdec]
    exact ⟨rfl, rfl, rfl⟩
  case hello =>
    refine completes_of_becomes (helloTimer_becomes hc hon hst) ?_
    rw [hellosSent_fb, hellosSent_regs, beaten, if_neg (Bool.eq_false_iff.mp hdec)]
    exact ⟨rfl, rfl, rfl⟩
  case declare =>
    exact completes_of_becomes (rootDeclare_of hc (if_pos (by simp [declares, hon, hst, hdec, hkey, hlong]))) ⟨rfl, rfl, rfl⟩
  case undeclared =>
    refine rootDeclare_of hc (if_neg ?_)
    rcases h with h | h <;> simp [declares, h]
  case lost =>
    exact completes_of_becomes (rootLost_of hc (if_pos (by simp [rootSilent, hon, hst, hkey, hlong]))) ⟨rfl, rfl, rfl, rfl, rfl⟩
  case notLost =>
    refine rootLost_of hc (if_neg ?_)
    rcases h with h | h <;> simp [rootSilent, h]
  case same =>
    subst hu hv
    refine becomes_of_eq (helloRx_becomes hc h1 h4 hty hon hst hup) (if_pos ?_)
    simp only [helloSame, Bool.and_eq_true, decide_eq_true_eq]
    exact ⟨⟨hrep, hpar⟩, hbest⟩
  case news =>
    subst hu hv
    refine becomes_of_eq (helloRx_becomes hc h1 h4 hty hon hst hup) (if_neg ?_)
    simp only [helloSame, Bool.and_eq_true, decide_eq_true_eq]
    rintro ⟨⟨-, hpar⟩, hbest⟩
    exact hnew.elim (fun h => h hpar) (fun h => h hbest)
  case fits =>
    subst hu
    exact meetPass_fits (by simp [passFits, hsp, hkind])
  case odd =>
    subst hu
    exact meetPass_odd (by simp [passFits, hsp]) hwas h4
  case reportRoot =>
    exact completes_of_becomes (reportRx_becomes hc h1 h4 hty hon rfl (if_pos hkey)) ⟨List.mem_cons_self, rfl, rfl, rfl⟩
  case reportUp =>
    exact completes_of_becomes (reportRx_becomes hc h1 h4 hty hon rfl ((if_neg hkey).trans (if_neg hpar))) ⟨List.mem_cons_self, rfl, rfl⟩
  case reportOther =>
    refine (onBlock_next ((if_neg (by simp [hc])).trans ((if_neg (pass_in_range h1 h4)).trans (if_pos ?_))) : execReportRx d p s = _)
    rcases h with h | h <;> simp [h]
  case issue =>
    refine discoveryQuiet_of hc hat (if_pos ?_)
    rcases hany with h | h <;> simp [hon, hdec, hlong, h]
  case quietEarly =>
    refine discoveryQuiet_of hc hat (if_neg ?_)
    rcases h with h | h <;> simp [h]
  case quietNone =>
    refine (onBlock_next ((if_neg (by simp [hc])).trans (congrArg _ ?_)) : execDiscoveryQuiet s = _)
    rw [hnone]
  case alone => exact completes_of_becomes (fabricAloneTimeout_due hc (by simp [aloneDue, hon, hst, hr, hlong])) (alone_fields _)
  case notAlone =>
    refine fabricAloneTimeout_early hc ?_
    rcases h with h | h
    · simp [aloneDue, h]
    · simp [aloneDue, h, Nat.lt_of_lt_of_le h (Nat.mul_le_mul_right msT (by decide : 100 ≤ 500))]
  case tables =>
    subst hm
    refine ⟨fun hme hr hid hgen => ?_, fun hme hnew => ?_, fun r hme hr => tableRx_relayed hc hty hon hx hme hr, tableRx_dropped hc hty hon hx⟩
    · exact tableRx_own hc hty hon hx hme (if_pos (by simp [hr, hid, hgen]))
    · have hold : ¬ (s.blk.flag FB_STAT.READY && decide ((parseTable p).id = s.blk.fld FB_ID.ID) &&
          decide ((parseTable p).gen < s.blk.fld FB_GEN.GEN)) = true := by rcases hnew with h | h | h <;> simp [h]
      exact ⟨fun hlate => completes_of_becomes (tableRx_own hc hty hon hx hme ((if_neg hold).trans (if_pos hlate))) ⟨rfl, rfl, rfl⟩,
        fun hdue => tableRx_own hc hty hon hx hme ((if_neg hold).trans (if_neg (Bool.eq_false_iff.mp hdue)))⟩
  case later =>
    refine becomes_of_eq rfl ?_
    rw [hm]
    exact if_pos hlate
  case switch =>
    refine becomes_of_eq rfl ?_
    rw [hm]
    exact if_neg (Bool.eq_false_iff.mp hdue)
  case applied =>
    obtain ⟨hready, hwait⟩ := applyTable_ready m s.blk
    obtain ⟨hnodes, htable⟩ := applyTable_nodes m s.blk
    refine ⟨hready, hwait, hnodes, htable, fun h => ?_, fun h => ?_⟩
    · rw [(applyTable_generation m s.blk).1, Nat.mod_eq_of_lt h]
    · rw [(applyTable_node m s.blk).1, Nat.mod_eq_of_lt h]

end Sys2Proof.Machine
end

section
/-! Fabric time (R528 to R530, R532): exchanges with the parent. -/

namespace Sys2Proof.Machine

section
variable {s : State}

/-! ### The request (R528) -/

/-- The exchange that a new request begins: the one before it is complete only if its response came. -/
def asked (t1 : BitVec 72) (x : Exchange) : Exchange :=
  { x with number := (x.number + 1) % 2 ^ 32, t1 := t1.toNat, waiting := true, prev := if x.waiting then none else x.prev }

/-- Has the unit a parent that it may ask for the time? -/
def timeAsks (b : Block) : Bool :=
  b.flag FB_STAT.READY && !b.flag FB_STAT.ROOT && decide (1 ≤ b.fld FB_POS.PARENT) && decide (b.fld FB_POS.PARENT ≤ 4) &&
    portUp b (passPort (b.fld FB_POS.PARENT))

theorem timeExchangeTimer_of_asks (t1 : BitVec 72) (hc : s.blk.pwr.coreDown = false) (h : timeAsks s.blk = true) :
    Becomes (.timeExchangeTimer t1) s
      (sendMsg (passPort (s.blk.fld FB_POS.PARENT)) 1 (s.blk.fld (FB_PASS.NBR_NODE (s.blk.fld FB_POS.PARENT))) (s.blk.fld FB_STAT.NODE)
        (leBytes 2 0x0AF8 ++ timeBytes (asked t1 s.blk.fb.ex).number 0 0 0) { s.blk with fb := { s.blk.fb with ex := asked t1 s.blk.fb.ex } }) := by
  refine (onBlock_next ?_ : execTimeExchangeTimer t1 s = _)
  dsimp only
  rw [hc]
  exact (if_neg Bool.false_ne_true).trans (if_pos h)

theorem timeExchangeTimer_of_not (t1 : BitVec 72) (hc : s.blk.pwr.coreDown = false) (h : timeAsks s.blk = false) :
    Becomes (.timeExchangeTimer t1) s s.blk := by
  refine (onBlock_next ?_ : execTimeExchangeTimer t1 s = _)
  dsimp only
  rw [hc]
  exact (if_neg Bool.false_ne_true).trans (if_neg (Bool.eq_false_iff.mp h))

/-! ### What the exchange shows (R529, R549) -/

theorem showTime_of_fits {θ δ : Int} (b : Block) (hθ : -2147483648 ≤ θ ∧ θ < 2147483648) (hδ : -2147483648 ≤ δ ∧ δ < 2147483648) :
    showTime θ δ b = (b.setFld FB_TIME_OFS.OFS (unsgn 32 θ)).setFld FB_TIME_DLY.DLY (unsgn 32 δ) := by
  simp [showTime, hθ, hδ]

/-- The exchange counted, of a unit that does not join. -/
def counted (θ δ : Int) (b : Block) : Block :=
  { b with fb := { b.fb with joining := false, ex := { b.fb.ex with
    offsets := (θ :: b.fb.ex.offsets).take 16, delays := (δ :: b.fb.ex.delays).take 16 } } }

theorem exchange_of_far {θ δ : Int} {b : Block} (h16 : b.fb.ex.delays.length = 16)
    (hfar : 512 * 16 < (16 * δ - b.fb.ex.delays.sum).natAbs) : exchange θ δ b = b := by
  unfold exchange
  exact if_pos (by rw [decide_eq_true h16, decide_eq_true hfar]; rfl)

theorem exchange_of_free {θ δ : Int} {b : Block} (h16 : b.fb.ex.delays.length < 16) (hj : b.fb.joining = false)
    (hd : (showTime θ δ (counted θ δ b)).fld KS_CFG.DISC ≠ 2) : exchange θ δ b = showTime θ δ (counted θ δ b) := by
  unfold exchange
  dsimp only
  rw [decide_eq_false (by omega : b.fb.ex.delays.length ≠ 16), hj]
  exact (if_neg Bool.false_ne_true).trans ((if_neg Bool.false_ne_true).trans (if_neg hd))

theorem unsgn_mod (v : Int) : unsgn 32 v % 2 ^ 32 = unsgn 32 v := by
  unfold unsgn
  omega

theorem exchange_shows {θ δ : Int} {b : Block} (h16 : b.fb.ex.delays.length < 16) (hj : b.fb.joining = false) (hdisc : b.fld KS_CFG.DISC ≠ 2)
    (hθ : -2147483648 ≤ θ ∧ θ < 2147483648) (hδ : -2147483648 ≤ δ ∧ δ < 2147483648) :
    (exchange θ δ b).fld FB_TIME_OFS.OFS = unsgn 32 θ ∧ (exchange θ δ b).fld FB_TIME_DLY.DLY = unsgn 32 δ ∧
      (exchange θ δ b).fb.ex.offsets = (θ :: b.fb.ex.offsets).take 16 := by
  have hshow := showTime_of_fits (counted θ δ b) hθ hδ
  have hd : (showTime θ δ (counted θ δ b)).fld KS_CFG.DISC = b.fld KS_CFG.DISC := by
    rw [hshow, fld_setFld_apart _ _ _ _ (by decide), fld_setFld_apart _ _ _ _ (by decide)]
    rfl
  rw [exchange_of_free h16 hj (by rwa [hd]), hshow]
  refine ⟨?_, ?_, rfl⟩
  · rw [fld_setFld_apart _ _ _ _ (by decide), fld_setFld _ _ _ (by decide)]
    exact unsgn_mod θ
  · rw [fld_setFld _ _ _ (by decide)]
    exact unsgn_mod δ

/-! ### The messages (R528, R529) -/

/-- The response taken: the exchange is complete, and the next one gives its times. -/
def answered (a : BitVec 72) (p : List Byte) (b : Block) : Block :=
  { b with fb := { b.fb with ex := { b.fb.ex with
    waiting := false, t2 := stampAt p 10, t4 := a.toNat, prev := some (b.fb.ex.t1, stampAt p 10, a.toNat) } } }

end

/-- Settles O51: an exchange of a unit without discipline only shows its offset and delay, and one far from the mean of 16 is left out. -/
theorem fabricTimeEvents : Obligations.FabricTimeEvents := by
  unfold Obligations.FabricTimeEvents
  intro s
  refine ⟨fun hc => ⟨fun t1 => ?downTimer, fun n p a e => ?downMsg⟩, fun hc => ⟨fun t1 d hd => ⟨fun h => ?quiet, fun hr hroot h1 h4 hup => ?ask⟩,
    fun n p a e => ⟨fun h => ?other, fun hty hr => ⟨fun hk => ?request, fun hk h => ?late, fun hk hw hnum hroot => ?response⟩⟩⟩,
    fun θ δ h16 hfar => exchange_of_far h16 hfar,
    fun θ δ h16 hj hd hθ hθ' hδ hδ' => exchange_shows h16 hj hd ⟨hθ, hθ'⟩ ⟨hδ, hδ'⟩⟩
  case downTimer => exact (onBlock_next (if_pos hc) : execTimeExchangeTimer t1 s = _)
  case downMsg => exact completes_of_becomes (onBlock_next (if_pos hc) : execTimeMsgRx n p a e s = _) ⟨rfl, rfl, rfl⟩
  case quiet =>
    subst hd
    refine timeExchangeTimer_of_not t1 hc ?_
    unfold timeAsks
    rcases h with h | h | h | h | h <;> simp [h]
  case ask =>
    subst hd
    refine completes_of_becomes (timeExchangeTimer_of_asks t1 hc ?_) ⟨rfl, rfl, rfl, rfl, rfl, rfl⟩
    unfold timeAsks
    simp [hr, hroot, h1, h4, hup]
  case other =>
    refine (onBlock_next ((if_neg (by simp [hc])).trans (if_pos ?_)) : execTimeMsgRx n p a e s = _)
    rcases h with h | h <;> simp [h]
  case request =>
    refine ⟨_, rfl, (onBlock_next ?_ : execTimeMsgRx n p a e s = _)⟩
    exact (if_neg (by simp [hc])).trans ((if_neg (by simp [hty, hr])).trans (if_pos hk))
  case late =>
    refine (onBlock_next ((if_neg (by simp [hc])).trans ((if_neg (by simp [hty, hr])).trans ((if_neg (by simp [hk])).trans (if_pos ?_)))) :
      execTimeMsgRx n p a e s = _)
    rcases h with h | h | h <;> simp [h]
  case response =>
    refine ⟨answered a p s.blk, rfl, rfl, rfl, rfl, rfl, rfl, fun hp => ?_, fun a1 a2 a4 hp => ?_⟩
    all_goals
      refine (onBlock_next ((if_neg (by simp [hc])).trans ((if_neg (by simp [hty, hr])).trans ((if_neg (by simp [hk])).trans
        ((if_neg ?_).trans ?_)))) : execTimeMsgRx n p a e s = _)
      · simp [hk, hw, hnum, hroot]
      · dsimp only
        rw [hp]
        rfl

end Sys2Proof.Machine
end

section
/-! Array takes, triggers, peers and remote requests by message (R533 to R541). -/

namespace Sys2Proof.Machine

section
variable {s : State}

/-! ### Array takes (R533 to R535) -/

section
variable {n : Byte} {p : List Byte}

/-- What a message of an array take does to the take known (R533 to R535). -/
def arrayTold (n : Nat) (p : List Byte) (a : ArrayTake) (b : Block) : Host.Outcome Block Fault Refusal :=
  let sub := leAt p 2 1
  let k : Tick := BitVec.ofNat 64 (leAt p 6 8)
  if a.k ≠ k ∧ sub ≠ arrClose then .next b
  else if sub = arrReady && a.coordinator && !a.committed then
    .next (tryCommit { b with fb := { b.fb with array := some { a with ready := n :: a.ready } } })
  else if sub = arrRefuse && a.coordinator && !a.committed then .next (abortArray stConflict [n] b)
  else if sub = arrCommit && !a.coordinator && !a.committed then
    .next (if commitLate a b then
      sendArray n arrLateJoin k (leAt p 14 4) (bitmapNodes ((p.drop 18).take 32)) [b.fld FB_STAT.NODE] (commitArray (0x3000 + n) a b)
    else commitArray (0x3000 + n) a b)
  else if sub = arrAbort && !a.coordinator && !a.committed then .next (({ b with fb := { b.fb with array := none } } : Block).raise 832)
  else if sub = arrClose && a.committed then .next { b with fb := { b.fb with array := some { a with closeAt := some k } } }
  else .next b

theorem arrayMsgRx_prepare (hc : s.blk.pwr.coreDown = false) (hty : leAt p 0 2 = 0x0AF3) (hr : s.blk.flag FB_STAT.READY = true)
    (hsub : leAt p 2 1 = arrPrepare) : Becomes (.arrayMsgRx n p) s
      (prepareArray n.toNat (BitVec.ofNat 64 (leAt p 6 8)) (leAt p 14 4) (bitmapNodes ((p.drop 18).take 32)) s.blk) :=
  (onBlock_next ((if_neg (by simp [hc])).trans ((if_neg (by simp [hty, hr])).trans (if_pos hsub))) : execArrayMsgRx n p s = _)

theorem arrayMsgRx_of_take (hc : s.blk.pwr.coreDown = false) (hty : leAt p 0 2 = 0x0AF3) (hr : s.blk.flag FB_STAT.READY = true)
    (hsub : leAt p 2 1 ≠ arrPrepare) {a : ArrayTake} (ha : s.blk.fb.array = some a) {t : Block} (h : arrayTold n.toNat p a s.blk = .next t) :
    Becomes (.arrayMsgRx n p) s t := by
  refine (onBlock_next ((if_neg (by simp [hc])).trans ((if_neg (by simp [hty, hr])).trans ((if_neg hsub).trans ?_))) : execArrayMsgRx n p s = _)
  rw [ha]
  exact h

theorem arrayMsgRx_of_none (hc : s.blk.pwr.coreDown = false) (hty : leAt p 0 2 = 0x0AF3) (hr : s.blk.flag FB_STAT.READY = true)
    (hsub : leAt p 2 1 ≠ arrPrepare) (ha : s.blk.fb.array = none) : Becomes (.arrayMsgRx n p) s s.blk := by
  refine (onBlock_next ((if_neg (by simp [hc])).trans ((if_neg (by simp [hty, hr])).trans ((if_neg hsub).trans ?_))) : execArrayMsgRx n p s = _)
  rw [ha]

end

section
variable {n : Nat} {p : List Byte} {a : ArrayTake} {b : Block}

theorem arrayTold_other (hk : a.k ≠ BitVec.ofNat 64 (leAt p 6 8)) (hsub : leAt p 2 1 ≠ arrClose) : arrayTold n p a b = .next b :=
  if_pos ⟨hk, hsub⟩

theorem arrayTold_ready (hk : a.k = BitVec.ofNat 64 (leAt p 6 8)) (hcom : a.committed = false) (hsub : leAt p 2 1 = arrReady)
    (hco : a.coordinator = true) : arrayTold n p a b =
      .next (tryCommit { b with fb := { b.fb with array := some { a with ready := n :: a.ready } } }) :=
  (if_neg (by simp [hk])).trans (if_pos (by simp [hsub, hco, hcom]))

theorem arrayTold_refuse (hk : a.k = BitVec.ofNat 64 (leAt p 6 8)) (hcom : a.committed = false) (hsub : leAt p 2 1 = arrRefuse)
    (hco : a.coordinator = true) : arrayTold n p a b = .next (abortArray stConflict [n] b) :=
  (if_neg (by simp [hk])).trans ((if_neg (by simp [hsub, arrRefuse, arrReady])).trans (if_pos (by simp [hsub, hco, hcom])))

theorem arrayTold_commit (hk : a.k = BitVec.ofNat 64 (leAt p 6 8)) (hcom : a.committed = false) (hsub : leAt p 2 1 = arrCommit)
    (hco : a.coordinator = false) (hlate : commitLate a b = false) : arrayTold n p a b = .next (commitArray (0x3000 + n) a b) :=
  (if_neg (by simp [hk])).trans ((if_neg (by simp [hco])).trans ((if_neg (by simp [hco])).trans ((if_pos (by simp [hsub, hco, hcom])).trans
    (congrArg _ (if_neg (Bool.eq_false_iff.mp hlate))))))

theorem arrayTold_abort (hk : a.k = BitVec.ofNat 64 (leAt p 6 8)) (hcom : a.committed = false) (hsub : leAt p 2 1 = arrAbort)
    (hco : a.coordinator = false) : arrayTold n p a b = .next (({ b with fb := { b.fb with array := none } } : Block).raise 832) :=
  (if_neg (by simp [hk])).trans ((if_neg (by simp [hco])).trans ((if_neg (by simp [hco])).trans
    ((if_neg (by simp [hsub, arrAbort, arrCommit])).trans (if_pos (by simp [hsub, hco, hcom])))))

theorem arrayTold_close (hcom : a.committed = true) (hsub : leAt p 2 1 = arrClose) : arrayTold n p a b =
    .next { b with fb := { b.fb with array := some { a with closeAt := some (BitVec.ofNat 64 (leAt p 6 8)) } } } :=
  (if_neg (by simp [hsub])).trans ((if_neg (by simp [hcom])).trans ((if_neg (by simp [hcom])).trans ((if_neg (by simp [hcom])).trans
    ((if_neg (by simp [hcom])).trans (if_pos (by simp [hsub, hcom]))))))

end

theorem arrayPrepareTimeout_of {a : ArrayTake} (hc : s.blk.pwr.coreDown = false) (ha : s.blk.fb.array = some a) {t : Block}
    (h : (if (a.coordinator && !a.committed && decide (20 * msT ≤ s.blk.sinceT a.since)) = true then
      abortArray stTimeout (a.members.filter (fun n => !a.ready.contains n)) s.blk else s.blk) = t) : Becomes .arrayPrepareTimeout s t := by
  refine (onBlock_next ((if_neg (by simp [hc])).trans (congrArg _ ?_)) : execArrayPrepareTimeout s = _)
  rw [ha]
  exact h

/-- What the tick does with a take whose close stands at `at_` (R535). -/
theorem arrayCloseTick_of {a : ArrayTake} (hc : s.blk.pwr.coreDown = false) (ha : s.blk.fb.array = some a) {t : Block}
    (h : (match a.closeAt with
        | some kc =>
          if laterThan kc s.blk.now then s.blk
          else stopCapture (closeTake oFirmware 0 { s.blk with fb := { s.blk.fb with array := some { a with closeAt := none } } })
        | none => s.blk) = t) : Becomes .arrayCloseTick s t := by
  refine (onBlock_next ((if_neg (by simp [hc])).trans (congrArg _ ?_)) : execArrayCloseTick s = _)
  rw [ha]
  exact h

/-! ### Remote requests (R540, R541) -/

theorem release_replies (b : Block) (w : WaitOn → Bool) (f : Reply → Reply) : (b.release w f).cmd.replies =
    b.cmd.replies.filterMap (fun r => if w r.wait then (if replyQuiet { f r with wait := .none } then none else some { f r with wait := .none })
      else some r) := by
  unfold Block.release
  exact foldl_keeps (g := fun t : Block => t.cmd.replies) (fun t r => by split <;> simp) _ _

/-- A reply that ends its wait with a status that QUIET does not suppress goes out. -/
theorem mem_release {b : Block} {w : WaitOn → Bool} {f : Reply → Reply} {x : Reply} (hx : x ∈ b.cmd.replies) (hw : w x.wait = true)
    (hq : replyQuiet { f x with wait := .none } = false) : { f x with wait := .none } ∈ (b.release w f).cmd.replies := by
  rw [release_replies, List.mem_filterMap]
  exact ⟨x, hx, by rw [if_pos hw, hq]; rfl⟩

/-- The request whose reply a message brings. -/
def remoteOf (n : Byte) (p : List Byte) (b : Block) : Option Remote :=
  b.fb.remotes.find? (fun r => decide (r.node = n.toNat) && decide (r.tag.toNat = leAt p 2 1) && decide (r.opcode = leAt p 0 2))

theorem remoteReplyRx_of {n : Byte} {p : List Byte} {r : Remote} (hc : s.blk.pwr.coreDown = false) (hr : remoteOf n p s.blk = some r) {u t : Block}
    (hu : u = { s.blk with fb := { s.blk.fb with remotes := s.blk.fb.remotes.erase r } })
    (ht : (if r.shared = true then .next (endShared r.id (if leAt p 6 2 = stOk then u else sharedFailed r.id r.node u))
      else .next (u.release (fun w => decide (w = .remote r.id)) (fun x => { x with result := p })) : Host.Outcome Block Fault Refusal) = .next t) :
    Becomes (.remoteReplyRx n p) s t := by
  subst hu
  refine (onBlock_next ((if_neg (by simp [hc])).trans ?_) : execRemoteReplyRx n p s = _)
  rw [show s.blk.fb.remotes.find? _ = some r from hr]
  exact ht

theorem remoteReplyRx_of_none {n : Byte} {p : List Byte} (hc : s.blk.pwr.coreDown = false) (hr : remoteOf n p s.blk = none) :
    Becomes (.remoteReplyRx n p) s s.blk := by
  refine (onBlock_next ((if_neg (by simp [hc])).trans ?_) : execRemoteReplyRx n p s = _)
  rw [show s.blk.fb.remotes.find? _ = none from hr]

/-- The remote requests that have waited too long end. -/
def remotesEnded (b : Block) : Block := (b.fb.remotes.filter (fun r => decide (2 * secT ≤ b.sinceT r.since))).foldl remoteEnds b

theorem remoteTimeout_of {u : Block} (hc : s.blk.pwr.coreDown = false) (hu : remotesEnded s.blk = u) (hw : u.fb.openWait = none) :
    Becomes .remoteTimeout s u := by
  refine (onBlock_next ((if_neg (by simp [hc])).trans ?_) : execRemoteTimeout s = _)
  change (match (remotesEnded s.blk).fb.openWait with | some (t, q) => _ | none => _) = _
  rw [hu, hw]
  exact congrArg _ hu

/-- A request of its own that ends without a reply: its command is answered TIMEOUT. -/
theorem remoteEnds_own {r : Remote} (b : Block) (hr : r.shared = false) : (remoteEnds b r).fb = { b.fb with remotes := b.fb.remotes.erase r } ∧
    (remoteEnds b r).evtStatus 836 = true ∧ ∀ x ∈ b.cmd.replies, x.wait = .remote r.id → ∃ y ∈ (remoteEnds b r).cmd.replies,
      y.tag = x.tag ∧ y.carrier = x.carrier ∧ y.status = stTimeout ∧ y.result = [] := by
  have hends : remoteEnds b r = (({ b with fb := { b.fb with remotes := b.fb.remotes.erase r } } : Block).raise 836).release
      (fun w => decide (w = .remote r.id)) (fun x => { x with status := stTimeout, result := [] }) := if_neg (by simp [hr])
  rw [hends]
  refine ⟨?_, ?_, fun x hx hw => ?_⟩
  · rw [release_keeps (g := Block.fb) (fun _ _ => rfl) deliver_fb, raise_fb]
  · rw [evtStatus_congr _ _ 836 (reg_of_regs (release_keeps (g := Block.regs) (fun _ _ => rfl) deliver_regs _ _ _) _)]
    exact evtStatus_raise_self _ _
  · rw [← raise_replies { b with fb := { b.fb with remotes := b.fb.remotes.erase r } } 836] at hx
    exact ⟨_, mem_release hx (by simp [hw]) (by simp [replyQuiet, stTimeout, stOk, stDeferred]), rfl, rfl, rfl, rfl⟩

/-! ### Peers (R538, R539) -/

section
variable {n : Byte} {p : List Byte}

theorem peerMsgRx_of_mine {o : PeerOut} (ho : s.blk.fb.peerOut = some o) (hty : leAt p 0 2 = 0x0AF4) (hn : o.node = n.toNat)
    (hprep : leAt p 2 1 ≠ peerPrepare) (hact : leAt p 2 1 ≠ peerActivate) {t : Block}
    (h : (if leAt p 2 1 = peerGrant then .next (peerGranted s.blk) else if leAt p 2 1 = peerRefuse then .next (peerRefused s.blk)
      else if leAt p 2 1 = peerLanded then .next (messageLanded s.blk) else if leAt p 2 1 = peerBusy then .next (peerStalls s.blk)
      else .next s.blk : Host.Outcome Block Fault Refusal) = .next t) : Becomes (.peerMsgRx n p) s t := by
  refine (onBlock_next ((if_neg (not_not_intro hty)).trans ((if_neg hprep).trans ((if_neg hact).trans ((if_neg ?_).trans h)))) :
    execPeerMsgRx n p s = _)
  rw [ho]
  simp [hn]

theorem peerMsgRx_other {o : PeerOut} (ho : s.blk.fb.peerOut = some o) (hty : leAt p 0 2 = 0x0AF4) (hn : o.node ≠ n.toNat)
    (hprep : leAt p 2 1 ≠ peerPrepare) (hact : leAt p 2 1 ≠ peerActivate) : Becomes (.peerMsgRx n p) s s.blk := by
  refine (onBlock_next ((if_neg (not_not_intro hty)).trans ((if_neg hprep).trans ((if_neg hact).trans (if_pos ?_)))) :
    execPeerMsgRx n p s = _)
  rw [ho]
  simp [hn]

end

theorem peerStalls_fields {o : PeerOut} {b : Block} (ho : b.fb.peerOut = some o) (hst : o.stalled = false) :
    (peerStalls b).fb.peerOut = some { o with stalled := true } ∧ (peerStalls b).evtStatus 835 = true ∧ (peerStalls b).rcd = b.rcd := by
  have h : peerStalls b = ({ b with fb := { b.fb with peerOut := some { o with stalled := true } } } : Block).raise 835 := by
    unfold peerStalls
    rw [ho]
    exact if_neg (Bool.eq_false_iff.mp hst)
  rw [h, raise_fb, raise_rcd]
  exact ⟨rfl, evtStatus_raise_self _ _, rfl⟩

/-- The frame on its way to the peer: its slot drains there, its header complete. -/
def forwarding (n : Nat) (b : Block) : Block :=
  completeHeader n (b.onSlot n (fun l => { l with drains := l.drains.filter (fun d => decide (d ≠ 2)), draining := l.draining ++ [22] }))

theorem forwardFrameStart_idle (h : s.blk.fb.peerOut = none ∨ nextForward s.blk = none) : Becomes .forwardFrameStart s s.blk := by
  refine (onBlock_next ?_ : execForwardFrameStart s = _)
  rcases h with h | h
  · rw [h]
  · rw [h]
    cases s.blk.fb.peerOut <;> rfl

theorem forwardFrameStart_waits {o : PeerOut} {n : Nat} (ho : s.blk.fb.peerOut = some o) (hn : nextForward s.blk = some n)
    (h : o.granted = false ∨ o.frame ≠ none ∨ chainReady s.blk n = false) : Becomes .forwardFrameStart s s.blk := by
  refine (onBlock_next ?_ : execForwardFrameStart s = _)
  rw [ho, hn]
  refine if_pos ?_
  rcases h with h | h | h
  · simp [h]
  · simp [Option.isSome_iff_ne_none.mpr h]
  · simp [h]

theorem forwardFrameStart_sends {o : PeerOut} {n : Nat} {sl : Slot} {f : FrameRec} {g : Ingest} {ms : List (Nat × List Byte)} {u : Block}
    (ho : s.blk.fb.peerOut = some o) (hn : nextForward s.blk = some n) (hg : o.granted = true) (hidle : o.frame = none)
    (hready : chainReady s.blk n = true) (hu : u = forwarding n s.blk) (hsl : u.slot? n = some sl) (hf : u.frame? n = some f)
    (hi : u.ingest? n = some g) (hstub : sl.stub = false)
    (hms : ms = bulkMessages ((padTo 65536 (payloadOf f sl g.final)).length / 1048576 + 1) 0 (padTo 65536 (payloadOf f sl g.final)) ++
      [(peerHeader, sl.header.getD [])]) :
    Becomes .forwardFrameStart s (ms.foldl (fun a m => fabBulk o.node m.1 m.2 a)
      { u with fb := { u.fb with peerOut := some { o with frame := some n, messages := ms, landed := 0, stalled := false } } }) := by
  subst hu hms
  refine (onBlock_next ?_ : execForwardFrameStart s = _)
  rw [ho, hn]
  refine (if_neg (by simp [hg, hidle, hready])).trans ?_
  change (match (forwarding n s.blk).slot? n, (forwarding n s.blk).frame? n, (forwarding n s.blk).ingest? n with
    | some sl, some f, some g => _ | _, _, _ => _) = _
  rw [hsl, hf, hi]
  dsimp only
  rw [hstub]
  rfl

theorem forwardRetry_of {o : PeerOut} (ho : s.blk.fb.peerOut = some o) {t : Block}
    (h : (if (o.stalled && o.frame.isSome) = true then (o.messages.drop o.landed).foldl (fun a m => fabBulk o.node m.1 m.2 a) s.blk
      else s.blk) = t) : Becomes .forwardRetry s t := by
  refine (onBlock_next ?_ : execForwardRetry s = _)
  rw [ho]
  exact congrArg _ h

end

/-- Settles O52: a row's branch is picked by the message's sub-kind and by what the unit knows; a request that ends without a reply answers
its command TIMEOUT. -/
theorem fabricTakeEvents : Obligations.FabricTakeEvents := by
  unfold Obligations.FabricTakeEvents
  intro s
  refine ⟨fun hc => ⟨?prepDown, ?closeDown, ?remDown, fun n p => ⟨?arrDown, ?repDown, ?notDown⟩⟩, fun hc => ⟨fun n p hty hr => ⟨fun hsub => ?prepare,
    fun a ha => ⟨fun hk hprep hclose => ?otherTake, fun hk hcom => ⟨fun hsub hco => ?ready, fun hsub hco => ?refuse, fun hsub hco hlate => ?commit,
      fun hsub hco => ?abort⟩, fun hsub hcom => ?close⟩, fun ha hsub => ?noTake⟩, fun n p h => ?notArray,
    fun a ha => ⟨fun hco hcom hlong => ?timeout, fun h => ?noTimeout, fun kc hk hdue => ?tick, fun kc hk hlate => ?noTick, fun hk => ?noClose⟩,
    fun ha => ?none, fun n p r hr => ⟨_, rfl, fun hsh => ?own, fun hsh hok => ?shared, fun hsh hbad => ?sharedBad⟩, fun n p h => ?noRemote,
    fun hyoung hw => ?young, fun r hrs hold hsh hw => ?ends, fun n p => ⟨fun hty => ?noNotice, fun hty => ?notice⟩⟩,
    fun p hty hsrc hmode hme => ?trigger, fun p h => ?noTrigger, fun n p => ⟨fun hty => ?notPeer, fun hty hsub => ?peerPrep, fun o ho hty => ?peer⟩,
    forwardFrameStart_idle, fun o n ho hn => ⟨forwardFrameStart_waits ho hn, fun u sl f g ms hg hidle hready hu hsl hf hi hstub hms =>
      forwardFrameStart_sends ho hn hg hidle hready hu hsl hf hi hstub hms⟩, fun ho => ?noRetry,
    fun o ho => ⟨fun hst hfr => forwardRetry_of ho (if_pos (by simp [hst, hfr])), fun hst => forwardRetry_of ho (if_neg (by simp [hst]))⟩⟩
  case prepDown => exact (onBlock_next (if_pos hc) : execArrayPrepareTimeout s = _)
  case closeDown => exact (onBlock_next (if_pos hc) : execArrayCloseTick s = _)
  case remDown => exact (onBlock_next (if_pos hc) : execRemoteTimeout s = _)
  case arrDown => exact completes_of_becomes (onBlock_next (if_pos hc) : execArrayMsgRx n p s = _) ⟨rfl, rfl⟩
  case repDown => exact completes_of_becomes (onBlock_next (if_pos hc) : execRemoteReplyRx n p s = _) ⟨rfl, rfl⟩
  case notDown => exact completes_of_becomes (onBlock_next (if_pos hc) : execFabricNoticeRx n p s = _) ⟨rfl, rfl⟩
  case prepare => exact arrayMsgRx_prepare hc hty hr hsub
  case otherTake => exact arrayMsgRx_of_take hc hty hr hprep ha (arrayTold_other hk hclose)
  case ready => exact arrayMsgRx_of_take hc hty hr (by rw [hsub]; decide) ha (arrayTold_ready hk hcom hsub hco)
  case refuse => exact arrayMsgRx_of_take hc hty hr (by rw [hsub]; decide) ha (arrayTold_refuse hk hcom hsub hco)
  case commit => exact arrayMsgRx_of_take hc hty hr (by rw [hsub]; decide) ha (arrayTold_commit hk hcom hsub hco hlate)
  case abort =>
    refine completes_of_becomes (arrayMsgRx_of_take hc hty hr (by rw [hsub]; decide) ha (arrayTold_abort hk hcom hsub hco)) ?_
    rw [raise_fb, raise_rcd]
    exact ⟨rfl, evtStatus_raise_self _ _, rfl⟩
  case close =>
    exact completes_of_becomes (arrayMsgRx_of_take hc hty hr (by rw [hsub]; decide) ha (arrayTold_close hcom hsub)) ⟨rfl, rfl, rfl⟩
  case noTake => exact arrayMsgRx_of_none hc hty hr hsub ha
  case notArray =>
    refine (onBlock_next ((if_neg (by simp [hc])).trans (if_pos ?_)) : execArrayMsgRx n p s = _)
    rcases h with h | h <;> simp [h]
  case timeout => exact arrayPrepareTimeout_of hc ha (if_pos (by simp [hco, hcom, hlong]))
  case noTimeout =>
    refine arrayPrepareTimeout_of hc ha (if_neg ?_)
    rcases h with h | h | h <;> simp [h]
  case tick =>
    refine arrayCloseTick_of hc ha ?_
    rw [hk]
    exact if_neg (Bool.eq_false_iff.mp hdue)
  case noTick =>
    refine arrayCloseTick_of hc ha ?_
    rw [hk]
    exact if_pos hlate
  case noClose => exact arrayCloseTick_of hc ha (by rw [hk])
  case none =>
    refine ⟨(onBlock_next ((if_neg (by simp [hc])).trans (congrArg _ ?_)) : execArrayPrepareTimeout s = _),
      (onBlock_next ((if_neg (by simp [hc])).trans (congrArg _ ?_)) : execArrayCloseTick s = _)⟩ <;> rw [ha]
  case own => exact remoteReplyRx_of hc hr rfl (if_neg (Bool.eq_false_iff.mp hsh))
  case shared => exact remoteReplyRx_of hc hr rfl ((if_pos hsh).trans (by rw [if_pos hok]))
  case sharedBad => exact remoteReplyRx_of hc hr rfl ((if_pos hsh).trans (by rw [if_neg hbad]))
  case noRemote =>
    refine remoteReplyRx_of_none hc (List.find?_eq_none.mpr fun r hr => ?_)
    simp [h r hr]
  case young =>
    have hnone : s.blk.fb.remotes.filter (fun r => decide (2 * secT ≤ s.blk.sinceT r.since)) = [] :=
      List.filter_eq_nil_iff.mpr fun r hr => by simpa using hyoung r hr
    exact remoteTimeout_of hc (by rw [remotesEnded, hnone]; rfl) hw
  case ends =>
    have hone : remotesEnded s.blk = remoteEnds s.blk r := by
      rw [remotesEnded, hrs, List.filter_cons_of_pos (by simpa using hold)]
      rfl
    obtain ⟨hfb, hevt, hreplies⟩ := remoteEnds_own s.blk hsh
    refine completes_of_becomes (remoteTimeout_of hc hone (by rw [hfb]; exact hw)) ⟨?_, hevt, hreplies⟩
    rw [hfb, hrs]
    exact List.erase_cons_head ..
  case noNotice => exact (onBlock_next ((if_neg (by simp [hc])).trans (if_pos hty)) : execFabricNoticeRx n p s = _)
  case notice =>
    exact completes_of_becomes (onBlock_next ((if_neg (by simp [hc])).trans (if_neg (not_not_intro hty))) : execFabricNoticeRx n p s = _) ⟨rfl, rfl, rfl⟩
  case trigger => exact becomes_of_eq rfl (if_pos (by simpa [hty, hsrc, hmode] using hme))
  case noTrigger =>
    refine becomes_of_eq rfl (if_neg ?_)
    rcases h with h | h | h <;> simp [h]
  case notPeer => exact (onBlock_next (if_pos hty) : execPeerMsgRx n p s = _)
  case peerPrep => exact (onBlock_next ((if_neg (not_not_intro hty)).trans (if_pos hsub)) : execPeerMsgRx n p s = _)
  case peer =>
    refine ⟨fun hn hsub => ?_, fun hn hsub => ?_, fun hn hsub => ?_, fun hn hsub hst => ?_, peerMsgRx_other ho hty⟩
    · exact peerMsgRx_of_mine ho hty hn (by rw [hsub]; decide) (by rw [hsub]; decide) (if_pos hsub)
    · exact peerMsgRx_of_mine ho hty hn (by rw [hsub]; decide) (by rw [hsub]; decide) (by rw [hsub]; rfl)
    · exact peerMsgRx_of_mine ho hty hn (by rw [hsub]; decide) (by rw [hsub]; decide) (by rw [hsub]; rfl)
    · exact completes_of_becomes (peerMsgRx_of_mine ho hty hn (by rw [hsub]; decide) (by rw [hsub]; decide) (by rw [hsub]; rfl))
        (peerStalls_fields ho hst)
  case noRetry =>
    refine (onBlock_next ?_ : execForwardRetry s = _)
    rw [ho]

end Sys2Proof.Machine
end

section
/-! Magazines (R492 to R514): responses, deadlines, draining, the periodic writes and recovery. -/

namespace Sys2Proof.Machine

/-! ### What the periodic writes leave of the take -/

/-- The number of the open take and its close, if one is in progress. -/
def takeHead (b : Block) : Option (Nat × Option Closing) := b.rcd.take.map fun t => (t.num, t.closing)

theorem setMag_take (s : Block) (m : Nat) (g : Mag) : (s.setMag m g).rcd.take = s.rcd.take := by
  unfold Block.setMag
  split <;> rfl

theorem magPump_take (fuel m : Nat) (s : Block) : (magPump fuel m s).rcd.take = s.rcd.take := by
  induction fuel generalizing s with
  | zero => rfl
  | succ fuel ih =>
    unfold magPump
    dsimp only
    split
    · rfl
    · split
      · rfl
      · rw [ih]
        split <;> exact setMag_take ..

theorem magDo_take (m : Nat) (l : List MagCmd) (s : Block) : (magDo m l s).rcd.take = s.rcd.take :=
  (magPump_take _ _ _).trans (setMag_take ..)

theorem takeHead_onPart (m : Nat) (g : Part → Part) (s : Block) : takeHead (s.onTake fun t => t.onPart m g) = takeHead s := by
  unfold takeHead Block.onTake
  cases s.rcd.take <;> rfl

theorem takeHead_writeMeta (m kind : Nat) (body : List Byte) (s : Block) : takeHead (writeMeta m kind body s) = takeHead s := by
  unfold writeMeta
  split
  · rfl
  · split
    · rfl
    · have hdo (l : List MagCmd) (t : Block) : takeHead (magDo m l t) = takeHead t := congrArg (Option.map _) (magDo_take m l t)
      have halloc (n : Nat) : takeHead (allocBlocks m n s) = takeHead s := congrArg (Option.map _) (setMag_take s m _)
      rw [hdo, takeHead_onPart, halloc]

/-- The cairns body written on one magazine of the take. -/
def metaWritten (body : List Byte) (head : Nat) (a : Block) (m : Nat) : Block :=
  (writeMeta m 4 body a).onTake (fun t1 => t1.onPart m (fun p => { p with cairnLast := head }))

/-- The cairns since the last copy. -/
def metaBody (b : Block) : List Byte :=
  cairnsBody b ((b.rcd.metaSeq + 1) % 2 ^ 32) ((cairnHead b + 2 ^ 32 - b.rcd.metaSeq) % 2 ^ 32)

/-- The cairns body written on every magazine in service. -/
def metasWritten (b : Block) : Block := (liveMags b).foldl (metaWritten (metaBody b) (cairnHead b)) b

theorem takeHead_metasWritten (b : Block) : takeHead (metasWritten b) = takeHead b :=
  foldl_keeps (f := metaWritten (metaBody b) (cairnHead b)) (g := takeHead)
    (fun t m => (takeHead_onPart m _ _).trans (takeHead_writeMeta m 4 (metaBody b) t)) (liveMags b) b

section
variable {s : State}

theorem metaCairnsWrite_becomes {t : Take} (hc : s.blk.pwr.coreDown = false) (ht : s.blk.rcd.take = some t) (hclosing : t.closing = none)
    (hnew : cairnHead s.blk ≠ s.blk.rcd.metaSeq) (hidle : ∀ x ∈ liveMags s.blk, (s.blk.mag x).busy = none) :
    Becomes .metaCairnsWrite s { metasWritten s.blk with rcd := { (metasWritten s.blk).rcd with
      metaSeq := cairnHead s.blk, metaAt := (metasWritten s.blk).now } } := by
  have hbusy : (liveMags s.blk).any (fun m => (s.blk.mag m).busy.isSome) = false :=
    List.any_eq_false.mpr fun x hx => by simp [hidle x hx]
  refine (onBlock_next ((if_neg (by simp [hc])).trans ?_) : execMetaCairnsWrite s = _)
  dsimp only
  rw [ht]
  exact if_neg (by simp [hnew, hclosing, hbusy])

theorem metaCairnsWrite_stays (hc : s.blk.pwr.coreDown = false) (h : cairnHead s.blk = s.blk.rcd.metaSeq ∨ s.blk.rcd.take = none) :
    Becomes .metaCairnsWrite s s.blk := by
  refine (onBlock_next ((if_neg (by simp [hc])).trans ?_) : execMetaCairnsWrite s = _)
  dsimp only
  rcases h with h | h
  · split
    · exact if_pos (by simp [h])
    · rfl
  · rw [h]

/-! ### Responses and deadlines (R492 to R496, R510, R512) -/

section
variable {m : Bool} {k : Nat} (hk : k = b2n m)
include hk

/-- The outstanding command with a CID. -/
def magSent (k cid : Nat) (b : Block) : Option MagCmd := (b.mag k).out.find? (fun c => decide (c.cid = cid))

/-- The command is outstanding no more. -/
def magTaken (k : Nat) (c : MagCmd) (b : Block) : Block := b.setMag k { b.mag k with out := (b.mag k).out.erase c }

/-- An error is counted, with event 813. -/
def magErred (k : Nat) (c : MagCmd) (b : Block) : Block := ((magTaken k c b).incFld (MG_ERR.ERRORS k) 1).raise 813

/-- What follows a response with status `st`. -/
def magAnswered (k st : Nat) (r d : List Byte) (c : MagCmd) (b : Block) : Host.Outcome Block Fault Refusal :=
  if st = 0 then .next (magPump (((magDone k c r d (magTaken k c b)).mag k).todo.length) k (magDone k c r d (magTaken k c b)))
  else if isSeal c.purpose then .next (sealEnded k false c (magErred k c b))
  else if st = 4 ∨ st = 7 ∨ st = 8 then .next ((magFail k false (magErred k c b)).contain 3)
  else if st = 5 ∨ st = 6 then
    .next (magPump (((magErred k c b).mag k).todo.length + 1) k
      ((magErred k c b).setMag k { (magErred k c b).mag k with todo := c :: ((magErred k c b).mag k).todo }))
  else .next (magPump (((magErred k c b).mag k).todo.length) k (magRefused k c (magErred k c b)))

theorem magResponse_of_none {resp data : List Byte} (h : magSent k (leAt resp 2 2) s.blk = none) : Becomes (.magResponse m resp data) s s.blk := by
  subst hk
  refine (onBlock_next ?_ : execMagResponse m resp data s = _)
  dsimp only
  rw [show (s.blk.mag (b2n m)).out.find? _ = none from h]

theorem magResponse_of_some {resp data : List Byte} {c : MagCmd} (h : magSent k (leAt resp 2 2) s.blk = some c) {t : Block}
    (ht : magAnswered k (leAt resp 4 2) (resp.drop 16) data c s.blk = .next t) : Becomes (.magResponse m resp data) s t := by
  subst hk
  refine (onBlock_next ?_ : execMagResponse m resp data s = _)
  dsimp only
  rw [show (s.blk.mag (b2n m)).out.find? _ = some c from h]
  exact ht

/-- A missed deadline is counted. -/
def magMissed (k : Nat) (c : MagCmd) (b : Block) : Block := (magTaken k c b).incFld (MG_ERR.TIMEOUTS k) 1

theorem magDeadlineMiss_of_some {cid : BitVec 16} {c : MagCmd} (h : magSent k cid.toNat s.blk = some c) {t : Block}
    (ht : (if isSeal c.purpose = true then .next (sealEnded k false c (magMissed k c s.blk))
      else .next ((magFail k false (magMissed k c s.blk)).contain 3) : Host.Outcome Block Fault Refusal) = .next t) :
    Becomes (.magDeadlineMiss m cid) s t := by
  subst hk
  refine (onBlock_next ?_ : execMagDeadlineMiss m cid s = _)
  dsimp only
  rw [show (s.blk.mag (b2n m)).out.find? _ = some c from h]
  exact ht

theorem magDeadlineMiss_of_none {cid : BitVec 16} (h : magSent k cid.toNat s.blk = none) : Becomes (.magDeadlineMiss m cid) s s.blk := by
  subst hk
  refine (onBlock_next ?_ : execMagDeadlineMiss m cid s = _)
  dsimp only
  rw [show (s.blk.mag (b2n m)).out.find? _ = none from h]

theorem magErr_low : MG_ERR.addr k < 0x2800000 := by
  subst hk
  cases m <;> decide

end

theorem magTaken_regs (k : Nat) (c : MagCmd) (b : Block) : (magTaken k c b).regs = b.regs := rfl

theorem magErred_fields {k : Nat} (hlow : MG_ERR.addr k < 0x2800000) (c : MagCmd) (b : Block) :
    (magErred k c b).fld (MG_ERR.ERRORS k) = (b.fld (MG_ERR.ERRORS k) + 1) % 65536 ∧ (magErred k c b).evtStatus 813 = true ∧
      (magErred k c b).rcd = (magTaken k c b).rcd := by
  refine ⟨?_, evtStatus_raise_self _ _, (raise_rcd ..).trans (incFld_rcd ..)⟩
  rw [magErred, fld_raise _ _ _ hlow, Block.incFld, fld_setFld _ _ _ (by decide : 0 + 16 ≤ 32)]
  rfl

theorem magMissed_fields (k : Nat) (c : MagCmd) (b : Block) :
    (magMissed k c b).fld (MG_ERR.TIMEOUTS k) = (b.fld (MG_ERR.TIMEOUTS k) + 1) % 65536 ∧ (magMissed k c b).evt = b.evt := by
  refine ⟨?_, rfl⟩
  rw [magMissed, Block.incFld, fld_setFld _ _ _ (by decide : 16 + 16 ≤ 32)]
  rfl

/-! ### Draining, and the ports down (R505, R508, R513) -/

theorem drainAshlarStart_of {k n : Nat} (h : pickDrain s.blk = some (k, n)) {t : Block}
    (ht : (if magFull s.blk k (ashlarBlocks s.blk n) = true then (magFail k true (s.blk.raise 812)).contain 3
      else startAshlar n k (checkNearFull n k s.blk)) = t) : Becomes .drainAshlarStart s t := by
  refine (onBlock_next ?_ : execDrainAshlarStart s = _)
  rw [h, ← ht]
  exact (apply_ite Host.Outcome.next ..).symm

end

/-- Settles O49: the command with the response's CID picks the branch; the cairns' copy changes neither the take's number nor its close. -/
theorem magazineEvents : Obligations.MagazineEvents := by
  unfold Obligations.MagazineEvents
  intro m k s hk
  refine ⟨fun resp data h => magResponse_of_none hk h, fun resp data c u hc hu => ⟨fun hok => ?done, fun hbad => ?error⟩,
    fun cid c hc => ⟨magMissed k c s.blk, (magMissed_fields k c s.blk).1, (magMissed_fields k c s.blk).2, fun hseal => ?missSeal, fun hseal => ?miss⟩,
    fun cid h => magDeadlineMiss_of_none hk h, fun n hn => ⟨fun hfull => ?full, fun hroom => ?drain⟩, fun hnone => ?noDrain, fun hc => ?down,
    fun t hc ht hclosing hnew hidle => ?cairns, metaCairnsWrite_stays, fun hc hopen => ⟨_, rfl, ?entry⟩, fun ht hopen => ?noEntry,
    fun hlost hopen ha hb => ⟨_, rfl, ?portsDown⟩, fun h => ?portsUp, fun found => ⟨fun hst => ?recover, fun hst => ?noRecover⟩⟩
  case done =>
    subst hu
    exact ⟨_, rfl, magResponse_of_some hk hc (if_pos hok)⟩
  case error =>
    subst hu
    obtain ⟨herr, hevt, hrcd⟩ := magErred_fields (magErr_low hk) c s.blk
    refine ⟨magErred k c s.blk, herr, hevt, hrcd, fun hseal => ?_, fun hseal hst => ?_, fun hseal hst => ?_⟩
    · exact magResponse_of_some hk hc ((if_neg hbad).trans (if_pos hseal))
    · exact magResponse_of_some hk hc ((if_neg hbad).trans ((if_neg (Bool.eq_false_iff.mp hseal)).trans (if_pos hst)))
    · exact magResponse_of_some hk hc ((if_neg hbad).trans ((if_neg (Bool.eq_false_iff.mp hseal)).trans ((if_neg (by omega)).trans (if_pos hst))))
  case missSeal => exact magDeadlineMiss_of_some hk hc (if_pos hseal)
  case miss => exact magDeadlineMiss_of_some hk hc (if_neg (Bool.eq_false_iff.mp hseal))
  case full => exact drainAshlarStart_of hn (if_pos (decide_eq_true hfull))
  case drain => exact drainAshlarStart_of hn (if_neg (by simpa [magFull] using hroom))
  case noDrain =>
    refine (onBlock_next ?_ : execDrainAshlarStart s = _)
    rw [hnone]
  case down => exact ⟨(onBlock_next (if_pos hc) : execMetaCairnsWrite s = _), (onBlock_next (if_pos hc) : execTakeEntryRewrite s = _)⟩
  case cairns =>
    refine completes_of_becomes (metaCairnsWrite_becomes hc ht hclosing hnew hidle) ⟨rfl, ?_⟩
    have hhead := takeHead_metasWritten s.blk
    unfold takeHead at hhead
    rw [ht, Option.map_some, Option.map_eq_some_iff] at hhead
    obtain ⟨t', ht', heq⟩ := hhead
    obtain ⟨hnum, hcl⟩ := Prod.mk.inj heq
    exact ⟨t', ht', hnum, hcl.trans hclosing⟩
  case entry => exact (onBlock_next ((if_neg (by simp [hc])).trans (congrArg _ (if_pos hopen))) : execTakeEntryRewrite s = _)
  case noEntry =>
    refine (onBlock_next ?_ : execTakeEntryRewrite s = _)
    dsimp only
    split
    · rfl
    · exact congrArg _ (if_neg (Bool.eq_false_iff.mp hopen))
  case portsDown => exact (onBlock_next (if_pos (by simp [hlost, hopen, ha, hb])) : execMagPortsDownTimeout s = _)
  case portsUp =>
    refine (onBlock_next (if_neg ?_) : execMagPortsDownTimeout s = _)
    rcases h with h | h | h <;> simp [h]
  case recover =>
    subst hk
    exact (onBlock_next (if_pos hst) : execMagRecoveryScan m found s = _)
  case noRecover =>
    subst hk
    exact (onBlock_next (if_neg hst) : execMagRecoveryScan m found s = _)

end Sys2Proof.Machine
end

section
/-! A port's state (R463 to R473): what is read after it is set, and which words of its registers are apart. -/

namespace Sys2Proof.Machine

/-! ### A port read after it is set -/

theorem port_setPort (s : Block) (t u : Nat) (p : Port) : (s.setPort t p).port u = if u = t then p else s.port u := by
  unfold Block.port Block.setPort
  by_cases h : u = t
  · subst h
    rw [smGet_smSet]
  · rw [if_neg h, smGet_smSet_other _ _ _ _ _ _ h]

@[simp] theorem port_setPort_same (s : Block) (t : Nat) (p : Port) : (s.setPort t p).port t = p := by rw [port_setPort, if_pos rfl]

@[simp] theorem port_onPort (s : Block) (t : Nat) (g : Port → Port) : (s.onPort t g).port t = g (s.port t) := port_setPort_same s t _

theorem port_congr {s u : Block} (h : u.lk = s.lk) (t : Nat) : u.port t = s.port t := by rw [Block.port, h, Block.port]

section
variable (s : Block) (t : Nat) (p : Port) (g : Port → Port)

@[simp] theorem setPort_regs : (s.setPort t p).regs = s.regs := rfl

@[simp] theorem onPort_regs : (s.onPort t g).regs = s.regs := rfl

@[simp] theorem setPort_fld (f : RF) : (s.setPort t p).fld f = s.fld f := rfl

@[simp] theorem setPort_flag (f : RF) : (s.setPort t p).flag f = s.flag f := rfl

@[simp] theorem onPort_fld (f : RF) : (s.onPort t g).fld f = s.fld f := rfl

@[simp] theorem onPort_flag (f : RF) : (s.onPort t g).flag f = s.flag f := rfl

@[simp] theorem sendLink_regs (type seq : Nat) (l : List Byte) : (sendLink t type seq l s).regs = s.regs := rfl

@[simp] theorem sendLink_cmd (type seq : Nat) (l : List Byte) : (sendLink t type seq l s).cmd = s.cmd := rfl

@[simp] theorem sendLink_port (type seq : Nat) (l : List Byte) : (sendLink t type seq l s).port t =
    { s.port t with linkq := (s.port t).linkq ++ [⟨type, 0, false, false, seq, 0, 0, 0, l⟩] } := port_onPort ..

@[simp] theorem sendCtl_regs (a b c : Nat) : (sendCtl t a b c s).regs = s.regs := rfl

@[simp] theorem sendCtl_port (a b c : Nat) : (sendCtl t a b c s).port t =
    { s.port t with linkq := (s.port t).linkq ++ [⟨0xC5, 0, false, false, 0, 0, 0, 0, leBytes 1 a ++ leBytes 1 b ++ leBytes 1 c ++ [0]⟩] } :=
  sendLink_port ..

theorem raise_port (e : Nat) : (s.raise e).port t = s.port t := port_congr (raise_lk s e) t

end

/-! ### NAK (R466) -/

/-- Is a NAK of port `t` due: none in the last microsecond? -/
def nakDue (t : Nat) (s : Block) : Bool := match (s.port t).lastNak with | some k => decide (usT ≤ s.sinceT k) | none => true

/-- The port discards what arrives until the packet expected; the time of a NAK is noted. -/
def nakNoted (t : Nat) (s : Block) : Block :=
  s.setPort t { s.port t with discarding := true, lastNak := if nakDue t s then some s.now else (s.port t).lastNak }

theorem sendNak_eq (t : Nat) (s : Block) : sendNak t s =
    if nakDue t s = true then sendLink t 0xC3 ((nakNoted t s).fld (PT_SEQ_RX.SEQ t)) [] (nakNoted t s) else nakNoted t s := rfl

theorem sendNak_regs (t : Nat) (s : Block) : (sendNak t s).regs = s.regs := by
  rw [sendNak_eq, apply_ite Block.regs, sendLink_regs, ite_self]
  rfl

theorem sendNak_cmd (t : Nat) (s : Block) : (sendNak t s).cmd = s.cmd := by
  rw [sendNak_eq, apply_ite Block.cmd, sendLink_cmd, ite_self]
  rfl

theorem sendNak_port (t : Nat) (s : Block) : ((sendNak t s).port t).discarding = true ∧
    ((sendNak t s).port t).restripe = (s.port t).restripe := by
  have hnoted : ((nakNoted t s).port t).discarding = true ∧ ((nakNoted t s).port t).restripe = (s.port t).restripe := by
    rw [nakNoted, port_setPort_same]
    exact ⟨rfl, rfl⟩
  rw [sendNak_eq]
  split
  · rw [sendLink_port]
    exact hnoted
  · exact hnoted

/-! ### Words of one port -/

section
variable (t : Nat)

theorem ptErr_ne_ptStat : PT_ERR.addr t ≠ PT_STAT.addr t := by unfold PT_ERR.addr PT_STAT.addr; omega

theorem ptErr_ne_ptSeqRx : PT_ERR.addr t ≠ PT_SEQ_RX.addr t := by unfold PT_ERR.addr PT_SEQ_RX.addr; omega

theorem ptCount_ne_ptSeqRx : PT_COUNT.addr t ≠ PT_SEQ_RX.addr t := by unfold PT_COUNT.addr PT_SEQ_RX.addr; omega

theorem ptCount_ne_ptErr : PT_COUNT.addr t ≠ PT_ERR.addr t := by unfold PT_COUNT.addr PT_ERR.addr; omega

end

end Sys2Proof.Machine
end

section
/-! Packets on a link (R463 to R469): acceptance, acknowledgement, replay, credit and sending. -/

namespace Sys2Proof.Machine

section
variable {t : BitVec 3} {k : Nat} {s : State} (hk : k = t.toNat)

/-! ### A DATA packet (R463, R465, R466) -/

theorem raiseFirst_accepted (b : Block) (e : Nat) : (b.raiseFirst e).cmd.accepted = b.cmd.accepted := by
  unfold Block.raiseFirst
  split
  · rfl
  · exact raise_accepted b e

theorem regsBut_raiseFirst (b : Block) (e : Nat) : RegsBut [evtStatusA e] b (b.raiseFirst e) := .ite (.refl b) (regsBut_raise b e)

/-- The error bit of a packet. -/
def errorBit (t : Nat) (framing : Bool) : RF := if framing then PT_ERR.FRAMING t else PT_ERR.CRC t

/-- A packet's error noted and counted. -/
def errorNoted (t : Nat) (framing : Bool) (b : Block) : Block :=
  ((b.setFlag (errorBit t framing) true).incFld (PT_COUNT.CRC_ERRS t) 1).raiseFirst (732 + 8 * t)

theorem linkError_eq (t : Nat) (framing : Bool) (b : Block) : linkError t framing b = sendNak t (errorNoted t framing b) := rfl

theorem errorBit_word (t : Nat) (framing : Bool) : (errorBit t framing).addr = PT_ERR.addr t := by cases framing <;> rfl

theorem errorBit_bit (t : Nat) (framing : Bool) : (errorBit t framing).inWord ∧ (errorBit t framing).width = 1 := by
  cases framing
  · exact ⟨(by decide : 0 + 1 ≤ 32), rfl⟩
  · exact ⟨(by decide : 1 + 1 ≤ 32), rfl⟩

theorem pt_low {a t : Nat} (ht : t < 8) (ha : a ≤ 0x2200020 + 0x1000 * t) (e : Nat) : a ∉ [evtStatusA e] := by
  rw [List.mem_singleton, evtStatusA_eq]
  omega

theorem linkError_fields {t : Nat} (ht : t < 8) (framing : Bool) (b : Block) :
    (linkError t framing b).flag (errorBit t framing) = true ∧ (linkError t framing b).fld (PT_SEQ_RX.SEQ t) = b.fld (PT_SEQ_RX.SEQ t) ∧
      (linkError t framing b).cmd.accepted = b.cmd.accepted ∧ ((linkError t framing b).port t).discarding = true := by
  rw [linkError_eq]
  have hregs : RegsBut [] (errorNoted t framing b) (sendNak t (errorNoted t framing b)) := .of_regs (sendNak_regs t _)
  refine ⟨?_, ?_, ?_, (sendNak_port t _).1⟩
  · rw [hregs.flag List.not_mem_nil, errorNoted, (regsBut_raiseFirst _ _).flag, Block.incFld,
      flag_setFld_apart _ _ _ _ (.inl (by rw [errorBit_word]; exact ptCount_ne_ptErr t)), flag_setFlag_same _ _ _ (errorBit_bit t framing)]
    exact errorBit_word t framing ▸ pt_low ht (by unfold PT_ERR.addr; omega) _
  · rw [hregs.fld List.not_mem_nil, errorNoted, (regsBut_raiseFirst _ _).fld (pt_low ht (by simp only [PT_SEQ_RX.SEQ, PT_SEQ_RX.addr]; omega) _),
      Block.incFld, fld_setFld_apart _ _ _ _ (.inl (ptCount_ne_ptSeqRx t)),
      fld_setFlag_apart _ _ _ _ (.inl (by rw [errorBit_word]; exact ptErr_ne_ptSeqRx t))]
  · rw [sendNak_cmd, errorNoted, raiseFirst_accepted]
    rfl

/-- The packet's place taken: the next is expected, and its space is granted again. -/
def accepted (k : Nat) (hdr payload : List Byte) (b : Block) : Block :=
  (b.setFld (PT_SEQ_RX.SEQ k) (leAt hdr 4 4 + 1)).onPort k (fun p => { p with
    discarding := false, granted := p.granted.set (leAt hdr 1 1 % 4) ((p.granted.getD (leAt hdr 1 1 % 4) 0 + ceilDiv payload.length 16) % 2 ^ 32) })

/-- What a good packet does. -/
def packetTaken (k : Nat) (hdr payload : List Byte) (b : Block) : Host.Outcome Block Fault Refusal :=
  if leAt hdr 4 4 = b.fld (PT_SEQ_RX.SEQ k) then
    .next (deliverPkt k ⟨0xC1, leAt hdr 1 1 % 4, (leAt hdr 1 1).testBit 2, (leAt hdr 1 1).testBit 3,
        leAt hdr 4 4, leAt hdr 8 2, leAt hdr 12 1, leAt hdr 13 1, payload⟩ (sendCredit k (sendAck k (accepted k hdr payload b))))
  else if seqLater (b.fld (PT_SEQ_RX.SEQ k)) (leAt hdr 4 4) then .next (sendAck k b)
  else .next (sendNak k b)

section
variable {hdr payload : List Byte}

include hk

theorem dataPacketRx_down {good framing : Bool} (h : portUp s.blk k = false) : Becomes (.dataPacketRx t good framing hdr payload) s s.blk := by
  subst hk
  exact (onBlock_next (if_pos (by simp [h])) : execDataPacketRx t good framing hdr payload s = _)

theorem dataPacketRx_framing {good : Bool} (h : portUp s.blk k = true) :
    Becomes (.dataPacketRx t good true hdr payload) s (linkError k true s.blk) := by
  subst hk
  exact (onBlock_next ((if_neg (by simp [h])).trans (if_pos rfl)) : execDataPacketRx t good true hdr payload s = _)

theorem dataPacketRx_crc (h : portUp s.blk k = true) : Becomes (.dataPacketRx t false false hdr payload) s (linkError k false s.blk) := by
  subst hk
  exact (onBlock_next ((if_neg (by simp [h])).trans ((if_neg Bool.false_ne_true).trans (if_pos rfl))) :
    execDataPacketRx t false false hdr payload s = _)

theorem dataPacketRx_good (h : portUp s.blk k = true) {u : Block} (hu : packetTaken k hdr payload s.blk = .next u) :
    Becomes (.dataPacketRx t true false hdr payload) s u := by
  subst hk
  exact (onBlock_next ((if_neg (by simp [h])).trans ((if_neg Bool.false_ne_true).trans ((if_neg Bool.false_ne_true).trans hu))) :
    execDataPacketRx t true false hdr payload s = _)

end

theorem accepted_fields {hdr payload : List Byte} {b : Block} (k : Nat) (h : leAt hdr 4 4 = b.fld (PT_SEQ_RX.SEQ k)) :
    (accepted k hdr payload b).fld (PT_SEQ_RX.SEQ k) = (b.fld (PT_SEQ_RX.SEQ k) + 1) % 2 ^ 32 ∧
      ((accepted k hdr payload b).port k).discarding = false ∧ (accepted k hdr payload b).evt = b.evt := by
  refine ⟨?_, ?_, rfl⟩
  · rw [accepted, onPort_fld, fld_setFld _ _ _ (by decide : 0 + 32 ≤ 32), h]
    rfl
  · rw [accepted, port_onPort]

/-! ### Acknowledgement and replay (R466, R467) -/

/-- The packets held after `seq`. -/
def heldAfter (seq : Nat) (p : Port) : List Pkt := p.replay.filter (fun x => seqLater x.seq seq)

theorem ackUpTo_regs (k seq : Nat) (b : Block) : (ackUpTo k seq b).regs = b.regs := by
  unfold ackUpTo
  dsimp only
  split <;> rfl

theorem ackUpTo_port (k seq : Nat) (b : Block) : ((ackUpTo k seq b).port k).replay = heldAfter seq (b.port k) ∧
    (((ackUpTo k seq b).port k).replay ≠ (b.port k).replay → ((ackUpTo k seq b).port k).noAck = 0) := by
  unfold ackUpTo
  dsimp only
  split
  · next h =>
    have hall : heldAfter seq (b.port k) = (b.port k).replay := List.filter_eq_self.mpr (List.length_filter_eq_length_iff.mp h)
    exact ⟨hall.symm, fun hne => absurd rfl hne⟩
  · rw [port_setPort_same]
    exact ⟨rfl, fun _ => rfl⟩

theorem ackUpTo_of_later {k seq : Nat} {b : Block} (h : ∀ x ∈ (b.port k).replay, seqLater x.seq seq = true) : ackUpTo k seq b = b := by
  unfold ackUpTo
  exact if_pos (congrArg List.length (List.filter_eq_self.mpr h))

/-- The replay noted, counted and begun. -/
def replayBegun (k : Nat) (b : Block) : Block :=
  (((b.setFlag (PT_ERR.REPLAY k) true).incFld (PT_COUNT.REPLAYS k) 1).raiseFirst (731 + 8 * k)).setPort k
    { b.port k with resend := (b.port k).replay, noAck := (b.port k).noAck + 1, sentAt := b.now }

theorem replay_of_few {k : Nat} {b : Block} (h : (b.port k).noAck < 2) : replay k b = replayBegun k b := by
  unfold replay
  exact if_neg (by omega)

theorem replayBegun_error {k : Nat} (hk : k < 8) (b : Block) : (replayBegun k b).flag (PT_ERR.REPLAY k) = true := by
  rw [replayBegun, setPort_flag, (regsBut_raiseFirst _ _).flag (pt_low hk (by simp only [PT_ERR.REPLAY, PT_ERR.addr]; omega) _), Block.incFld,
    flag_setFld_apart _ _ _ _ (.inl (ptCount_ne_ptErr k))]
  exact flag_setFlag _ _ _ (by decide : 2 + 1 ≤ 32) rfl

/-! ### Sending (R466 to R469) -/

/-- Packet `x` as it goes out with the next SEQ, held for replay; credit is spent. -/
def dataSent (x : Pkt) (seq : Nat) (now : Tick) (p : Port) : Port :=
  { p with
    dataq := p.dataq.erase x, replay := p.replay ++ [{ x with seq := seq }], sent := some { x with seq := seq },
    spent := p.spent.set x.vc ((p.spent.getD x.vc 0 + ceilDiv x.payload.length 16) % 2 ^ 32),
    sentAt := if p.replay.isEmpty then now else p.sentAt }

section
include hk

theorem packetTransmit_link {x : Pkt} {rest : List Pkt} (h : portUp s.blk k = true) (hq : (s.blk.port k).linkq = x :: rest) :
    Becomes (.packetTransmit t) s (s.blk.setPort k { s.blk.port k with linkq := rest, sent := some x }) := by
  subst hk
  refine (onBlock_next ((if_neg (by simp [h])).trans ?_) : execPacketTransmit t s = _)
  rw [hq]

section
variable (h : portUp s.blk k = true) (hst : s.blk.fld (PT_STAT.STATE k) ≠ 6) (hq : (s.blk.port k).linkq = [])
include h hst hq

theorem packetTransmit_again {x : Pkt} {rest : List Pkt} (hr : (s.blk.port k).resend = x :: rest) :
    Becomes (.packetTransmit t) s (s.blk.setPort k { s.blk.port k with resend := rest, sent := some x, sentAt := s.blk.now }) := by
  subst hk
  refine (onBlock_next ((if_neg (by simp [h])).trans ?_) : execPacketTransmit t s = _)
  split
  · next hlink => exact absurd (hlink.symm.trans hq) (List.cons_ne_nil _ _)
  · refine (if_neg hst).trans ?_
    split
    · next hresend =>
      obtain ⟨rfl, rfl⟩ := List.cons.inj (hresend.symm.trans hr)
      rfl
    · next hresend => exact absurd (hr.symm.trans hresend) (List.cons_ne_nil _ _)

theorem packetTransmit_data (hr : (s.blk.port k).resend = []) {x : Pkt} (hx : nextData (s.blk.port k) = some x) :
    Becomes (.packetTransmit t) s ((s.blk.setFld (PT_SEQ_TX.SEQ k) (s.blk.fld (PT_SEQ_TX.SEQ k) + 1)).setPort k
      (noteStalls s.blk (dataSent x (s.blk.fld (PT_SEQ_TX.SEQ k)) s.blk.now (s.blk.port k)))) := by
  subst hk
  refine (onBlock_next ((if_neg (by simp [h])).trans ?_) : execPacketTransmit t s = _)
  split
  · next hlink => exact absurd (hlink.symm.trans hq) (List.cons_ne_nil _ _)
  · refine (if_neg hst).trans ?_
    split
    · next hresend => exact absurd (hresend.symm.trans hr) (List.cons_ne_nil _ _)
    · rw [hx]
      rfl

end

end

/-- DATA goes out only with credit seen and room to hold it. -/
theorem room_of_nextData {p : Port} {x : Pkt} (h : nextData p = some x) : p.creditSeen = true ∧ heldBytes p + x.payload.length ≤ 524288 := by
  have hmay : mayData p x = true := List.find?_some h
  unfold mayData at hmay
  simp only [Bool.and_eq_true, decide_eq_true_eq] at hmay
  exact ⟨hmay.1.1, hmay.2⟩

end

/-- Settles O47: a packet's SEQ picks its branch; no packet held is older than a NAK's, so the replay buffer is sent again whole. -/
theorem packetEvents : Obligations.PacketEvents := by
  unfold Obligations.PacketEvents
  intro t k s hk
  have hlt : k < 8 := hk ▸ t.isLt
  refine ⟨fun good framing hdr payload => dataPacketRx_down hk, fun good hdr payload hup => ⟨?framing, ?crc⟩, fun hdr payload hup hseq => ?inSeq,
    fun hdr payload hup hseq => ⟨fun hlate => ?again, fun hearly => ?gap⟩, fun seq => ?ack, fun seq hup => ?nakDown,
    fun seq hup hall hfew hheld => ?nak, fun l0 l1 l2 => ?credit, fun hup => ?sendDown, fun x rest hup hq => packetTransmit_link hk hup hq,
    fun x rest hup hst hq hr => packetTransmit_again hk hup hst hq hr, fun x hup hst hq hr hx => ?data, fun x hx => room_of_nextData hx,
    fun hst hheld => ?timeout, fun hst => ?noTimeout, fun hup => ?update, fun hup => ?noUpdate, fun vc hup => ?stall, fun vc hup => ?noStall⟩
  case framing => exact completes_of_becomes (dataPacketRx_framing hk hup) (linkError_fields hlt true s.blk)
  case crc => exact completes_of_becomes (dataPacketRx_crc hk hup) (linkError_fields hlt false s.blk)
  case inSeq =>
    obtain ⟨hnext, hdisc, hevt⟩ := accepted_fields (payload := payload) k hseq
    exact ⟨accepted k hdr payload s.blk, hnext, hdisc, hevt, dataPacketRx_good hk hup (if_pos hseq)⟩
  case again => exact dataPacketRx_good hk hup ((if_neg hseq).trans (if_pos hlate))
  case gap => exact dataPacketRx_good hk hup ((if_neg hseq).trans (if_neg (Bool.eq_false_iff.mp hearly)))
  case ack =>
    subst hk
    obtain ⟨hreplay, hnoAck⟩ := ackUpTo_port t.toNat seq.toNat s.blk
    exact completes_of_becomes (becomes_of_eq rfl rfl) ⟨hreplay, ackUpTo_regs _ _ _, hnoAck⟩
  case nakDown =>
    subst hk
    exact (onBlock_next (if_pos (by simp [hup])) : execNakRx t seq s = _)
  case nak =>
    subst hk
    have hx : Becomes (.nakRx t seq) s (replayBegun t.toNat s.blk) := by
      refine (onBlock_next ((if_neg (by simp [hup])).trans (congrArg _ ?_)) : execNakRx t seq s = _)
      rw [ackUpTo_of_later hall, if_neg (by simp [hheld]), replay_of_few hfew]
    refine completes_of_becomes hx ⟨?_, replayBegun_error hlt s.blk, ?_, ?_⟩ <;> rw [replayBegun, port_setPort_same]
  case credit =>
    subst hk
    refine completes_of_becomes (becomes_of_eq rfl rfl) ?_
    rw [port_onPort]
    exact ⟨rfl, rfl, rfl, rfl⟩
  case sendDown =>
    subst hk
    exact (onBlock_next (if_pos (by simp [hup])) : execPacketTransmit t s = _)
  case data =>
    refine completes_of_becomes (packetTransmit_data hk hup hst hq hr hx) ⟨?_, ?_⟩
    · rw [setPort_fld, fld_setFld _ _ _ (by decide : 0 + 32 ≤ 32)]
      rfl
    · rw [port_setPort_same]
      exact ⟨rfl, rfl, rfl⟩
  case timeout =>
    subst hk
    exact (onBlock_next (if_pos ⟨hst, by simpa using hheld⟩) : execReplayTimeout t s = _)
  case noTimeout =>
    subst hk
    exact (onBlock_next (if_neg fun h => hst h.1) : execReplayTimeout t s = _)
  case update =>
    subst hk
    refine completes_of_becomes (onBlock_next (if_pos hup) : execCreditUpdateTimer t s = _) ?_
    rw [sendCredit, sendLink_port, port_setPort_same]
    exact ⟨rfl, rfl⟩
  case noUpdate =>
    subst hk
    exact (onBlock_next (if_neg (Bool.eq_false_iff.mp hup)) : execCreditUpdateTimer t s = _)
  case stall =>
    subst hk
    refine completes_of_becomes (onBlock_next (if_pos hup) : execCreditStall t vc s = _) ⟨?_, evtStatus_raise_self _ _, raise_lk _ _⟩
    rw [(regsBut_raise _ _).flag (pt_low hlt (by simp only [PT_ERR.CREDIT_STALL, PT_ERR.addr]; omega) _)]
    exact flag_setFlag _ _ _ (by decide : 4 + 1 ≤ 32) rfl
  case noStall =>
    subst hk
    exact (onBlock_next (if_neg (Bool.eq_false_iff.mp hup)) : execCreditStall t vc s = _)

end Sys2Proof.Machine
end

section
/-! How a port comes up and leaves (R470 to R479): its states, its lanes and its re-striping. -/

namespace Sys2Proof.Machine

/-! ### What leaves the ports alone -/

/-- A register word of a link port (R483 to R485). -/
abbrev PortWord (a : Nat) : Prop := 0x2200000 ≤ a ∧ a < 0x2208000

/-- No word of a port and no port's state changes. -/
structure PortKept (s t : Block) : Prop where
  reg : ∀ a, PortWord a → t.reg a = s.reg a
  ports : t.lk.ports = s.lk.ports

namespace PortKept

variable {s t u : Block}

theorem refl (s : Block) : PortKept s s := ⟨fun _ _ => rfl, rfl⟩

theorem trans (h : PortKept s t) (h' : PortKept t u) : PortKept s u :=
  ⟨fun a ha => (h'.reg a ha).trans (h.reg a ha), h'.ports.trans h.ports⟩

theorem of_regs (hregs : t.regs = s.regs) (hlk : t.lk.ports = s.lk.ports) : PortKept s t := ⟨fun a _ => reg_of_regs hregs a, hlk⟩

theorem of_regsBut {l : List Nat} (h : RegsBut l s t) (hl : ∀ a ∈ l, ¬ PortWord a) (hlk : t.lk.ports = s.lk.ports) : PortKept s t :=
  ⟨fun a ha => h.reg fun hm => hl a hm ha, hlk⟩

theorem ite {c : Prop} [Decidable c] (ht : PortKept s t) (hu : PortKept s u) : PortKept s (if c then t else u) := by
  split
  · exact ht
  · exact hu

theorem foldl {α : Type} {f : Block → α → Block} {l : List α} (h : ∀ x ∈ l, ∀ t, PortKept t (f t x)) (s : Block) :
    PortKept s (l.foldl f s) := by
  induction l generalizing s with
  | nil => exact refl s
  | cons x l ih => exact (h x List.mem_cons_self s).trans (ih (fun y hy => h y (List.mem_cons_of_mem x hy)) _)

theorem fld (h : PortKept s t) {f : RF} (hf : PortWord f.addr) : t.fld f = s.fld f := fld_congr _ _ _ (h.reg _ hf)

theorem flag (h : PortKept s t) {f : RF} (hf : PortWord f.addr) : t.flag f = s.flag f := flag_congr _ _ _ (h.reg _ hf)

theorem port (h : PortKept s t) (k : Nat) : t.port k = s.port k := by rw [Block.port, h.ports, Block.port]

end PortKept

section
variable (s : Block)

theorem portKept_setFld {f : RF} (v : Nat) (h : ¬ PortWord f.addr) : PortKept s (s.setFld f v) :=
  .of_regsBut (regsBut_setFld s f v) (fun _ ha => List.mem_singleton.mp ha ▸ h) rfl

theorem portKept_setFlag {f : RF} (b : Bool) (h : ¬ PortWord f.addr) : PortKept s (s.setFlag f b) := portKept_setFld s _ h

theorem portKept_raise (e : Nat) : PortKept s (s.raise e) := by
  refine .of_regsBut (regsBut_raise s e) (fun a ha => ?_) (congrArg LkState.ports (raise_lk s e))
  rw [List.mem_singleton.mp ha, evtStatusA_eq]
  omega

theorem portKept_setLive (e : Nat) (b : Bool) : PortKept s (s.setLive e b) := by
  refine .of_regsBut (regsBut_setLive s e b) (fun a ha => ?_) (congrArg LkState.ports (setLive_lk s e b))
  rcases List.mem_pair.mp ha with rfl | rfl
  · rw [evtLiveA_eq]
    omega
  · rw [evtStatusA_eq]
    omega

theorem portKept_cairnN (o k a x y : Nat) : PortKept s (s.cairnN o k a x y) :=
  .of_regsBut (regsBut_cairnN s o k a x y) (by decide) (congrArg LkState.ports (cairnN_lk ..))

theorem portKept_policyCairn (c k a x y : Nat) : PortKept s (s.policyCairn c k a x y) :=
  .of_regsBut (regsBut_policyCairn s c k a x y) (by decide) (congrArg LkState.ports (policyCairn_lk ..))

theorem portKept_contain (k : Nat) : PortKept s (s.contain k) := by
  have hdraw (c : Prop) [Decidable c] : PortKept s (if c then s else s.draw) := .ite (.refl s) (.of_regs rfl rfl)
  have hwords (t : Block) (a b c d : Nat) :
      PortKept t ((((t.setFld FLT_STAT.KIND a).incFld FLT_STAT.COUNT b).setFld FLT_INTR.LAST c).setFld FLT_INTR.MAX d) :=
    (((portKept_setFld t a (by decide)).trans (portKept_setFld _ _ (by decide))).trans (portKept_setFld _ c (by decide))).trans
      (portKept_setFld _ d (by decide))
  exact (((hdraw _).trans (hwords _ _ _ _ _)).trans (portKept_raise ..)).trans (.of_regs rfl rfl)

/-! ### The drain rate and the burst depth (R358, R360, R382, R594) -/

theorem portKept_noteRun (a : Nat) (u : Block) : PortKept s (noteRun a u s) := by
  refine .of_regsBut (regsBut_noteRun a u s) (by decide) ?_
  unfold noteRun
  split <;> rfl

theorem portKept_updateDepth : PortKept s (updateDepth none s) := by
  have hlimit (b : Bool) : PortKept s { s with rcd := { s.rcd with depth := depthOf s }, rsv := { s.rsv with limited := b } } :=
    .of_regs rfl rfl
  have hraised (c b : Bool) := PortKept.ite (c := c = true) ((hlimit b).trans (portKept_raise _ 952)) (hlimit b)
  exact .ite (hraised _ _) ((((hraised _ _).trans (portKept_setFld (f := REC_DEPTH.DEPTH) _ _ (by decide))).trans
    (portKept_policyCairn ..)).trans (portKept_raise ..))

theorem portKept_updateDeficit : PortKept s (updateDeficit s) := by
  have hflag (b : Bool) : PortKept s (s.setFlag REC_STAT.DEFICIT b) := portKept_setFlag s b (by decide)
  exact .ite ((hflag _).trans (portKept_raise _ _)) (hflag _)

/-- The energy left, as RSV_ENERGY shows it. -/
def energyShown : Block :=
  if (energyUse s).floor.toNat < 65536 then s.setFld RSV_ENERGY.E_USE (energyUse s).floor.toNat
  else s.draw.setFld RSV_ENERGY.E_USE s.drawn.toNat

theorem portKept_energyShown : PortKept s (energyShown s) :=
  .ite (portKept_setFld s _ (by decide))
    ((PortKept.of_regs (s := s) (t := s.draw) rfl rfl).trans (portKept_setFld s.draw (f := RSV_ENERGY.E_USE) _ (by decide)))

/-- The limit in RSV_ENERGY, and whether it leaves the unit unprotected. -/
def limitShown (u : Block) : Block :=
  let l := reserveL s
  ((noteRun RSV_ENERGY.addr u (u.setFld RSV_ENERGY.LIMIT (min 65535 l))).setFlag RSV_STAT.UNPROTECTED (decide (l < 2))).setLive 947 (decide (l < 2))

theorem portKept_limitShown (u : Block) : PortKept u (limitShown s u) :=
  (((portKept_setFld u (f := RSV_ENERGY.LIMIT) _ (by decide)).trans (portKept_noteRun _ _ _)).trans
    (portKept_setFlag _ (f := RSV_STAT.UNPROTECTED) _ (by decide))).trans (portKept_setLive _ 947 _)

theorem updateLimit_eq : updateLimit s = updateDepth none { limitShown s (energyShown s) with
    rcd := { (limitShown s (energyShown s)).rcd with reserveLimit := reserveL s } } := rfl

theorem portKept_updateLimit : PortKept s (updateLimit s) := by
  rw [updateLimit_eq]
  refine PortKept.trans ?_ (portKept_updateDepth _)
  exact ((portKept_energyShown s).trans (portKept_limitShown s _)).trans (.of_regs rfl rfl)

theorem portKept_updateDrain : PortKept s (updateDrain s) :=
  .ite (.refl s) (((portKept_setFld (f := REC_DRAIN.FPS) s _ (by decide)).trans (portKept_updateLimit _)).trans (portKept_updateDeficit _))

theorem portKept_rateWarn (t : Nat) : PortKept s (rateWarn t s) := .ite (portKept_raise s _) (.refl s)

end

/-! ### The lanes in service (R459, R471, R480) -/

/-- The lanes of the set in PT_STAT. -/
def lanesTold (t set : Nat) (s : Block) : Block :=
  ((s.setFld (PT_STAT.LANES_IN t) set).setFld (PT_STAT.WIDTH t) (popcount8 set)).setFld (PT_STAT.PAYLOAD t) (payloadRate (popcount8 set))

/-- Lane `i` of port `t` follows the set. -/
def laneFollows (t set : Nat) (a : Block) (i : Nat) : Block :=
  let l := laneBase t + i
  let on := set.testBit i
  let was := a.flag (LN_STAT.IN_SERVICE l)
  let a1 := a.setFlag (LN_STAT.IN_SERVICE l) on
  let a2 := if on then a1.setFld (LN_STAT.LOGICAL l) ((lanesOf set).idxOf i) else a1
  if was && !on then a2.onLane l (fun x => { x with outSince := a2.now, bip := [], cleanSince := none }) else a2

theorem setLanesIn_eq (t set : Nat) (s : Block) : setLanesIn t set s =
    if t < 2 then updateDrain (((List.range (portWidth t)).foldl (laneFollows t set) (lanesTold t set s)).setFld (MG_STAT.RATE t)
      (magRate ((List.range (portWidth t)).foldl (laneFollows t set) (lanesTold t set s)) t))
    else (List.range (portWidth t)).foldl (laneFollows t set) (lanesTold t set s) := rfl

theorem portKept_laneFollows (t set : Nat) (a : Block) (i : Nat) : PortKept a (laneFollows t set a i) := by
  have hlane (f : RF) (hf : f.addr = LN_STAT.addr (laneBase t + i)) : ¬ PortWord f.addr := by
    rw [hf, LN_STAT.addr]
    omega
  have hon := fun b => portKept_setFlag a (f := LN_STAT.IN_SERVICE (laneBase t + i)) b (hlane _ rfl)
  have hlog := fun b v => (hon b).trans (portKept_setFld _ (f := LN_STAT.LOGICAL (laneBase t + i)) v (hlane _ rfl))
  exact .ite ((PortKept.ite (hlog _ _) (hon _)).trans (.of_regs rfl rfl)) (.ite (hlog _ _) (hon _))

/-- Beside PT_STAT, the lanes in service change no port. -/
theorem portKept_setLanesIn (t set : Nat) (s : Block) : PortKept (lanesTold t set s) (setLanesIn t set s) := by
  have hlanes : PortKept (lanesTold t set s) ((List.range (portWidth t)).foldl (laneFollows t set) (lanesTold t set s)) :=
    .foldl (fun i _ a => portKept_laneFollows t set a i) _
  rw [setLanesIn_eq]
  split
  · next ht =>
    refine (hlanes.trans (portKept_setFld _ _ ?_)).trans (portKept_updateDrain _)
    simp only [MG_STAT.RATE, MG_STAT.addr]
    omega
  · exact hlanes

theorem lanesTold_lk (t set : Nat) (s : Block) : (lanesTold t set s).lk = s.lk := rfl

theorem setLanesIn_port (t set : Nat) (s : Block) : (setLanesIn t set s).port t = s.port t :=
  (portKept_setLanesIn t set s).port t

section
variable {t : Nat} (ht : t < 8)
include ht

theorem portWord_ptStat : PortWord (PT_STAT.addr t) := by
  unfold PT_STAT.addr
  omega

theorem portWord_ptErr : PortWord (PT_ERR.addr t) := by
  unfold PT_ERR.addr
  omega

/-- The set is shown, and the port's state stands. -/
theorem setLanesIn_shown (set : Nat) (s : Block) : (setLanesIn t set s).fld (PT_STAT.LANES_IN t) = set % 256 ∧
    (setLanesIn t set s).fld (PT_STAT.STATE t) = s.fld (PT_STAT.STATE t) := by
  have hkept := portKept_setLanesIn t set s
  rw [hkept.fld (portWord_ptStat ht), hkept.fld (portWord_ptStat ht), lanesTold]
  constructor
  · rw [fld_setFld_apart _ _ _ _ (apart_of_bits rfl), fld_setFld_apart _ _ _ _ (apart_of_bits rfl)]
    exact fld_setFld _ _ _ (by decide : 3 + 8 ≤ 32)
  · rw [fld_setFld_apart _ _ _ _ (apart_of_bits rfl), fld_setFld_apart _ _ _ _ (apart_of_bits rfl),
      fld_setFld_apart _ _ _ _ (apart_of_bits rfl)]

/-! ### The state of a port (R472) -/

theorem setPortState_state {v : Nat} (hv : v < 8) (s : Block) : (setPortState t v s).fld (PT_STAT.STATE t) = v := by
  have hset : ((s.setFld (PT_STAT.STATE t) v).onPort t (fun p => { p with since := s.now })).fld (PT_STAT.STATE t) = v := by
    rw [onPort_fld, fld_setFld _ _ _ (by decide : 0 + 3 ≤ 32)]
    exact Nat.mod_eq_of_lt hv
  unfold setPortState
  dsimp only
  split
  · rw [(portKept_cairnN ..).fld (portWord_ptStat ht)]
    exact hset
  · exact hset

/-- The error bits stand. -/
theorem setPortState_error {f : RF} (hf : f.addr = PT_ERR.addr t) (v : Nat) (s : Block) : (setPortState t v s).flag f = s.flag f := by
  have hset : ((s.setFld (PT_STAT.STATE t) v).onPort t (fun p => { p with since := s.now })).flag f = s.flag f := by
    rw [onPort_flag, flag_setFld_apart _ _ _ _ (.inl (by rw [hf]; exact (ptErr_ne_ptStat t).symm))]
  unfold setPortState
  dsimp only
  split
  · rw [(portKept_cairnN ..).flag (hf ▸ portWord_ptErr ht)]
    exact hset
  · exact hset

end

theorem setPortState_port (t v : Nat) (s : Block) : (setPortState t v s).port t = { s.port t with since := s.now } := by
  have hset : ((s.setFld (PT_STAT.STATE t) v).onPort t (fun p => { p with since := s.now })).port t = { s.port t with since := s.now } :=
    port_onPort ..
  unfold setPortState
  dsimp only
  split
  · rw [(portKept_cairnN ..).port]
    exact hset
  · exact hset

theorem enterDetect_port (t : Nat) (s : Block) : (enterDetect t s).port t = { s.port t with
    since := s.now, detectAt := s.now, waiting := false, seen := [], go := 0, goSent := 0, set := 0, partnerSet := 0 } := by
  rw [enterDetect, port_onPort, setPortState_port]

theorem enterDetect_state {t : Nat} (ht : t < 8) (s : Block) : (enterDetect t s).fld (PT_STAT.STATE t) = 1 :=
  setPortState_state ht (by decide) s

/-! ### RECOVER from a training (R472) -/

/-- What a port in RECOVER forgets. -/
def portCleared (p : Port) : Port :=
  { p with replay := [], resend := [], linkq := [], restripe := none, creditSeen := false, stallSince := [], noAck := 0, discarding := false }

/-- The contexts that send on a port no longer in service. -/
def sendsDown (s : Block) : List Nat :=
  (List.range 4).filter (fun x => (s.ctx x).sending.isSome &&
    (monPort s (s.effFld (MON_CTX_CFG.DEST x)) (s.effFld (MON_CTX_NODE.NODE x))).isNone)

/-- Context `x` sends no more. -/
def sendStopped (a : Block) (x : Nat) : Block := a.onCtx x (fun c => { c with sending := none, waiting := none })

/-- The lanes out of service and the port cleared. -/
def portLeft (t : Nat) (s : Block) : Block := setLanesIn t 0 ((setPortState t 7 s).onPort t portCleared)

theorem enterRecover_of_training {t : Nat} {fault : Bool} {s : Block} (h : s.fld (PT_STAT.STATE t) ≤ 4) :
    enterRecover t fault s = (sendsDown (portLeft t s)).foldl sendStopped (portLeft t s) := by
  have hup : ¬ (s.fld (PT_STAT.STATE t) = 5 ∨ s.fld (PT_STAT.STATE t) = 6) := by omega
  have hfault : ¬ (fault && decide (t < 4) && (decide (s.fld (PT_STAT.STATE t) = 5) || decide (s.fld (PT_STAT.STATE t) = 6))) = true := by
    simpa using fun _ _ => not_or.mp hup
  unfold enterRecover
  dsimp only
  rw [if_neg hup, if_neg hup, if_neg hfault, if_neg fun h : t < 2 ∧ _ => hup h.2, if_neg fun h : 4 ≤ t ∧ _ => hup h.2]
  rfl

theorem enterRecover_training_fields {t : Nat} (ht : t < 8) {fault : Bool} {s : Block} (h : s.fld (PT_STAT.STATE t) ≤ 4) :
    (enterRecover t fault s).fld (PT_STAT.STATE t) = 7 ∧ (enterRecover t fault s).fld (PT_STAT.LANES_IN t) = 0 ∧
      ((enterRecover t fault s).port t).replay = [] := by
  rw [enterRecover_of_training h]
  have hkept : PortKept (portLeft t s) ((sendsDown (portLeft t s)).foldl sendStopped (portLeft t s)) :=
    .foldl (f := sendStopped) (fun _ _ _ => .of_regs rfl rfl) _
  obtain ⟨hlanes, hstate⟩ := setLanesIn_shown ht 0 ((setPortState t 7 s).onPort t portCleared)
  rw [hkept.fld (portWord_ptStat ht), hkept.fld (portWord_ptStat ht), hkept.port, portLeft]
  refine ⟨?_, hlanes, ?_⟩
  · rw [hstate]
    exact setPortState_state ht (by decide) s
  · rw [setLanesIn_port, port_onPort]
    rfl

/-! ### Re-striping (R475 to R477) -/

theorem endRestripe_of_unanswered {t : Nat} {s : Block} {r : Restripe} (hr : (s.port t).restripe = some r) (h : r.answered = false) :
    endRestripe t s = s := by
  unfold endRestripe
  rw [hr]
  exact if_neg (by simp [h])

/-- The port ACTIVE on the new set, a NAK telling the packet expected. -/
def restriped (t : Nat) (r : Restripe) (s : Block) : Block :=
  sendNak t ((setLanesIn t r.set (s.onPort t (fun p => { p with restripe := none }))).setFld (PT_STAT.STATE t) 5)

/-- The cairn of a re-striping, contained where a policy began it. -/
def restripeLogged (t : Nat) (r : Restripe) (s : Block) : Block :=
  if r.origin / 4096 = 4 then (s.policyCairn (r.origin % 4096) 0x0901 (PT_CFG.addr t) r.old r.set).contain 1
  else s.cairnN r.origin 0x0901 (PT_CFG.addr t) r.old r.set

theorem endRestripe_of_followed {t : Nat} {s : Block} {r : Restripe} (hr : (s.port t).restripe = some r) (hans : r.answered = true)
    (hall : r.followed &&& r.set = r.set) :
    endRestripe t s = rateWarn t ((restripeLogged t r (restriped t r s)).raise (730 + 8 * t)) := by
  unfold endRestripe
  rw [hr]
  exact if_pos (by simp [hans, hall])

theorem endRestripe_fields {t : Nat} (ht : t < 8) {s : Block} {r : Restripe} (hr : (s.port t).restripe = some r) (hans : r.answered = true)
    (hall : r.followed &&& r.set = r.set) : (endRestripe t s).fld (PT_STAT.STATE t) = 5 ∧ ((endRestripe t s).port t).restripe = none ∧
      (endRestripe t s).evtStatus (730 + 8 * t) = true := by
  have hlog : PortKept (restriped t r s) (restripeLogged t r (restriped t r s)) :=
    .ite ((portKept_policyCairn ..).trans (portKept_contain ..)) (portKept_cairnN ..)
  have hkept := (hlog.trans (portKept_raise _ (730 + 8 * t))).trans (portKept_rateWarn _ t)
  rw [endRestripe_of_followed hr hans hall, hkept.fld (portWord_ptStat ht), hkept.port]
  refine ⟨?_, ?_, ?_⟩
  · rw [restriped, fld_congr _ _ _ (reg_of_regs (sendNak_regs t _) _), fld_setFld _ _ _ (by decide : 0 + 3 ≤ 32)]
    rfl
  · rw [restriped, (sendNak_port t _).2]
    change ((setLanesIn t r.set _).port t).restripe = none
    rw [setLanesIn_port, port_onPort]
  · unfold rateWarn
    split
    · rw [evtStatus_raise, evtStatus_raise_self, Bool.or_true]
    · exact evtStatus_raise_self _ _

/-- The partner's set taken (R476): the lanes reduced, and the same set answered. -/
def restripeTaken (t set epoch : Nat) (s : Block) : Block :=
  sendCtl t 1 set epoch ((setLanesIn t (set &&& s.fld (PT_STAT.LANES_IN t)) ((setPortState t 6 s).onPort t (fun q => { q with
    epoch := epoch, restripe := some ⟨set, epoch, s.fld (PT_STAT.LANES_IN t), s.now, oPolicy 0x901, 0, true⟩ }))).setFlag (PT_ERR.RESTRIPED t) true)

theorem restripeTaken_fields {t set : Nat} (ht : t < 8) (hset : set < 256) (epoch : Nat) (s : Block) :
    (restripeTaken t set epoch s).fld (PT_STAT.STATE t) = 6 ∧ (restripeTaken t set epoch s).flag (PT_ERR.RESTRIPED t) = true ∧
      (restripeTaken t set epoch s).fld (PT_STAT.LANES_IN t) = set &&& s.fld (PT_STAT.LANES_IN t) ∧
      ((restripeTaken t set epoch s).port t).epoch = epoch ∧ ((restripeTaken t set epoch s).port t).restripe =
        some ⟨set, epoch, s.fld (PT_STAT.LANES_IN t), s.now, oPolicy 0x901, 0, true⟩ := by
  obtain ⟨hlanes, hstate⟩ := setLanesIn_shown ht (set &&& s.fld (PT_STAT.LANES_IN t)) ((setPortState t 6 s).onPort t (fun q => { q with
    epoch := epoch, restripe := some ⟨set, epoch, s.fld (PT_STAT.LANES_IN t), s.now, oPolicy 0x901, 0, true⟩ }))
  have hregs (f : RF) : (restripeTaken t set epoch s).fld f = _ := fld_congr _ _ f (reg_of_regs (sendCtl_regs _ t 1 set epoch) f.addr)
  refine ⟨?_, ?_, ?_, ?_⟩
  · rw [hregs, fld_setFlag_apart _ _ _ _ (.inl (ptErr_ne_ptStat t)), hstate]
    exact setPortState_state ht (by decide) s
  · rw [Block.flag, hregs]
    exact flag_setFlag _ _ _ (by decide : 5 + 1 ≤ 32) rfl
  · rw [hregs, fld_setFlag_apart _ _ _ _ (.inl (ptErr_ne_ptStat t)), hlanes]
    exact Nat.mod_eq_of_lt (Nat.lt_of_le_of_lt Nat.and_le_left hset)
  · rw [restripeTaken, sendCtl_port]
    change ((setLanesIn t _ _).port t).epoch = _ ∧ ((setLanesIn t _ _).port t).restripe = _
    rw [setLanesIn_port, port_onPort]
    exact ⟨rfl, rfl⟩

/-! ### The rows -/

section
variable {t : BitVec 3} {k : Nat} {s : State} (hk : k = t.toNat)
include hk

theorem portDomainOn_on (hp : portPowered s.blk k = true) (h0 : s.blk.fld (PT_STAT.STATE k) = 0) (h7 : 7 ≤ s.blk.fld SYS_BOOT.STAGE)
    (h9 : s.blk.fld SYS_BOOT.STAGE ≤ 9) : Becomes (.portDomainOn t) s (enterDetect k s.blk) := by
  subst hk
  exact (onBlock_next (if_pos (by simp [hp, h0, h7, h9])) : execPortDomainOn t s = _)

theorem portDomainOn_off (hp : portPowered s.blk k = false) : Becomes (.portDomainOn t) s s.blk := by
  subst hk
  exact (onBlock_next (if_neg (by simp [hp])) : execPortDomainOn t s = _)

theorem portPllLock_locks {sig : Byte} (h1 : s.blk.fld (PT_STAT.STATE k) = 1) (hw : (s.blk.port k).waiting = false)
    (hl : lrefStable s.blk = true) (hsig : sig.toNat &&& s.blk.fld (PT_CFG.LANES_ALLOWED k) ≠ 0) :
    Becomes (.portPllLock t sig) s (setPortState k 2 s.blk) := by
  subst hk
  exact (onBlock_next (if_pos (by simp [h1, hw, hl, hsig])) : execPortPllLock t sig s = _)

theorem portPllLock_stays {sig : Byte} (h : s.blk.fld (PT_STAT.STATE k) ≠ 1 ∨ lrefStable s.blk = false) :
    Becomes (.portPllLock t sig) s s.blk := by
  subst hk
  refine (onBlock_next (if_neg ?_) : execPortPllLock t sig s = _)
  rcases h with h | h <;> simp [h]

theorem alignWindowEnd_ends (h2 : s.blk.fld (PT_STAT.STATE k) = 2) (hset : lockedSet s.blk k ≠ 0) :
    Becomes (.alignWindowEnd t) s ((setPortState k 3 s.blk).onPort k (fun p => { p with set := lockedSet s.blk k, go := 0 })) := by
  subst hk
  exact (onBlock_next (if_pos ⟨h2, hset⟩) : execAlignWindowEnd t s = _)

theorem alignWindowEnd_stays (h2 : s.blk.fld (PT_STAT.STATE k) ≠ 2) : Becomes (.alignWindowEnd t) s s.blk := by
  subst hk
  exact (onBlock_next (if_neg fun h => h2 h.1) : execAlignWindowEnd t s = _)

theorem portRecoverEnd_ends (h7 : s.blk.fld (PT_STAT.STATE k) = 7) :
    Becomes (.portRecoverEnd t) s (if portPowered s.blk k = true then enterDetect k s.blk else setPortState k 0 s.blk) := by
  subst hk
  exact (onBlock_next (if_neg (not_not_intro h7)) : execPortRecoverEnd t s = _)

theorem portRecoverEnd_stays (h7 : s.blk.fld (PT_STAT.STATE k) ≠ 7) : Becomes (.portRecoverEnd t) s s.blk := by
  subst hk
  exact (onBlock_next (if_pos h7) : execPortRecoverEnd t s = _)

/-- A training that has failed, and waits. -/
def trainFailed (k : Nat) (b : Block) : Block :=
  ((setPortState k 1 (b.setFlag (PT_ERR.TRAIN_FAIL k) true)).onPort k (fun p => { p with waiting := true })).raise (734 + 8 * k)

theorem portTrainTimeout_fails (h1 : 1 ≤ s.blk.fld (PT_STAT.STATE k)) (h4 : s.blk.fld (PT_STAT.STATE k) ≤ 4)
    (hw : (s.blk.port k).waiting = false) : Becomes (.portTrainTimeout t) s (trainFailed k s.blk) := by
  subst hk
  exact (onBlock_next (if_pos ⟨h1, h4, hw⟩) : execPortTrainTimeout t s = _)

theorem portRetryWaitEnd_ends (hw : (s.blk.port k).waiting = true) : Becomes (.portRetryWaitEnd t) s (enterDetect k s.blk) := by
  subst hk
  exact (onBlock_next (if_pos hw) : execPortRetryWaitEnd t s = _)

theorem portRetryWaitEnd_stays (hw : (s.blk.port k).waiting = false) : Becomes (.portRetryWaitEnd t) s s.blk := by
  subst hk
  exact (onBlock_next (if_neg (Bool.eq_false_iff.mp hw)) : execPortRetryWaitEnd t s = _)

section
variable {reason : Byte}

theorem linkDownRx_stays (h : s.blk.fld (PT_STAT.STATE k) = 0 ∨ s.blk.fld (PT_STAT.STATE k) = 7) : Becomes (.linkDownRx t reason) s s.blk := by
  subst hk
  exact (onBlock_next (if_pos h) : execLinkDownRx t reason s = _)

theorem linkDownRx_leaves (h0 : s.blk.fld (PT_STAT.STATE k) ≠ 0) (h7 : s.blk.fld (PT_STAT.STATE k) ≠ 7) :
    Becomes (.linkDownRx t reason) s (enterRecover k true s.blk) := by
  subst hk
  exact (onBlock_next (if_neg (not_or.mpr ⟨h0, h7⟩)) : execLinkDownRx t reason s = _)

end

section
variable {set epoch : Byte}

theorem restripeRx_empty (h5 : s.blk.fld (PT_STAT.STATE k) = 5) (h : set = 0) : Becomes (.restripeRx t set epoch) s (portFault k false s.blk) := by
  subst hk h
  exact (onBlock_next ((if_pos h5).trans (if_pos rfl)) : execRestripeRx t 0 epoch s = _)

theorem restripeRx_taken (h5 : s.blk.fld (PT_STAT.STATE k) = 5) (h : set ≠ 0) :
    Becomes (.restripeRx t set epoch) s (restripeTaken k set.toNat epoch.toNat s.blk) := by
  subst hk
  exact (onBlock_next ((if_pos h5).trans (if_neg fun h0 => h (BitVec.eq_of_toNat_eq h0))) : execRestripeRx t set epoch s = _)

/-- Two sets that differ become their common lanes, with a higher epoch (R477). -/
def restripeMet (k set epoch : Nat) (r : Restripe) (b : Block) : Block :=
  sendCtl k 1 (r.set &&& set) ((max r.epoch epoch + 1) % 256) (b.setPort k { b.port k with
    epoch := (max r.epoch epoch + 1) % 256,
    restripe := some { r with set := r.set &&& set, epoch := (max r.epoch epoch + 1) % 256, since := b.now, followed := 0, answered := false } })

section
variable {r : Restripe} (h6 : s.blk.fld (PT_STAT.STATE k) = 6) (hr : (s.blk.port k).restripe = some r) (hne : r.set ≠ set.toNat)
include h6 hr hne

theorem restripeRx_differs {u : Block} (hu : (if r.set &&& set.toNat = 0 then portFault k false s.blk
    else restripeMet k set.toNat epoch.toNat r s.blk) = u) : Becomes (.restripeRx t set epoch) s u := by
  subst hk hu
  refine (onBlock_next ((if_neg (by omega)).trans ((if_pos h6).trans ?_)) : execRestripeRx t set epoch s = _)
  rw [hr, apply_ite Host.Outcome.next]
  exact if_neg fun h => hne h.1

end

theorem restripeRx_stays (h5 : s.blk.fld (PT_STAT.STATE k) ≠ 5) (h6 : s.blk.fld (PT_STAT.STATE k) ≠ 6) :
    Becomes (.restripeRx t set epoch) s s.blk := by
  subst hk
  exact (onBlock_next ((if_neg h5).trans (if_neg h6)) : execRestripeRx t set epoch s = _)

end

/-- The lanes whose switch block has come. -/
def switchSeen (k lanes : Nat) (b : Block) : Block :=
  b.onPort k (fun p => { p with restripe := p.restripe.map (fun r => { r with followed := r.followed ||| lanes }) })

theorem switchBlockRx_becomes (lanes : Byte) : Becomes (.switchBlockRx t lanes) s (endRestripe k (switchSeen k lanes.toNat s.blk)) := by
  subst hk
  exact becomes_of_eq rfl rfl

theorem restripeTimeout_of {r : Restripe} (hr : (s.blk.port k).restripe = some r) {u : Block}
    (hu : (if r.answered = true then s.blk else portFault k false s.blk) = u) : Becomes (.restripeTimeout t) s u := by
  subst hk hu
  refine (onBlock_next ?_ : execRestripeTimeout t s = _)
  dsimp only
  rw [hr, apply_ite Host.Outcome.next]

end

theorem switchSeen_port {k : Nat} {b : Block} {r : Restripe} (hr : (b.port k).restripe = some r) (lanes : Nat) :
    ((switchSeen k lanes b).port k).restripe = some { r with followed := r.followed ||| lanes } := by
  rw [switchSeen, port_onPort, hr]
  rfl

theorem trainFailed_fields {k : Nat} (hk : k < 8) (b : Block) : (trainFailed k b).fld (PT_STAT.STATE k) = 1 ∧
    ((trainFailed k b).port k).waiting = true ∧ (trainFailed k b).flag (PT_ERR.TRAIN_FAIL k) = true ∧
    (trainFailed k b).evtStatus (734 + 8 * k) = true := by
  have hkept := portKept_raise ((setPortState k 1 (b.setFlag (PT_ERR.TRAIN_FAIL k) true)).onPort k (fun p => { p with waiting := true }))
    (734 + 8 * k)
  refine ⟨?_, ?_, ?_, evtStatus_raise_self _ _⟩
  · rw [trainFailed, hkept.fld (portWord_ptStat hk), onPort_fld]
    exact setPortState_state hk (by decide) _
  · rw [trainFailed, hkept.port, port_onPort]
  · rw [trainFailed, hkept.flag (portWord_ptErr hk), onPort_flag, setPortState_error hk rfl]
    exact flag_setFlag _ _ _ (by decide : 7 + 1 ≤ 32) rfl

/-- Settles O46: a row either leaves the port or makes one named change of state; what the lanes in service bring with them (the drain rate, the
burst depth) writes no word of a port. -/
theorem portEvents : Obligations.PortEvents := by
  unfold Obligations.PortEvents
  intro t k s hk
  have hlt : k < 8 := hk ▸ t.isLt
  refine ⟨fun hp h0 h7 h9 => ⟨portDomainOn_on hk hp h0 h7 h9, enterDetect_state hlt s.blk, ?detectAt⟩, portDomainOn_off hk,
    fun sig h1 hw hl hsig => ?pll, fun sig => portPllLock_stays hk, fun h2 hset => ?align, alignWindowEnd_stays hk, fun h7 => ?recover,
    portRecoverEnd_stays hk, fun h1 h4 hw => completes_of_becomes (portTrainTimeout_fails hk h1 h4 hw) (trainFailed_fields hlt s.blk),
    fun hw => ?retry, portRetryWaitEnd_stays hk, fun reason => ⟨linkDownRx_stays hk, linkDownRx_leaves hk, fun h1 h4 => ?down⟩,
    fun set epoch h5 => ⟨restripeRx_empty hk h5, fun h => completes_of_becomes (restripeRx_taken hk h5 h)
      (restripeTaken_fields hlt set.isLt epoch.toNat s.blk)⟩,
    fun set epoch r h6 hr hne => ⟨fun h => restripeRx_differs hk h6 hr hne (if_pos h), fun h => ?met⟩, fun set epoch => restripeRx_stays hk,
    fun lanes r hr hans => ?seen, fun lanes r hr hans hall => ?followed, fun r hr => ⟨fun hans => ?timeout, fun hans => ?noTimeout⟩⟩
  case detectAt => rw [enterDetect_port]
  case pll =>
    refine completes_of_becomes (portPllLock_locks hk h1 hw hl hsig) ⟨setPortState_state hlt (by decide) s.blk, ?_⟩
    rw [setPortState_port]
  case align =>
    refine completes_of_becomes (alignWindowEnd_ends hk h2 hset) ⟨setPortState_state hlt (by decide) s.blk, ?_⟩
    rw [port_onPort]
    exact ⟨rfl, rfl⟩
  case recover =>
    refine completes_of_becomes (portRecoverEnd_ends hk h7) ?_
    split
    · exact ⟨enterDetect_state hlt s.blk, by rw [enterDetect_port]⟩
    · exact ⟨setPortState_state hlt (by decide) s.blk, by rw [setPortState_port]⟩
  case retry => exact completes_of_becomes (portRetryWaitEnd_ends hk hw) ⟨enterDetect_state hlt s.blk, by rw [enterDetect_port]⟩
  case down => exact completes_of_becomes (linkDownRx_leaves hk (by omega) (by omega)) (enterRecover_training_fields hlt h4)
  case met =>
    refine completes_of_becomes (restripeRx_differs hk h6 hr hne (if_neg h)) ?_
    rw [restripeMet, sendCtl_port, port_setPort_same]
    exact ⟨rfl, _, rfl, rfl, rfl, rfl⟩
  case seen =>
    have hr' := switchSeen_port hr lanes.toNat
    refine completes_of_becomes (switchBlockRx_becomes hk lanes) ?_
    rw [endRestripe_of_unanswered hr' hans]
    exact ⟨hr', rfl⟩
  case followed => exact completes_of_becomes (switchBlockRx_becomes hk lanes) (endRestripe_fields hlt (switchSeen_port hr lanes.toNat) hans hall)
  case timeout => exact restripeTimeout_of hk hr (if_neg (Bool.eq_false_iff.mp hans))
  case noTimeout => exact restripeTimeout_of hk hr (if_pos hans)

end Sys2Proof.Machine
end

section
/-! Monitor contexts (R405 to R412): development, output and sending. -/

namespace Sys2Proof.Machine

/-! ### A context read after it is changed -/

theorem ctx_onCtx (s : Block) (x y : Nat) (g : MonCtx → MonCtx) : (s.onCtx x g).ctx y = if y = x then g (s.ctx x) else s.ctx y := by
  rw [Block.ctx, Block.onCtx, smGet_smPut, Block.ctx, Block.ctx]

@[simp] theorem ctx_onCtx_same (s : Block) (x : Nat) (g : MonCtx → MonCtx) : (s.onCtx x g).ctx x = g (s.ctx x) := by
  rw [ctx_onCtx, if_pos rfl]

theorem ctx_congr {s t : Block} (h : t.mon = s.mon) (x : Nat) : t.ctx x = s.ctx x := by rw [Block.ctx, h, Block.ctx]

@[simp] theorem onCtx_fld (s : Block) (x : Nat) (g : MonCtx → MonCtx) (f : RF) : (s.onCtx x g).fld f = s.fld f := rfl

theorem syncMon_mon (s : Block) : (syncMon s).mon = s.mon := rfl

theorem syncMon_busy (s : Block) : (syncMon s).flag MON_STAT.BUSY = (List.range 4).any (fun x => (s.ctx x).developing.isSome) :=
  flag_setFlag _ _ _ (by decide) rfl

theorem syncMon_rebuilding (s : Block) : (syncMon s).flag MON_STAT.REBUILDING = s.flag MON_STAT.REBUILDING := by
  unfold syncMon
  rw [flag_setFlag_apart _ _ _ _ (by decide), flag_setFld_apart _ _ _ _ (by decide), flag_setFld_apart _ _ _ _ (by decide)]

/-! ### Words of a context -/

/-- A word of a context that shows its outputs. -/
abbrev OutWord (a : Nat) : Prop := 0x24001C0 ≤ a ∧ a < 0x2400600

theorem outWord_stat {x : Nat} (hx : x < 4) : OutWord (MON_CTX_STAT.addr x) := by
  unfold MON_CTX_STAT.addr
  omega

theorem outWord_flags {x : Nat} (hx : x < 4) : OutWord (MON_CTX_FLAGS.addr x) := by
  unfold MON_CTX_FLAGS.addr
  omega

theorem ctxStat_ne_ctxFlags (x : Nat) : MON_CTX_STAT.addr x ≠ MON_CTX_FLAGS.addr x := by
  unfold MON_CTX_STAT.addr MON_CTX_FLAGS.addr
  omega

theorem ctxLast_ne_ctxFlags (x : Nat) : MON_CTX_LAST.addr x ≠ MON_CTX_FLAGS.addr x := by
  unfold MON_CTX_LAST.addr MON_CTX_FLAGS.addr
  omega

/-- No word of an output is a status word of an event, MON_STAT or REC_FILL. -/
theorem outWord_not_mem {a : Nat} (ha : OutWord a) (e : Nat) : a ∉ [evtStatusA e] ∧ a ∉ [MON_STAT.addr] ∧ a ∉ [REC_FILL.addr] := by
  refine ⟨?_, ?_, ?_⟩ <;> rw [List.mem_singleton]
  · rw [evtStatusA_eq]
    omega
  · unfold MON_STAT.addr
    omega
  · unfold REC_FILL.addr
    omega

theorem outWord_raise {f : RF} (hf : OutWord f.addr) (s : Block) (e : Nat) : (s.raise e).fld f = s.fld f :=
  (regsBut_raise s e).fld (outWord_not_mem hf e).1

theorem outWord_syncMon {f : RF} (hf : OutWord f.addr) (s : Block) : (syncMon s).fld f = s.fld f :=
  (regsBut_syncMon s).fld (outWord_not_mem hf 0).2.1

/-! ### The end of a claim (R408) -/

theorem regsBut_endClaim (n x : Nat) (s : Block) : RegsBut [REC_FILL.addr] s (endClaim n x s) :=
  (regsBut_setFld _ REC_FILL.HELD _).trans (regsBut_setFld _ REC_FILL.STUBS _)

theorem outWord_endClaim {f : RF} (hf : OutWord f.addr) (n x : Nat) (s : Block) : (endClaim n x s).fld f = s.fld f :=
  (regsBut_endClaim n x s).fld (outWord_not_mem hf 0).2.2

theorem endClaim_mon (n x : Nat) (s : Block) :
    (endClaim n x s).mon = { s.mon with due := s.mon.due.filter (fun e => decide (e ≠ (n, x))) } := rfl

theorem endClaim_ctx (n x y : Nat) (s : Block) : (endClaim n x s).ctx y = s.ctx y := rfl

theorem not_mem_due_endClaim (n x : Nat) (s : Block) : (n, x) ∉ (endClaim n x s).mon.due := by
  rw [endClaim_mon, List.mem_filter]
  simp

/-! ### The next development (R405, R407, R411) -/

section
variable {s : State}

theorem monDevelopStart_none (h : s.blk.mon.due = []) : Becomes .monDevelopStart s (syncMon s.blk) := by
  have hold : dropOld s.blk = s.blk := by
    unfold dropOld
    rw [h]
    rfl
  have hnext : nextDue s.blk = none := by
    unfold nextDue
    rw [h]
    rfl
  refine (onBlock_next ?_ : execMonDevelopStart s = _)
  dsimp only
  rw [hold, hnext]

/-- The development of frame `n` begins. -/
def developing (n x : Nat) (u : Block) : Block :=
  ({ u.onCtx x (fun c => { c with developing := some n, memErr := false }) with
    mon := { (u.onCtx x (fun c => { c with developing := some n, memErr := false })).mon with current := some x } } : Block).setFlag
      MON_STAT.REBUILDING false

/-- A frame whose destination is down is counted as skipped, with bit 7 and event 990. -/
def unsent (n x : Nat) (u : Block) : Block :=
  (((endClaim n x u).incFld (MON_CTX_STAT.SKIPPED x) 1).setFld (MON_CTX_FLAGS.FLAGS x)
    (((endClaim n x u).incFld (MON_CTX_STAT.SKIPPED x) 1).fld (MON_CTX_FLAGS.FLAGS x) ||| 128)).raise 990

theorem monDevelopStart_some {u v : Block} {n x : Nat} (hu : u = dropOld s.blk) (hn : nextDue u = some (n, x))
    (hshed : u.th.shedCtx.contains x = false) (hen : u.effFlag (MON_CTX_CFG.EN x) = true)
    (hv : (if (monPort u (u.effFld (MON_CTX_CFG.DEST x)) (u.effFld (MON_CTX_NODE.NODE x))).isNone = true then syncMon (unsent n x u)
      else syncMon (developing n x u)) = v) : Becomes .monDevelopStart s v := by
  subst hu hv
  refine (onBlock_next ?_ : execMonDevelopStart s = _)
  dsimp only
  rw [hn, apply_ite Host.Outcome.next]
  exact if_neg (by rw [hshed, hen]; decide)

theorem ctx_developing (n x : Nat) (u : Block) : (developing n x u).ctx x = { u.ctx x with developing := some n, memErr := false } :=
  ctx_onCtx_same u x (fun c => { c with developing := some n, memErr := false })

theorem developing_fields {n x : Nat} (hx : x < 4) (u : Block) : (syncMon (developing n x u)).flag MON_STAT.REBUILDING = false ∧
    (syncMon (developing n x u)).flag MON_STAT.BUSY = true := by
  rw [syncMon_rebuilding, syncMon_busy]
  refine ⟨flag_setFlag _ _ _ (by decide) rfl, List.any_eq_true.mpr ⟨x, List.mem_range.mpr hx, ?_⟩⟩
  rw [ctx_developing]
  rfl

theorem unsent_fields {n x : Nat} (hx : x < 4) (u : Block) : (syncMon (unsent n x u)).evtStatus 990 = true ∧
    (syncMon (unsent n x u)).fld (MON_CTX_STAT.SKIPPED x) = (u.fld (MON_CTX_STAT.SKIPPED x) + 1) % 65536 ∧
    (syncMon (unsent n x u)).fld (MON_CTX_FLAGS.FLAGS x) = u.fld (MON_CTX_FLAGS.FLAGS x) ||| 128 ∧
    (n, x) ∉ (syncMon (unsent n x u)).mon.due := by
  refine ⟨?_, ?_, ?_, ?_⟩
  · rw [(regsBut_syncMon _).evtStatus (by decide), unsent]
    exact evtStatus_raise_self _ _
  · rw [outWord_syncMon (outWord_stat hx), unsent, outWord_raise (outWord_stat hx), fld_setFld_apart _ _ _ _ (.inl (ctxStat_ne_ctxFlags x).symm),
      Block.incFld, fld_setFld _ _ _ (by decide : 16 + 16 ≤ 32), outWord_endClaim (outWord_stat hx)]
    rfl
  · rw [outWord_syncMon (outWord_flags hx), unsent, outWord_raise (outWord_flags hx), fld_setFld _ _ _ (by decide : 0 + 32 ≤ 32),
      Block.incFld, fld_setFld_apart _ _ _ _ (.inl (ctxStat_ne_ctxFlags x)), outWord_endClaim (outWord_flags hx)]
    exact Nat.mod_eq_of_lt (Nat.or_lt_two_pow (fld_lt _ _) (by decide : 128 < 2 ^ 32))
  · rw [syncMon_mon, unsent, raise_mon, setFld_mon, incFld_mon]
    exact not_mem_due_endClaim n x u

/-! ### Output (R409, R410, R412) -/

theorem sendOut_ctx (x : Nat) (o : OutFrame) (s : Block) : ∃ w, (sendOut x o s).ctx x = { s.ctx x with sending := w } := by
  unfold sendOut
  dsimp only
  split
  · exact ⟨some o, ctx_onCtx_same _ x _⟩
  · exact ⟨none, ctx_onCtx_same _ x _⟩

theorem sendOut_regs (x : Nat) (o : OutFrame) (s : Block) : (sendOut x o s).regs = s.regs := by
  unfold sendOut
  dsimp only
  split <;> rfl

/-- The output kept as the context's last, and counted. -/
def outKept (x : Nat) (o : OutFrame) (s : Block) : Block := s.onCtx x (fun c => { c with last := some o, count := (c.count + 1) % 2 ^ 32 })

/-- An output that was waiting is discarded and counted. -/
def waitingSkipped (x : Nat) (s : Block) : Block := if (s.ctx x).waiting.isSome then monSkip x s else s

theorem queueOut_eq (x : Nat) (o : OutFrame) (s : Block) : queueOut x o s = sendOut x o (outKept x o s) ∨
    queueOut x o s = (waitingSkipped x (outKept x o s)).onCtx x (fun c => { c with waiting := some o }) := by
  unfold queueOut
  dsimp only
  split
  · exact .inl rfl
  · exact .inr rfl

theorem outKept_ctx (x : Nat) (o : OutFrame) (s : Block) :
    (outKept x o s).ctx x = { s.ctx x with last := some o, count := ((s.ctx x).count + 1) % 2 ^ 32 } :=
  ctx_onCtx_same s x (fun c => { c with last := some o, count := (c.count + 1) % 2 ^ 32 })

theorem waitingSkipped_ctx (x : Nat) (s : Block) : (waitingSkipped x s).ctx x = s.ctx x := by
  unfold waitingSkipped
  split
  · exact ctx_congr ((raise_mon _ 984).trans (incFld_mon ..)) x
  · rfl

theorem waitingSkipped_developed {x : Nat} (hx : x < 4) (s : Block) :
    (waitingSkipped x s).fld (MON_CTX_STAT.DEVELOPED x) = s.fld (MON_CTX_STAT.DEVELOPED x) := by
  unfold waitingSkipped
  split
  · rw [monSkip, outWord_raise (outWord_stat hx), Block.incFld, fld_setFld_apart _ _ _ _ (apart_of_bits rfl)]
  · rfl

theorem queueOut_ctx (x : Nat) (o : OutFrame) (s : Block) : ∃ w v, (queueOut x o s).ctx x =
    { s.ctx x with last := some o, count := ((s.ctx x).count + 1) % 2 ^ 32, sending := w, waiting := v } := by
  rcases queueOut_eq x o s with h | h
  · obtain ⟨w, hw⟩ := sendOut_ctx x o (outKept x o s)
    exact ⟨w, (s.ctx x).waiting, by rw [h, hw, outKept_ctx]⟩
  · exact ⟨(s.ctx x).sending, some o, by rw [h, ctx_onCtx_same, waitingSkipped_ctx, outKept_ctx]⟩

theorem queueOut_developed {x : Nat} (hx : x < 4) (o : OutFrame) (s : Block) :
    (queueOut x o s).fld (MON_CTX_STAT.DEVELOPED x) = s.fld (MON_CTX_STAT.DEVELOPED x) := by
  rcases queueOut_eq x o s with h | h
  · rw [h, fld_congr _ _ _ (reg_of_regs (sendOut_regs x o _) _)]
    rfl
  · rw [h, onCtx_fld, waitingSkipped_developed hx]
    rfl

section
variable (s : Block) (k n : Nat) (rows : List Word) (f : FrameRec) (g : Ingest) (sl : Slot)

/-- The flags of an output (R412, R413). -/
def outFlags : Nat :=
  b2n (f.flags.getLsbD fIncomplete) + 2 * b2n (f.flags.getLsbD fDamaged || (s.ctx k).memErr) + 4 * b2n (s.ctx k).memErr +
    32 * b2n (decide (f.fld (MON_CTX_NR.TMP_STR k) ≠ 0) &&
      ((s.ctx k).restart || decide ((s.ctx k).lastKey ≠ restartKey f k) || cropMarked f g sl k)) + 64 * f.fld (MON_CTX_CFG.AWB k)

/-- The output of context `k` for frame `n` (R410). -/
def outputOf : OutFrame :=
  ⟨n, outHeader k n (f.fld (MON_CTX_OUT.WIDTH k)) (f.fld (MON_CTX_OUT.HEIGHT k)) (outFlags s k f g sl) (s.ctx k).count f.grst s.now sl.take,
    rows, outFlags s k f g sl⟩

/-- The development counted, with the output's flags. -/
def outputCounted : Block :=
  ((s.onCtx k (fun c1 => { c1 with developing := none, restart := false, lastKey := restartKey f k })).incFld
    (MON_CTX_STAT.DEVELOPED k) 1).setFld (MON_CTX_FLAGS.FLAGS k) (outFlags s k f g sl)

/-- A filled or damaged course under the crop is told. -/
def outputMarked : Block :=
  if cropMarked f g sl k && decide (f.fld (MON_CTX_OVL.MARK_FILL k) = 1) then (outputCounted s k f g sl).raiseFirst 986
  else outputCounted s k f g sl

theorem outputCounted_developed : (outputCounted s k f g sl).fld (MON_CTX_STAT.DEVELOPED k) = (s.fld (MON_CTX_STAT.DEVELOPED k) + 1) % 65536 := by
  rw [outputCounted, fld_setFld_apart _ _ _ _ (.inl (ctxStat_ne_ctxFlags k).symm), Block.incFld, fld_setFld _ _ _ (by decide : 0 + 16 ≤ 32),
    onCtx_fld]
  rfl

theorem outputCounted_ctx : (outputCounted s k f g sl).ctx k =
    { s.ctx k with developing := none, restart := false, lastKey := restartKey f k } :=
  ctx_onCtx_same s k (fun c1 => { c1 with developing := none, restart := false, lastKey := restartKey f k })

theorem raiseFirst_mon (e : Nat) : (s.raiseFirst e).mon = s.mon := by
  unfold Block.raiseFirst
  split
  · rfl
  · exact raise_mon s e

theorem outWord_raiseFirst {a : RF} (ha : OutWord a.addr) (e : Nat) : (s.raiseFirst e).fld a = s.fld a := by
  unfold Block.raiseFirst
  split
  · rfl
  · exact outWord_raise ha s e

theorem outputMarked_ctx : (outputMarked s k f g sl).ctx k = (outputCounted s k f g sl).ctx k := by
  unfold outputMarked
  split
  · exact ctx_congr (raiseFirst_mon _ 986) k
  · rfl

theorem outputMarked_developed (hk : k < 4) : (outputMarked s k f g sl).fld (MON_CTX_STAT.DEVELOPED k) =
    (outputCounted s k f g sl).fld (MON_CTX_STAT.DEVELOPED k) := by
  unfold outputMarked
  split
  · exact outWord_raiseFirst _ (outWord_stat hk) 986
  · rfl

end

theorem monOutputWhole_none {x : BitVec 2} {rows : List Word} (h : (s.blk.ctx x.toNat).developing = none) :
    Becomes (.monOutputWhole x rows) s s.blk := by
  refine (onBlock_next ?_ : execMonOutputWhole x rows s = _)
  dsimp only
  rw [h]

theorem monOutputWhole_some {x : BitVec 2} {rows : List Word} {n : Nat} {f : FrameRec} {g : Ingest} {sl : Slot}
    (h : (s.blk.ctx x.toNat).developing = some n) (hf : s.blk.frame? n = some f) (hg : s.blk.ingest? n = some g) (hsl : s.blk.slot? n = some sl) :
    Becomes (.monOutputWhole x rows) s (syncMon (endClaim n x.toNat (queueOut x.toNat (outputOf s.blk x.toNat n rows f g sl)
      (outputMarked s.blk x.toNat f g sl)))) := by
  refine (onBlock_next ?_ : execMonOutputWhole x rows s = _)
  dsimp only
  rw [h]
  dsimp only
  rw [hf, hg, hsl]
  rfl

/-! ### Sending (R409, R411) -/

/-- The output noted in MON_CTX_LAST. -/
def sendNoted (k : Nat) (o : OutFrame) (b : Block) : Block := (b.setFld (MON_CTX_LAST.FRAME k) o.frame).setFld (MON_CTX_FLAGS.FLAGS k) o.flags

theorem sendNoted_fields (k : Nat) (o : OutFrame) (b : Block) : (sendNoted k o b).fld (MON_CTX_LAST.FRAME k) = o.frame % 2 ^ 32 ∧
    (sendNoted k o b).fld (MON_CTX_FLAGS.FLAGS k) = o.flags % 2 ^ 32 := by
  unfold sendNoted
  constructor
  · rw [fld_setFld_apart _ _ _ _ (.inl (ctxLast_ne_ctxFlags k).symm)]
    exact fld_setFld _ _ _ (by decide : 0 + 32 ≤ 32)
  · exact fld_setFld _ _ _ (by decide : 0 + 32 ≤ 32)

section
variable {x : BitVec 2}

theorem monSendDone_none (h : (s.blk.ctx x.toNat).sending = none) : Becomes (.monSendDone x) s s.blk := by
  refine (onBlock_next ?_ : execMonSendDone x s = _)
  dsimp only
  rw [h]

theorem monSendDone_last {o : OutFrame} (h : (s.blk.ctx x.toNat).sending = some o) (hw : (s.blk.ctx x.toNat).waiting = none) :
    Becomes (.monSendDone x) s ((sendNoted x.toNat o s.blk).onCtx x.toNat (fun c => { c with sending := none })) := by
  refine (onBlock_next ?_ : execMonSendDone x s = _)
  dsimp only
  rw [h]
  dsimp only
  rw [hw]
  rfl

theorem monSendDone_next {o w : OutFrame} (h : (s.blk.ctx x.toNat).sending = some o) (hw : (s.blk.ctx x.toNat).waiting = some w) :
    Becomes (.monSendDone x) s (sendOut x.toNat w
      ((sendNoted x.toNat o s.blk).onCtx x.toNat (fun c => { c with sending := none, waiting := none }))) := by
  refine (onBlock_next ?_ : execMonSendDone x s = _)
  dsimp only
  rw [h]
  dsimp only
  rw [hw]
  rfl

end

end

/-- Settles O48: an output's header and flags stand apart from the context's counts, and the frame's claim ends with it. -/
theorem monitorEvents : Obligations.MonitorEvents := by
  unfold Obligations.MonitorEvents
  intro s
  refine ⟨monDevelopStart_none, fun u n x hu hn hx hshed hen => ⟨fun hport => ?develops, fun hport => ?skips⟩,
    fun x rows => monOutputWhole_none, fun x rows n f g sl h hf hg hsl => ?whole, fun x => monSendDone_none, fun x o h hw => ?last,
    fun x o w h hw => ⟨(sendNoted x.toNat o s.blk).onCtx x.toNat (fun c => { c with sending := none, waiting := none }), ?sent, ?idle, ?noted,
      monSendDone_next h hw⟩⟩
  case develops =>
    obtain ⟨hrebuild, hbusy⟩ := developing_fields (n := n) hx u
    refine completes_of_becomes (monDevelopStart_some hu hn hshed hen (if_neg (by simp [Option.isSome_iff_ne_none.mp hport])))
      ⟨?_, ?_, rfl, hrebuild, hbusy, rfl⟩ <;> rw [ctx_congr (syncMon_mon _), ctx_developing]
  case skips => exact completes_of_becomes (monDevelopStart_some hu hn hshed hen (if_pos (by rw [hport]; rfl))) (unsent_fields hx u)
  case whole =>
    have hx : x.toNat < 4 := x.isLt
    obtain ⟨w, v, hctx⟩ := queueOut_ctx x.toNat (outputOf s.blk x.toNat n rows f g sl) (outputMarked s.blk x.toNat f g sl)
    rw [outputMarked_ctx, outputCounted_ctx] at hctx
    refine completes_of_becomes (monOutputWhole_some h hf hg hsl) ?_
    rw [ctx_congr (syncMon_mon _), syncMon_mon, endClaim_ctx, hctx, outWord_syncMon (outWord_stat hx), outWord_endClaim (outWord_stat hx),
      queueOut_developed hx, outputMarked_developed _ _ _ _ _ hx, outputCounted_developed]
    exact ⟨rfl, rfl, rfl, rfl, ⟨outputOf s.blk x.toNat n rows f g sl, rfl, rfl, rfl⟩, not_mem_due_endClaim n x.toNat _⟩
  case last =>
    refine completes_of_becomes (monSendDone_last h hw) ⟨?_, sendNoted_fields x.toNat o s.blk⟩
    rw [ctx_onCtx_same]
  case sent => rw [ctx_onCtx_same]
  case idle => rw [ctx_onCtx_same]
  case noted => exact (sendNoted_fields x.toNat o s.blk).1

end Sys2Proof.Machine
end

section
/-! Statistics published, and the loops of exposure and white balance (R428, R432 to R440). -/

namespace Sys2Proof.Machine

/-! ### A hold (R440) -/

theorem setHold_fld {f : RF} (hf : f.inWord) (ha : f.addr < 0x2800000) (e v : Nat) (s : Block) :
    (setHold f e v s).fld f = v % 2 ^ f.width := by
  unfold setHold
  dsimp only
  split
  · rw [fld_raise _ _ _ ha, fld_setFld _ _ _ hf]
  · rw [fld_setFld _ _ _ hf]

theorem setHold_raises {f : RF} {e v : Nat} {s : Block} (h : s.fld f = 0) (hv : v ≠ 0) : (setHold f e v s).evtStatus e = true := by
  unfold setHold
  dsimp only
  rw [if_pos ⟨h, hv⟩]
  exact evtStatus_raise_self _ _

theorem setHold_evt {f : RF} {e v : Nat} {s : Block} (h : s.fld f ≠ 0) : (setHold f e v s).evt = s.evt := by
  unfold setHold
  dsimp only
  rw [if_neg fun hc => h hc.1, setFld_evt]

theorem regsBut_setHold (f : RF) (e v : Nat) (s : Block) : RegsBut [f.addr, evtStatusA e] s (setHold f e v s) := by
  have hset : RegsBut [f.addr, evtStatusA e] s (s.setFld f v) := (regsBut_setFld s f v).mono (by simp)
  exact .ite (hset.trans ((regsBut_raise _ e).mono (by simp))) hset

/-! ### The area published (R428, R432) -/

theorem statArea_flags_complete (f : FrameRec) (g : Ingest) (t : Tick) :
    (statArea f g t true).flags % 4 ≠ 0 := by
  unfold statArea
  dsimp only
  have hbit : b2n true = 1 := rfl
  omega

/-- The statistics of a frame, with the number and event 992, before the flags. -/
def issued (f : FrameRec) (g : Ingest) (mapBad : Bool) (s : Block) : Block :=
  (({ s.onIngest f.num (fun i => { i with stats := some (statArea f g s.now mapBad).bytes }) with
    stat := { s.stat with
      kept := (statArea f g s.now mapBad :: s.stat.kept).take 16
      maps := ((f.num, satMap s f) :: s.stat.maps).take 2
      mapNow := smDel s.stat.mapNow f.num } } : Block).setFld STAT_LAST.FRAME f.num).raise 992

/-- The flags of an area, with event 993 when the map or the input is incomplete. -/
def flagged (fl : Nat) (mapBad : Bool) (t : Block) : Block :=
  let u := if mapBad then t.setFlag STAT_STAT.MAP_INCOMPLETE true else t
  let v := if fl / 2 % 2 = 1 then u.setFlag STAT_STAT.INPUT_INCOMPLETE true else u
  if fl % 4 = 0 then v else v.raise 993

theorem publish_eq (f : FrameRec) (g : Ingest) (mapBad : Bool) (s : Block) :
    publish f g mapBad s = flagged (statArea f g s.now mapBad).flags mapBad (issued f g mapBad s) := rfl

theorem regsBut_flagged (fl : Nat) (mapBad : Bool) (t : Block) : RegsBut [STAT_STAT.addr, evtStatusA 993] t (flagged fl mapBad t) := by
  have hflag (u : Block) (f : RF) (hf : f.addr = STAT_STAT.addr) : RegsBut [STAT_STAT.addr, evtStatusA 993] u (u.setFlag f true) :=
    (regsBut_setFlag u f true).mono (by simp [hf])
  have hmap := RegsBut.ite (c := mapBad = true) (hflag t STAT_STAT.MAP_INCOMPLETE rfl) (.refl t)
  have hin := hmap.trans (RegsBut.ite (c := fl / 2 % 2 = 1) (hflag _ STAT_STAT.INPUT_INCOMPLETE rfl) (.refl _))
  exact .ite hin (hin.trans ((regsBut_raise _ 993).mono (by simp)))

theorem flagged_stat (fl : Nat) (mapBad : Bool) (t : Block) : (flagged fl mapBad t).stat = t.stat := by
  unfold flagged
  dsimp only
  split_ifs <;> simp

theorem evtStatus_setFlag_raised {s : Block} {f : RF} {e : Nat} (hf : f.addr < 0x2800000) (h : s.evtStatus e = true) (b c : Bool) :
    (if c then s.setFlag f b else s).evtStatus e = true :=
  iteInduction (motive := fun u : Block => u.evtStatus e = true) (fun _ => (evtStatus_setFlag s f b e hf).trans h) fun _ => h

theorem evtStatus_flagged {e : Nat} {t : Block} (h : t.evtStatus e = true) (fl : Nat) (mapBad : Bool) :
    (flagged fl mapBad t).evtStatus e = true := by
  have hmap := evtStatus_setFlag_raised (f := STAT_STAT.MAP_INCOMPLETE) (by decide) h true mapBad
  have hin := evtStatus_setFlag_raised (f := STAT_STAT.INPUT_INCOMPLETE) (by decide) hmap true (decide (fl / 2 % 2 = 1))
  rw [← Bool.cond_eq_ite, Bool.cond_decide] at hin
  refine iteInduction (motive := fun u : Block => u.evtStatus e = true) (fun _ => hin) fun _ => ?_
  rw [evtStatus_raise]
  exact Bool.or_eq_true_iff.mpr (.inr hin)

theorem issued_kept (f : FrameRec) (g : Ingest) (mapBad : Bool) (s : Block) :
    (issued f g mapBad s).stat.kept.head? = some (statArea f g s.now mapBad) := by
  rw [issued, raise_stat, setFld_stat, List.take_succ_cons, List.head?_cons]

theorem publish_kept (f : FrameRec) (g : Ingest) (mapBad : Bool) (s : Block) :
    (publish f g mapBad s).stat.kept.head? = some (statArea f g s.now mapBad) := by
  rw [publish_eq, flagged_stat, issued_kept]

theorem publish_frame {f : FrameRec} (hf : f.num < 2 ^ 32) (g : Ingest) (mapBad : Bool) (s : Block) :
    (publish f g mapBad s).fld STAT_LAST.FRAME = f.num := by
  rw [publish_eq, (regsBut_flagged _ _ _).fld (by decide), issued, fld_raise _ _ _ (by decide), fld_setFld _ _ _ (by decide)]
  exact Nat.mod_eq_of_lt hf

theorem publish_raises (f : FrameRec) (g : Ingest) (mapBad : Bool) (s : Block) : (publish f g mapBad s).evtStatus 992 = true := by
  rw [publish_eq]
  exact evtStatus_flagged (evtStatus_raise_self _ _) _ _

theorem flagged_map_incomplete {fl : Nat} (h : fl % 4 ≠ 0) (t : Block) :
    (flagged fl true t).evtStatus 993 = true ∧ (flagged fl true t).flag STAT_STAT.MAP_INCOMPLETE = true := by
  have hmap : (t.setFlag STAT_STAT.MAP_INCOMPLETE true).flag STAT_STAT.MAP_INCOMPLETE = true := flag_setFlag _ _ _ (by decide) rfl
  unfold flagged
  dsimp only
  rw [if_neg h, if_pos rfl, flag_raise _ _ _ (by decide)]
  refine ⟨evtStatus_raise_self _ _, ?_⟩
  split
  · rw [flag_setFlag_apart _ _ _ _ (by decide), hmap]
  · exact hmap

/-! ### Published once the map is complete, or at the time-out (R432, R433) -/

section
variable {s : State} {n : BitVec 32} {f : FrameRec} {g : Ingest} (hf : s.blk.frame? n.toNat = some f)
  (hg : s.blk.ingest? n.toNat = some g)
include hf hg

theorem execStatsPublish_of_frame {u : Block}
    (hu : (if g.whole.isSome && g.stats.isNone && !statsStopped s.blk f.num && mapComplete s.blk f then publish f g false s.blk else s.blk) = u) :
    Becomes (.statsPublish n) s u := by
  refine (onBlock_next ?_ : execStatsPublish n s = _)
  rw [hf, hg]
  exact (apply_ite Host.Outcome.next ..).symm.trans (congrArg _ hu)

theorem execStatsMapTimeout_of_frame {u : Block}
    (hu : (if g.whole.isSome && g.stats.isNone && !statsStopped s.blk f.num then publish f g (!mapComplete s.blk f) s.blk else s.blk) = u) :
    Becomes (.statsMapTimeout n) s u := by
  refine (onBlock_next ?_ : execStatsMapTimeout n s = _)
  rw [hf, hg]
  exact (apply_ite Host.Outcome.next ..).symm.trans (congrArg _ hu)

variable (hw : g.whole.isSome = true) (hs : g.stats = none) (hrun : statsStopped s.blk f.num = false)
include hw hs hrun

theorem statsPublish_complete (hm : mapComplete s.blk f = true) : Becomes (.statsPublish n) s (publish f g false s.blk) :=
  execStatsPublish_of_frame hf hg (if_pos (by simp [hw, hs, hrun, hm]))

omit hw hs hrun in
theorem statsPublish_waits (hm : mapComplete s.blk f = false) : Becomes (.statsPublish n) s s.blk :=
  execStatsPublish_of_frame hf hg (if_neg (by simp [hm]))

theorem statsMapTimeout_incomplete (hm : mapComplete s.blk f = false) : Becomes (.statsMapTimeout n) s (publish f g true s.blk) := by
  refine execStatsMapTimeout_of_frame hf hg ((if_pos (by simp [hw, hs, hrun])).trans ?_)
  rw [hm, Bool.not_false]

end

theorem publish_map_incomplete (f : FrameRec) (g : Ingest) (s : Block) :
    (publish f g true s).evtStatus 993 = true ∧ (publish f g true s).flag STAT_STAT.MAP_INCOMPLETE = true := by
  rw [publish_eq]
  exact flagged_map_incomplete (statArea_flags_complete f g s.now) _

/-! ### The loops (R435 to R440) -/

section
variable {s : State}

theorem aeUpdate_idle (h : s.blk.pwr.coreDown = true ∨ s.blk.flag AE_CFG.EN = false) : Becomes .aeUpdate s s.blk := by
  refine (onBlock_next ?_ : execAeUpdate s = _)
  rcases h with hdown | hoff
  · exact if_pos hdown
  · split
    · rfl
    · exact if_pos (by simp [hoff])

theorem awbUpdate_idle (h : s.blk.pwr.coreDown = true ∨ s.blk.flag AWB_CFG.EN = false) : Becomes .awbUpdate s s.blk := by
  refine (onBlock_next ?_ : execAwbUpdate s = _)
  rcases h with hdown | hoff
  · exact if_pos hdown
  · split
    · rfl
    · exact if_pos (by simp [hoff])

section
variable (hc : s.blk.pwr.coreDown = false) (hen : s.blk.flag AE_CFG.EN = true)
include hc hen

theorem aeUpdate_without_area (ha : loopArea s.blk = none) : Becomes .aeUpdate s (setHold AE_STAT.HOLD 994 1 s.blk) := by
  refine (onBlock_next ?_ : execAeUpdate s = _)
  refine (if_neg (by simp [hc])).trans ((if_neg (by simp [hen])).trans ?_)
  rw [ha]

variable {a : StatArea} (ha : loopArea s.blk = some a)
include ha

theorem aeUpdate_monitor (hmode : s.blk.fld AE_CFG.MODE = 0) : Becomes .aeUpdate s (monLoops true (loopsShare s.blk) a s.blk) := by
  refine (onBlock_next ?_ : execAeUpdate s = _)
  refine (if_neg (by simp [hc])).trans ((if_neg (by simp [hen])).trans ?_)
  rw [ha]
  exact if_pos hmode

theorem aeUpdate_witness (hmode : s.blk.fld AE_CFG.MODE ≠ 0)
    (hdue : loopDue s.blk.stat.aeFirst (s.blk.fld AE_CFG.INTERVAL) a.frame = true) :
    Becomes .aeUpdate s (if aeHold s.blk a = 0 then aeWitness a s.blk else setHold AE_STAT.HOLD 994 (aeHold s.blk a) s.blk) := by
  refine (onBlock_next ?_ : execAeUpdate s = _)
  refine (if_neg (by simp [hc])).trans ((if_neg (by simp [hen])).trans ?_)
  rw [ha]
  exact (if_neg hmode).trans (if_neg (by simp [hdue]))

end

section
variable (hc : s.blk.pwr.coreDown = false) (hen : s.blk.flag AWB_CFG.EN = true)
include hc hen

theorem awbUpdate_without_area (ha : loopArea s.blk = none) : Becomes .awbUpdate s (setHold AWB_STAT.HOLD 995 1 s.blk) := by
  refine (onBlock_next ?_ : execAwbUpdate s = _)
  refine (if_neg (by simp [hc])).trans ((if_neg (by simp [hen])).trans ?_)
  rw [ha]

theorem awbUpdate_area {a : StatArea} (ha : loopArea s.blk = some a) :
    Becomes .awbUpdate s (monLoops (loopsShare s.blk) true a s.blk) := by
  refine (onBlock_next ?_ : execAwbUpdate s = _)
  refine (if_neg (by simp [hc])).trans ((if_neg (by simp [hen])).trans ?_)
  rw [ha]

end
end

/-! ### Exposure on a witness frame (R437) -/

theorem aeHold_le (s : Block) (a : StatArea) : aeHold s a ≤ 6 := by
  unfold aeHold
  split_ifs <;> decide

theorem ae_hold (v : Nat) (hv : v ≤ 6) (s : Block) : (setHold AE_STAT.HOLD 994 v s).fld AE_STAT.HOLD = v := by
  rw [setHold_fld (by decide) (by decide)]
  exact Nat.mod_eq_of_lt (Nat.lt_of_le_of_lt hv (by decide))

theorem ae_hold_exposure (v : Nat) (s : Block) : (setHold AE_STAT.HOLD 994 v s).reg FT_EXPOSURE.addr = s.reg FT_EXPOSURE.addr :=
  (regsBut_setHold _ _ _ s).reg (by decide)

theorem aeWitness_dead_band {a : StatArea} {s : Block} (hlo : 15 / 16 ≤ aeRatio s (aeMetric a)) (hhi : aeRatio s (aeMetric a) ≤ 17 / 16) :
    aeWitness a s = setHold AE_STAT.HOLD 994 0 (s.setFld AE_STAT.METRIC (aeMetric a)) := by
  unfold aeWitness
  exact if_pos ⟨hlo, hhi⟩

/-- Settles O40: an area published is the head of those kept and its flags say what is incomplete; a loop's update is one of its
branches, and a hold leaves every word but its own and its event. -/
theorem statisticsEvents : Obligations.StatisticsEvents := by
  intro s
  refine ⟨?_, aeUpdate_idle, awbUpdate_idle, ?_, ?_, ?_, ?_, ?_⟩
  · intro n f g hf hg hnum hw hs hrun
    have hlt : f.num < 2 ^ 32 := hnum ▸ n.isLt
    refine ⟨fun hm => ?_, statsPublish_waits hf hg, fun hm => ?_⟩
    · exact completes_of_becomes (statsPublish_complete hf hg hw hs hrun hm)
        ⟨(publish_frame hlt g false s.blk).trans hnum, publish_raises f g false s.blk, publish_kept f g false s.blk⟩
    · obtain ⟨hevent, hflag⟩ := publish_map_incomplete f g s.blk
      exact completes_of_becomes (statsMapTimeout_incomplete hf hg hw hs hrun hm)
        ⟨(publish_frame hlt g true s.blk).trans hnum, publish_raises f g true s.blk, hevent, hflag, publish_kept f g true s.blk⟩
  · intro hc hen ha
    exact completes_of_becomes (aeUpdate_without_area hc hen ha)
      ⟨ae_hold 1 (by decide) s.blk, fun h => setHold_raises h one_ne_zero, setHold_evt⟩
  · intro hc hen ha
    exact completes_of_becomes (awbUpdate_without_area hc hen ha)
      ⟨setHold_fld (by decide) (by decide) 995 1 s.blk, fun h => setHold_raises h one_ne_zero⟩
  · intro a hc hen ha hmode
    exact aeUpdate_monitor hc hen ha hmode
  · intro a hc hen ha hmode hdue
    have hupdate := aeUpdate_witness hc hen ha hmode hdue
    refine ⟨fun h => ?_, fun h => ⟨becomes_of_eq hupdate (if_pos h), fun hlo hhi => ?_⟩⟩
    · rw [if_neg h] at hupdate
      exact completes_of_becomes hupdate ⟨ae_hold _ (aeHold_le s.blk a) s.blk, ae_hold_exposure _ s.blk⟩
    · rw [aeWitness_dead_band hlo hhi]
      exact ⟨(ae_hold_exposure _ _).trans ((regsBut_setFld _ _ _).reg (by decide)), ae_hold 0 (by decide) _⟩
  · intro a hc hen ha
    exact awbUpdate_area hc hen ha

end Sys2Proof.Machine
end

section
/-! The ingest of a frame (R361 to R366, R378): courses, deadlines, errors and the frame complete. -/

namespace Sys2Proof.Machine

/-! ### Flags of a frame (R364, R376) -/

section
variable (s : Block) (n : Nat)

/-- The words that a frame's flag may change: REC_STAT, and the status word of events 792 to 799. -/
abbrev flagWords : List Nat := [REC_STAT.addr, evtStatusA 792]

theorem regsBut_flagEffects (b : Nat) : RegsBut flagWords s (s.flagEffects b) := by
  have hbit (f : RF) (h : f.addr = REC_STAT.addr) : RegsBut flagWords s (s.setFlag f true) := (regsBut_setFlag s f true).mono (by simp [h])
  have hevent (f : RF) (h : f.addr = REC_STAT.addr) (e : Nat) (he : evtStatusA e = evtStatusA 792) :
      RegsBut flagWords s ((s.setFlag f true).raise e) := (hbit f h).trans ((regsBut_raise _ e).mono (by simp [he]))
  have hfirst : RegsBut flagWords s ((s.setFlag REC_STAT.CLAMP true).raiseFirst 799) :=
    .ite (hbit _ rfl) (hevent _ rfl 799 rfl)
  exact .ite (hevent _ rfl _ rfl) (.ite (hevent _ rfl _ rfl) (.ite (hbit _ rfl) (.ite (hevent _ rfl _ rfl) (.ite (hevent _ rfl _ rfl)
    (.ite (hevent _ rfl _ rfl) (.ite hfirst (.ite (hbit _ rfl) (.refl s))))))))

theorem regsBut_mark (b : Nat) : RegsBut flagWords s (s.mark n b) := by
  unfold Block.mark
  split
  · exact .ite (.refl s) ((RegsBut.of_regs rfl).trans (regsBut_flagEffects _ b))
  · exact .refl s

theorem regsBut_marks (l : List Nat) : RegsBut flagWords s (s.marks n l) := .foldl (fun t b => regsBut_mark t n b) l s

theorem raiseFirst_rcd (e : Nat) : (s.raiseFirst e).rcd = s.rcd := by
  unfold Block.raiseFirst
  split
  · rfl
  · exact raise_rcd s e

theorem flagEffects_rcd (b : Nat) : (s.flagEffects b).rcd = s.rcd := by
  unfold Block.flagEffects
  split_ifs <;> simp [raiseFirst_rcd]

@[simp] theorem mark_rcd (b : Nat) : (s.mark n b).rcd = s.rcd := by
  unfold Block.mark
  split
  · split
    · rfl
    · exact flagEffects_rcd _ b
  · rfl

@[simp] theorem marks_rcd (l : List Nat) : (s.marks n l).rcd = s.rcd := foldl_keeps (g := Block.rcd) (fun t b => mark_rcd t n b) l s

/-- A flag without a bit of REC_STAT or an event of its own raises nothing. -/
theorem mark_evt {b : Nat} (h : ∀ t : Block, t.flagEffects b = t) : (s.mark n b).evt = s.evt := by
  unfold Block.mark
  split
  · split
    · rfl
    · rw [h]
      rfl
  · rfl

theorem flagEffects_calSettling (t : Block) : t.flagEffects fCalSettling = t := by
  simp [Block.flagEffects, fCalSettling, fIncomplete, fDamaged, fNoSlot, fOverflow, fExcess, fBusStall, fClampHeld, fClampLimit, fTcAbsent,
    fTcStale]

end

/-! ### The ingest of a frame, read after a change -/

section
variable {s t : Block} {n : Nat}

theorem ingest?_congr (h : t.rcd.ingest = s.rcd.ingest) (n : Nat) : t.ingest? n = s.ingest? n := by
  rw [Block.ingest?, h, Block.ingest?]

theorem ingest?_frame {g : Ingest} (h : s.ingest? n = some g) : g.frame = n :=
  of_decide_eq_true (List.find?_some (p := fun i : Ingest => decide (i.frame = n)) h)

theorem ingest?_onIngest {c : Ingest → Ingest} (hc : ∀ i : Ingest, i.frame = n → (c i).frame = n) :
    (s.onIngest n c).ingest? n = (s.ingest? n).map c := by
  have hsame : (fun g : Ingest => decide (g.frame = n)) ∘ (fun i => if i.frame = n then c i else i) = fun g => decide (g.frame = n) := by
    funext i
    dsimp only [Function.comp_apply]
    split
    · next hi => rw [hc i hi, hi]
    · rfl
  have hmap : (s.onIngest n c).ingest? n = (s.ingest? n).map fun i => if i.frame = n then c i else i := by
    rw [Block.ingest?, Block.onIngest, List.find?_map, hsame, Block.ingest?]
  rw [hmap]
  cases hg : s.ingest? n with
  | none => rfl
  | some g => exact congrArg some (if_pos (ingest?_frame hg))

end

/-! ### Regions that have ended a frame (R27, R364) -/

/-- Region `r` is noted among the regions that have ended a frame. -/
def endRegion (r : Nat) (g : Ingest) : Ingest := if g.ended.contains r then g else { g with ended := g.ended ++ [r] }

theorem endRegion_frame (r : Nat) (g : Ingest) : (endRegion r g).frame = g.frame := by
  unfold endRegion
  split <;> rfl

theorem endRegion_ended (r : Nat) (g : Ingest) : (endRegion r g).ended = if g.ended.contains r then g.ended else g.ended ++ [r] :=
  apply_ite Ingest.ended ..

/-- The regions that have ended frame `n`. -/
def endedOf (s : Block) (n : Nat) : Option (List Nat) := (s.ingest? n).map (fun g => g.ended)

section
variable (s : Block) (n r : Nat)

theorem endedOf_congr {s t : Block} (h : t.rcd.ingest = s.rcd.ingest) : endedOf t n = endedOf s n := by
  rw [endedOf, ingest?_congr h, endedOf]

theorem endedOf_onIngest {c : Ingest → Ingest} (hf : ∀ i : Ingest, (c i).frame = i.frame) (hc : ∀ i : Ingest, (c i).ended = i.ended) :
    endedOf (s.onIngest n c) n = endedOf s n := by
  rw [endedOf, ingest?_onIngest fun i hi => (hf i).trans hi, Option.map_map, endedOf]
  exact congrArg (fun f => (s.ingest? n).map f) (funext hc)

theorem endedOf_replaced {s : Block} {n : Nat} {g g1 : Ingest} (hg : s.ingest? n = some g) (hf : g1.frame = g.frame)
    (he : g1.ended = g.ended) : endedOf (s.onIngest n fun _ => g1) n = endedOf s n := by
  rw [endedOf, ingest?_onIngest fun _ _ => hf.trans (ingest?_frame hg), hg, Option.map_some, Option.map_some, endedOf, hg,
    Option.map_some, he]

theorem endedOf_flagCourse (q col : Nat) (bits : Byte) : endedOf (s.flagCourse n q col bits) n = endedOf s n :=
  endedOf_onIngest s n (fun _ => rfl) fun _ => rfl

theorem endedOf_fillCourses (qs : List Nat) (bits : Byte) : endedOf (fillCourses n r qs bits s) n = endedOf s n :=
  foldl_keeps (g := fun t => endedOf t n) (fun t q => endedOf_flagCourse t n q (r % 4) _) qs s

theorem endedOf_marks (l : List Nat) : endedOf (s.marks n l) n = endedOf s n := endedOf_congr n (by rw [marks_rcd])

theorem mark_if_ingest (c : Prop) [Decidable c] (b : Nat) : (if c then s.mark n b else s).rcd.ingest = s.rcd.ingest := by
  split
  · rw [mark_rcd]
  · rfl

/-- A frame that becomes whole keeps the regions that ended it: flags, slots and claims are no part of its ingest. -/
theorem endedOf_frameWhole : endedOf (frameWhole n s) n = endedOf s n := by
  unfold frameWhole
  split
  · next f g0 hf hg =>
    dsimp -zeta only
    extract_lets g ref g1 s1 last rcd2 s2 s3 s4 s5 s6 s7 s8 stored due s9 mon10 s10
    have hmarks : s8.rcd.ingest = s2.rcd.ingest := by
      simp only [s8, s7, s6, s5, s4, s3, mark_if_ingest]
    clear_value s8
    exact (endedOf_congr n hmarks : endedOf (sweepSlots s10) n = endedOf s1 n).trans (endedOf_replaced hg rfl rfl)
  · rfl

/-- Region `r` has ended frame `n`, which is no longer open there. -/
def regionEnded (n r : Nat) (s : Block) : Block :=
  { s.onIngest n (endRegion r) with
    rcd := { (s.onIngest n (endRegion r)).rcd with openFrame := smDel (s.onIngest n (endRegion r)).rcd.openFrame r } }

theorem endedOf_regionEnded {l : List Nat} (h : endedOf s n = some l) :
    endedOf (regionEnded n r s) n = some (if l.contains r then l else l ++ [r]) := by
  obtain ⟨g, hg, rfl⟩ := Option.map_eq_some_iff.mp h
  have hset : endedOf (regionEnded n r s) n = endedOf (s.onIngest n (endRegion r)) n := endedOf_congr n rfl
  rw [hset, endedOf, ingest?_onIngest fun i hi => (endRegion_frame r i).trans hi, hg, Option.map_some, Option.map_some, endRegion_ended]

theorem endedOf_regionEnd {l : List Nat} (h : endedOf s n = some l) :
    endedOf (regionEnd n r s) n = some (if l.contains r then l else l ++ [r]) := by
  have hended := endedOf_regionEnded s n r h
  have hwhole : endedOf (frameWhole n (regionEnded n r s)) n = _ := (endedOf_frameWhole ..).trans hended
  unfold regionEnd
  dsimp only
  split
  · exact iteInduction (motive := fun u : Block => endedOf u n = _) (fun _ => hwhole) fun _ => hended
  · exact hended

end

/-! ### The deadline of a frame (R364) -/

/-- A region that misses the deadline: its courses filled as late or as stalled, its stall counted, its frame ended. -/
def stallRegion (f : FrameRec) (k : Nat) (t : Block) (r : Nat) : Block :=
  let miss := missingCourses t f k r
  let late := miss.filter (fun q => (t.courseFlags k q (r % 4)).getLsbD cCourseLate)
  let stall := miss.filter (fun q => !(t.courseFlags k q (r % 4)).getLsbD cCourseLate)
  let t1 := fillCourses k r stall (bit8 cBusStall) (fillCourses k r late (bit8 cCourseLate) t)
  let t2 := if late.isEmpty then t1 else t1.marks k [fCourseLate, fIncomplete]
  let t3 := if stall.isEmpty then t2 else t2.marks k [fBusStall, fIncomplete]
  let t4 := { (t3.incFld (ING_STAT.STALLS r) 1) with rcd := { t3.rcd with stalled := t3.rcd.stalled ++ [r] } }
  regionEnd k r t4

theorem endedOf_marks_if (c : Prop) [Decidable c] (n : Nat) (l : List Nat) (t : Block) :
    endedOf (if c then t else t.marks n l) n = endedOf t n := by
  split
  · rfl
  · exact endedOf_marks t n l

theorem endedOf_stallRegion {f : FrameRec} {k r : Nat} {t : Block} {l : List Nat} (h : endedOf t k = some l) :
    endedOf (stallRegion f k t r) k = some (if l.contains r then l else l ++ [r]) := by
  unfold stallRegion
  extract_lets miss late stall t1 t2 t3 counted rcd4 t4
  have hfilled : endedOf t3 k = some l := by
    simp only [t3, t2, t1, endedOf_marks_if, endedOf_fillCourses, h]
  exact endedOf_regionEnd t4 k r ((endedOf_congr k rfl : endedOf t4 k = endedOf t3 k).trans hfilled)

/-- A deadline that passes for the regions `rs` ends them all, and takes back none. -/
theorem endedOf_stallRegions (f : FrameRec) (k : Nat) (rs : List Nat) {t : Block} {l : List Nat} (h : endedOf t k = some l) :
    ∃ m, endedOf (rs.foldl (stallRegion f k) t) k = some m ∧ (∀ r ∈ l, r ∈ m) ∧ ∀ r ∈ rs, r ∈ m := by
  induction rs generalizing t l with
  | nil => exact ⟨l, h, fun _ hr => hr, fun _ hr => absurd hr List.not_mem_nil⟩
  | cons r rs ih =>
    obtain ⟨m, hm, hl, hrs⟩ := ih (endedOf_stallRegion (f := f) (r := r) h)
    refine ⟨m, hm, fun x hx => hl x ?_, List.forall_mem_cons.mpr ⟨hl r ?_, hrs⟩⟩
    · split
      · exact hx
      · exact List.mem_append_left _ hx
    · split
      · next hc => simpa using hc
      · exact List.mem_append_right _ List.mem_cons_self

section
variable {s : State} {n : BitVec 32} {f : FrameRec} {g : Ingest} (hf : s.blk.frame? n.toNat = some f)
  (hg : s.blk.ingest? n.toNat = some g)
include hf hg

theorem frameDeadline_becomes : Becomes (.frameDeadline n) s
    (((List.range 8).filter fun r => !g.ended.contains r).foldl (stallRegion f n.toNat) s.blk) := by
  refine (onBlock_next ?_ : execFrameDeadline n s = _)
  dsimp only
  rw [hf, hg]
  rfl

theorem frameDeadline_ends : Completes (.frameDeadline n) s (fun t => ∃ g' : Ingest, t.ingest? n.toNat = some g' ∧
    (∀ r, r < 8 → r ∈ g'.ended) ∧ ((∀ r, r < 8 → r ∈ g.ended) → t = s.blk)) := by
  refine completes_of_becomes (frameDeadline_becomes hf hg) ?_
  have hopen : endedOf s.blk n.toNat = some g.ended := by rw [endedOf, hg, Option.map_some]
  obtain ⟨m, hm, hkept, hleft⟩ := endedOf_stallRegions f n.toNat ((List.range 8).filter fun r => !g.ended.contains r) hopen
  obtain ⟨g', hg', rfl⟩ := Option.map_eq_some_iff.mp hm
  refine ⟨g', hg', fun r hr => ?_, fun hall => ?_⟩
  · by_cases hin : r ∈ g.ended
    · exact hkept r hin
    · exact hleft r (List.mem_filter.mpr ⟨List.mem_range.mpr hr, by simpa using hin⟩)
  · rw [List.filter_eq_nil_iff.mpr fun r hr => by simpa using hall r (List.mem_range.mp hr), List.foldl_nil]

end

/-! ### Frame starts and frame ends (R361, R364) -/

/-- The slice of region `r` accepts frame `n`. -/
def slicing (r n : Nat) (u : Block) : Block :=
  { u with rcd := { u.rcd with
    openFrame := smPut u.rcd.openFrame r n
    overflowed := u.rcd.overflowed.filter (fun x => decide (x ≠ r))
    stalled := u.rcd.stalled.filter (fun x => decide (x ≠ r)) } }

/-- The frame that was open on the bus of region `r` is closed as short. -/
def startClosed (r : Nat) (s : Block) : Block :=
  match s.rcd.openFrame.find? (fun e => decide (e.1 = r)) with
  | some (_, n) => closeRegion n r (bit8 cShort) [fShort, fIncomplete] s
  | none => s

section
variable {s : State} {r : BitVec 3} {hdr : BitVec 64}

theorem frameStartRx_some {n : Nat} (h : frameOfLow (startClosed r.toNat s.blk) (bitsOf hdr.toNat 0 16) = some n) :
    Becomes (.frameStartRx r hdr) s (slicing r.toNat n (startClosed r.toNat s.blk)) := by
  refine (onBlock_next ?_ : execFrameStartRx r hdr s = _)
  extract_lets k s0
  have hs0 : s0 = startClosed r.toNat s.blk := rfl
  rw [hs0, h]
  rfl

theorem frameStartRx_none (h : frameOfLow (startClosed r.toNat s.blk) (bitsOf hdr.toNat 0 16) = none) :
    Becomes (.frameStartRx r hdr) s (startClosed r.toNat s.blk) := by
  refine (onBlock_next ?_ : execFrameStartRx r hdr s = _)
  extract_lets k s0
  have hs0 : s0 = startClosed r.toNat s.blk := rfl
  rw [hs0, h]

theorem frameEndRx_becomes {n : Nat} {u : Block} (ho : s.blk.rcd.openFrame.find? (fun e => decide (e.1 = r.toNat)) = some (r.toNat, n))
    (hu : (if n % 65536 = bitsOf hdr.toNat 0 16 then closeRegion n r.toNat (bit8 cShort) [fShort, fIncomplete] s.blk else s.blk) = u) :
    Becomes (.frameEndRx r hdr) s u := by
  refine (onBlock_next ?_ : execFrameEndRx r hdr s = _)
  dsimp only
  rw [ho]
  exact (apply_ite Host.Outcome.next ..).symm.trans (congrArg _ hu)

end

/-! ### Buffers freed (R175) -/

section
variable (s : Block)

theorem occur_rcd (e ch : Nat) (src : Src) (t : Tick) : (occur e ch src t s).rcd = s.rcd := by
  unfold occur
  dsimp only
  split_ifs <;> rfl

theorem withEdges_rcd (c : Block → Block) : (withEdges c s).rcd = (c s).rcd := by
  unfold withEdges
  refine foldl_keeps (g := Block.rcd) (fun t k => ?_) _ _
  dsimp only
  split
  · split
    · exact occur_rcd ..
    · rfl
  · rfl

variable (f : FrameRec) (r q : Nat) (node : Bool)

theorem freeBufs_rcd : (freeBufs f r q node s).rcd = s.rcd := by
  unfold freeBufs
  rw [withEdges_rcd]

theorem freeBufs_ingest? (n : Nat) : (freeBufs f r q node s).ingest? n = s.ingest? n :=
  ingest?_congr (by rw [freeBufs_rcd]) n

theorem freeBufs_overflows : (freeBufs f r q node s).fld (ING_STAT.OVERFLOWS r) = s.fld (ING_STAT.OVERFLOWS r) := by
  have haddr : (ING_STAT.OVERFLOWS r).addr % 0x10000 ≠ 8 := by
    simp only [ING_STAT.OVERFLOWS, ING_STAT.addr]
    omega
  unfold freeBufs
  refine fld_congr _ _ _ ?_
  rw [reg_withEdges _ _ haddr, reg_mk]

end

/-! ### A course segment (R361 to R364) -/

/-- A full buffer: the region's missing courses are filled and the rest of its frame is discarded. -/
def overflowedOn (f : FrameRec) (n r : Nat) (u : Block) : Block :=
  ((fillCourses n r (missingCourses u f n r) (bit8 cOverflow) u).incFld (ING_STAT.OVERFLOWS r) 1).setFld (ING_PEAK.PEAK r) 512

/-- The region with a full buffer is noted, and its frame marked. -/
def overflowNoted (n r : Nat) (v : Block) : Block :=
  ({ v with rcd := { v.rcd with overflowed := v.rcd.overflowed ++ [r] } } : Block).marks n [fOverflow, fIncomplete]

/-- The segment that a header and its beats make. -/
def segmentOf (f : FrameRec) (r q : Nat) (node : Bool) (beats : List (BitVec 64)) (u : Block) : Seg :=
  ⟨r, q, node, (expUnits f r q).map (fun ue => unitAt ue q),
    ((expUnits f r q).map (fun ue => unitAt ue q)).zipIdx.map (fun ui =>
      (blockOuts (binEdge f.bin * binEdge f.bin) ((beats.drop (blockBeats f.bin * ui.2)).take (blockBeats f.bin))).map
        (correctWord (calFor u f ui.1) f.gain))⟩

/-- A segment joins those of a frame. -/
def withSegment (sg : Seg) (g : Ingest) : Ingest := { g with segs := g.segs ++ [sg] }

/-- A segment accepted for frame `n`. -/
def segmentKept (n : Nat) (sg : Seg) (u : Block) : Block :=
  (if smHas u.cal.settling sg.region then u.mark n fCalSettling else u).onIngest n (withSegment sg)

theorem segmentOf_outs (f : FrameRec) (r q : Nat) (node : Bool) (beats : List (BitVec 64)) (u : Block) :
    (segmentOf f r q node beats u).outs.length = (expUnits f r q).length := by
  rw [segmentOf, List.length_map, List.length_zipIdx, List.length_map]

theorem fillCourses_regs (n r : Nat) (qs : List Nat) (bits : Byte) (s : Block) : (fillCourses n r qs bits s).regs = s.regs :=
  foldl_keeps (g := Block.regs) (fun t q => (rfl : (t.flagCourse n q (r % 4) _).regs = t.regs)) qs s

theorem ing_not_flagWord {a r : Nat} (ha : a = ING_STAT.addr r ∨ a = ING_PEAK.addr r) : a ∉ flagWords := by
  unfold ING_STAT.addr ING_PEAK.addr at ha
  simp only [flagWords, List.mem_cons, List.not_mem_nil, or_false, evtStatusA_eq, REC_STAT.addr]
  omega

theorem overflowNoted_fld {f : RF} {n r : Nat} {v : Block} (hf : f.addr = ING_STAT.addr r ∨ f.addr = ING_PEAK.addr r) :
    (overflowNoted n r v).fld f = v.fld f :=
  ((regsBut_marks _ n _).fld (ing_not_flagWord hf)).trans rfl

theorem overflowNoted_overflowed (n r : Nat) (v : Block) : r ∈ (overflowNoted n r v).rcd.overflowed := by
  rw [overflowNoted, marks_rcd]
  exact List.mem_append_right _ List.mem_cons_self

theorem overflowedOn_fields {r : Nat} (f : FrameRec) (n : Nat) (u : Block) :
    (overflowedOn f n r u).fld (ING_PEAK.PEAK r) = 512 ∧
    (overflowedOn f n r u).fld (ING_STAT.OVERFLOWS r) = (u.fld (ING_STAT.OVERFLOWS r) + 1) % 256 := by
  have hwords : (ING_PEAK.PEAK r).addr ≠ (ING_STAT.OVERFLOWS r).addr := by
    simp only [ING_PEAK.PEAK, ING_STAT.OVERFLOWS, ING_PEAK.addr, ING_STAT.addr]
    omega
  have hold := fld_congr u (fillCourses n r (missingCourses u f n r) (bit8 cOverflow) u) (ING_STAT.OVERFLOWS r)
    (reg_of_regs (fillCourses_regs ..) _)
  refine ⟨fld_setFld _ _ _ (by decide : 0 + 10 ≤ 32), ?_⟩
  rw [overflowedOn, fld_setFld_apart _ _ _ _ (.inl hwords), Block.incFld, hold]
  exact fld_setFld _ _ _ (by decide : 0 + 8 ≤ 32)

theorem segmentKept_ingest {n : Nat} {u : Block} {g : Ingest} (hg : u.ingest? n = some g) (sg : Seg) :
    (segmentKept n sg u).ingest? n = some (withSegment sg g) := by
  have hsame : (if smHas u.cal.settling sg.region then u.mark n fCalSettling else u).ingest? n = some g :=
    (ingest?_congr (mark_if_ingest u n _ fCalSettling) n).trans hg
  rw [segmentKept, ingest?_onIngest (c := withSegment sg) fun _ hi => hi, hsame, Option.map_some]

theorem segmentKept_evt (n : Nat) (sg : Seg) (u : Block) : (segmentKept n sg u).evt = u.evt :=
  iteInduction (motive := fun t : Block => t.evt = u.evt) (fun _ => mark_evt u n flagEffects_calSettling) fun _ => rfl

theorem bitsOf_zero (w k : Nat) : bitsOf w 0 k = w % 2 ^ k := by rw [bitsOf, pow_zero, Nat.div_one]

/-- A segment is of the frame and of its expected set, has the length of its units, and is new (R363). -/
abbrev SegmentFits (f : FrameRec) (g : Ingest) (n r h q : Nat) (node : Bool) (beats : List (BitVec 64)) : Prop :=
  bitsOf h 0 16 = n % 65536 ∧ bitsOf h 28 2 = 0 ∧ bitsOf h 30 10 = (expUnits f r q).length ∧ (expSegs f r).contains (q, node) ∧
    beats.length = blockBeats f.bin * (expUnits f r q).length ∧
    !g.segs.any (fun sg => decide (sg.region = r) && decide (sg.course = q) && (sg.node == node))

section
variable {s : State} {r : BitVec 3} {hdr : BitVec 64} {beats : List (BitVec 64)} {full : Bool} {n q : Nat} {node : Bool} {f : FrameRec}
  {g : Ingest} {u : Block}
  (ho : s.blk.rcd.openFrame.find? (fun e => decide (e.1 = r.toNat)) = some (r.toNat, n))
  (hf : s.blk.frame? n = some f) (hg : s.blk.ingest? n = some g)
  (hq : q = bitsOf hdr.toNat 16 11) (hnode : node = decide (bitsOf hdr.toNat 27 1 = 1)) (hu : u = freeBufs f r.toNat q node s.blk)
include ho hf hg hq hnode hu

theorem courseSegmentRx_becomes {v : Block}
    (hv : (if u.rcd.overflowed.contains r.toNat then Host.Outcome.next u
      else if full then .next (overflowNoted n r.toNat (overflowedOn f n r.toNat u))
      else if SegmentFits f g n r.toNat hdr.toNat q node beats then .next (segmentKept n (segmentOf f r.toNat q node beats u) u)
      else .next (dropSegment (some n) r.toNat u) : Host.Outcome Block Fault Refusal) = .next v) :
    Becomes (.courseSegmentRx r hdr beats full) s v := by
  subst hu hq hnode
  refine (onBlock_next ?_ : execCourseSegmentRx r hdr beats full s = _)
  dsimp only
  rw [ho]
  dsimp only
  rw [hf, hg]
  exact hv

theorem courseSegmentRx_discarded (h : r.toNat ∈ s.blk.rcd.overflowed) : Becomes (.courseSegmentRx r hdr beats full) s u := by
  refine courseSegmentRx_becomes ho hf hg hq hnode hu (if_pos ?_)
  rw [hu, freeBufs_rcd]
  exact List.contains_iff_mem.mpr h

variable (hrun : r.toNat ∉ s.blk.rcd.overflowed)
include hrun

theorem courseSegmentRx_running {v : Block}
    (hv : (if full then .next (overflowNoted n r.toNat (overflowedOn f n r.toNat u))
      else if SegmentFits f g n r.toNat hdr.toNat q node beats then .next (segmentKept n (segmentOf f r.toNat q node beats u) u)
      else .next (dropSegment (some n) r.toNat u) : Host.Outcome Block Fault Refusal) = .next v) :
    Becomes (.courseSegmentRx r hdr beats full) s v := by
  refine courseSegmentRx_becomes ho hf hg hq hnode hu ((if_neg ?_).trans hv)
  rw [hu, freeBufs_rcd]
  simpa using hrun

theorem courseSegmentRx_overflow (hfull : full = true) : Completes (.courseSegmentRx r hdr beats full) s (fun t =>
    r.toNat ∈ t.rcd.overflowed ∧ t.fld (ING_PEAK.PEAK r.toNat) = 512 ∧
    t.fld (ING_STAT.OVERFLOWS r.toNat) = (s.blk.fld (ING_STAT.OVERFLOWS r.toNat) + 1) % 256) := by
  obtain ⟨hpeak, hcount⟩ := overflowedOn_fields (r := r.toNat) f n u
  have hsame : u.fld (ING_STAT.OVERFLOWS r.toNat) = s.blk.fld (ING_STAT.OVERFLOWS r.toNat) := by rw [hu, freeBufs_overflows]
  refine completes_of_becomes (courseSegmentRx_running ho hf hg hq hnode hu hrun (if_pos hfull))
    ⟨overflowNoted_overflowed _ _ _, (overflowNoted_fld (.inr rfl)).trans hpeak, ?_⟩
  rw [overflowNoted_fld (.inl rfl), hcount, hsame]

theorem courseSegmentRx_kept (hfull : full = false) (hfits : SegmentFits f g n r.toNat hdr.toNat q node beats) :
    Becomes (.courseSegmentRx r hdr beats full) s (segmentKept n (segmentOf f r.toNat q node beats u) u) :=
  courseSegmentRx_running ho hf hg hq hnode hu hrun ((if_neg (by simp [hfull])).trans (if_pos hfits))

theorem courseSegmentRx_dropped (hfull : full = false) (hfits : ¬ SegmentFits f g n r.toNat hdr.toNat q node beats) :
    Becomes (.courseSegmentRx r hdr beats full) s (dropSegment (some n) r.toNat u) :=
  courseSegmentRx_running ho hf hg hq hnode hu hrun ((if_neg (by simp [hfull])).trans (if_neg hfits))

end

theorem segmentFits_of {f : FrameRec} {g : Ingest} {n r h q : Nat} {node : Bool} {beats : List (BitVec 64)} (hn : h % 65536 = n % 65536)
    (hkind : bitsOf h 28 2 = 0) (hlen : bitsOf h 30 10 = (expUnits f r q).length) (hset : (q, node) ∈ expSegs f r)
    (hbeats : beats.length = blockBeats f.bin * (expUnits f r q).length)
    (hnew : ∀ sg ∈ g.segs, ¬ (sg.region = r ∧ sg.course = q ∧ sg.node = node)) : SegmentFits f g n r h q node beats := by
  refine ⟨(bitsOf_zero h 16).trans hn, hkind, hlen, List.contains_iff_mem.mpr hset, hbeats, ?_⟩
  simp only [Bool.not_eq_true', List.any_eq_false, Bool.and_eq_true, decide_eq_true_eq, beq_iff_eq, and_assoc]
  exact hnew

/-! ### Words of the RECORD sink, and headers that are not drained (R378) -/

/-- A word that finds no room is counted. -/
def wordDropped (k : Nat) (b : Block) : Block :=
  ((b.onIngest k (fun i => { i with recDropped := i.recDropped + 1 })).mark k fWordsDropped).raise 803

section
variable {s : State} {e : BitVec 8} {ch : BitVec 7} {w : Word}

theorem recordSinkWord_timecode {a b : Word} (he : e.toNat = 128 + s.blk.fld REC_TC.ENGINE) (hch : ch.toNat = s.blk.fld REC_TC.CHAN)
    (hen : s.blk.flag REC_TC.EN = true) (hpart : s.blk.rcd.tcPart = [a, b]) :
    Becomes (.recordSinkWord e ch 0) s { s.blk with rcd := { s.blk.rcd with
      tcPart := [], tcKept := ((s.blk.now, b ++ a) :: s.blk.rcd.tcKept).take 16 } } := by
  refine (onBlock_next (congrArg Host.Outcome.next ?_) : execRecordSinkWord e ch 0 s = _)
  unfold recordWord
  rw [if_pos (by simp [he, hch, hen]), hpart]
  rfl

variable {f : FrameRec} {g : Ingest} (hen : s.blk.flag REC_TC.EN = false)
  (hf : s.blk.ft.frames.find? (fun f => !laterThan f.fcp s.blk.now) = some f) (hg : s.blk.ingest? f.num = some g)
include hen hf hg

theorem recordSinkWord_of_frame {v : Block}
    (hv : (if g.recWords.length < 512 then s.blk.onIngest f.num (fun i => { i with recWords := i.recWords ++ [w] })
      else wordDropped f.num s.blk) = v) : Becomes (.recordSinkWord e ch w) s v := by
  refine (onBlock_next (congrArg Host.Outcome.next ?_) : execRecordSinkWord e ch w s = _)
  unfold recordWord
  rw [if_neg (by simp [hen]), hf]
  dsimp only
  rw [hg]
  exact hv

end

theorem wordDropped_ingest {b : Block} {k : Nat} {g : Ingest} (hg : b.ingest? k = some g) :
    (wordDropped k b).ingest? k = some { g with recDropped := g.recDropped + 1 } := by
  have hsame : (wordDropped k b).ingest? k = (b.onIngest k (fun i => { i with recDropped := i.recDropped + 1 })).ingest? k :=
    ingest?_congr (by rw [wordDropped, raise_rcd, mark_rcd]) k
  rw [hsame, ingest?_onIngest (c := fun i => { i with recDropped := i.recDropped + 1 }) fun _ hi => hi, hg, Option.map_some]

section
variable {s : State} {n : BitVec 32} {l : Slot} {g : Ingest} (hl : s.blk.slot? n.toNat = some l) (hg : s.blk.ingest? n.toNat = some g)
include hl hg

theorem headerCloseTimeout_becomes {v : Block}
    (hv : (if g.whole.isSome && l.drains.isEmpty && l.draining.isEmpty && l.header.isNone then
      sweepSlots (completeHeader n.toNat s.blk) else s.blk) = v) : Becomes (.headerCloseTimeout n) s v := by
  refine (onBlock_next ?_ : execHeaderCloseTimeout n s = _)
  dsimp only
  rw [hl, hg]
  exact (apply_ite Host.Outcome.next ..).symm.trans (congrArg _ hv)

end

/-- Settles O39: each event is one branch of its row; a segment kept joins its frame's ingest, and a deadline ends every region that
has not ended. -/
theorem ingestEvents : Obligations.IngestEvents := by
  intro s
  refine ⟨?_, ?_, ?_, ?_, ?_, ?_, ?_⟩
  · intro r hdr u hu
    have hclosed : u = startClosed r.toNat s.blk := hu
    subst hclosed
    exact ⟨fun n h => frameStartRx_some ((congrArg _ (bitsOf_zero _ 16)).trans h),
      fun h => frameStartRx_none ((congrArg _ (bitsOf_zero _ 16)).trans h)⟩
  · intro r hdr n ho
    exact ⟨fun h => frameEndRx_becomes ho (if_pos (h.trans (bitsOf_zero _ 16).symm)),
      fun h => frameEndRx_becomes ho (if_neg fun hc => h (hc.trans (bitsOf_zero _ 16)))⟩
  · intro r hdr beats full n f g u ho hf hg hu
    refine ⟨courseSegmentRx_discarded ho hf hg rfl rfl hu, courseSegmentRx_overflow ho hf hg rfl rfl hu, ?_, ?_⟩
    · intro hrun hfull hn hkind hlen hset hbeats hnew
      have hkept : u.ingest? n = some g := by rw [hu, freeBufs_ingest?, hg]
      exact completes_of_becomes
        (courseSegmentRx_kept ho hf hg rfl rfl hu hrun hfull (segmentFits_of hn hkind hlen hset hbeats hnew))
        ⟨_, _, segmentKept_ingest hkept _, rfl, rfl, rfl, rfl, segmentOf_outs .., segmentKept_evt ..⟩
    · intro hrun hfull hn
      exact courseSegmentRx_dropped ho hf hg rfl rfl hu hrun hfull fun hfits => hn ((bitsOf_zero _ 16).symm.trans hfits.1)
  · intro n f g hf hg
    exact frameDeadline_ends hf hg
  · intro e ch w a b he hch hen hpart hw
    subst hw
    exact recordSinkWord_timecode he hch hen hpart
  · intro e ch w f g hen hf hg
    refine ⟨fun h => recordSinkWord_of_frame hen hf hg (if_pos h), fun h => ?_⟩
    exact completes_of_becomes (recordSinkWord_of_frame hen hf hg (if_neg (Nat.not_lt.mpr h)))
      ⟨evtStatus_raise_self _ _, _, wordDropped_ingest hg, rfl, rfl⟩
  · intro n l g hl hg
    refine ⟨fun hwhole hdrains hdraining hheader => headerCloseTimeout_becomes hl hg (if_pos ?_),
      fun hheader => headerCloseTimeout_becomes hl hg (if_neg ?_)⟩
    · simp [hwhole, hdrains, hdraining, hheader]
    · obtain ⟨h, hh⟩ := Option.isSome_iff_exists.mp hheader
      simp [hh]

end Sys2Proof.Machine
end
